-- ==== Sys2Proof/Word.lean ====
section
/-!
DEFINITION. The word types of the T9240 and their plainest arithmetic: a 64-bit register or command word, a byte, and
the reading of a bit range [hi:lo] (R1, R2: multi-byte quantities are little-endian, bit 0 is least significant).
-/
namespace Sys2Proof

/-- A 64-bit register, command word or record word (R5, R46). -/
abbrev Word := BitVec 64

/-- A byte of memory. -/
abbrev Byte := BitVec 8

/-- A bit as a number: 1 for set. -/
def b2n (b : Bool) : Nat := if b then 1 else 0

/-- The field [lo + width − 1 : lo] of a number read as bits. -/
def bitsOf (n lo width : Nat) : Nat := n / 2 ^ lo % 2 ^ width

end Sys2Proof
end

