-- ==== Sys2Proof/Syntax.lean ====
section
/-!
DEFINITION. The commands and events of the T9240, one constructor of Instr per row of spec/opcode_table.json, with their
operands: the operand fields the spec gives a command word or a register write, what arrives from outside the device
(a frame, a packet, an answer, a measurement), and the choices the spec leaves to the device's own units and to time.
The types of those operands stand before it.
-/
namespace Sys2Proof

/-- A command queue QU00 to QU63. -/
abbrev QId := Fin 64

/-- A PCIe port (R385). -/
inductive Port where | a | b
  deriving DecidableEq, Repr

/-- The number of a port: 0 for A, 1 for B. -/
def Port.num : Port → Nat | .a => 0 | .b => 1

/-- The other port. -/
def Port.other : Port → Port | .a => .b | .b => .a

/-- Which aligned words a register access covers (R5): the whole 64-bit register or one 32-bit half. -/
inductive Half where | all | lo | hi
  deriving DecidableEq, Repr

/-- Where a control-register access comes from (R560): a host port's BAR0, a DMA transfer of a port, or a portal. -/
inductive Src where | host (p : Port) | dma (p : Port) | portal
  deriving DecidableEq, Repr

/-- A write of a register that has a row of its own. -/
structure RegWr where
  src : Src
  half : Half
  data : Word
  deriving DecidableEq, Repr

/-- The flags of word 0 of a command (R46): F, C, I, T, W. -/
structure CmdFlags where
  fence : Bool
  record : Bool
  irq : Bool
  tstart : Bool
  wait : Bool
  deriving DecidableEq, Repr

/-- A command's status (R65). -/
inductive Status where
  | ok | busError | uncorrectable | placement | invalid | security | takenOver | stopped | pegBusy
  deriving DecidableEq, Repr

/-- The code of a status (R65). -/
def Status.code : Status → Nat
  | .ok => 0 | .busError => 1 | .uncorrectable => 2 | .placement => 3 | .invalid => 4
  | .security => 5 | .takenOver => 6 | .stopped => 7 | .pegBusy => 8

/-- Units that can be retired, coded as k of ERR_BKT_CFGk (R457), and the two that only a string retires (R18, R458). -/
inductive UnitKind where | tile | bank | lane | link | string | rowPort | vertical | tally | edgeIo
  deriving DecidableEq, Repr

/-- The class of an event (chapter 18). -/
inductive EvClass where | slate | ochre | crimson
  deriving DecidableEq, Repr

/-- The code of a class (R449). -/
def EvClass.code : EvClass → Nat | .slate => 0 | .ochre => 1 | .crimson => 2

/-- The outcome of an access to the device or through a port (R264, R393). -/
inductive Outc where | ok | busError | uncorrectable
  deriving DecidableEq, Repr

/-- RSTAT of an outcome (R300). -/
def Outc.rstat : Outc → Nat | .ok => 0 | .busError => 1 | .uncorrectable => 2

/-- The worse of two outcomes, bus error before uncorrectable data (R567). -/
def Outc.join : Outc → Outc → Outc
  | .busError, _ => .busError
  | _, .busError => .busError
  | .uncorrectable, _ => .uncorrectable
  | _, .uncorrectable => .uncorrectable
  | .ok, .ok => .ok

/-- What a read of an image source gave: its outcome, and the bytes that came from host memory (R323, R345). -/
structure SrcRead where
  o : Outc
  data : List Byte
  deriving DecidableEq, Repr

/-- The status in a commit record, with whether the failure halted the queue (R66, R424). -/
structure RecStatus where
  st : Status
  stops : Bool
  deriving DecidableEq, Repr

/-- The status a command takes from an outcome (R65, R567). -/
def Outc.status : Outc → Status | .ok => .ok | .busError => .busError | .uncorrectable => .uncorrectable

/-- An entry of a KROTATE (R100): a kernel and its dwell in units of 100 ns. -/
structure RotEntry where
  kern : BitVec 16
  dwell : BitVec 16
  deriving DecidableEq, Repr

/-- The commands of R71 with their operand fields (chapter 03). -/
inductive Cmd where
  | nop | halt | fence
  | barrier (bar : BitVec 4) (mask : Word)
  | wait (ev : BitVec 8)
  | signal (ev : BitVec 8)
  | mark (tag : BitVec 32)
  | waittime (rel : Bool) (time : Word)
  | sets (a : BitVec 4) (value : Word)
  | adds (a b : BitVec 4) (reg : Bool) (imm : BitVec 32)
  | loop (a : BitVec 4) (back : BitVec 16)
  | branch (a b : BitVec 4) (cond : BitVec 3) (ofs : BitVec 16)
  | call (list : BitVec 45)
  | ret
  | balloc (buf : BitVec 24) (commit mirror sealed : Bool) (key : BitVec 6) (size : BitVec 29)
  | bfree (buf : BitVec 24)
  | bcopy (dst src : BitVec 24) (sofs dofs count : BitVec 32)
  | bfill (buf : BitVec 24) (ofs count : BitVec 32) (pattern : Word)
  | rowmove (kern : BitVec 16) (buf : BitVec 24) (port : BitVec 4) (dir : Bool) (first count : BitVec 20)
  | bkey (buf : BitVec 24) (key : BitVec 6) (sealed : Bool)
  | bhint (buf : BitVec 24) (col : BitVec 6) (colv pin spread : Bool)
  | kadmit (kern : BitVec 16) (dies : BitVec 2) (sole nomigrate anchor : Bool) (tile : BitVec 8) (image : BitVec 48) (bytes : BitVec 32)
  | krun (kern : BitVec 16)
  | kstop (kern : BitVec 16)
  | kretire (kern : BitVec 16)
  | kbind (kern : BitVec 16) (slot : BitVec 4) (kind : BitVec 2) (target : BitVec 24)
  | kswitch (kern : BitVec 16) (preload : Bool)
  | kparam (kern : BitVec 16) (preg : BitVec 4) (srcS live : Bool) (sreg : BitVec 4) (value : Word)
  | krotate (stop : Bool) (entries : List RotEntry)
  | lbind (kern : BitVec 16) (slot : BitVec 4) (unbind : Bool) (first : BitVec 7) (width rate : BitVec 3)
  | lctl (first : BitVec 7) (width : BitVec 3) (act : BitVec 4) (arg : BitVec 3)
  | dmago (ch : BitVec 6) (arm : Bool) (key : BitVec 6) (src dst : BitVec 48) (cnt : BitVec 32) (ev : BitVec 8) (evEn srcWrap : Bool) (srcK : BitVec 5) (dstWrap : Bool) (dstK : BitVec 5)
  | tsetup (tbl : BitVec 3) (kbits : BitVec 6) (commit mirror : Bool) (e : BitVec 5) (cols : Word)
  | tclear (tbl : BitVec 3)
  | tdrain (tbl : BitVec 3) (clear : Bool) (buf : BitVec 24) (ofs : BitVec 32)
  | pegtake (peg : BitVec 6) (wait : Bool)
  | peggive (peg : BitVec 6)
  | commit (buf : BitVec 24)
  | epoch
  deriving DecidableEq, Repr

/-- One tile's entry in a kernel image's extension (R328). -/
structure TileReq where
  mems : BitVec 16
  rowPort : Bool
  portal : Bool
  control : Bool
  io : BitVec 12
  deriving DecidableEq, Repr

/-- A region entry of a full image (R328). -/
structure Region where
  handle : BitVec 16
  anchor : BitVec 8
  w : BitVec 4
  h : BitVec 3
  both : Bool
  drain : BitVec 12
  power : BitVec 16
  deriving DecidableEq, Repr

/-- A class descriptor with its extension (R328). -/
inductive Desc where
  | full (fret : BitVec 3) (regions : List Region)
  | part (reg : Region)
  | kernel (w : BitVec 4) (h : BitVec 3) (both fixed metered : Bool) (meterN : BitVec 8) (drain power : BitVec 16) (anchor : BitVec 8) (frames : BitVec 32) (tiles : List TileReq)
  deriving DecidableEq, Repr

/-- An image command (R332) with what follows it: frame records are (frame, CRC), a memory record is 1,024 words and its CRC. -/
inductive ImgCmd where
  | noop
  | faddr (addr : BitVec 16)
  | fwrite (zero : Bool) (n : BitVec 32) (records : List (BitVec 27136 × BitVec 32))
  | fcommit
  | wcfg (addr : BitVec 16) (value : Word)
  | sync
  | mwrite (mem : BitVec 4) (tile : BitVec 8) (words : List (BitVec 48)) (crc : BitVec 32)
  | endImage
  | other (op : BitVec 8)
  deriving DecidableEq, Repr

/-- An image as the loader reads it from its source (R326): the outcome of the source read, the header's fields, whether
its form is right (MAGIC, VERSION, HDRLEN, HCRC, reserved fields), whether its tag verifies (R329), and its body. -/
structure Image where
  read : Outc
  formOk : Bool
  part : BitVec 16
  revmask : BitVec 16
  chain : BitVec 8
  keyslot : BitVec 8
  tagOk : Bool
  headerCrc : BitVec 32
  desc : Desc
  body : List ImgCmd
  deriving DecidableEq, Repr

/-- The temperature of a die in a column, in °C, as Luthier's temperature term takes it (R119). -/
structure ColTemp where
  dieB : Bool
  col : Fin 64
  temp : BitVec 8
  deriving DecidableEq, Repr

/-- What the step that runs a command takes from outside the command: an image as read, and the temperatures that weigh its
candidates (R119). -/
inductive CmdEnv where
  | none
  | image (i : Image) (temps : List ColTemp)
  | merge (temps : List ColTemp)
  deriving DecidableEq, Repr

/-- A point of a queue's path as the sync stream gives it: a ring index, or an address of the list that begins at a base. -/
structure PathPoint where
  list : Option (BitVec 48)
  point : BitVec 48
  deriving DecidableEq, Repr

/-- Where a queue's path stands when its Lead syncs (R417): its position, the ring index and the list address up to which it has taken
or skipped its words, its call stack, and its loop window. -/
structure QPath where
  q : QId
  pos : PathPoint
  ringFront : BitVec 32
  front : BitVec 48
  stack : List (PathPoint × BitVec 48)
  window : List (PathPoint × Word)
  deriving DecidableEq, Repr

/-- What the sync stream says of a kernel beside its image (R417): its bindings as (slot, kind, target), its parameters, the lanes
of its slots as (slot, first lane, width, highest rate), and the rotation it leads. -/
structure KSync where
  binds : List (BitVec 4 × BitVec 2 × BitVec 24)
  params : List (BitVec 4 × Word)
  lanes : List (BitVec 4 × BitVec 7 × BitVec 3 × BitVec 3)
  rot : List RotEntry
  deriving DecidableEq, Repr

/-- What a write record writes (R425): an address of a bank that a port or a kernel owns, a place in a buffer, or a word of a
table by its column and its number there. -/
inductive RecDst where
  | store (addr : BitVec 28)
  | buffer (buf : BitVec 24) (ofs : BitVec 28)
  | table (tbl : BitVec 3) (col : BitVec 6) (word : BitVec 20)
  deriving DecidableEq, Repr

/-- A network packet (R300) with its data bytes and byte enables (R301). -/
structure Packet where
  dcol : BitVec 6
  dep : BitVec 4
  scol : BitVec 6
  sep : BitVec 4
  cmd : BitVec 8
  key : BitVec 6
  tag : BitVec 10
  epoch : BitVec 8
  pri : Bool
  vc : BitVec 2
  rstat : BitVec 2
  operand : Word
  rlen : BitVec 10
  data : List Byte
  enables : List Bool
  deriving DecidableEq, Repr

/-- An LLP frame (R370). -/
structure LlpFrame where
  last : Bool
  channel : BitVec 8
  seq : BitVec 16
  epoch : BitVec 8
  run : BitVec 8
  payload : List Byte
  deriving DecidableEq, Repr

/-- A training set as received on every lane of a group (R360): the union of what the lanes said. -/
structure TrainSet where
  rates : BitVec 8
  lanesOk : Bool
  width : BitVec 8
  group : BitVec 8
  target : BitVec 8
  errs : List (BitVec 16)
  deriving DecidableEq, Repr

/-- A tally descriptor (R281), word 0 and word 1. -/
structure TDesc where
  w0 : Word
  w1 : Word
  deriving DecidableEq, Repr

/-- A tile identifier (R14): die in bit 7, x in [6:3], y in [2:0]. -/
abbrev TileId := BitVec 8

/-- A lane index L (R354): 0 to 127 for U0 to U127, 128 to 143 for C0 to C15. -/
abbrev LaneId := Fin 144

/-- What the pins of a fabric interface met in one step: the pins, by port cell and input, whose loads found both rails high (R160), and
whether the transfer's synchronizer was still unresolved at the edge that consumed it (R250). -/
structure PinSense where
  faults : List (BitVec 9 × Fin 4)
  unresolved : Bool
  deriving DecidableEq, Repr

/-- How a block-memory access meets its memory (R213): whether the other port's waiting request is granted while this access holds its word,
and the pins whose loads found both rails high (R160). -/
structure MemSense where
  overlap : Bool
  faults : List (BitVec 9 × Fin 4)
  deriving DecidableEq, Repr

/-- A tile whose interface takes tokens, with what its pins met. -/
structure TileSense where
  tile : TileId
  sense : PinSense
  deriving DecidableEq, Repr

/-- What a portal takes in (R222): the virtual channel, and the flit whose acknowledge left its synchronizer unresolved, if any (R250). -/
structure InTake where
  vc : BitVec 2
  lost : Option (BitVec 5)
  deriving DecidableEq, Repr

/-- A spine driver, and whether it found both rails of its cell's O high (R160). -/
structure DriverSense where
  driver : Fin 4
  fault : Bool
  deriving DecidableEq, Repr

/-- A token register (R169). -/
structure RegAt where
  tile : TileId
  cluster : BitVec 10
  head : Fin 12
  deriving DecidableEq, Repr

/-- An edge of a die's metering clock (R252): the die, the token registers whose tokens completed after an earlier edge (R253), and those
that found both rails high (R160). -/
structure MeterEdge where
  dieB : Bool
  late : List RegAt
  faults : List RegAt
  deriving DecidableEq, Repr

/-- An active edge at a user I/O cell (R257): the pin's level, whether the transfer of this edge had a synchronizer left unresolved (R250),
and whether a pin of it found both rails high (R160). -/
structure IoSample where
  level : Bool
  unresolved : Bool
  fault : Bool
  deriving DecidableEq, Repr

/-- What Luthier migrates (R127): a kernel to a physical anchor tile, with the temperatures that weigh its candidates (R119), or a buffer
to a column mask. -/
inductive MigTarget where
  | kernel (kern : BitVec 16) (anchor : TileId) (temps : List ColTemp)
  | buffer (buf : BitVec 24) (mask : Word)
  deriving DecidableEq, Repr

/-- An entry of a manifest with the image found at its block (R324). -/
structure MEntry where
  block : BitVec 16
  bytes : BitVec 32
  param : Word
  image : Image
  deriving DecidableEq, Repr

/-- A manifest copy as read: whether MAGIC, VERSION, MCRC and every field range check out (R325), its SEQ and its entries. -/
structure Manifest where
  valid : Bool
  seq : BitVec 32
  entries : List MEntry
  deriving DecidableEq, Repr

/-- The errors a lane counts (R381). -/
inductive LaneErr where | code | disparity | syncLost
  deriving DecidableEq, Repr

/-- A PCIe configuration request as far as it reaches the device's state (R385, R393, R394, R556). -/
inductive CfgReq where
  | read
  | busMaster (en : Bool)
  | powerState (d3hot : Bool)
  | functionMask (masked : Bool)
  deriving DecidableEq, Repr

/-- What starts a port reset (R398). -/
inductive ResetCause where | perst | hotReset | linkDown | flr
  deriving DecidableEq, Repr

/-- A triplicated word (R474). -/
inductive TriWord where
  | journal (q : QId)
  | bankOwn (n : Fin 1024)
  | placementRoot
  | lifeCycle
  | scrubber
  deriving DecidableEq, Repr

/-- A JTAG instruction (R488, R543). -/
inductive TapInstr where
  | bypass | idcode | sample | preload | extest | extestPulse | extestTrain | other (code : BitVec 8)
  deriving DecidableEq, Repr

/-- The commands and events of the device: one constructor per row of spec/opcode_table.json. -/
inductive Instr where
  /-- NOP (R71): Command with no effect; with C set it produces a completion record. -/
  | nop (q : QId) (f : CmdFlags)
  /-- HALT (R79): Clears QU_CTL.EN at acceptance and stops the accept stage after the command. -/
  | halt (q : QId) (f : CmdFlags)
  /-- FENCE (R52): Behaves as a NOP with F set, holding its start until every earlier command of the queue has completed. -/
  | fence (q : QId) (f : CmdFlags)
  /-- BARRIER (R80): Arrives at a barrier instance; when every queue in the mask has arrived, all participants complete together. -/
  | barrier (q : QId) (f : CmdFlags) (bar : BitVec 4) (mask : Word)
  /-- WAIT (R82): Holding command that completes when the event count is at least 1, decrementing it in the same step. -/
  | wait (q : QId) (f : CmdFlags) (ev : BitVec 8)
  /-- SIGNAL (R54): Adds 1 to an event count and completes ready WAITs in the same step. -/
  | signal (q : QId) (f : CmdFlags) (ev : BitVec 8)
  /-- MARK (R71): Returns its tag; with W its record shows that earlier commits are durable, with T that the queue reached it. -/
  | mark (q : QId) (f : CmdFlags) (tag : BitVec 32)
  /-- WAITTIME (R83): Holding command that completes at the first timebase reading at or after an absolute or relative target. -/
  | waittime (q : QId) (f : CmdFlags) (rel : Bool) (time : Word)
  /-- SETS (R36): Sequencer command that writes a value into an S register at acceptance. -/
  | sets (q : QId) (f : CmdFlags) (a : BitVec 4) (value : Word)
  /-- ADDS (R36): Sequencer command that adds an immediate, and optionally another S register, to an S register. -/
  | adds (q : QId) (f : CmdFlags) (a b : BitVec 4) (reg : Bool) (imm : BitVec 32)
  /-- LOOP (R84): Decrements a count register and, while it is non-zero, continues the path from the loop window. -/
  | loop (q : QId) (f : CmdFlags) (a : BitVec 4) (back : BitVec 16)
  /-- BRANCH (R85): Conditionally continues the path at a forward ring or list word, or at a backward word of the loop window. -/
  | branch (q : QId) (f : CmdFlags) (a b : BitVec 4) (cond : BitVec 3) (ofs : BitVec 16)
  /-- CALL (R86): Pushes the return point onto the call stack and continues at a command list. -/
  | call (q : QId) (f : CmdFlags) (list : BitVec 45)
  /-- RET (R38): Pops the call stack and continues the path at the return point. -/
  | ret (q : QId) (f : CmdFlags)
  /-- BALLOC (R87): Allocates a poisoned buffer with commit, mirror, seal and key settings. -/
  | balloc (q : QId) (f : CmdFlags) (buf : BitVec 24) (commit mirror sealed : Bool) (key : BitVec 6) (size : BitVec 29)
  /-- BFREE (R88): Waits until no command that names the buffer is running, then releases its rows. -/
  | bfree (q : QId) (f : CmdFlags) (buf : BitVec 24)
  /-- BCOPY (R89): Copies a byte range between buffers as of the start. -/
  | bcopy (q : QId) (f : CmdFlags) (dst src : BitVec 24) (sofs dofs count : BitVec 32)
  /-- BFILL (R71): Writes a 64-bit pattern to every aligned 8-byte word of a buffer range. -/
  | bfill (q : QId) (f : CmdFlags) (buf : BitVec 24) (ofs count : BitVec 32) (pattern : Word)
  /-- ROWMOVE (R90): Moves buffer rows between banks and a kernel's row port, pulling rows into the column first. -/
  | rowmove (q : QId) (f : CmdFlags) (kern : BitVec 16) (buf : BitVec 24) (port : BitVec 4) (dir : Bool) (first count : BitVec 20)
  /-- BKEY (R92): Changes a buffer's key or seal setting, reading, verifying and rewriting its rows. -/
  | bkey (q : QId) (f : CmdFlags) (buf : BitVec 24) (key : BitVec 6) (sealed : Bool)
  /-- BHINT (R121): Asks Luthier to pin a buffer or to place it in a column or spread it, each part judged separately. -/
  | bhint (q : QId) (f : CmdFlags) (buf : BitVec 24) (col : BitVec 6) (colv pin spread : Bool)
  /-- KADMIT (R93): Reads, checks, places and loads a kernel image into a fret that is not active. -/
  | kadmit (q : QId) (f : CmdFlags) (kern : BitVec 16) (dies : BitVec 2) (sole nomigrate anchor : Bool) (tile : BitVec 8) (image : BitVec 48) (bytes : BitVec 32) (env : CmdEnv)
  /-- KRUN (R94): Shows the kernel's fret, raises its start handshake and completes when the kernel signals done and has drained. -/
  | krun (q : QId) (f : CmdFlags) (kern : BitVec 16)
  /-- KSTOP (R95): Quiesces a kernel and ends its running KRUN with status Stopped. -/
  | kstop (q : QId) (f : CmdFlags) (kern : BitVec 16)
  /-- KRETIRE (R96): Releases a kernel's frets, tiles, memories, bindings and lane groups. -/
  | kretire (q : QId) (f : CmdFlags) (kern : BitVec 16)
  /-- KBIND (R97): Binds a buffer or event to a declared slot of a kernel, or unbinds it. -/
  | kbind (q : QId) (f : CmdFlags) (kern : BitVec 16) (slot : BitVec 4) (kind : BitVec 2) (target : BitVec 24)
  /-- KSWITCH (R98): Makes the ensemble show the kernel's fret, or with PRELOAD only preloads it. -/
  | kswitch (q : QId) (f : CmdFlags) (kern : BitVec 16) (preload : Bool)
  /-- KPARAM (R99): Writes a parameter register in every tile of a kernel, committed or live. -/
  | kparam (q : QId) (f : CmdFlags) (kern : BitVec 16) (preg : BitVec 4) (srcS live : Bool) (sreg : BitVec 4) (value : Word)
  /-- KROTATE (R100): Starts a rotation of kernels sharing one ensemble, or stops it. -/
  | krotate (q : QId) (f : CmdFlags) (stop : Bool) (entries : List RotEntry) (env : CmdEnv)
  /-- LBIND (R101): Binds a lane group to a kernel's lane slot and brings it up, or unbinds it. -/
  | lbind (q : QId) (f : CmdFlags) (kern : BitVec 16) (slot : BitVec 4) (unbind : Bool) (first : BitVec 7) (width rate : BitVec 3)
  /-- LCTL (R102): Performs a power-state, retrain or PRBS action on a lane group. -/
  | lctl (q : QId) (f : CmdFlags) (first : BitVec 7) (width : BitVec 3) (act : BitVec 4) (arg : BitVec 3)
  /-- DMAGO (R103): Loads a DMA channel's active set and starts it, or loads and arms its shadow set. -/
  | dmago (q : QId) (f : CmdFlags) (ch : BitVec 6) (arm : Bool) (key : BitVec 6) (src dst : BitVec 48) (cnt : BitVec 32) (ev : BitVec 8) (evEn srcWrap : Bool) (srcK : BitVec 5) (dstWrap : Bool) (dstK : BitVec 5)
  /-- TSETUP (R104): Creates an empty tally table over a set of columns. -/
  | tsetup (q : QId) (f : CmdFlags) (tbl : BitVec 3) (kbits : BitVec 6) (commit mirror : Bool) (e : BitVec 5) (cols : Word)
  /-- TCLEAR (R294): Empties a tally table, its overflow list and its lost-key count in one step at completion. -/
  | tclear (q : QId) (f : CmdFlags) (tbl : BitVec 3)
  /-- TDRAIN (R105): Writes one drain record per table entry into a buffer, column by column, optionally clearing the table. -/
  | tdrain (q : QId) (f : CmdFlags) (tbl : BitVec 3) (clear : Bool) (buf : BitVec 24) (ofs : BitVec 32)
  /-- PEGTAKE (R106): Takes a peg for the queue's owning port, failing or waiting when it is held. -/
  | pegtake (q : QId) (f : CmdFlags) (peg : BitVec 6) (wait : Bool)
  /-- PEGGIVE (R400): Frees a peg that the queue's owning port holds. -/
  | peggive (q : QId) (f : CmdFlags) (peg : BitVec 6)
  /-- COMMIT (R107): Completes when every earlier completed write to a buffer is durable. -/
  | commit (q : QId) (f : CmdFlags) (buf : BitVec 24)
  /-- EPOCH (R61): Advances the queue's epoch by 1 modulo 256. -/
  | epoch (q : QId) (f : CmdFlags)
  /-- QU_DOORBELL_WRITE (R30): A write of QU_DOORBELL.TAIL rings the ring words up to the new tail, or is ignored as invalid. -/
  | quDoorbellWrite (q : QId) (w : RegWr)
  /-- COMMAND_ACCEPT (R40): The accept stage validates fetched command words, journals the command and gives it the next sequence number. -/
  | commandAccept (q : QId) (fetched : List Word) (o : Outc)
  /-- COMMAND_START (R49): The issue stage starts a command once the ordering rules and flags allow it. -/
  | commandStart (q : QId) (env : CmdEnv)
  /-- COMMAND_COMPLETE (R56): A command reaches its completion point and its staged data becomes the contents in one step. -/
  | commandComplete (q : QId) (seq : BitVec 48)
  /-- COMPLETION_POST (R63): A durable completed command is posted in path order and its record is written at CQ_TAIL. -/
  | completionPost (q : QId)
  /-- COMPLETION_RECORD_WRITE_FAIL (R570): A completion-record write ends in error, so posting stops and QU_STAT.CQERR is set. -/
  | completionRecordWriteFail (q : QId)
  /-- QU_RING_WRITE (R70): Sets the ring address and size of an idle queue and resets its indices, call stack and loop window. -/
  | quRingWrite (q : QId) (w : RegWr)
  /-- CQ_RING_WRITE (R70): Sets the completion ring address and size of an idle queue and zeroes CQ_HEAD and CQ_TAIL. -/
  | cqRingWrite (q : QId) (w : RegWr)
  /-- QU_SN_WRITE (R70): Writes a sequencer register of an idle queue. -/
  | quSnWrite (q : QId) (n : Fin 16) (w : RegWr)
  /-- QU_CTL_RESUME (R41): Clears ERRSTOP, FAULT and CQERR, resumes acceptance and rewrites a failed completion record. -/
  | quCtlResume (q : QId) (w : RegWr)
  /-- CQ_HEAD_WRITE (R64): Moves the completion ring's head within bounds, freeing room for posting. -/
  | cqHeadWrite (q : QId) (w : RegWr)
  /-- EV_COUNT_WRITE (R54): A host write of an event count, applied first among the updates of its step. -/
  | evCountWrite (n : Fin 256) (w : RegWr)
  /-- REGISTER_WRITE (R7): A write to a register field that has no row of its own, following its Type. -/
  | registerWrite (src : Src) (off : BitVec 24) (size : BitVec 8) (data : Word) (ep : Bool)
  /-- PLACE_MODE_WRITE (R122): Changes Luthier's placement mode, entering Recorded or Replay only when nothing is placed. -/
  | placeModeWrite (w : RegWr)
  /-- PLACEMENT_RECORD_ENTRY_READ (R573): In Replay mode Luthier reads the record entry that PLACE_REC_PTR reaches. -/
  | placementRecordEntryRead (words : List Word) (o : Outc)
  /-- REPLAY_ENTRY_TIMEOUT (R125): A replay entry not matched within PLACE_CTL.TMO is skipped and DIVERGED is set. -/
  | replayEntryTimeout
  /-- MIGRATION_DECIDE (R127): Luthier decides to migrate a kernel or buffer for retirement, speed, power, temperature, affinity or pull-in. -/
  | migrationDecide (what : MigTarget) (reason : BitVec 3)
  /-- MIGRATION_PLANE_COPY_DONE (R128): A tile's configuration and state planes have been copied to the target tile. -/
  | migrationPlaneCopyDone (anchor : TileId) (tile : TileId)
  /-- MIGRATION_BMEM_COPY_DONE (R128): A tile's block-memory contents have been copied to the target tile. -/
  | migrationBmemCopyDone (anchor : TileId) (tile : TileId)
  /-- MIGRATION_REMAP_UPDATE (R129): The remap table is updated in every endpoint and held packets are forwarded. -/
  | migrationRemapUpdate (anchor : TileId)
  /-- MIGRATION_RESUME (R128): The migrated ensemble resumes and a running KRUN continues. -/
  | migrationResume (anchor : TileId)
  /-- BUFFER_ROW_MIGRATE (R132): One buffer row is copied and cut over to its new place; the old row is poisoned and freed. -/
  | bufferRowMigrate (buf : BitVec 24) (row : BitVec 20)
  /-- TILE_SPEED_MEASURE (R240): Each tile's reference ring rate is measured over 1 ms into FABRIC_TILE_SPEED. -/
  | tileSpeedMeasure (dieB : Bool) (tile : BitVec 7) (rate : BitVec 16)
  /-- SLOW_TILE_FLAG (R133): A tile below 85% of its die median for 100 ms is flagged slow. -/
  | slowTileFlag (tile : TileId)
  /-- SLOW_TILE_CLEAR (R133): A slow tile at or above 90% for 1 s is unflagged. -/
  | slowTileClear (tile : TileId)
  /-- CELL_OPERATION (R139): An M-cell consumes one token from each trigger and issues its Y and CO tokens. -/
  | cellOperation (tile : TileId) (cell : BitVec 14) (faults : BitVec 6) (late : Bool)
  /-- HOLD_RELEASE (R144): The hold element empties when every load of O has acknowledged its Q token. -/
  | holdRelease (tile : TileId) (cell : BitVec 14)
  /-- TOKEN_REGISTER_CAPTURE (R169): An empty token register captures the selected source's token and offers it on its wire. -/
  | tokenRegisterCapture (tile : TileId) (cluster : BitVec 10) (head : Fin 12) (fault : Bool)
  /-- SPINE_TOKEN (R177): A spine driver places a token on its spine and acknowledges the cell when every tap has passed it on. -/
  | spineToken (tile : TileId) (driver : DriverSense)
  /-- BMEM_ACCESS (R212): A block-memory port performs one read, write or read-write access. -/
  | bmemAccess (tile : TileId) (mem : BitVec 4) (portB : Bool) (sense : MemSense)
  /-- BMEM_WRITEBACK (R215): A corrected shape-0 word is written back when both ports are idle. -/
  | bmemWriteback (tile : TileId) (mem : BitVec 4) (word : BitVec 10)
  /-- BMEM_DEBUG_ACCESS (R219): A debug-window access to a block memory is granted while both ports are idle. -/
  | bmemDebugAccess (src : Src) (ltile : TileId) (mem : BitVec 4) (ofs : BitVec 13) (size : BitVec 8) (write : Bool) (data : Word)
  /-- PORTAL_DESCRIPTOR (R223): The portal takes an outbound descriptor and its data flits from the fabric and sends a network packet. -/
  | portalDescriptor (tile : TileId) (take : Bool) (sense : PinSense) (send : Option (BitVec 2))
  /-- PORTAL_INBOUND (R222): The portal takes a whole packet from the landing buffer into its queue and delivers it to the fabric. -/
  | portalInbound (tile : TileId) (take : InTake)
  /-- ROW_REQUEST (R230): A kernel-driven RQ token requests one row of the bound buffer through the row port. -/
  | rowRequest (ts : TileSense)
  /-- ROW_MOVE_ADMIT (R275): The governor admits a waiting row move within the row-move budget. -/
  | rowMoveAdmit (tile : TileId)
  /-- ROW_MOVE (R274): A bank reads or writes a raw row through the column crossbar to or from a row port. -/
  | rowMove (tile : TileId)
  /-- ROW_SLICE (R230): The row port issues or takes one 512-bit slice of the row held in its row register. -/
  | rowSlice (ts : TileSense)
  /-- PARAM_HANDSHAKE (R234): A PIDX token makes the control port issue a parameter register on PVAL. -/
  | paramHandshake (ts : TileSense)
  /-- KERNEL_DONE (R235): The first DONE operation after START ends the KRUN with its done word. -/
  | kernelDone (ts : TileSense)
  /-- KERNEL_EVENT_PULSE (R235): A 1 token on EV pulses the event bound to that slot. -/
  | kernelEventPulse (ts : TileSense) (slot : BitVec 4)
  /-- QUIESCE (R194): The fret controller raises SP16 and the ensemble settles toward rest. -/
  | quiesce (anchor : TileId)
  /-- FRET_SWITCH (R197): At rest every member tile parks the outgoing state and restores the incoming fret. -/
  | fretSwitch (anchor : TileId) (qtime : BitVec 20) (badTiles : List TileId)
  /-- QUIESCE_LIMIT (R196): The quiesce limit expires before rest, so tokens in flight are discarded and the switch proceeds. -/
  | quiesceLimit (anchor : TileId)
  /-- PRELOAD_COMPLETE (R185): The next plane holds the complete preloaded fret and NEXTV becomes 1. -/
  | preloadComplete (anchor : TileId)
  /-- FRET_REQUEST (R203): A token on SP32 requests a yield or an extension of the dwell. -/
  | fretRequest (anchor : TileId)
  /-- DWELL_END (R205): A rotation entry's dwell ends and the ensemble switches to the next runnable entry. -/
  | dwellEnd (anchor : TileId)
  /-- TILE_RESET (R553): RESET_TILE with GO resets one tile's shown-fret hold elements to IFULL and IVAL. -/
  | tileReset (w : RegWr)
  /-- CFG_METER_STAT_CLR (R253): Writing CLRA or CLRB zeroes a die's late-capture count. -/
  | cfgMeterStatClr (w : RegWr) (lateA lateB : Bool)
  /-- FRET_QTIME_CLR (R199): Writing CLR sets FRET_QTIME.MAX to 0. -/
  | fretQtimeClr (tile : TileId) (w : RegWr)
  /-- BANK_OWN_WRITE (R269): A write to BANK_OWNn is a hand-over that claims, transfers or frees a bank, or is rejected. -/
  | bankOwnWrite (bank : Fin 1024) (w : RegWr)
  /-- BANK_WAKE_COMPLETE (R272): A waking bank finishes poisoning or retention exit and serves its waiting requests. -/
  | bankWakeComplete (bank : Fin 1024)
  /-- BANK_WRITEBACK (R264): A corrected store word is written back in the next free row cycle. -/
  | bankWriteback (bank : Fin 1024)
  /-- PATROL_READ (R277): Patrol reads a bank row in a free row cycle and reports what the decoder finds. -/
  | patrolRead (bank : Fin 1024) (row : BitVec 9)
  /-- STORE_FLIP_ARM (R279): Arms STORE_FLIP_CTL so that the next write stored in a bank is altered by the mask. -/
  | storeFlipArm (w : RegWr)
  /-- STORE_DIE_RESET_END (R276): RESETTING returns to 0 and the journal and commit state are read again. -/
  | storeDieResetEnd
  /-- TALLY_OPWIN_WRITE (R283): A write to an operation window is performed as a posted packet of descriptors. -/
  | tallyOpwinWrite (src : Src) (col : Fin 64) (ofs : BitVec 9) (data : List Byte)
  /-- TALLY_FORWARD (R291): An engine forwards an INSERT to the engine that holds the key's column and gathers the result. -/
  | tallyForward (col : Fin 64) (d : TDesc) (fromKernel : BitVec 16)
  /-- TALLY_RELEASE (R297): Writing RELEASE frees a tally table once no command that names it is running. -/
  | tallyRelease (tbl : Fin 8) (w : RegWr)
  /-- TALLY_MAP_Q_WRITE (R289): Names a table row so that TALLY_MAP_R shows its bank and bank row. -/
  | tallyMapQWrite (w : RegWr)
  /-- RD (R305): A network read request arrives at its endpoint and is answered by CPLD. -/
  | rd (p : Packet)
  /-- WR (R305): A network write request is put in place and answered by CPL. -/
  | wr (p : Packet)
  /-- WRP (R305): A posted network write is performed with no response. -/
  | wrp (p : Packet)
  /-- TOP (R285): A packet of tally descriptors is performed in descriptor order by an engine. -/
  | top (p : Packet)
  /-- MSG (R305): An opaque message is delivered to a portal or lane bridge. -/
  | msg (p : Packet)
  /-- LFR (R377): A lane-frame payload packet reaches a lane bridge or a portal. -/
  | lfr (p : Packet)
  /-- MIR (R422): A mirror packet carries records toward the Capo bridge. -/
  | mir (p : Packet)
  /-- CTL (R305): A device control packet carries remap updates, journal and commit messages or route markers. -/
  | ctl (p : Packet)
  /-- CPL (R319): A completion without data reaches the requester. -/
  | cpl (p : Packet)
  /-- CPLD (R319): A completion with data reaches the requester. -/
  | cpld (p : Packet)
  /-- LANDING_CREDIT_GRANT (R313): A destination router grants a landing slot to an asking source router. -/
  | landingCreditGrant (scol dcol : Fin 64) (dep : BitVec 4) (vc : BitVec 2)
  /-- LANDING_CREDIT_RETURN (R313): A landing credit unused for NOC_CTL.HOLD is returned. -/
  | landingCreditReturn (scol dcol : Fin 64) (dep : BitVec 4) (vc : BitVec 2)
  /-- LINK_FLIT_ERROR (R311): A flit with a link error is corrected or requested again from the retry buffer. -/
  | linkFlitError (link : Fin 128) (multi : Bool)
  /-- ROUTE_MARKER_RETURN (R309): A marker reports an old route empty, releasing held packets onto the new route. -/
  | routeMarkerReturn (scol dcol : Fin 64)
  /-- LOAD_STEP (R341): The power-up load step selects a manifest copy and loads the full, partial and kernel images. -/
  | loadStep (m0 m1 : Manifest) (temps : List ColTemp)
  /-- NOOP (R332): Image command with no effect. -/
  | noop
  /-- FADDR (R333): Image command that sets the current frame address. -/
  | faddr (addr : BitVec 16)
  /-- FWRITE (R334): Image command that writes N frames, checking each frame's CRC. -/
  | fwrite (zero : Bool) (n : BitVec 32) (records : List (BitVec 27136 × BitVec 32))
  /-- FCOMMIT (R339): Image command that checks the whole image and commits its frames to the fret. -/
  | fcommit
  /-- WCFG (R336): Image command that writes CFG_CRC or CFG_METER. -/
  | wcfg (addr : BitVec 16) (value : Word)
  /-- SYNC (R332): Image command that completes every earlier write before the next command. -/
  | sync
  /-- MWRITE (R335): Image command that writes a block memory's initial contents. -/
  | mwrite (mem : BitVec 4) (tile : BitVec 8) (words : List (BitVec 48)) (crc : BitVec 32)
  /-- END (R332): Image command that ends the body. -/
  | endImage
  /-- CFG_FULL_LOAD (R345): CFG_CTL OP 1 clears every fret and loads a full image from CFG_SRC. -/
  | cfgFullLoad (w : RegWr) (img : Image)
  /-- CFG_PARTIAL_LOAD (R345): CFG_CTL OP 2 loads a partial image into a free fret of a static kernel's ensemble. -/
  | cfgPartialLoad (w : RegWr) (img : Image)
  /-- CFG_NV_PROGRAM (R323): CFG_CTL OP 3 erases and programs one image-store block. -/
  | cfgNvProgram (w : RegWr)
  /-- CFG_BOOT_RERUN (R345): CFG_CTL OP 4 clears every fret and repeats the load step. -/
  | cfgBootRerun (w : RegWr) (m0 m1 : Manifest) (temps : List ColTemp)
  /-- NV_PROGRAM_DONE (R323): A block program completes and CFG_NVSTAT is updated. -/
  | nvProgramDone (got : SrcRead)
  /-- CFG_DDDATA_READ (R353): A read returns 8 bytes of the device-data area and advances CFG_DDADDR.OFS. -/
  | cfgDddataRead (src : Src) (half : Half)
  /-- POS (R351): A chain frame that gives the sender's position, from which this device takes its own. -/
  | pos (pos : BitVec 8) (crcOk : Bool)
  /-- IMAGE (R351): A chain frame carrying an image, taken and or forwarded by chain position. -/
  | image (param : Word) (img : Image) (crcOk : Bool) (temps : List ColTemp)
  /-- MEND (R351): A chain frame that ends the chain image stream. -/
  | mend (crcOk : Bool)
  /-- CHAIN_TIMEOUT (R349): No POS or MEND chain frame within 10 s fails the chain boot, or falls back to the NV store. -/
  | chainTimeout (m0 m1 : Manifest) (temps : List ColTemp)
  /-- TS1 (R361): A training set announcing rates, lane, width and group is received during exchange. -/
  | ts1 (group : LaneId) (ts : TrainSet)
  /-- TS2 (R361): A training set confirming the exchange or stepping to a TARGET rate is received. -/
  | ts2 (group : LaneId) (ts : TrainSet)
  /-- PASS (R361): A training set reporting a passed dwell is received. -/
  | passSet (group : LaneId) (ts : TrainSet)
  /-- FAIL (R361): A training set reporting a failed dwell is received, so the group returns to the previous rate. -/
  | failSet (group : LaneId) (ts : TrainSet)
  /-- TRAINING_DWELL_END (R361): A PRBS dwell at a new rate ends and the lane's errors are judged. -/
  | trainingDwellEnd (group : LaneId) (errs : List (BitVec 16))
  /-- BRINGUP_TIMEOUT (R362): The 20 ms bring-up limit expires, so bring-up fails or the group settles at the last passed rate. -/
  | bringupTimeout (group : LaneId)
  /-- RESYNC_TIMEOUT (R361): A lane does not regain sync within 300 µs at a new rate, so the group returns to the previous rate. -/
  | resyncTimeout (group : LaneId)
  /-- LANE_CODE_ERROR (R381): A code, disparity or sync-loss error is counted in the lane's bucket. -/
  | laneCodeError (lane : LaneId) (kind : LaneErr)
  /-- LANE_WAKE_COMPLETE (R364): A lane leaving Idle or Muted becomes Active. -/
  | laneWakeComplete (lane : LaneId)
  /-- INIT (R371): An LLP INIT frame is received and the group's sequence state starts from 0. -/
  | initFrame (group : LaneId) (seq : BitVec 16)
  /-- DATA (R372): An LLP DATA frame is received and accepted, discarded as a repeat, or NAKed. -/
  | dataFrame (group : LaneId) (fr : LlpFrame) (crc : BitVec 32)
  /-- ACK (R372): An LLP ACK frame frees acknowledged frames from the replay buffer. -/
  | ack (group : LaneId) (seq : BitVec 16) (win : BitVec 8)
  /-- NAK (R373): An LLP NAK frame makes the transmit side send again from its sequence. -/
  | nak (group : LaneId) (seq : BitVec 16) (win : BitVec 8)
  /-- ABORTED_FRAME (R375): A frame ended by K30.7 is discarded without NAK or sequence use. -/
  | abortedFrame (group : LaneId)
  /-- INIT_RESEND (R371): An end sends INIT again each 1 µs until it has received an INIT. -/
  | initResend (group : LaneId)
  /-- ACK_TIMER (R372): An ACK is sent when it is due after acceptance, after 16 frames, or each 10 µs. -/
  | ackTimer (group : LaneId)
  /-- REPLAY_TIMEOUT (R373): The oldest unacknowledged frame waits RTO, so sending restarts from it or the group retrains. -/
  | replayTimeout (group : LaneId)
  /-- UNBIND_TIMEOUT (R376): After 100 µs an unbind takes effect and discards unacknowledged frames. -/
  | unbindTimeout (group : LaneId)
  /-- HOST_STORE_ACCESS (R388): A host access through BAR2 reaches the store as network reads or writes. -/
  | hostStoreAccess (p : Port) (write : Bool) (ofs : BitVec 28) (len : BitVec 13) (data : List Byte) (enables : List Bool) (ep : Bool)
  /-- HOST_PORTAL_ACCESS (R388): A host access through BAR4 becomes a WR or RD to a tile's portal. -/
  | hostPortalAccess (p : Port) (write : Bool) (ofs : BitVec 32) (len : BitVec 13) (data : List Byte) (ep : Bool)
  /-- HOST_UNSUPPORTED_REQUEST (R386): A request type or address that the port does not support is answered as Unsupported Request. -/
  | hostUnsupportedRequest (p : Port) (posted : Bool) (addr : BitVec 48)
  /-- HOST_READ_TIMEOUT (R392): A host read unanswered within RDTMO is answered with Completer Abort. -/
  | hostReadTimeout (p : Port) (tag : BitVec 10)
  /-- HOST_COMPLETION (R393): The host's answer to a device request through a port arrives and becomes its outcome. -/
  | hostCompletion (p : Port) (tag : BitVec 10) (o : Outc) (data : List Byte)
  /-- CONFIG_REQUEST (R556): A PCIe configuration request is answered with retry status before READY and normally afterwards. -/
  | configRequest (p : Port) (cfg : CfgReq)
  /-- PORT_RESET (R398): PERST, Hot Reset, link down or FLR starts a port reset of one port. -/
  | portReset (p : Port) (cause : ResetCause)
  /-- PORT_RESET_END (R398): The port's link is up again and held records and ring fetches proceed. -/
  | portResetEnd (p : Port) (speed : BitVec 2) (width : BitVec 4) (bme : Bool)
  /-- PEG_TAKE_READ (R399): A host read of PEGn_TAKE takes the peg when it is free. -/
  | pegTakeRead (peg : Fin 64) (src : Src)
  /-- PEG_GIVE_WRITE (R400): A host write of 1 to PEGn_GIVE frees a peg that the port holds. -/
  | pegGiveWrite (peg : Fin 64) (w : RegWr)
  /-- QU_XFER_WRITE (R396): Moves an idle queue to the other port when the writer is entitled. -/
  | quXferWrite (w : RegWr)
  /-- DMA_GO_WRITE (R413): A host write of CTL.GO starts a DMA transfer, or is refused. -/
  | dmaGoWrite (ch : Fin 64) (w : RegWr)
  /-- DMA_ARM_WRITE (R412): Setting SCTL.ARM arms the shadow set, starting it at once on an idle channel. -/
  | dmaArmWrite (ch : Fin 64) (w : RegWr)
  /-- DMA_CHUNK_READ (R406): The read engine issues one RD for a chunk once a buffer slot is free. -/
  | dmaChunkRead (ch : Fin 64) (data : List Byte) (o : Outc)
  /-- DMA_CHUNK_WRITE (R408): The write engine issues one WR for a chunk whose data has arrived, after overlapping earlier chunks. -/
  | dmaChunkWrite (ch : Fin 64) (chunk : BitVec 32)
  /-- DMA_TRANSFER_END (R410): The last WR's CPL ends the transfer well and pulses its event. -/
  | dmaTransferEnd (ch : Fin 64)
  /-- DMA_CHUNK_FAIL (R411): A failed chunk ends the transfer without a pulse and disarms the shadow set. -/
  | dmaChunkFail (ch : Fin 64) (kind : BitVec 2) (side : Bool) (addr : BitVec 48)
  /-- HELLO (R420): A Capo HELLO frame carrying a wrapped session key is received and unwrapped. -/
  | hello (role : Bool) (state : BitVec 3) (payload : List Byte) (crc : BitVec 32)
  /-- CAPO_DATA (R421): A Capo DATA frame carrying records is received in counter order. -/
  | capoData (ctr : BitVec 96) (body : List Byte) (crc : BitVec 32)
  /-- CAPO_ACK (R421): A Capo ACK frame acknowledges frames up to a counter. -/
  | capoAck (ctr : BitVec 96) (payload : List Byte) (tag : BitVec 128) (crc : BitVec 32)
  /-- HB (R430): A Capo heartbeat frame with the sender's timebase is received. -/
  | hb (ctr : BitVec 96) (recovering : Bool) (payload : List Byte) (tag : BitVec 128) (crc : BitVec 32)
  /-- CAPO_REPLAY_TIMEOUT (R421): 4 µs without progress makes the sender resend from the oldest unacknowledged frame. -/
  | capoReplayTimeout
  /-- CAPO_ACK_TIMER (R421): The receiver sends an ACK each 1 µs or after 16 unacknowledged frames. -/
  | capoAckTimer
  /-- JOURNAL_RECORD (R422): The Shadow receives and acknowledges one accepted command's journal record. -/
  | journalRecord (q : QId) (seq : BitVec 48) (epoch : BitVec 8) (words : List Word)
  /-- JOURNAL_ACK (R423): The Shadow's journal acknowledgement lets the Lead enter the command in its journal. -/
  | journalAck (q : QId) (seq : BitVec 48)
  /-- COMMIT_RECORD (R424): The Shadow journals and applies a command's committed effects and acknowledges. -/
  | commitRecord (q : QId) (seq : BitVec 48) (status : RecStatus) (result stamp : Word) (writes : List (BitVec 24 × BitVec 28 × Byte)) (params : List (BitVec 16 × BitVec 4 × Word)) (events : List (BitVec 8 × BitVec 16)) (delta : List (BitVec 3 × BitVec 48 × BitVec 22)) (gen : BitVec 32)
  /-- COMMIT_ACK (R424): The Shadow's commit acknowledgement makes a commit durable at the Lead. -/
  | commitAck (q : QId) (seq : BitVec 48)
  /-- POST_RECORD (R435): The Shadow records which completion-ring slot a posted command took. -/
  | postRecord (q : QId) (seq : BitVec 48) (slot : BitVec 32)
  /-- WRITE_RECORD (R425): The Shadow applies a write to a mirrored buffer, table or bank. -/
  | writeRecord (dst : RecDst) (data : List Byte)
  /-- IMAGE_RECORD (R427): The Shadow receives a kernel image and keeps the kernel warm. -/
  | imageRecord (kern : BitVec 16) (word0 : BitVec 32) (img : Image) (temps : List ColTemp) (stands : Option KSync)
  /-- PLACEMENT_RECORD (R426): The Shadow applies a placement decision with the same logical identifiers. -/
  | placementRecord (w0 w1 w2 w3 : Word) (cmd : Option Cmd)
  /-- REGISTER_RECORD (R422): The Shadow applies a mirrored register write. -/
  | registerRecord (off : BitVec 24) (half : Half) (data : Word) (stands : Bool)
  /-- EVENT_RECORD (R422): The Shadow applies a hardware event pulse or a DMA transfer that ended well. -/
  | eventRecord (ev : BitVec 8) (pulse : Bool) (ended : Option (BitVec 6))
  /-- TIME_RECORD (R443): The Shadow uses timebase samples to slew its timebase toward the Lead's. -/
  | timeRecord (ofs : BitVec 32)
  /-- SYNC_COMPLETE (R417): The Lead's sync stream is acknowledged and both devices enter Paired. -/
  | syncComplete (paths : List QPath)
  /-- HEARTBEAT_SEND (R430): Each 20 µs a device sends an HB frame and toggles TWIN_HB_OUT. -/
  | heartbeatSend
  /-- HB_PIN_EDGE (R430): A change of level on TWIN_HB_IN is one heartbeat. -/
  | hbPinEdge
  /-- HEARTBEAT_SILENCE (R431): A path silent for 100 µs leads to takeover, Solo, link loss or PIN_SILENT. -/
  | heartbeatSilence (capo pin : Bool)
  /-- FENCE_INPUT (R433): TWIN_FENCE_N low on a Lead puts it into the held state. -/
  | fenceInput
  /-- FENCE_WAIT_END (R433): 20 µs after fencing the Shadow promotes itself, replays its journal and sends INIT. -/
  | fenceWaitEnd (hostDma : Bool)
  /-- TAKEOVER_RESUME (R433): When every standby group has re-homed or 200 µs pass, the new Lead becomes Solo and resumes queues. -/
  | takeoverResume (replayUs totalUs : BitVec 16) (limit : Bool)
  /-- WARM_LIMIT_EXPIRY (R441): A Lead's RECOVERING heartbeats outlast WARM_LIMIT, so the Shadow takes over. -/
  | warmLimitExpiry
  /-- TWIN_SWAP (R442): TWIN_CTL.SWAP drains a Paired Lead and exchanges roles without loss. -/
  | twinSwap (w : RegWr)
  /-- TWIN_FORCE (R442): TWIN_CTL.FORCE starts a takeover on a Paired Shadow at its fence step. -/
  | twinForce (w : RegWr)
  /-- TWIN_UNFENCE (R440): TWIN_CTL.UNFENCE releases the fence and the held device warm-resets and rejoins as Shadow. -/
  | twinUnfence (w : RegWr)
  /-- ERROR_RECORD_WRITE_DONE (R451): An error-record write ends, advancing ERR_TAIL on success. -/
  | errorRecordWriteDone (o : Outc)
  /-- ERR_CTL_WRITE (R451): Enables the error ring, zeroing ERR_HEAD and ERR_TAIL when EN goes from 0 to 1. -/
  | errCtlWrite (w : RegWr)
  /-- ERR_HEAD_WRITE (R451): Moves the error ring head within bounds, or is ignored with HEADERR. -/
  | errHeadWrite (w : RegWr)
  /-- ERR_RETIRE_GO (R457): ERR_RETIRE with GO retires a named unit with cause 2. -/
  | errRetireGo (w : RegWr)
  /-- ERR_BKT_CLR (R455): Writing CLR through ERR_BKT_Q zeroes a unit's bucket count. -/
  | errBktClr (w : RegWr)
  /-- ERR_BKT_CFG_WRITE (R455): Changes a unit kind's threshold and window from the next event or fall. -/
  | errBktCfgWrite (k : Fin 5) (w : RegWr)
  /-- ERR_DROP_CLR (R451): Writing CLR zeroes the dropped-record counts. -/
  | errDropClr (w : RegWr)
  /-- BUCKET_FALL (R454): A unit's leaky-bucket count falls by 1 when D has passed. -/
  | bucketFall (kind : UnitKind) (uid : BitVec 24)
  /-- BOND_TEST (R460): A string's signals and spares are self-tested and failing signals are spared. -/
  | bondTest (uid : BitVec 24) (fails passes : List (BitVec 7))
  /-- OUT_OF_TURN_TEST (R464): A traffic check failure starts a test of the string within 100 µs. -/
  | outOfTurnTest (uid : BitVec 24) (fails passes : List (BitVec 7))
  /-- STORED_PLANE_CHECK (R465): The scrubber checks stored configuration frames and state planes against their CRCs. -/
  | storedPlaneCheck (tile : TileId) (fret : BitVec 3) (frames : List (BitVec 5)) (stateBad passEnd : Bool)
  /-- FRAME_REPAIR (R466): A failing frame is rewritten from its source after the source read completes. -/
  | frameRepair (addr : BitVec 16) (o : Outc) (crcMatches : Bool)
  /-- LATCH_READBACK (R468): The scrubber compares a tile's active and next planes with the stored fret. -/
  | latchReadback (tile : TileId) (activeBad nextBad : Bool)
  /-- TRIPLICATE_SWEEP (R473): Each 1 ms every triplicated word is read, voted and its odd copy rewritten. -/
  | triplicateSweep (word : TriWord) (lost : Bool)
  /-- SCRUB_VOTE (R471): Disagreeing copies of scrubber state are voted or every cycle restarts. -/
  | scrubVote (allDiffer : Bool)
  /-- KEY_LOAD (R477): SEC_KEYCTL OP 1 unwraps a key into an empty slot. -/
  | keyLoad (w : RegWr) (verdict : Bool)
  /-- KEY_ERASE (R477): SEC_KEYCTL OP 2 erases a filled slot that is not in use. -/
  | keyErase (w : RegWr)
  /-- KEY_WRAP (R479): SEC_KEYCTL OP 3 wraps a plain key under a KEK into SEC_KEYDATA. -/
  | keyWrap (w : RegWr)
  /-- KEY_OP_COMPLETE (R491): A slot operation ends, BUSY reads 0 and SEC_KEYDATA is zeroed. -/
  | keyOpComplete
  /-- LC_ARM (R489): SEC_LC_REQ with ARM draws a nonce for a permitted life-cycle change. -/
  | lcArm (w : RegWr)
  /-- LC_CONFIRM (R489): SEC_LC_REQ with CONFIRM and the nonce starts the change, erasing every slot. -/
  | lcConfirm (w : RegWr)
  /-- LC_ARM_TIMEOUT (R489): A request not confirmed within 10 ms is dropped. -/
  | lcArmTimeout
  /-- LC_CHANGE_COMPLETE (R489): The new life-cycle state is written, PENDING clears and a Crimson event is raised. -/
  | lcChangeComplete
  /-- TB_SET (R518): TB_CTL.SET requests loading TB_SET into the timebase. -/
  | tbSet (w : RegWr)
  /-- TB_NOW_READ (R518): A read of TB_NOW returns the time and latches the full seconds in TB_SECHI. -/
  | tbNowRead (src : Src)
  /-- SVC_TRANSFER (R537): SVC_XFER with GO starts an I2C1, SPI or UART transfer. -/
  | svcTransfer (w : RegWr)
  /-- RESET_CTL_WARM (R551): RESET_CTL with WARM and KEY 0xA5 requests a warm reset. -/
  | resetCtlWarm (w : RegWr)
  /-- DIE_RESET (R552): RESET_DIE with GO and KEY resets one die. -/
  | dieReset (w : RegWr)
  /-- REST_WAKE (R515): CLK_REST.WAKE starts a wake from Rest. -/
  | restWake (w : RegWr)
  /-- REST_ENTER (R513): CLK_REST.ENTER requests Rest, refused or started. -/
  | restEnter (w : RegWr)
  /-- READY_DETECT (R493): The Slate oscillator's ready detector asserts after 1,024 full-amplitude periods. -/
  | readyDetect
  /-- START_DELAY_END (R495): The OSC_DLY start delay ends and the monitor is armed, or power-on hold is entered. -/
  | startDelayEnd
  /-- MONITOR_WINDOW (R496): A window of 512 Slate periods judges REFCLK good or bad. -/
  | monitorWindow (edges : BitVec 12) (gap : Bool)
  /-- PLL_LOCK (R498): The base PLLs lock and start-up opens its gates. -/
  | pllLock
  /-- PLL_RELOCK (R500): After a coast the PLLs relock, COAST clears and lanes resynchronise. -/
  | pllRelock
  /-- CLK_GATE_WRITE (R503): Opens a block's gate, or starts a pending close that waits for the block to be idle. -/
  | clkGateWrite (gate1 : Bool) (w : RegWr)
  /-- GATE_CLOSE_COMPLETE (R503): A pending block becomes idle, its clock stops and its PEND bit clears. -/
  | gateCloseComplete (bit : BitVec 6)
  /-- CLK_OP_WRITE (R506): A write of CLK_OP.TARGET starts a step-by-step change of operating point. -/
  | clkOpWrite (w : RegWr) (nack : Bool)
  /-- POWER_GOOD_POLL (R506): A 20 µs poll finds the new VDD_BASE good and raises NET and SEQ. -/
  | powerGoodPoll (good nack : Bool)
  /-- POWER_GOOD_TIMEOUT (R506): Power-good is not seen within 5 ms, so the step is abandoned and PGTMO is set. -/
  | powerGoodTimeout
  /-- CLK_PMBUS_WRITE (R507): Enables PMBus control of both rails and sets their transition rate. -/
  | clkPmbusWrite (w : RegWr) (nack : Bool)
  /-- CLK_FABV_WRITE (R508): Requests a new VDD_FAB target. -/
  | clkFabvWrite (w : RegWr)
  /-- FABV_STEP (R508): VDD_FAB moves by at most 10 mV toward its effective target after at least 5 µs. -/
  | fabvStep (nack : Bool)
  /-- GOVERNOR_ESTIMATE (R509): Every 10 µs the governor estimates power and throttles row moves, fabric voltage and lanes. -/
  | governorEstimate (est : BitVec 12) (temp : BitVec 8) (fabDue : Bool) (idleGroups : List LaneId)
  /-- GOVERNOR_RELAX (R510): After 1 ms below 95% of the cap, the governor undoes one step. -/
  | governorRelax
  /-- REST_ENTRY_COMPLETE (R514): Entry finishes with banks in Retain, lanes Muted, VDD_FAB off and the clocks stopped. -/
  | restEntryComplete (nack : Bool) (levels : BitVec 48)
  /-- TIMEBASE_WAKE (R516): The timebase reaches TB_WAKE while EN is 1 and starts a wake. -/
  | timebaseWake
  /-- GPIO_WAKE_EDGE (R536): A level change on a wake-enabled GPIO input wakes the device from Rest. -/
  | gpioWakeEdge (pin : Fin 48) (level : Bool)
  /-- WAKE_COMPLETE (R515): Wake reverses the entry steps and STATE reads awake. -/
  | wakeComplete
  /-- TIMEBASE_STEP (R518): At a period boundary within 1 µs the timebase takes TB_SET and STEPPED is set. -/
  | timebaseStep
  /-- PPS_EDGE (R519): A PPS_IN rising edge is captured and, when valid, steps or slews the timebase. -/
  | ppsEdge (learned : BitVec 32)
  /-- PPS_HOLDOVER (R520): No valid PPS edge for 1.1 s sets HOLDOVER. -/
  | ppsHoldover
  /-- EVENT_INPUT (R535): A rising edge on an EVENT input pulses its event. -/
  | eventInput (k : Fin 8)
  /-- EVENT_OUTPUT_PULSE (R535): An event increment drives a 40 ns pulse on an EVENT output in its turn. -/
  | eventOutputPulse (k : Fin 8)
  /-- SVC_TRANSFER_DONE (R537): A service bus transfer ends, with ERR set on NACK, arbitration loss or framing error. -/
  | svcTransferDone (err : Bool) (data : List Byte)
  /-- PIN_OWNER_CHANGE (R530): A service pin's owner changes and the pin holds its level for 20 ns. -/
  | pinOwnerChange (pin : Fin 48) (level : Bool)
  /-- PIN_HANDOVER_END (R530): After 20 ns the new owner drives the pin. -/
  | pinHandoverEnd (pin : Fin 48)
  /-- ADC_CONVERSION (R533): The ADC converts the next analogue input, one per 1 µs. -/
  | adcConversion (k : Fin 8) (microvolts : BitVec 24)
  /-- DELAY_CALIBRATION (R259): Each 1 ms an I/O bank measures its replica delay line and retargets its cell taps. -/
  | delayCalibration (bank : Fin 12) (ps : BitVec 16)
  /-- IO_UNDERRUN (R257): An active edge finds the output FIFO empty, so the pin holds and UNDER is set. -/
  | ioUnderrun (cell : Fin 384)
  /-- IO_OVERRUN (R257): An input value finds the FIFO full and is discarded with OVER set. -/
  | ioOverrun (cell : Fin 384)
  /-- COLD_RESET (R548): POR_N low or a lost supply resets the whole device. -/
  | coldReset
  /-- POR_RELEASE (R554): The release of POR_N samples the straps and starts the Slate oscillator and start timer. -/
  | porRelease (twinRole : Bool) (oscDly : BitVec 3) (bootSrc iopull : BitVec 2) (vddio : BitVec 24)
  /-- KEY_STORE_READ_DONE (R554): The key store is read and any pending life-cycle change is completed. -/
  | keyStoreReadDone
  /-- STARTUP_SELFTEST_DONE (R554): The first bond self-test pass completes during start-up. -/
  | startupSelftestDone (exhausted : List (BitVec 24))
  /-- STORE_CLEAR_DONE (R554): Pool banks are poisoned, the journal is empty and READY is asserted. -/
  | storeClearDone (us : BitVec 32)
  /-- WARM_RESET (R549): RST_N low for at least 1 µs stops the engines, cuts commands short and starts a warm reset. -/
  | warmReset (pulseNs : BitVec 32)
  /-- WARM_RESET_COMPLETE (R550): After replay READY goes high and queues with EN at 1 resume. -/
  | warmResetComplete (us : BitVec 32)
  /-- DIE_WATCHDOG (R552): A die control state machine silent for 1 ms starts a die reset and a Crimson event. -/
  | dieWatchdog (die : BitVec 2)
  /-- DIE_RESET_END (R552): A die reset ends and DIEBUSY returns to 0. -/
  | dieResetEnd
  /-- LANE_SYNC (R358): A lane receiver becomes in sync after four K28.5 at one bit position with no code error between them. -/
  | laneSync (lane : LaneId) (inverted : Bool)
  /-- PRBS_LOCK (R380): A PRBS checker seeds itself from the received bits and sets LANE_PRBS.LOCK after 64 error-free bits. -/
  | prbsLock (lane : LaneId)
  /-- PCIE_PERST_RELEASE (R556): The rise of PCIE_PERST_x_N starts link training once the monitor is armed and opens the 100 ms configuration window. -/
  | pciePerstRelease (p : Port)
  /-- OPERATING_POINT_STEP_END (R506): The frequency ramp of one operating-point step ends, CUR advances, and the next step toward TARGET begins or a pending TARGET write takes effect. -/
  | operatingPointStepEnd (nack : Bool)
  /-- ACTIVE_EDGE (R541): An active edge of an I/O clock net launches a TX token, consumes an OE token and captures an input value into the I/O cell FIFOs. -/
  | activeEdge (cell : Fin 384) (rising : Bool) (input : IoSample)
  /-- METERING_CLOCK_EDGE (R252): A rising edge of a metered die's metering clock lets hold elements and token registers capture, and block-memory accesses be granted. -/
  | meteringClockEdge (edge : MeterEdge)
  /-- UART_RECEIVE (R537): A byte arriving on UART RX enters the 64-byte receive FIFO, or sets ERR on overflow. -/
  | uartReceive (byte : Byte) (framing : Bool)
  /-- TAP_INSTRUCTION (R543): A JTAG instruction loaded into the TAP takes effect, or is refused as BYPASS in the Deployed and Scrapped states. -/
  | tapInstruction (instr : TapInstr)
  /-- TEST_LOGIC_RESET (R543): At Test-Logic-Reset, by TMS or by TRST_N, each pin returns to its owner under R530. -/
  | testLogicReset
  deriving DecidableEq, Repr

end Sys2Proof
end

