-- ==== Sys2Proof/Decode.lean ====
section
/-!
DEFINITION. The table's rows give no bits, so no word spells a command by them: the block takes its commands from its
queue. The words of the sequencers' commands (R46, R71) are part of the device and are decoded in Machine/Encoding.lean.
-/
namespace Sys2Proof

/-- The command that a word spells by the bits of spec/opcode_table.json: none, for no row gives bits. -/
def decodeTableWord (_nbits _w : Nat) : Option Instr := none

end Sys2Proof
end

