-- ==== Sys2Proof/Config.lean ====
section
/-!
DEFINITION. What the spec leaves open, as constants with no body: no proof can see what they are. An undefined value
(R10) is Config.freeWord applied to the counter of free values that State holds, so each occurrence may differ.
The device key is such a constant too: nobody can read it (chapter 19, log entry 3).
-/
namespace Sys2Proof

/-- A value the spec calls undefined, or does not state: the n-th one met (log entry 1). -/
opaque Config.freeWord : Nat → BitVec 64

/-- A byte the spec calls undefined, or does not state: the n-th one met (log entry 1). -/
opaque Config.freeByte : Nat → BitVec 8

/-- The words of the device-data area that hold no near-via record: serial number and calibration records, in a form that the spec does
not give (R322, log entry 107). -/
opaque Config.deviceData : Nat → BitVec 64

/-- The device serial number (R322), of which the spec gives no value (log entry 107). -/
opaque Config.serial : BitVec 64

/-- The rows of a pool bank that the journal takes (R44, R116), of which the spec gives no number (log entry 127). -/
opaque Config.journalRows : Nat → Nat

/-- The device key (R476), byte by byte: a secret that is different in every device (log entry 3). -/
opaque Config.deviceKey : Nat → BitVec 8

/-- The bytes of a record in a frame's payload on the Capo link, by its kind and words, of which the spec gives no layout (R419, R422,
log entry 38). -/
opaque Config.recordBytes : Nat → List Nat → List (BitVec 8)

/-- The nonce drawn at the n-th arming of a life-cycle change (R489): random, so any value (log entry 1). -/
opaque Config.nonce : Nat → BitVec 64

end Sys2Proof
end

