-- ==== Sys2Proof/Machine/KMap.lean ====
section
/-!
DEFINITION. Sparse data by key: a list of (key, value) pairs, kept with strictly rising keys, so that equal maps are
equal lists. What an unlisted key reads as is said where the map is used.
-/
namespace Sys2Proof.Machine

/-- A sparse map from numbers, as plain data. -/
abbrev KMap (V : Type) := List (Nat × V)

/-- The value listed for a key, if any. -/
def KMap.find {V : Type} : KMap V → Nat → Option V
  | [], _ => none
  | (a, v) :: t, k => if a = k then some v else KMap.find t k

/-- The value of a key, with what an unlisted key reads as. -/
def KMap.get {V : Type} (m : KMap V) (k : Nat) (dflt : V) : V := (KMap.find m k).getD dflt

/-- List a value for a key, replacing the one listed. -/
def KMap.put {V : Type} : KMap V → Nat → V → KMap V
  | [], k, v => [(k, v)]
  | (a, w) :: t, k, v =>
    if k < a then (k, v) :: (a, w) :: t
    else if k = a then (k, v) :: t
    else (a, w) :: KMap.put t k v

/-- Unlist a key. -/
def KMap.del {V : Type} : KMap V → Nat → KMap V
  | [], _ => []
  | (a, w) :: t, k => if a = k then KMap.del t k else (a, w) :: KMap.del t k

/-- The canonical form: keys rise strictly. -/
def KMap.rising {V : Type} : KMap V → Bool
  | [] => true
  | (a, _) :: t => (match t with | [] => true | (b, _) :: _ => decide (a < b)) && KMap.rising t

/-- The keys listed, rising. -/
def KMap.keys {V : Type} (m : KMap V) : List Nat := m.map (·.1)

end Sys2Proof.Machine
end

