-- ==== Sys2Proof/Machine/Fields.lean ====
section
/-!
DEFINITION. Every field of every register the spec describes under a heading of its own, by the spec's name
(BLOCK_REG_FIELD, R5 to R9): where it lies in the control range (the byte offset of its register, R558, and its bits)
and the value its Reset column gives. Generated from the register tables of spec/; where a Reset column reads "strap",
"image", "key store" or "device data" the field stands at 0 until the start-up step that sets it (log entry 2).
-/
set_option linter.unusedVariables false
namespace Sys2Proof.Machine

/-- A register field: the byte offset of its register in the control range, its lowest bit, its width, and its value after a cold reset (R9). -/
structure Field where
  off : Nat
  lo : Nat
  width : Nat
  reset : Nat
  deriving DecidableEq, Repr

/-- The bit address of a field in the control range: the key it is held under. -/
def Field.key (f : Field) : Nat := f.off * 8 + f.lo

/-! 02_command_model.md, 0x000 + 0x100*q QU_RING. -/
def QU_RING_BASE (q : Nat) : Field := ⟨0x50000 + 0x100 * q, 6, 42, 0⟩
def QU_RING_SIZE (q : Nat) : Field := ⟨0x50000 + 0x100 * q, 48, 4, 0⟩
/-! 02_command_model.md, 0x008 + 0x100*q QU_DOORBELL. -/
def QU_DOORBELL_TAIL (q : Nat) : Field := ⟨0x50008 + 0x100 * q, 0, 32, 0⟩
/-! 02_command_model.md, 0x010 + 0x100*q QU_HEAD. -/
def QU_HEAD_FETCH (q : Nat) : Field := ⟨0x50010 + 0x100 * q, 0, 32, 0⟩
/-! 02_command_model.md, 0x018 + 0x100*q ACCEPT_INDEX. -/
def ACCEPT_INDEX_INDEX (q : Nat) : Field := ⟨0x50018 + 0x100 * q, 0, 32, 0⟩
/-! 02_command_model.md, 0x020 + 0x100*q QU_ACCEPT_SEQ. -/
def QU_ACCEPT_SEQ_SEQ (q : Nat) : Field := ⟨0x50020 + 0x100 * q, 0, 48, 0⟩
/-! 02_command_model.md, 0x028 + 0x100*q QU_DONE_SEQ. -/
def QU_DONE_SEQ_SEQ (q : Nat) : Field := ⟨0x50028 + 0x100 * q, 0, 48, 0⟩
/-! 02_command_model.md, 0x030 + 0x100*q QU_CTL. -/
def QU_CTL_EN (q : Nat) : Field := ⟨0x50030 + 0x100 * q, 0, 1, 0⟩
def QU_CTL_STOP_ON_ERR (q : Nat) : Field := ⟨0x50030 + 0x100 * q, 1, 1, 0⟩
def QU_CTL_RESUME (q : Nat) : Field := ⟨0x50030 + 0x100 * q, 2, 1, 0⟩
def QU_CTL_PRIO (q : Nat) : Field := ⟨0x50030 + 0x100 * q, 3, 2, 0⟩
def QU_CTL_WINDOW (q : Nat) : Field := ⟨0x50030 + 0x100 * q, 8, 10, 0⟩
def QU_CTL_VEC (q : Nat) : Field := ⟨0x50030 + 0x100 * q, 18, 6, 0⟩
def QU_CTL_OWNER (q : Nat) : Field := ⟨0x50030 + 0x100 * q, 24, 1, (if q < 32 then 0 else 1)⟩
/-! 02_command_model.md, 0x038 + 0x100*q QU_STAT. -/
def QU_STAT_IDLE (q : Nat) : Field := ⟨0x50038 + 0x100 * q, 0, 1, 1⟩
def QU_STAT_ERRSTOP (q : Nat) : Field := ⟨0x50038 + 0x100 * q, 1, 1, 0⟩
def QU_STAT_FAULT (q : Nat) : Field := ⟨0x50038 + 0x100 * q, 2, 1, 0⟩
def QU_STAT_DBERR (q : Nat) : Field := ⟨0x50038 + 0x100 * q, 3, 1, 0⟩
def QU_STAT_NOTOWN (q : Nat) : Field := ⟨0x50038 + 0x100 * q, 4, 1, 0⟩
def QU_STAT_CFGERR (q : Nat) : Field := ⟨0x50038 + 0x100 * q, 5, 1, 0⟩
def QU_STAT_CQFULL (q : Nat) : Field := ⟨0x50038 + 0x100 * q, 6, 1, 0⟩
def QU_STAT_JWAIT (q : Nat) : Field := ⟨0x50038 + 0x100 * q, 7, 1, 0⟩
def QU_STAT_CQERR (q : Nat) : Field := ⟨0x50038 + 0x100 * q, 8, 1, 0⟩
/-! 02_command_model.md, 0x040 + 0x100*q QU_EPOCH. -/
def QU_EPOCH_EPOCH (q : Nat) : Field := ⟨0x50040 + 0x100 * q, 0, 8, 0⟩
/-! 02_command_model.md, 0x048 + 0x100*q CQ_RING. -/
def CQ_RING_BASE (q : Nat) : Field := ⟨0x50048 + 0x100 * q, 5, 43, 0⟩
def CQ_RING_SIZE (q : Nat) : Field := ⟨0x50048 + 0x100 * q, 48, 4, 0⟩
/-! 02_command_model.md, 0x050 + 0x100*q CQ_HEAD. -/
def CQ_HEAD_HEAD (q : Nat) : Field := ⟨0x50050 + 0x100 * q, 0, 32, 0⟩
/-! 02_command_model.md, 0x058 + 0x100*q CQ_TAIL. -/
def CQ_TAIL_TAIL (q : Nat) : Field := ⟨0x50058 + 0x100 * q, 0, 32, 0⟩
/-! 02_command_model.md, 0x080 + 0x100*q + 8*n QU_Sn, n = 0 to 15. -/
def QU_S_VALUE (q n : Nat) : Field := ⟨0x50080 + 0x100 * q + 0x8 * n, 0, 64, 0⟩
/-! 02_command_model.md, 0x4000 + 0x40*q + 8*e QU_STACKe, e = 0 to 7. -/
def QU_STACK_RETURN (q e : Nat) : Field := ⟨0x54000 + 0x40 * q + 0x8 * e, 0, 48, 0⟩
def QU_STACK_VALID (q e : Nat) : Field := ⟨0x54000 + 0x40 * q + 0x8 * e, 63, 1, 0⟩
/-! 02_command_model.md, 0x6000 + 8*n EV_COUNTn, n = 0 to 255. -/
def EV_COUNT_COUNT (n : Nat) : Field := ⟨0x56000 + 0x8 * n, 0, 16, 0⟩
def EV_COUNT_OVF (n : Nat) : Field := ⟨0x56000 + 0x8 * n, 16, 1, 0⟩
/-! 02_command_model.md, 0x7000 JOURNAL_STAT. -/
def JOURNAL_STAT_USED : Field := ⟨0x57000, 0, 16, 0⟩
def JOURNAL_STAT_FULL : Field := ⟨0x57000, 16, 1, 0⟩
/-! 04_placement.md, 0x000 PLACE_CTL. -/
def PLACE_CTL_MODE : Field := ⟨0xA0000, 0, 2, 0⟩
def PLACE_CTL_AUTOMIG : Field := ⟨0xA0000, 2, 1, 1⟩
def PLACE_CTL_TIMESHARE : Field := ⟨0xA0000, 3, 1, 1⟩
def PLACE_CTL_HYST : Field := ⟨0xA0000, 8, 8, 0x40⟩
def PLACE_CTL_TEMP_LIM : Field := ⟨0xA0000, 16, 8, 0x5F⟩
def PLACE_CTL_MIGBW : Field := ⟨0xA0000, 24, 8, 8⟩
def PLACE_CTL_TMO : Field := ⟨0xA0000, 32, 16, 0x3E8⟩
/-! 04_placement.md, 0x008 PLACE_STAT. -/
def PLACE_STAT_EMPTY : Field := ⟨0xA0008, 0, 1, 1⟩
def PLACE_STAT_RECFULL : Field := ⟨0xA0008, 1, 1, 0⟩
def PLACE_STAT_DIVERGED : Field := ⟨0xA0008, 2, 1, 0⟩
def PLACE_STAT_CFGERR : Field := ⟨0xA0008, 3, 1, 0⟩
def PLACE_STAT_HINT_MISSED : Field := ⟨0xA0008, 4, 1, 0⟩
def PLACE_STAT_MIGRATING : Field := ⟨0xA0008, 5, 1, 0⟩
def PLACE_STAT_RECERR : Field := ⟨0xA0008, 6, 1, 0⟩
/-! 04_placement.md, 0x010 PLACE_REC_BASE. -/
def PLACE_REC_BASE_BASE : Field := ⟨0xA0010, 6, 42, 0⟩
/-! 04_placement.md, 0x018 PLACE_REC_SIZE. -/
def PLACE_REC_SIZE_SIZE : Field := ⟨0xA0018, 0, 24, 0⟩
/-! 04_placement.md, 0x020 PLACE_REC_PTR. -/
def PLACE_REC_PTR_PTR : Field := ⟨0xA0020, 0, 24, 0⟩
/-! 04_placement.md, 0x028 PLACE_CAP0. -/
def PLACE_CAP0_TILES_OK : Field := ⟨0xA0028, 0, 9, 0x100⟩
def PLACE_CAP0_TILES_FREE : Field := ⟨0xA0028, 9, 9, 0x100⟩
def PLACE_CAP0_BANKS_OK : Field := ⟨0xA0028, 21, 11, 0x400⟩
def PLACE_CAP0_BANKS_FREE : Field := ⟨0xA0028, 32, 11, 0x3C0⟩
def PLACE_CAP0_FRETS_FREE : Field := ⟨0xA0028, 43, 12, 0x800⟩
def PLACE_CAP0_ROWPORTS_OK : Field := ⟨0xA0028, 55, 9, 0x100⟩
/-! 04_placement.md, 0x030 PLACE_CAP1. -/
def PLACE_CAP1_ROWS_FREE : Field := ⟨0xA0030, 0, 20, 0x78000⟩
def PLACE_CAP1_TALLY_FREE : Field := ⟨0xA0030, 20, 25, 0x1000000⟩
def PLACE_CAP1_VPAIRS_OK : Field := ⟨0xA0030, 45, 8, 0x80⟩
/-! 04_placement.md, 0x038 PLACE_LAST. -/
def PLACE_LAST_KIND : Field := ⟨0xA0038, 0, 8, 0⟩
def PLACE_LAST_HANDLE : Field := ⟨0xA0038, 8, 24, 0⟩
def PLACE_LAST_TILE : Field := ⟨0xA0038, 32, 8, 0⟩
def PLACE_LAST_FRET : Field := ⟨0xA0038, 40, 3, 0⟩
def PLACE_LAST_REASON : Field := ⟨0xA0038, 48, 8, 0⟩
/-! 04_placement.md, 0x040 PLACE_WEIGHT. -/
def PLACE_WEIGHT_HOP : Field := ⟨0xA0040, 0, 8, 4⟩
def PLACE_WEIGHT_SPEED : Field := ⟨0xA0040, 8, 8, 2⟩
def PLACE_WEIGHT_VIA : Field := ⟨0xA0040, 16, 8, 1⟩
def PLACE_WEIGHT_POWER : Field := ⟨0xA0040, 24, 8, 8⟩
def PLACE_WEIGHT_TEMP : Field := ⟨0xA0040, 32, 8, 8⟩
/-! 04_placement.md, 0x100 + 8*n PLACE_SLOWn, n = 0 to 3. -/
def PLACE_SLOW_SLOW (n : Nat) : Field := ⟨0xA0100 + 0x8 * n, 0, 64, 0⟩
/-! 04_placement.md, 0x200 + 8*n PLACE_REMAPn, n = 0 to 31. -/
def PLACE_REMAP_PHYS (n : Nat) : Field := ⟨0xA0200 + 0x8 * n, 0, 64, 0⟩
/-! 07_frets.md, 0x000 FRET_STAT. -/
def FRET_STAT_SHOWN (tl : Nat) : Field := ⟨0x300000 + 0x400 * tl, 0, 3, 0⟩
def FRET_STAT_NEXT (tl : Nat) : Field := ⟨0x300000 + 0x400 * tl, 3, 3, 0⟩
def FRET_STAT_NEXTV (tl : Nat) : Field := ⟨0x300000 + 0x400 * tl, 6, 1, 0⟩
def FRET_STAT_PHASE (tl : Nat) : Field := ⟨0x300000 + 0x400 * tl, 8, 3, 0⟩
def FRET_STAT_ANCHOR (tl : Nat) : Field := ⟨0x300000 + 0x400 * tl, 16, 8, 0⟩
def FRET_STAT_W (tl : Nat) : Field := ⟨0x300000 + 0x400 * tl, 24, 4, 0⟩
def FRET_STAT_H (tl : Nat) : Field := ⟨0x300000 + 0x400 * tl, 28, 3, 0⟩
def FRET_STAT_BOTH (tl : Nat) : Field := ⟨0x300000 + 0x400 * tl, 31, 1, 0⟩
def FRET_STAT_ROTPOS (tl : Nat) : Field := ⟨0x300000 + 0x400 * tl, 32, 3, 0⟩
def FRET_STAT_ROTV (tl : Nat) : Field := ⟨0x300000 + 0x400 * tl, 35, 1, 0⟩
/-! 07_frets.md, 0x008 FRET_KERN0. -/
def FRET_KERN0_F0 (tl : Nat) : Field := ⟨0x300008 + 0x400 * tl, 0, 16, 0⟩
def FRET_KERN0_F1 (tl : Nat) : Field := ⟨0x300008 + 0x400 * tl, 16, 16, 0⟩
def FRET_KERN0_F2 (tl : Nat) : Field := ⟨0x300008 + 0x400 * tl, 32, 16, 0⟩
def FRET_KERN0_F3 (tl : Nat) : Field := ⟨0x300008 + 0x400 * tl, 48, 16, 0⟩
/-! 07_frets.md, 0x010 FRET_KERN1. -/
def FRET_KERN1_F4 (tl : Nat) : Field := ⟨0x300010 + 0x400 * tl, 0, 16, 0⟩
def FRET_KERN1_F5 (tl : Nat) : Field := ⟨0x300010 + 0x400 * tl, 16, 16, 0⟩
def FRET_KERN1_F6 (tl : Nat) : Field := ⟨0x300010 + 0x400 * tl, 32, 16, 0⟩
def FRET_KERN1_F7 (tl : Nat) : Field := ⟨0x300010 + 0x400 * tl, 48, 16, 0⟩
/-! 07_frets.md, 0x018 FRET_COUNT. -/
def FRET_COUNT_SWITCHES (tl : Nat) : Field := ⟨0x300018 + 0x400 * tl, 0, 32, 0⟩
def FRET_COUNT_PREFETCHES (tl : Nat) : Field := ⟨0x300018 + 0x400 * tl, 32, 16, 0⟩
def FRET_COUNT_STRANDS (tl : Nat) : Field := ⟨0x300018 + 0x400 * tl, 48, 16, 0⟩
/-! 07_frets.md, 0x020 FRET_QTIME. -/
def FRET_QTIME_LAST (tl : Nat) : Field := ⟨0x300020 + 0x400 * tl, 0, 20, 0⟩
def FRET_QTIME_MAX (tl : Nat) : Field := ⟨0x300020 + 0x400 * tl, 20, 20, 0⟩
def FRET_QTIME_CLR (tl : Nat) : Field := ⟨0x300020 + 0x400 * tl, 40, 1, 0⟩
/-! 07_frets.md, 0x028 FRET_DRAIN. -/
def FRET_DRAIN_DEPTH (tl : Nat) : Field := ⟨0x300028 + 0x400 * tl, 0, 12, 0⟩
def FRET_DRAIN_LIMIT (tl : Nat) : Field := ⟨0x300028 + 0x400 * tl, 16, 16, 0x64⟩
/-! 07_frets.md, 0x030 FRET_ERR. -/
def FRET_ERR_STRAND (tl : Nat) : Field := ⟨0x300030 + 0x400 * tl, 0, 1, 0⟩
def FRET_ERR_STATEBAD (tl : Nat) : Field := ⟨0x300030 + 0x400 * tl, 1, 1, 0⟩
def FRET_ERR_EFRET (tl : Nat) : Field := ⟨0x300030 + 0x400 * tl, 8, 3, 0⟩
/-! 08_block_memory_and_ports.md, 0x038 FABRIC_TILE_SPEED. -/
def FABRIC_TILE_SPEED_RATE (tl : Nat) : Field := ⟨0x300038 + 0x400 * tl, 0, 16, 0⟩
def FABRIC_TILE_SPEED_PCT (tl : Nat) : Field := ⟨0x300038 + 0x400 * tl, 16, 12, 0⟩
def FABRIC_TILE_SPEED_SLOW (tl : Nat) : Field := ⟨0x300038 + 0x400 * tl, 28, 1, 0⟩
/-! 08_block_memory_and_ports.md, 0x040 FABRIC_BMEM_OWN. -/
def FABRIC_BMEM_OWN_OWN (tl m : Nat) : Field := ⟨0x300040 + 0x400 * tl, 4 * m, 4, 0⟩
/-! 08_block_memory_and_ports.md, 0x048 FABRIC_BMEM_CTL. -/
def FABRIC_BMEM_CTL_BYPASS (tl : Nat) : Field := ⟨0x300048 + 0x400 * tl, 0, 16, 0⟩
def FABRIC_BMEM_CTL_DBG_RAW (tl : Nat) : Field := ⟨0x300048 + 0x400 * tl, 16, 1, 0⟩
/-! 08_block_memory_and_ports.md, 0x050 FABRIC_BMEM_ERR. -/
def FABRIC_BMEM_ERR_CORR (tl : Nat) : Field := ⟨0x300050 + 0x400 * tl, 0, 16, 0⟩
def FABRIC_BMEM_ERR_UNCORR (tl : Nat) : Field := ⟨0x300050 + 0x400 * tl, 16, 16, 0⟩
def FABRIC_BMEM_ERR_MEM (tl : Nat) : Field := ⟨0x300050 + 0x400 * tl, 32, 4, 0⟩
def FABRIC_BMEM_ERR_WORD (tl : Nat) : Field := ⟨0x300050 + 0x400 * tl, 36, 10, 0⟩
def FABRIC_BMEM_ERR_CCOUNT (tl : Nat) : Field := ⟨0x300050 + 0x400 * tl, 48, 16, 0⟩
/-! 08_block_memory_and_ports.md, 0x058 FABRIC_PORTAL_STAT. -/
def FABRIC_PORTAL_STAT_INFILL (tl : Nat) : Field := ⟨0x300058 + 0x400 * tl, 0, 24, 0⟩
def FABRIC_PORTAL_STAT_OUTFILL (tl : Nat) : Field := ⟨0x300058 + 0x400 * tl, 24, 20, 0⟩
def FABRIC_PORTAL_STAT_OUTST (tl : Nat) : Field := ⟨0x300058 + 0x400 * tl, 44, 7, 0⟩
def FABRIC_PORTAL_STAT_EN (tl : Nat) : Field := ⟨0x300058 + 0x400 * tl, 51, 1, 0⟩
/-! 08_block_memory_and_ports.md, 0x060 FABRIC_PORTAL_ERR. -/
def FABRIC_PORTAL_ERR_DESC (tl : Nat) : Field := ⟨0x300060 + 0x400 * tl, 0, 1, 0⟩
def FABRIC_PORTAL_ERR_UNDELIV (tl : Nat) : Field := ⟨0x300060 + 0x400 * tl, 1, 1, 0⟩
def FABRIC_PORTAL_ERR_RERR (tl : Nat) : Field := ⟨0x300060 + 0x400 * tl, 2, 1, 0⟩
def FABRIC_PORTAL_ERR_COUNT (tl : Nat) : Field := ⟨0x300060 + 0x400 * tl, 32, 16, 0⟩
/-! 08_block_memory_and_ports.md, 0x068 FABRIC_ROWP_STAT. -/
def FABRIC_ROWP_STAT_EN (tl : Nat) : Field := ⟨0x300068 + 0x400 * tl, 0, 1, 0⟩
def FABRIC_ROWP_STAT_KDRIVE (tl : Nat) : Field := ⟨0x300068 + 0x400 * tl, 1, 1, 0⟩
def FABRIC_ROWP_STAT_FULL (tl : Nat) : Field := ⟨0x300068 + 0x400 * tl, 2, 1, 0⟩
def FABRIC_ROWP_STAT_DIR (tl : Nat) : Field := ⟨0x300068 + 0x400 * tl, 3, 1, 0⟩
def FABRIC_ROWP_STAT_SLICE (tl : Nat) : Field := ⟨0x300068 + 0x400 * tl, 4, 3, 0⟩
def FABRIC_ROWP_STAT_POISON (tl : Nat) : Field := ⟨0x300068 + 0x400 * tl, 7, 1, 0⟩
def FABRIC_ROWP_STAT_UNCORR (tl : Nat) : Field := ⟨0x300068 + 0x400 * tl, 8, 1, 0⟩
def FABRIC_ROWP_STAT_ROWS (tl : Nat) : Field := ⟨0x300068 + 0x400 * tl, 32, 32, 0⟩
/-! 08_block_memory_and_ports.md, 0x080 + 8*k FABRIC_PARAMk, k = 0 to 15. -/
def FABRIC_PARAM_VALUE (tl k : Nat) : Field := ⟨0x300080 + 0x400 * tl + 0x8 * k, 0, 64, 0⟩
/-! 09_self_timed_behaviour.md, 0x10 CFG_METER. -/
def CFG_METER_METER_A : Field := ⟨0x380080, 0, 1, 0⟩
def CFG_METER_METER_B : Field := ⟨0x380080, 1, 1, 0⟩
def CFG_METER_NA : Field := ⟨0x380080, 2, 7, 0⟩
def CFG_METER_NB : Field := ⟨0x380080, 9, 7, 0⟩
/-! 09_self_timed_behaviour.md, 0x11 CFG_METER_STAT. -/
def CFG_METER_STAT_LATE_A : Field := ⟨0x380088, 0, 31, 0⟩
def CFG_METER_STAT_CLRA : Field := ⟨0x380088, 31, 1, 0⟩
def CFG_METER_STAT_LATE_B : Field := ⟨0x380088, 32, 31, 0⟩
def CFG_METER_STAT_CLRB : Field := ⟨0x380088, 63, 1, 0⟩
/-! 10_store_die.md, 0x000 STORE_CTL. -/
def STORE_CTL_PATROL : Field := ⟨0x200000, 0, 1, 1⟩
def STORE_CTL_PATROL_INT : Field := ⟨0x200000, 4, 4, 4⟩
/-! 10_store_die.md, 0x008 STORE_STAT. -/
def STORE_STAT_CCOUNT : Field := ⟨0x200008, 0, 16, 0⟩
def STORE_STAT_UCOUNT : Field := ⟨0x200008, 16, 16, 0⟩
def STORE_STAT_PCOUNT : Field := ⟨0x200008, 32, 16, 0⟩
def STORE_STAT_RESETTING : Field := ⟨0x200008, 48, 1, 0⟩
def STORE_STAT_CORR : Field := ⟨0x200008, 49, 1, 0⟩
def STORE_STAT_UNCORR : Field := ⟨0x200008, 50, 1, 0⟩
def STORE_STAT_POISONRD : Field := ⟨0x200008, 51, 1, 0⟩
/-! 10_store_die.md, 0x010 STORE_ERR_ADDR. -/
def STORE_ERR_ADDR_BANK : Field := ⟨0x200010, 0, 10, 0⟩
def STORE_ERR_ADDR_ROW : Field := ⟨0x200010, 10, 9, 0⟩
def STORE_ERR_ADDR_WORD : Field := ⟨0x200010, 19, 4, 0⟩
def STORE_ERR_ADDR_SYMBOL : Field := ⟨0x200010, 23, 6, 0x3F⟩
def STORE_ERR_ADDR_KIND : Field := ⟨0x200010, 29, 2, 0⟩
/-! 10_store_die.md, 0x018 BANK_OWN_ERR. -/
def BANK_OWN_ERR_BANK : Field := ⟨0x200018, 0, 10, 0⟩
def BANK_OWN_ERR_WRITER : Field := ⟨0x200018, 10, 16, 0⟩
def BANK_OWN_ERR_CODE : Field := ⟨0x200018, 26, 16, 0⟩
def BANK_OWN_ERR_REJ : Field := ⟨0x200018, 42, 1, 0⟩
def BANK_OWN_ERR_REASON : Field := ⟨0x200018, 43, 3, 0⟩
def BANK_OWN_ERR_COUNT : Field := ⟨0x200018, 46, 16, 0⟩
/-! 10_store_die.md, 0x020 STORE_MOVE. -/
def STORE_MOVE_MOVES : Field := ⟨0x200020, 0, 32, 0⟩
def STORE_MOVE_THROTTLED : Field := ⟨0x200020, 32, 32, 0⟩
/-! 10_store_die.md, 0x028 STORE_FLIP_CTL. -/
def STORE_FLIP_CTL_BANK : Field := ⟨0x200028, 0, 10, 0⟩
def STORE_FLIP_CTL_ARM : Field := ⟨0x200028, 10, 1, 0⟩
/-! 10_store_die.md, 0x030 + 8*k STORE_FLIPMASKk, k = 0 to 4. -/
def STORE_FLIPMASK_MASK (k : Nat) : Field := ⟨0x200030 + 0x8 * k, 0, 64, 0⟩
/-! 10_store_die.md, 0x1000 + 8*n BANK_OWNn, n = 0 to 1,023. -/
def BANK_OWN_OWNER (n : Nat) : Field := ⟨0x201000 + 0x8 * n, 0, 16, 3⟩
def BANK_OWN_PSTATE (n : Nat) : Field := ⟨0x201000 + 0x8 * n, 16, 2, 0⟩
def BANK_OWN_POOL (n : Nat) : Field := ⟨0x201000 + 0x8 * n, 18, 1, 0⟩
/-! 11_tally_engine.md, 0x000 + 0x40*t TALLY_TBLt_CFG. -/
def TALLY_TBL_CFG_VALID (t : Nat) : Field := ⟨0x280000 + 0x40 * t, 0, 1, 0⟩
def TALLY_TBL_CFG_KBITS (t : Nat) : Field := ⟨0x280000 + 0x40 * t, 1, 6, 0⟩
def TALLY_TBL_CFG_E (t : Nat) : Field := ⟨0x280000 + 0x40 * t, 7, 5, 0⟩
def TALLY_TBL_CFG_COMMIT (t : Nat) : Field := ⟨0x280000 + 0x40 * t, 12, 1, 0⟩
def TALLY_TBL_CFG_MIRROR (t : Nat) : Field := ⟨0x280000 + 0x40 * t, 13, 1, 0⟩
def TALLY_TBL_CFG_RELEASE (t : Nat) : Field := ⟨0x280000 + 0x40 * t, 14, 1, 0⟩
/-! 11_tally_engine.md, 0x008 + 0x40*t TALLY_TBLt_COLS. -/
def TALLY_TBL_COLS_MASK (t : Nat) : Field := ⟨0x280008 + 0x40 * t, 0, 64, 0⟩
/-! 11_tally_engine.md, 0x010 + 0x40*t TALLY_TBLt_USED. -/
def TALLY_TBL_USED_PRIMARY (t : Nat) : Field := ⟨0x280010 + 0x40 * t, 0, 25, 0⟩
def TALLY_TBL_USED_SPILL (t : Nat) : Field := ⟨0x280010 + 0x40 * t, 25, 17, 0⟩
def TALLY_TBL_USED_SATS (t : Nat) : Field := ⟨0x280010 + 0x40 * t, 42, 22, 0⟩
/-! 11_tally_engine.md, 0x018 + 0x40*t TALLY_TBLt_LOST. -/
def TALLY_TBL_LOST_COUNT (t : Nat) : Field := ⟨0x280018 + 0x40 * t, 0, 32, 0⟩
def TALLY_TBL_LOST_OVERFLOW_LOST (t : Nat) : Field := ⟨0x280018 + 0x40 * t, 32, 1, 0⟩
/-! 11_tally_engine.md, 0x200 TALLY_MAP_Q. -/
def TALLY_MAP_Q_TBL : Field := ⟨0x280200, 0, 3, 0⟩
def TALLY_MAP_Q_COL : Field := ⟨0x280200, 3, 6, 0⟩
def TALLY_MAP_Q_SPILLR : Field := ⟨0x280200, 9, 1, 0⟩
def TALLY_MAP_Q_ROW : Field := ⟨0x280200, 10, 13, 0⟩
/-! 11_tally_engine.md, 0x208 TALLY_MAP_R. -/
def TALLY_MAP_R_BANK : Field := ⟨0x280208, 0, 10, 0⟩
def TALLY_MAP_R_BROW : Field := ⟨0x280208, 10, 9, 0⟩
def TALLY_MAP_R_OK : Field := ⟨0x280208, 19, 1, 0⟩
/-! 11_tally_engine.md, 0x210 TALLY_STAT. -/
def TALLY_STAT_PERR : Field := ⟨0x280210, 0, 1, 0⟩
def TALLY_STAT_PCOL : Field := ⟨0x280210, 1, 6, 0⟩
def TALLY_STAT_PCOUNT : Field := ⟨0x280210, 32, 32, 0⟩
/-! 12_torus_network.md, 0x000 NOC_CTL. -/
def NOC_CTL_PRI_BURST : Field := ⟨0xC0000, 0, 4, 4⟩
def NOC_CTL_HOLD : Field := ⟨0xC0000, 8, 8, 0xA⟩
/-! 12_torus_network.md, 0x008 NOC_STAT. -/
def NOC_STAT_UNREACH : Field := ⟨0xC0008, 0, 1, 0⟩
def NOC_STAT_BADDEST : Field := ⟨0xC0008, 1, 1, 0⟩
def NOC_STAT_ROUTECHG : Field := ⟨0xC0008, 2, 1, 0⟩
def NOC_STAT_SCOL : Field := ⟨0xC0008, 8, 6, 0⟩
def NOC_STAT_DCOL : Field := ⟨0xC0008, 14, 6, 0⟩
def NOC_STAT_DEP : Field := ⟨0xC0008, 20, 4, 0⟩
def NOC_STAT_COUNT : Field := ⟨0xC0008, 32, 16, 0⟩
/-! 12_torus_network.md, 0x100 + 8*n NOC_LINKn, n = 0 to 127. -/
def NOC_LINK_RETIRED (n : Nat) : Field := ⟨0xC0100 + 0x8 * n, 0, 1, 0⟩
def NOC_LINK_CORR (n : Nat) : Field := ⟨0xC0100 + 0x8 * n, 8, 24, 0⟩
def NOC_LINK_RETRY (n : Nat) : Field := ⟨0xC0100 + 0x8 * n, 32, 24, 0⟩
/-! 13_images_and_loading.md, 0x00 CFG_IDCODE. -/
def CFG_IDCODE_PART : Field := ⟨0x380000, 0, 16, 0x9240⟩
def CFG_IDCODE_REV : Field := ⟨0x380000, 16, 4, 1⟩
/-! 13_images_and_loading.md, 0x01 CFG_CTL. -/
def CFG_CTL_OP : Field := ⟨0x380008, 0, 4, 0⟩
def CFG_CTL_ARG : Field := ⟨0x380008, 16, 16, 0⟩
def CFG_CTL_LEN : Field := ⟨0x380008, 32, 32, 0⟩
/-! 13_images_and_loading.md, 0x02 CFG_FRET. -/
def CFG_FRET_FRET : Field := ⟨0x380010, 0, 3, 0⟩
def CFG_FRET_V : Field := ⟨0x380010, 3, 1, 0⟩
def CFG_FRET_HANDLE : Field := ⟨0x380010, 16, 16, 0⟩
/-! 13_images_and_loading.md, 0x03 CFG_REGION_LO. -/
def CFG_REGION_LO_TILE : Field := ⟨0x380018, 0, 8, 0⟩
/-! 13_images_and_loading.md, 0x04 CFG_REGION_HI. -/
def CFG_REGION_HI_TILE : Field := ⟨0x380020, 0, 8, 0⟩
/-! 13_images_and_loading.md, 0x05 CFG_STAT. -/
def CFG_STAT_DONE : Field := ⟨0x380028, 0, 1, 0⟩
def CFG_STAT_BUSY : Field := ⟨0x380028, 1, 1, 0⟩
def CFG_STAT_ERR : Field := ⟨0x380028, 2, 1, 0⟩
def CFG_STAT_PABORT : Field := ⟨0x380028, 3, 1, 0⟩
def CFG_STAT_ECODE : Field := ⟨0x380028, 4, 4, 0⟩
def CFG_STAT_EADDR : Field := ⟨0x380028, 8, 16, 0⟩
def CFG_STAT_MANIFEST : Field := ⟨0x380028, 24, 1, 0⟩
def CFG_STAT_CHAIN : Field := ⟨0x380028, 25, 1, 0⟩
def CFG_STAT_POS : Field := ⟨0x380028, 26, 4, 0⟩
def CFG_STAT_REFUSED : Field := ⟨0x380028, 30, 1, 0⟩
def CFG_STAT_SKIP : Field := ⟨0x380028, 32, 32, 0⟩
/-! 13_images_and_loading.md, 0x06 CFG_CRC. -/
def CFG_CRC_LAST : Field := ⟨0x380030, 0, 32, 0⟩
/-! 13_images_and_loading.md, 0x07 CFG_SRC. -/
def CFG_SRC_ADDR : Field := ⟨0x380038, 6, 42, 0⟩
/-! 13_images_and_loading.md, 0x08 CFG_NVSTAT. -/
def CFG_NVSTAT_WEAR : Field := ⟨0x380040, 0, 14, 0⟩
def CFG_NVSTAT_WORN : Field := ⟨0x380040, 14, 1, 0⟩
/-! 13_images_and_loading.md, 0x09 CFG_DDADDR. -/
def CFG_DDADDR_OFS : Field := ⟨0x380048, 3, 15, 0⟩
/-! 13_images_and_loading.md, 0x0A CFG_DDDATA. -/
def CFG_DDDATA_DATA : Field := ⟨0x380050, 0, 64, 0⟩
/-! 14_lanes.md, 0x000 LANE_CTL. -/
def LANE_CTL_TXPOL (L : Nat) : Field := ⟨0x100000 + 0x1000 * L, 0, 1, 0⟩
def LANE_CTL_LOOP (L : Nat) : Field := ⟨0x100000 + 0x1000 * L, 1, 1, 0⟩
def LANE_CTL_SWING (L : Nat) : Field := ⟨0x100000 + 0x1000 * L, 2, 4, 8⟩
def LANE_CTL_DEEMPH (L : Nat) : Field := ⟨0x100000 + 0x1000 * L, 6, 4, 3⟩
/-! 14_lanes.md, 0x008 LANE_STAT. -/
def LANE_STAT_PSTATE (L : Nat) : Field := ⟨0x100008 + 0x1000 * L, 0, 2, 0⟩
def LANE_STAT_RATE (L : Nat) : Field := ⟨0x100008 + 0x1000 * L, 2, 3, 0⟩
def LANE_STAT_SYNC (L : Nat) : Field := ⟨0x100008 + 0x1000 * L, 5, 1, 0⟩
def LANE_STAT_RXINV (L : Nat) : Field := ⟨0x100008 + 0x1000 * L, 6, 1, 0⟩
def LANE_STAT_GROUPED (L : Nat) : Field := ⟨0x100008 + 0x1000 * L, 7, 1, 0⟩
def LANE_STAT_LANENUM (L : Nat) : Field := ⟨0x100008 + 0x1000 * L, 8, 4, 0⟩
def LANE_STAT_WIDTH (L : Nat) : Field := ⟨0x100008 + 0x1000 * L, 12, 3, 0⟩
def LANE_STAT_FIRST (L : Nat) : Field := ⟨0x100008 + 0x1000 * L, 15, 7, 0⟩
def LANE_STAT_RETIRED (L : Nat) : Field := ⟨0x100008 + 0x1000 * L, 22, 1, 0⟩
/-! 14_lanes.md, 0x010 LANE_ERR. -/
def LANE_ERR_CODE (L : Nat) : Field := ⟨0x100010 + 0x1000 * L, 0, 1, 0⟩
def LANE_ERR_DISP (L : Nat) : Field := ⟨0x100010 + 0x1000 * L, 1, 1, 0⟩
def LANE_ERR_SYNCLOST (L : Nat) : Field := ⟨0x100010 + 0x1000 * L, 2, 1, 0⟩
def LANE_ERR_COUNT (L : Nat) : Field := ⟨0x100010 + 0x1000 * L, 32, 16, 0⟩
/-! 14_lanes.md, 0x018 LANE_PRBS. -/
def LANE_PRBS_ERRORS (L : Nat) : Field := ⟨0x100018 + 0x1000 * L, 0, 32, 0⟩
def LANE_PRBS_PATTERN (L : Nat) : Field := ⟨0x100018 + 0x1000 * L, 32, 2, 0⟩
def LANE_PRBS_RUN (L : Nat) : Field := ⟨0x100018 + 0x1000 * L, 34, 1, 0⟩
def LANE_PRBS_LOCK (L : Nat) : Field := ⟨0x100018 + 0x1000 * L, 35, 1, 0⟩
/-! 14_lanes.md, 0x100 LLP_GRP_CFG. -/
def LLP_GRP_CFG_RTO (L : Nat) : Field := ⟨0x100100 + 0x1000 * L, 0, 8, 0xA⟩
def LLP_GRP_CFG_DWELL (L : Nat) : Field := ⟨0x100100 + 0x1000 * L, 8, 8, 0x19⟩
def LLP_GRP_CFG_DWELL_ERR (L : Nat) : Field := ⟨0x100100 + 0x1000 * L, 16, 16, 0⟩
/-! 14_lanes.md, 0x108 LLP_GRP_STAT. -/
def LLP_GRP_STAT_STATE (L : Nat) : Field := ⟨0x100108 + 0x1000 * L, 0, 3, 0⟩
def LLP_GRP_STAT_RATE (L : Nat) : Field := ⟨0x100108 + 0x1000 * L, 3, 3, 0⟩
def LLP_GRP_STAT_WIDTH (L : Nat) : Field := ⟨0x100108 + 0x1000 * L, 6, 3, 0⟩
def LLP_GRP_STAT_KERN (L : Nat) : Field := ⟨0x100108 + 0x1000 * L, 9, 16, 0⟩
def LLP_GRP_STAT_SLOT (L : Nat) : Field := ⟨0x100108 + 0x1000 * L, 25, 4, 0⟩
def LLP_GRP_STAT_TXSEQ (L : Nat) : Field := ⟨0x100108 + 0x1000 * L, 29, 16, 0⟩
def LLP_GRP_STAT_RXSEQ (L : Nat) : Field := ⟨0x100108 + 0x1000 * L, 45, 16, 0⟩
/-! 14_lanes.md, 0x110 LLP_GRP_CNT. -/
def LLP_GRP_CNT_TXFRAMES (L : Nat) : Field := ⟨0x100110 + 0x1000 * L, 0, 32, 0⟩
def LLP_GRP_CNT_RXFRAMES (L : Nat) : Field := ⟨0x100110 + 0x1000 * L, 32, 32, 0⟩
/-! 14_lanes.md, 0x118 LLP_GRP_ERR. -/
def LLP_GRP_ERR_CRC (L : Nat) : Field := ⟨0x100118 + 0x1000 * L, 0, 1, 0⟩
def LLP_GRP_ERR_NAKRX (L : Nat) : Field := ⟨0x100118 + 0x1000 * L, 1, 1, 0⟩
def LLP_GRP_ERR_REPLAY (L : Nat) : Field := ⟨0x100118 + 0x1000 * L, 2, 1, 0⟩
def LLP_GRP_ERR_RETRAIN (L : Nat) : Field := ⟨0x100118 + 0x1000 * L, 3, 1, 0⟩
def LLP_GRP_ERR_BADDESC (L : Nat) : Field := ⟨0x100118 + 0x1000 * L, 4, 1, 0⟩
def LLP_GRP_ERR_DROPPED (L : Nat) : Field := ⟨0x100118 + 0x1000 * L, 5, 1, 0⟩
def LLP_GRP_ERR_COUNT (L : Nat) : Field := ⟨0x100118 + 0x1000 * L, 16, 16, 0⟩
/-! 15_host_ports_and_pegs.md, 0x000 + 0x20*n PEGn_TAKE, n = 0 to 63. -/
def PEG_TAKE_BUSY (n : Nat) : Field := ⟨0x40000 + 0x20 * n, 0, 1, 0⟩
/-! 15_host_ports_and_pegs.md, 0x008 + 0x20*n PEGn_GIVE, n = 0 to 63. -/
def PEG_GIVE_GIVE (n : Nat) : Field := ⟨0x40008 + 0x20 * n, 0, 1, 0⟩
/-! 15_host_ports_and_pegs.md, 0x010 + 0x20*n PEGn_STAT, n = 0 to 63. -/
def PEG_STAT_HELD (n : Nat) : Field := ⟨0x40010 + 0x20 * n, 0, 1, 0⟩
def PEG_STAT_HOLDER (n : Nat) : Field := ⟨0x40010 + 0x20 * n, 1, 1, 0⟩
def PEG_STAT_ORPHAN (n : Nat) : Field := ⟨0x40010 + 0x20 * n, 2, 1, 0⟩
def PEG_STAT_OPORT (n : Nat) : Field := ⟨0x40010 + 0x20 * n, 3, 1, 0⟩
def PEG_STAT_BADGIVE (n : Nat) : Field := ⟨0x40010 + 0x20 * n, 4, 1, 0⟩
def PEG_STAT_TAKES (n : Nat) : Field := ⟨0x40010 + 0x20 * n, 16, 32, 0⟩
/-! 15_host_ports_and_pegs.md, 0x1000 + 0x100*p PORTp_CTL, p = 0 (A) or 1 (B). -/
def PORT_CTL_RDTMO (p : Nat) : Field := ⟨0x41000 + 0x100 * p, 0, 16, 0x64⟩
/-! 15_host_ports_and_pegs.md, 0x1008 + 0x100*p PORTp_STAT. -/
def PORT_STAT_LINKUP (p : Nat) : Field := ⟨0x41008 + 0x100 * p, 0, 1, 0⟩
def PORT_STAT_SPEED (p : Nat) : Field := ⟨0x41008 + 0x100 * p, 1, 2, 0⟩
def PORT_STAT_WIDTH (p : Nat) : Field := ⟨0x41008 + 0x100 * p, 3, 4, 0⟩
def PORT_STAT_BME (p : Nat) : Field := ⟨0x41008 + 0x100 * p, 7, 1, 0⟩
def PORT_STAT_DSTATE (p : Nat) : Field := ⟨0x41008 + 0x100 * p, 8, 2, 0⟩
def PORT_STAT_INRESET (p : Nat) : Field := ⟨0x41008 + 0x100 * p, 10, 1, 1⟩
def PORT_STAT_HELDREC (p : Nat) : Field := ⟨0x41008 + 0x100 * p, 16, 16, 0⟩
/-! 15_host_ports_and_pegs.md, 0x1010 + 0x100*p PORTp_ERR. -/
def PORT_ERR_CA (p : Nat) : Field := ⟨0x41010 + 0x100 * p, 0, 1, 0⟩
def PORT_ERR_UR (p : Nat) : Field := ⟨0x41010 + 0x100 * p, 1, 1, 0⟩
def PORT_ERR_EPTX (p : Nat) : Field := ⟨0x41010 + 0x100 * p, 2, 1, 0⟩
def PORT_ERR_EPRX (p : Nat) : Field := ⟨0x41010 + 0x100 * p, 3, 1, 0⟩
def PORT_ERR_RDTMO (p : Nat) : Field := ⟨0x41010 + 0x100 * p, 4, 1, 0⟩
def PORT_ERR_DEVERR (p : Nat) : Field := ⟨0x41010 + 0x100 * p, 5, 1, 0⟩
def PORT_ERR_COUNT (p : Nat) : Field := ⟨0x41010 + 0x100 * p, 16, 16, 0⟩
/-! 15_host_ports_and_pegs.md, 0x1018 + 0x100*p PORTp_EADDR. -/
def PORT_EADDR_ADDR (p : Nat) : Field := ⟨0x41018 + 0x100 * p, 0, 48, 0⟩
/-! 15_host_ports_and_pegs.md, 0x1200 QU_XFER. -/
def QU_XFER_QUEUE : Field := ⟨0x41200, 0, 6, 0⟩
def QU_XFER_TO : Field := ⟨0x41200, 6, 1, 0⟩
def QU_XFER_GO : Field := ⟨0x41200, 7, 1, 0⟩
def QU_XFER_REJ : Field := ⟨0x41200, 8, 1, 0⟩
def QU_XFER_REASON : Field := ⟨0x41200, 9, 2, 0⟩
def QU_XFER_RQUEUE : Field := ⟨0x41200, 16, 6, 0⟩
/-! 16_dma.md, 0x000 + 0x40*n DMA_CHn_SRC. -/
def DMA_CH_SRC_ADDR (n : Nat) : Field := ⟨0x80000 + 0x40 * n, 0, 48, 0⟩
/-! 16_dma.md, 0x008 + 0x40*n DMA_CHn_DST. -/
def DMA_CH_DST_ADDR (n : Nat) : Field := ⟨0x80008 + 0x40 * n, 0, 48, 0⟩
/-! 16_dma.md, 0x010 + 0x40*n DMA_CHn_CNT. -/
def DMA_CH_CNT_CNT (n : Nat) : Field := ⟨0x80010 + 0x40 * n, 0, 32, 0⟩
/-! 16_dma.md, 0x018 + 0x40*n DMA_CHn_CTL. -/
def DMA_CH_CTL_GO (n : Nat) : Field := ⟨0x80018 + 0x40 * n, 0, 1, 0⟩
def DMA_CH_CTL_EVENT (n : Nat) : Field := ⟨0x80018 + 0x40 * n, 1, 1, 0⟩
def DMA_CH_CTL_EV (n : Nat) : Field := ⟨0x80018 + 0x40 * n, 2, 8, 0⟩
def DMA_CH_CTL_SRC_WRAP (n : Nat) : Field := ⟨0x80018 + 0x40 * n, 10, 1, 0⟩
def DMA_CH_CTL_SRC_K (n : Nat) : Field := ⟨0x80018 + 0x40 * n, 11, 5, 0⟩
def DMA_CH_CTL_DST_WRAP (n : Nat) : Field := ⟨0x80018 + 0x40 * n, 16, 1, 0⟩
def DMA_CH_CTL_DST_K (n : Nat) : Field := ⟨0x80018 + 0x40 * n, 17, 5, 0⟩
def DMA_CH_CTL_KEY (n : Nat) : Field := ⟨0x80018 + 0x40 * n, 22, 6, 0⟩
/-! 16_dma.md, 0x020, 0x028, 0x030 + 0x40*n DMA_CHn_SSRC, DMA_CHn_SDST, DMA_CHn_SCNT. -/
def DMA_CH_SSRC_ADDR (n : Nat) : Field := ⟨0x80020 + 0x40 * n, 0, 48, 0⟩
def DMA_CH_SDST_ADDR (n : Nat) : Field := ⟨0x80028 + 0x40 * n, 0, 48, 0⟩
def DMA_CH_SCNT_CNT (n : Nat) : Field := ⟨0x80030 + 0x40 * n, 0, 32, 0⟩
/-! 16_dma.md, 0x038 + 0x40*n DMA_CHn_SCTL. -/
def DMA_CH_SCTL_ARM (n : Nat) : Field := ⟨0x80038 + 0x40 * n, 0, 1, 0⟩
def DMA_CH_SCTL_EVENT (n : Nat) : Field := ⟨0x80038 + 0x40 * n, 1, 1, 0⟩
def DMA_CH_SCTL_EV (n : Nat) : Field := ⟨0x80038 + 0x40 * n, 2, 8, 0⟩
def DMA_CH_SCTL_SRC_WRAP (n : Nat) : Field := ⟨0x80038 + 0x40 * n, 10, 1, 0⟩
def DMA_CH_SCTL_SRC_K (n : Nat) : Field := ⟨0x80038 + 0x40 * n, 11, 5, 0⟩
def DMA_CH_SCTL_DST_WRAP (n : Nat) : Field := ⟨0x80038 + 0x40 * n, 16, 1, 0⟩
def DMA_CH_SCTL_DST_K (n : Nat) : Field := ⟨0x80038 + 0x40 * n, 17, 5, 0⟩
def DMA_CH_SCTL_KEY (n : Nat) : Field := ⟨0x80038 + 0x40 * n, 22, 6, 0⟩
/-! 16_dma.md, 0x1000 + 0x10*n DMA_STATn. -/
def DMA_STAT_BUSY (n : Nat) : Field := ⟨0x81000 + 0x10 * n, 0, 1, 0⟩
def DMA_STAT_ARMED (n : Nat) : Field := ⟨0x81000 + 0x10 * n, 1, 1, 0⟩
def DMA_STAT_ERR (n : Nat) : Field := ⟨0x81000 + 0x10 * n, 2, 1, 0⟩
def DMA_STAT_CFGERR (n : Nat) : Field := ⟨0x81000 + 0x10 * n, 3, 1, 0⟩
def DMA_STAT_EKIND (n : Nat) : Field := ⟨0x81000 + 0x10 * n, 4, 2, 0⟩
def DMA_STAT_SIDE (n : Nat) : Field := ⟨0x81000 + 0x10 * n, 6, 1, 0⟩
def DMA_STAT_HANDOVERS (n : Nat) : Field := ⟨0x81000 + 0x10 * n, 16, 32, 0⟩
/-! 16_dma.md, 0x1008 + 0x10*n DMA_EADDRn. -/
def DMA_EADDR_ADDR (n : Nat) : Field := ⟨0x81008 + 0x10 * n, 0, 48, 0⟩
/-! 16_dma.md, 0x2000 DMA_ENG. -/
def DMA_ENG_SLOTS : Field := ⟨0x82000, 0, 11, 0⟩
def DMA_ENG_RDOUT : Field := ⟨0x82000, 11, 11, 0⟩
def DMA_ENG_BUSYCH : Field := ⟨0x82000, 22, 7, 0⟩
/-! 17_twin_operation.md, 0x000 TWIN_CTL. -/
def TWIN_CTL_EN : Field := ⟨0x400000, 0, 1, 1⟩
def TWIN_CTL_KEYSLOT : Field := ⟨0x400000, 1, 6, 0⟩
def TWIN_CTL_AUTOJOIN : Field := ⟨0x400000, 7, 1, 1⟩
def TWIN_CTL_WARM_LIMIT : Field := ⟨0x400000, 8, 8, 0x32⟩
def TWIN_CTL_VEC : Field := ⟨0x400000, 16, 6, 0⟩
def TWIN_CTL_SWAP : Field := ⟨0x400000, 22, 1, 0⟩
def TWIN_CTL_FORCE : Field := ⟨0x400000, 23, 1, 0⟩
def TWIN_CTL_UNFENCE : Field := ⟨0x400000, 24, 1, 0⟩
/-! 17_twin_operation.md, 0x008 TWIN_STAT. -/
def TWIN_STAT_STRAP : Field := ⟨0x400008, 0, 1, 0⟩
def TWIN_STAT_ROLE : Field := ⟨0x400008, 1, 1, 0⟩
def TWIN_STAT_STATE : Field := ⟨0x400008, 2, 3, 0⟩
def TWIN_STAT_CAPOUP : Field := ⟨0x400008, 5, 1, 0⟩
def TWIN_STAT_HALF : Field := ⟨0x400008, 6, 1, 0⟩
def TWIN_STAT_PIN_SILENT : Field := ⟨0x400008, 7, 1, 0⟩
def TWIN_STAT_PLACEDIFF : Field := ⟨0x400008, 8, 1, 0⟩
def TWIN_STAT_COLD : Field := ⟨0x400008, 9, 1, 0⟩
def TWIN_STAT_STANDBY_DOWN : Field := ⟨0x400008, 10, 1, 0⟩
def TWIN_STAT_TBLOCK : Field := ⟨0x400008, 11, 1, 0⟩
/-! 17_twin_operation.md, 0x010 TWIN_ERR. -/
def TWIN_ERR_ROLECONF : Field := ⟨0x400010, 0, 1, 0⟩
def TWIN_ERR_KEYBAD : Field := ⟨0x400010, 1, 1, 0⟩
def TWIN_ERR_TAGFAIL : Field := ⟨0x400010, 2, 1, 0⟩
def TWIN_ERR_CTREND : Field := ⟨0x400010, 3, 1, 0⟩
def TWIN_ERR_TAKEOVER : Field := ⟨0x400010, 4, 1, 0⟩
def TWIN_ERR_DMALOST : Field := ⟨0x400010, 5, 1, 0⟩
def TWIN_ERR_BADCTL : Field := ⟨0x400010, 6, 1, 0⟩
def TWIN_ERR_SHADOWWR : Field := ⟨0x400010, 7, 1, 0⟩
def TWIN_ERR_COUNT : Field := ⟨0x400010, 32, 16, 0⟩
/-! 17_twin_operation.md, 0x018 TWIN_LAG. -/
def TWIN_LAG_JOURNAL : Field := ⟨0x400018, 0, 16, 0⟩
def TWIN_LAG_COMMITS : Field := ⟨0x400018, 16, 16, 0⟩
def TWIN_LAG_WRITES : Field := ⟨0x400018, 32, 13, 0⟩
/-! 17_twin_operation.md, 0x020 TWIN_TAKEOVER. -/
def TWIN_TAKEOVER_REPLAY : Field := ⟨0x400020, 0, 16, 0⟩
def TWIN_TAKEOVER_TOTAL : Field := ⟨0x400020, 16, 16, 0⟩
def TWIN_TAKEOVER_RERUN : Field := ⟨0x400020, 32, 16, 0⟩
/-! 17_twin_operation.md, 0x028 TWIN_TBOFS. -/
def TWIN_TBOFS_OFS : Field := ⟨0x400028, 0, 32, 0⟩
/-! 17_twin_operation.md, 0x030 TWIN_CTR. -/
def TWIN_CTR_TX : Field := ⟨0x400030, 0, 32, 0⟩
def TWIN_CTR_RX : Field := ⟨0x400030, 32, 32, 0⟩
/-! 17_twin_operation.md, 0x100 + 8*n TWIN_BANKMIRn, n = 0 to 15. -/
def TWIN_BANKMIR_MIR (n : Nat) : Field := ⟨0x400100 + 0x8 * n, 0, 64, 0⟩
/-! 18_errors_scrubbing_retirement.md, 0x000 ERR_CTL. -/
def ERR_CTL_EN : Field := ⟨0x3C0000, 0, 1, 0⟩
def ERR_CTL_IRQ_OCHRE : Field := ⟨0x3C0000, 1, 1, 0⟩
def ERR_CTL_IRQ_CRIMSON : Field := ⟨0x3C0000, 2, 1, 0⟩
def ERR_CTL_VEC_A : Field := ⟨0x3C0000, 8, 6, 0⟩
def ERR_CTL_VEC_B : Field := ⟨0x3C0000, 16, 6, 0⟩
/-! 18_errors_scrubbing_retirement.md, 0x008 ERR_RING. -/
def ERR_RING_BASE : Field := ⟨0x3C0008, 5, 43, 0⟩
/-! 18_errors_scrubbing_retirement.md, 0x010 ERR_HEAD. -/
def ERR_HEAD_HEAD : Field := ⟨0x3C0010, 0, 32, 0⟩
/-! 18_errors_scrubbing_retirement.md, 0x018 ERR_TAIL. -/
def ERR_TAIL_TAIL : Field := ⟨0x3C0018, 0, 32, 0⟩
/-! 18_errors_scrubbing_retirement.md, 0x020 ERR_STAT. -/
def ERR_STAT_DUALRAIL : Field := ⟨0x3C0020, 0, 1, 0⟩
def ERR_STAT_STRAYDONE : Field := ⟨0x3C0020, 1, 1, 0⟩
def ERR_STAT_RBNEXT : Field := ⟨0x3C0020, 2, 1, 0⟩
def ERR_STAT_RBACTIVE : Field := ⟨0x3C0020, 3, 1, 0⟩
def ERR_STAT_PLANEFIX : Field := ⟨0x3C0020, 4, 1, 0⟩
def ERR_STAT_PLANELOST : Field := ⟨0x3C0020, 5, 1, 0⟩
def ERR_STAT_TRIFIX : Field := ⟨0x3C0020, 6, 1, 0⟩
def ERR_STAT_TRILOST : Field := ⟨0x3C0020, 7, 1, 0⟩
def ERR_STAT_SPARED : Field := ⟨0x3C0020, 8, 1, 0⟩
def ERR_STAT_RESTORED : Field := ⟨0x3C0020, 9, 1, 0⟩
def ERR_STAT_EXHAUSTED : Field := ⟨0x3C0020, 10, 1, 0⟩
def ERR_STAT_RETIRED : Field := ⟨0x3C0020, 11, 1, 0⟩
def ERR_STAT_SCRUBVOTE : Field := ⟨0x3C0020, 12, 1, 0⟩
def ERR_STAT_DROPPED : Field := ⟨0x3C0020, 13, 1, 0⟩
def ERR_STAT_HEADERR : Field := ⟨0x3C0020, 14, 1, 0⟩
def ERR_STAT_RETERR : Field := ⟨0x3C0020, 15, 1, 0⟩
/-! 18_errors_scrubbing_retirement.md, 0x028 ERR_ALARM. -/
def ERR_ALARM_PEND : Field := ⟨0x3C0028, 0, 1, 0⟩
def ERR_ALARM_HOLD : Field := ⟨0x3C0028, 1, 1, 0⟩
def ERR_ALARM_CCOUNT : Field := ⟨0x3C0028, 32, 16, 0⟩
/-! 18_errors_scrubbing_retirement.md, 0x030 ERR_DROP. -/
def ERR_DROP_SLATE : Field := ⟨0x3C0030, 0, 16, 0⟩
def ERR_DROP_OCHRE : Field := ⟨0x3C0030, 16, 16, 0⟩
def ERR_DROP_CRIMSON : Field := ⟨0x3C0030, 32, 16, 0⟩
def ERR_DROP_CLR : Field := ⟨0x3C0030, 48, 1, 0⟩
/-! 18_errors_scrubbing_retirement.md, 0x040 + 8*k ERR_BKT_CFGk, k = 0 tile, 1 bank, 2 lane, 3 link, 4 string. -/
def ERR_BKT_CFG_THRESH (k : Nat) : Field := ⟨0x3C0040 + 0x8 * k, 0, 8, 4⟩
def ERR_BKT_CFG_WINDOW (k : Nat) : Field := ⟨0x3C0040 + 0x8 * k, 8, 16, 0x3C⟩
/-! 18_errors_scrubbing_retirement.md, 0x068 ERR_BKT_Q. -/
def ERR_BKT_Q_KIND : Field := ⟨0x3C0068, 0, 4, 0⟩
def ERR_BKT_Q_UID : Field := ⟨0x3C0068, 8, 24, 0⟩
def ERR_BKT_Q_CLR : Field := ⟨0x3C0068, 32, 1, 0⟩
/-! 18_errors_scrubbing_retirement.md, 0x070 ERR_BKT_R. -/
def ERR_BKT_R_COUNT : Field := ⟨0x3C0070, 0, 8, 0⟩
def ERR_BKT_R_RETIRED : Field := ⟨0x3C0070, 8, 1, 0⟩
def ERR_BKT_R_VALID : Field := ⟨0x3C0070, 9, 1, 0⟩
def ERR_BKT_R_SPARES : Field := ⟨0x3C0070, 10, 3, 0⟩
def ERR_BKT_R_EXHAUSTED : Field := ⟨0x3C0070, 13, 1, 0⟩
/-! 18_errors_scrubbing_retirement.md, 0x078 ERR_RETIRE. -/
def ERR_RETIRE_KIND : Field := ⟨0x3C0078, 0, 4, 0⟩
def ERR_RETIRE_UID : Field := ⟨0x3C0078, 8, 24, 0⟩
def ERR_RETIRE_GO : Field := ⟨0x3C0078, 32, 1, 0⟩
/-! 18_errors_scrubbing_retirement.md, 0x100 SCRUB_CTL. -/
def SCRUB_CTL_STORED_EN : Field := ⟨0x3C0100, 0, 1, 1⟩
def SCRUB_CTL_LATCH_EN : Field := ⟨0x3C0100, 1, 1, 1⟩
def SCRUB_CTL_BOND_EN : Field := ⟨0x3C0100, 2, 1, 1⟩
def SCRUB_CTL_STORED_MS : Field := ⟨0x3C0100, 4, 10, 0x32⟩
def SCRUB_CTL_LATCH_MS : Field := ⟨0x3C0100, 14, 7, 5⟩
def SCRUB_CTL_BOND_S : Field := ⟨0x3C0100, 21, 12, 0xA⟩
/-! 18_errors_scrubbing_retirement.md, 0x108 SCRUB_STAT. -/
def SCRUB_STAT_PASSES : Field := ⟨0x3C0108, 0, 32, 0⟩
def SCRUB_STAT_REPAIRS : Field := ⟨0x3C0108, 32, 16, 0⟩
def SCRUB_STAT_MISMATCHES : Field := ⟨0x3C0108, 48, 16, 0⟩
/-! 18_errors_scrubbing_retirement.md, 0x118 BOND_STAT. -/
def BOND_STAT_SPARED : Field := ⟨0x3C0118, 0, 20, 0⟩
def BOND_STAT_EXHAUSTED : Field := ⟨0x3C0118, 20, 20, 0⟩
def BOND_STAT_LAST : Field := ⟨0x3C0118, 40, 24, 0⟩
/-! 19_security.md, 0x000 SEC_LC. -/
def SEC_LC_STATE : Field := ⟨0x3E0000, 0, 2, 0⟩
def SEC_LC_PENDING : Field := ⟨0x3E0000, 2, 1, 0⟩
/-! 19_security.md, 0x008 SEC_LC_REQ. -/
def SEC_LC_REQ_TARGET : Field := ⟨0x3E0008, 0, 2, 0⟩
def SEC_LC_REQ_ARM : Field := ⟨0x3E0008, 2, 1, 0⟩
def SEC_LC_REQ_CONFIRM : Field := ⟨0x3E0008, 3, 1, 0⟩
def SEC_LC_REQ_NONCE : Field := ⟨0x3E0008, 8, 32, 0⟩
/-! 19_security.md, 0x010 SEC_LC_NONCE. -/
def SEC_LC_NONCE_NONCE : Field := ⟨0x3E0010, 0, 32, 0⟩
def SEC_LC_NONCE_ARMED : Field := ⟨0x3E0010, 32, 1, 0⟩
def SEC_LC_NONCE_APORT : Field := ⟨0x3E0010, 33, 1, 0⟩
/-! 19_security.md, 0x018 SEC_SLOTS. -/
def SEC_SLOTS_FILLED : Field := ⟨0x3E0018, 0, 64, 0⟩
/-! 19_security.md, 0x020 SEC_KEYCTL. -/
def SEC_KEYCTL_SLOT : Field := ⟨0x3E0020, 0, 6, 0⟩
def SEC_KEYCTL_KEK : Field := ⟨0x3E0020, 6, 7, 0⟩
def SEC_KEYCTL_OP : Field := ⟨0x3E0020, 13, 2, 0⟩
/-! 19_security.md, 0x028 + 8*k SEC_KEYDATAk, k = 0 to 4. -/
def SEC_KEYDATA_DATA (k : Nat) : Field := ⟨0x3E0028 + 0x8 * k, 0, 64, 0⟩
/-! 19_security.md, 0x050 SEC_STAT. -/
def SEC_STAT_BUSY : Field := ⟨0x3E0050, 0, 1, 0⟩
def SEC_STAT_UNWRAP : Field := ⟨0x3E0050, 1, 1, 0⟩
def SEC_STAT_REFUSED : Field := ⟨0x3E0050, 2, 1, 0⟩
def SEC_STAT_REASON : Field := ⟨0x3E0050, 3, 2, 0⟩
def SEC_STAT_TAGFAIL : Field := ⟨0x3E0050, 5, 1, 0⟩
def SEC_STAT_CTREND : Field := ⟨0x3E0050, 6, 1, 0⟩
def SEC_STAT_KEYMIS : Field := ⟨0x3E0050, 7, 1, 0⟩
def SEC_STAT_LCCHG : Field := ⟨0x3E0050, 8, 1, 0⟩
def SEC_STAT_IMGAUTH : Field := ⟨0x3E0050, 9, 1, 0⟩
def SEC_STAT_COUNT : Field := ⟨0x3E0050, 32, 16, 0⟩
/-! 19_security.md, 0x058 SEC_TAGADDR. -/
def SEC_TAGADDR_ADDR : Field := ⟨0x3E0058, 0, 48, 0⟩
/-! 19_security.md, 0x060 SEC_TAGBUF. -/
def SEC_TAGBUF_BUF : Field := ⟨0x3E0060, 0, 24, 0⟩
def SEC_TAGBUF_ROW : Field := ⟨0x3E0060, 24, 20, 0⟩
/-! 19_security.md, 0x100 + 8*n SEC_GENn, n = 0 to 63. -/
def SEC_GEN_NEXT (n : Nat) : Field := ⟨0x3E0100 + 0x8 * n, 0, 32, 0⟩
def SEC_GEN_SPENT (n : Nat) : Field := ⟨0x3E0100 + 0x8 * n, 32, 1, 0⟩
/-! 20_clocks_power_time.md, 0x000 CLK_STAT. -/
def CLK_STAT_COAST : Field := ⟨0x10000, 0, 1, 0⟩
def CLK_STAT_REFGOOD : Field := ⟨0x10000, 1, 1, 0⟩
def CLK_STAT_ARMED : Field := ⟨0x10000, 2, 1, 0⟩
def CLK_STAT_REFWAIT : Field := ⟨0x10000, 3, 1, 0⟩
def CLK_STAT_LOCK : Field := ⟨0x10000, 4, 4, 0⟩
def CLK_STAT_GATEHIT : Field := ⟨0x10000, 8, 1, 0⟩
def CLK_STAT_CFGERR : Field := ⟨0x10000, 9, 1, 0⟩
def CLK_STAT_PMBERR : Field := ⟨0x10000, 10, 1, 0⟩
def CLK_STAT_REFLOSS : Field := ⟨0x10000, 16, 16, 0⟩
/-! 20_clocks_power_time.md, 0x008 CLK_GATE0. -/
def CLK_GATE0_GATE : Field := ⟨0x10008, 0, 20, 0xC000F⟩
/-! 20_clocks_power_time.md, 0x010 CLK_GATE1. -/
def CLK_GATE1_GATE : Field := ⟨0x10010, 0, 36, 0⟩
/-! 20_clocks_power_time.md, 0x018 CLK_GATE_PEND. -/
def CLK_GATE_PEND_PEND : Field := ⟨0x10018, 0, 56, 0⟩
/-! 20_clocks_power_time.md, 0x020 CLK_OP. -/
def CLK_OP_TARGET : Field := ⟨0x10020, 0, 3, 0⟩
def CLK_OP_CUR : Field := ⟨0x10020, 3, 3, 0⟩
def CLK_OP_BUSY : Field := ⟨0x10020, 6, 1, 0⟩
def CLK_OP_PGTMO : Field := ⟨0x10020, 7, 1, 0⟩
/-! 20_clocks_power_time.md, 0x028 CLK_PMBUS. -/
def CLK_PMBUS_EN : Field := ⟨0x10028, 0, 1, 0⟩
def CLK_PMBUS_BASE_ADDR : Field := ⟨0x10028, 1, 7, 0⟩
def CLK_PMBUS_BASE_PAGE : Field := ⟨0x10028, 8, 8, 0⟩
def CLK_PMBUS_FAB_ADDR : Field := ⟨0x10028, 16, 7, 0⟩
def CLK_PMBUS_FAB_PAGE : Field := ⟨0x10028, 24, 8, 0⟩
/-! 20_clocks_power_time.md, 0x030 CLK_FABV. -/
def CLK_FABV_TARGET : Field := ⟨0x10030, 0, 6, 0x28⟩
def CLK_FABV_EFF : Field := ⟨0x10030, 8, 6, 0x28⟩
def CLK_FABV_BUSY : Field := ⟨0x10030, 14, 1, 0⟩
/-! 20_clocks_power_time.md, 0x038 CLK_IOPLL. -/
def CLK_IOPLL_M : Field := ⟨0x10038, 0, 6, 0x10⟩
def CLK_IOPLL_LOCK : Field := ⟨0x10038, 8, 1, 0⟩
/-! 20_clocks_power_time.md, 0x040 + 8*n CLK_IOCLKn, n = 0 to 7. -/
def CLK_IOCLK_EN (n : Nat) : Field := ⟨0x10040 + 0x8 * n, 0, 1, 0⟩
def CLK_IOCLK_D (n : Nat) : Field := ⟨0x10040 + 0x8 * n, 1, 8, 4⟩
/-! 20_clocks_power_time.md, 0x080 GOV_CTL. -/
def GOV_CTL_CAP : Field := ⟨0x10080, 0, 7, 0x64⟩
def GOV_CTL_EN : Field := ⟨0x10080, 7, 1, 1⟩
def GOV_CTL_RMBUD : Field := ⟨0x10080, 8, 8, 0x78⟩
def GOV_CTL_RMMIN : Field := ⟨0x10080, 16, 8, 0x28⟩
def GOV_CTL_FABMIN : Field := ⟨0x10080, 24, 6, 0x14⟩
def GOV_CTL_LANES : Field := ⟨0x10080, 30, 1, 0⟩
def GOV_CTL_COLBUD : Field := ⟨0x10080, 32, 8, 0xC⟩
/-! 20_clocks_power_time.md, 0x088 GOV_STAT. -/
def GOV_STAT_EST : Field := ⟨0x10088, 0, 12, 0⟩
def GOV_STAT_STEP : Field := ⟨0x10088, 12, 2, 0⟩
def GOV_STAT_OVERCAP : Field := ⟨0x10088, 14, 1, 0⟩
def GOV_STAT_THERM : Field := ⟨0x10088, 15, 1, 0⟩
def GOV_STAT_RMEFF : Field := ⟨0x10088, 16, 8, 0x78⟩
def GOV_STAT_FABLIM : Field := ⟨0x10088, 24, 6, 0x3C⟩
def GOV_STAT_TEMP : Field := ⟨0x10088, 32, 8, 0⟩
/-! 20_clocks_power_time.md, 0x0A0 CLK_REST. -/
def CLK_REST_ENTER : Field := ⟨0x100A0, 0, 1, 0⟩
def CLK_REST_WAKE : Field := ⟨0x100A0, 1, 1, 0⟩
def CLK_REST_STATE : Field := ⟨0x100A0, 2, 2, 0⟩
def CLK_REST_REJ : Field := ⟨0x100A0, 4, 1, 0⟩
def CLK_REST_REASON : Field := ⟨0x100A0, 5, 2, 0⟩
def CLK_REST_WAKESRC : Field := ⟨0x100A0, 8, 2, 0⟩
/-! 20_clocks_power_time.md, 0x000 TB_CTL. -/
def TB_CTL_PPS_EN : Field := ⟨0x420000, 0, 1, 0⟩
def TB_CTL_MODE : Field := ⟨0x420000, 1, 1, 0⟩
def TB_CTL_SET : Field := ⟨0x420000, 2, 1, 0⟩
/-! 20_clocks_power_time.md, 0x008 TB_STAT. -/
def TB_STAT_HOLDOVER : Field := ⟨0x420008, 0, 1, 0⟩
def TB_STAT_STEPPED : Field := ⟨0x420008, 1, 1, 0⟩
def TB_STAT_UNTRUE : Field := ⟨0x420008, 2, 1, 0⟩
def TB_STAT_LOCKED : Field := ⟨0x420008, 3, 1, 0⟩
def TB_STAT_ERR : Field := ⟨0x420008, 32, 32, 0⟩
/-! 20_clocks_power_time.md, 0x010 TB_NOW. -/
def TB_NOW_NOW : Field := ⟨0x420010, 0, 64, 0⟩
/-! 20_clocks_power_time.md, 0x018 TB_SECHI. -/
def TB_SECHI_SEC : Field := ⟨0x420018, 0, 32, 0⟩
/-! 20_clocks_power_time.md, 0x020 TB_SET. -/
def TB_SET_SEC : Field := ⟨0x420020, 0, 32, 0⟩
def TB_SET_NS : Field := ⟨0x420020, 32, 30, 0⟩
/-! 20_clocks_power_time.md, 0x028 TB_ADJ. -/
def TB_ADJ_PPB : Field := ⟨0x420028, 0, 32, 0⟩
/-! 20_clocks_power_time.md, 0x030 TB_PPSCAP. -/
def TB_PPSCAP_CAP : Field := ⟨0x420030, 0, 64, 0⟩
/-! 20_clocks_power_time.md, 0x038 TB_WAKE. -/
def TB_WAKE_SEC : Field := ⟨0x420038, 0, 32, 0⟩
def TB_WAKE_NS : Field := ⟨0x420038, 32, 30, 0⟩
def TB_WAKE_EN : Field := ⟨0x420038, 62, 1, 0⟩
/-! 21_pins_and_board.md, 0x000 PIN_FUNC. -/
def PIN_FUNC_PMB : Field := ⟨0x30000, 0, 1, 0⟩
def PIN_FUNC_I2C1 : Field := ⟨0x30000, 1, 1, 0⟩
def PIN_FUNC_SPI : Field := ⟨0x30000, 2, 1, 0⟩
def PIN_FUNC_SPI_CS23 : Field := ⟨0x30000, 3, 1, 0⟩
def PIN_FUNC_UART : Field := ⟨0x30000, 4, 1, 0⟩
def PIN_FUNC_UART_FC : Field := ⟨0x30000, 5, 1, 0⟩
def PIN_FUNC_EV : Field := ⟨0x30000, 6, 8, 0⟩
/-! 21_pins_and_board.md, 0x008 PIN_STAT. -/
def PIN_STAT_CONFLICT : Field := ⟨0x30008, 0, 48, 0⟩
def PIN_STAT_CFGERR : Field := ⟨0x30008, 48, 1, 0⟩
/-! 21_pins_and_board.md, 0x010 GPIO_OUT, 0x018 GPIO_OE, 0x020 GPIO_IN, 0x028 GPIO_WAKE. -/
def GPIO_OUT_PINS : Field := ⟨0x30010, 0, 48, 0⟩
def GPIO_OE_PINS : Field := ⟨0x30018, 0, 48, 0⟩
def GPIO_IN_PINS : Field := ⟨0x30020, 0, 48, 0⟩
def GPIO_WAKE_PINS : Field := ⟨0x30028, 0, 48, 0⟩
/-! 21_pins_and_board.md, 0x100 + 8*n SVC_CFGn, n = 0 to 47. -/
def SVC_CFG_LEVEL (n : Nat) : Field := ⟨0x30100 + 0x8 * n, 0, 1, 0⟩
def SVC_CFG_HYST (n : Nat) : Field := ⟨0x30100 + 0x8 * n, 1, 1, 0⟩
def SVC_CFG_OD (n : Nat) : Field := ⟨0x30100 + 0x8 * n, 2, 1, 0⟩
def SVC_CFG_DRIVE (n : Nat) : Field := ⟨0x30100 + 0x8 * n, 3, 2, 1⟩
def SVC_CFG_PULL (n : Nat) : Field := ⟨0x30100 + 0x8 * n, 5, 2, 1⟩
def SVC_CFG_ANALOG (n : Nat) : Field := ⟨0x30100 + 0x8 * n, 7, 1, 0⟩
def SVC_CFG_SLEEP (n : Nat) : Field := ⟨0x30100 + 0x8 * n, 8, 2, 0⟩
def SVC_CFG_OWNER (n : Nat) : Field := ⟨0x30100 + 0x8 * n, 10, 3, 0⟩
/-! 21_pins_and_board.md, 0x300 SVC_PERCFG. -/
def SVC_PERCFG_SPI_DIV : Field := ⟨0x30300, 0, 8, 0x31⟩
def SVC_PERCFG_SPI_MODE : Field := ⟨0x30300, 8, 2, 0⟩
def SVC_PERCFG_UART_DIV : Field := ⟨0x30300, 10, 16, 0x35⟩
def SVC_PERCFG_I2C1_SPD : Field := ⟨0x30300, 26, 2, 0⟩
def SVC_PERCFG_PMB_SPD : Field := ⟨0x30300, 28, 1, 0⟩
/-! 21_pins_and_board.md, 0x308 SVC_XFER. -/
def SVC_XFER_PER : Field := ⟨0x30308, 0, 2, 0⟩
def SVC_XFER_WLEN : Field := ⟨0x30308, 2, 6, 0⟩
def SVC_XFER_RLEN : Field := ⟨0x30308, 8, 6, 0⟩
def SVC_XFER_TADDR : Field := ⟨0x30308, 14, 7, 0⟩
def SVC_XFER_GO : Field := ⟨0x30308, 21, 1, 0⟩
def SVC_XFER_BUSY : Field := ⟨0x30308, 22, 1, 0⟩
def SVC_XFER_ERR : Field := ⟨0x30308, 23, 1, 0⟩
def SVC_XFER_RCNT : Field := ⟨0x30308, 24, 6, 0⟩
/-! 21_pins_and_board.md, 0x310 + 8*k SVC_XDATAk, k = 0 to 3. -/
def SVC_XDATA_DATA (k : Nat) : Field := ⟨0x30310 + 0x8 * k, 0, 64, 0⟩
/-! 21_pins_and_board.md, 0x340 + 8*k SVC_EVCFGk, k = 0 to 7. -/
def SVC_EVCFG_DIR (k : Nat) : Field := ⟨0x30340 + 0x8 * k, 0, 1, 0⟩
def SVC_EVCFG_EV (k : Nat) : Field := ⟨0x30340 + 0x8 * k, 1, 8, 0⟩
def SVC_EVCFG_DROPPED (k : Nat) : Field := ⟨0x30340 + 0x8 * k, 32, 16, 0⟩
/-! 21_pins_and_board.md, 0x380 + 8*k ADC_CHk, k = 0 to 7. -/
def ADC_CH_VALUE (k : Nat) : Field := ⟨0x30380 + 0x8 * k, 0, 12, 0⟩
def ADC_CH_VALID (k : Nat) : Field := ⟨0x30380 + 0x8 * k, 12, 1, 0⟩
/-! 21_pins_and_board.md, 0x1000 + 8*i IOCELLi, i = 0 to 383. -/
def IOCELL_EN (i : Nat) : Field := ⟨0x31000 + 0x8 * i, 0, 1, 0⟩
def IOCELL_DIR (i : Nat) : Field := ⟨0x31000 + 0x8 * i, 1, 2, 0⟩
def IOCELL_DDR (i : Nat) : Field := ⟨0x31000 + 0x8 * i, 3, 1, 0⟩
def IOCELL_NET (i : Nat) : Field := ⟨0x31000 + 0x8 * i, 4, 3, 0⟩
def IOCELL_DIFF (i : Nat) : Field := ⟨0x31000 + 0x8 * i, 7, 1, 0⟩
def IOCELL_TERM (i : Nat) : Field := ⟨0x31000 + 0x8 * i, 8, 1, 0⟩
def IOCELL_DELAY (i : Nat) : Field := ⟨0x31000 + 0x8 * i, 9, 8, 0⟩
def IOCELL_PULL (i : Nat) : Field := ⟨0x31000 + 0x8 * i, 17, 2, 0⟩
def IOCELL_DRIVE (i : Nat) : Field := ⟨0x31000 + 0x8 * i, 19, 2, 1⟩
def IOCELL_SLEEP (i : Nat) : Field := ⟨0x31000 + 0x8 * i, 21, 2, 0⟩
def IOCELL_UNDER (i : Nat) : Field := ⟨0x31000 + 0x8 * i, 23, 1, 0⟩
def IOCELL_OVER (i : Nat) : Field := ⟨0x31000 + 0x8 * i, 24, 1, 0⟩
/-! 21_pins_and_board.md, 0x2000 + 8*b IOBANKb, b = 0 to 11. -/
def IOBANK_STD (b : Nat) : Field := ⟨0x32000 + 0x8 * b, 0, 3, 2⟩
def IOBANK_CAL_EN (b : Nat) : Field := ⟨0x32000 + 0x8 * b, 3, 1, 1⟩
def IOBANK_VOK (b : Nat) : Field := ⟨0x32000 + 0x8 * b, 4, 1, 0⟩
/-! 21_pins_and_board.md, 0x2100 PIN_STRAP. -/
def PIN_STRAP_TWIN_ROLE : Field := ⟨0x32100, 0, 1, 0⟩
def PIN_STRAP_OSC_DLY : Field := ⟨0x32100, 1, 3, 0⟩
def PIN_STRAP_BOOT_SRC : Field := ⟨0x32100, 4, 2, 0⟩
def PIN_STRAP_IOPULL : Field := ⟨0x32100, 6, 2, 0⟩
/-! 22_reset_and_startup.md, 0x000 RESET_CTL. -/
def RESET_CTL_KEY : Field := ⟨0x20000, 0, 8, 0⟩
def RESET_CTL_WARM : Field := ⟨0x20000, 8, 1, 0⟩
/-! 22_reset_and_startup.md, 0x008 RESET_STAT. -/
def RESET_STAT_PHASE : Field := ⟨0x20008, 0, 4, 0⟩
def RESET_STAT_LAST : Field := ⟨0x20008, 4, 2, 0⟩
def RESET_STAT_CFGERR : Field := ⟨0x20008, 6, 1, 0⟩
def RESET_STAT_DIEBUSY : Field := ⟨0x20008, 7, 1, 0⟩
def RESET_STAT_DIE : Field := ⟨0x20008, 8, 2, 0⟩
def RESET_STAT_DWDOG : Field := ⟨0x20008, 10, 1, 0⟩
def RESET_STAT_WARMCNT : Field := ⟨0x20008, 16, 16, 0⟩
/-! 22_reset_and_startup.md, 0x010 RESET_DIE. -/
def RESET_DIE_DIE : Field := ⟨0x20010, 0, 2, 0⟩
def RESET_DIE_GO : Field := ⟨0x20010, 2, 1, 0⟩
def RESET_DIE_KEY : Field := ⟨0x20010, 8, 8, 0⟩
/-! 22_reset_and_startup.md, 0x018 RESET_TILE. -/
def RESET_TILE_TILE : Field := ⟨0x20018, 0, 8, 0⟩
def RESET_TILE_GO : Field := ⟨0x20018, 8, 1, 0⟩
/-! 22_reset_and_startup.md, 0x020 RESET_TIME. -/
def RESET_TIME_READY : Field := ⟨0x20020, 0, 32, 0⟩
def RESET_TIME_WARM : Field := ⟨0x20020, 32, 32, 0⟩
/-! 23_address_map.md, 0x000 GLB_ID. -/
def GLB_ID_PART : Field := ⟨0x0, 0, 16, 0x9240⟩
def GLB_ID_REV : Field := ⟨0x0, 16, 4, 1⟩
/-! 23_address_map.md, 0x008 GLB_SERIAL. -/
def GLB_SERIAL_SERIAL : Field := ⟨0x8, 0, 64, 0⟩
/-! 23_address_map.md, 0x010 GLB_CAPS. -/
def GLB_CAPS_TILES : Field := ⟨0x10, 0, 9, 0x100⟩
def GLB_CAPS_BANKS : Field := ⟨0x10, 9, 11, 0x400⟩
def GLB_CAPS_ULANES : Field := ⟨0x10, 20, 8, 0x80⟩
def GLB_CAPS_CLANES : Field := ⟨0x10, 28, 5, 0x10⟩
def GLB_CAPS_FRETS : Field := ⟨0x10, 33, 4, 8⟩
def GLB_CAPS_QUEUES : Field := ⟨0x10, 37, 7, 0x40⟩
/-! 23_address_map.md, 0x018 GLB_STAT. -/
def GLB_STAT_READY : Field := ⟨0x18, 0, 1, 0⟩
def GLB_STAT_CFGERR : Field := ⟨0x18, 1, 1, 0⟩
def GLB_STAT_ALARM : Field := ⟨0x18, 2, 1, 0⟩
def GLB_STAT_ROLE : Field := ⟨0x18, 3, 1, 0⟩
def GLB_STAT_LC : Field := ⟨0x18, 4, 2, 0⟩
def GLB_STAT_REST : Field := ⟨0x18, 6, 2, 0⟩
def GLB_STAT_PHASE : Field := ⟨0x18, 8, 4, 0⟩
/-! 23_address_map.md, 0x020 + 8*p GLB_SCRATCHp, p = 0 or 1. -/
def GLB_SCRATCH_VALUE (p : Nat) : Field := ⟨0x20 + 0x8 * p, 0, 64, 0⟩

end Sys2Proof.Machine
end

