-- ==== Sys2Proof/Machine/Types.lean ====
section
/-!
DEFINITION. The parts of the device's state that are not register fields: what the spec says the device remembers
without giving it a register (journals, row maps, kernels, ensembles, tokens, links, waiting requests).
-/
namespace Sys2Proof.Machine

/-! Errors and retirement (chapter 18). -/

/-- An error record not yet written (R449): word 0 without PHASE, words 1 to 3, and the event's class. -/
structure ErrRec where
  cls : EvClass
  w0 : Nat
  w1 : Nat
  w2 : Nat
  w3 : Nat
  deriving DecidableEq, Repr

/-- A leaky bucket (R454): its count and the moment, in ns of the timebase, of its last event or fall. -/
structure Bucket where
  count : Nat := 0
  last : Nat := 0
  deriving DecidableEq, Repr

/-- A string of bonds (R460 to R463): signals riding spares as (signal, spare, for good), bonds whose last test failed,
bonds never used again, tests passed in a row by the bonds of signals on spares, and whether it is exhausted. -/
structure StringSt where
  spared : List (Nat × Nat × Bool) := []
  failed : List Nat := []
  passes : KMap Nat := []
  exhausted : Bool := false
  deriving DecidableEq, Repr

/-! What leaves the device (Host interface). -/

/-- The answer to a host request (R391). -/
inductive HostReply where
  | ok (data : List Byte) | poisoned (data : List Byte) | completerAbort | unsupported | retry
  deriving DecidableEq, Repr

/-- What the device sends outward, in the order it is sent. -/
inductive OutEvent where
  | msix (p : Port) (vec : Nat)
  | hostWrite (p : Port) (addr : Nat) (data : List Byte)
  | hostRead (p : Port) (addr len : Nat)
  | reply (p : Port) (r : HostReply)
  | regData (src : Src) (data : Nat)
  | refused (src : Src)
  | packet (p : Packet)
  | portal (tile : Nat) (words : List Nat)
  | lane (group : Nat) (kind : Nat) (fr : LlpFrame)
  | line (group : Nat) (codes : List (List (BitVec 10)))
  | training (group : Nat) (kind : Nat) (target : Nat)
  | capo (kind : Nat) (ctr : Nat) (words : List Nat)
  | chain (kind : Nat) (words : List Nat)
  | pin (name : Nat) (level : Bool)
  | service (unit : Nat) (words : List Nat)
  deriving DecidableEq, Repr

/-! The store (chapter 10, chapter 19). -/

/-- Who makes a store request (R268). -/
inductive Ident where
  | port (p : Port) | kern (h : Nat) | device
  deriving DecidableEq, Repr

/-- The code of a requester identity (R267). -/
def Ident.code : Ident → Nat
  | .port .a => 1 | .port .b => 2 | .device => 3 | .kern h => h

/-- A live or burnt sealed row (R485): its version counter, the wrong symbols of codeword 0, as (symbol, difference), and whether its tag fails
whatever they are. The row's data bytes stand as plaintext: its stored form is Dev.sealedStored (log entry 3). -/
structure SealedRow where
  ctr : Nat
  err : List (Nat × Nat)
  forged : Bool := false
  deriving DecidableEq, Repr

/-- Where the answer of a store request goes. own: the request is no access but a hand-over of the bank at its address, by a writer, of an owner
code, which waits in order behind accesses to that bank (R270). -/
inductive ReplyTo where
  | packet (p : Packet) | host (p : Port) | none | own (writer code : Nat)
  deriving DecidableEq, Repr

/-- A store request that waits for its bank to wake (R272). -/
structure StoreReq where
  ident : Ident
  key : Nat
  write : Bool
  addr : Nat
  len : Nat
  data : List Byte
  enables : List Bool
  reply : ReplyTo
  deriving DecidableEq, Repr

/-! Buffers and placement (chapter 04). -/

/-- An allocated buffer (R87, R117, R121, R482): rows gives, for each buffer row, its store row (512 × bank + row), or
none for a lost row (R574). ready is false between the start and the completion of its BALLOC (R74). -/
structure Buffer where
  ready : Bool
  commit : Bool
  mirror : Bool
  sealed : Bool
  key : Nat
  size : Nat
  mask : Nat
  rows : List (Option Nat)
  pin : Bool
  gen : Nat
  deriving DecidableEq, Repr

/-! Queues (chapter 02). -/

/-- Where a word of a queue's path lies: at a ring index, or at an address of the list that begins at base. -/
inductive Place where
  | ring (idx : Nat) | list (base addr : Nat)
  deriving DecidableEq, Repr

/-- A word of the loop window with its place (R37). -/
structure WinWord where
  place : Place
  word : Word
  deriving DecidableEq, Repr

/-- How far a command has come (the life of a command, R40, R45). offered: sent to the twin, not yet accepted (R423). -/
inductive Stage where
  | offered | accepted | started | completed
  deriving DecidableEq, Repr

/-- A journal entry: an accepted command not yet posted (R40 to R45). fin is the outcome once it is fixed; aux what the
start fixed for the completion; staged the bytes written to committed buffers as (buffer, offset, byte), newest first;
delta the updates of committed tables as (table, operation, key, operand), newest first; wrote the ranges of buffers that are not
committed which it has written, as (buffer, offset, length), 2^24 standing for the store itself, by address, and 2^24 + 1 + t for the
entry of a key of table t (R45); replay that a replay re-executes it (R437); mute that its
failure causes nothing further (R66); env what its start took from outside. -/
structure Entry where
  seq : Nat
  words : List Word
  cmd : Option Cmd
  opcode : Nat
  flags : CmdFlags
  sval : Word
  stage : Stage
  status : Status
  result : Word
  stamp : Nat
  started : Nat
  epoch : Nat
  ident : Port
  durable : Bool
  replay : Bool
  fin : Option (Status × Word)
  aux : List Nat
  staged : List (Nat × Nat × Byte)
  delta : List (Nat × Nat × Nat × Nat)
  wrote : List (Nat × Nat × Nat)
  mute : Bool
  env : CmdEnv
  deriving DecidableEq, Repr

/-- A queue's path as a command leaves it: its position, the ring index and the list address before which every word has been
taken or skipped, the call stack, the loop window and the S registers (R36 to R38). -/
structure Snap where
  pos : Place
  ringFront : Nat
  front : Nat
  stack : List (Place × Nat)
  window : List WinWord
  sregs : List Nat
  deriving DecidableEq, Repr

/-- What a queue remembers beside its registers: its path position; the ring index before which every word has been taken or
skipped; for a position in a list, the address up to which the present call has read the list; its call stack (return positions
with the same, innermost last); its loop window (oldest first); the words fetched and not yet taken, none for one whose read
failed (R35, R41); its journal (oldest first); the path behind each command offered to the twin (oldest first, R36, R423); and, on
a Shadow, the last command whose record the Lead posted, with its slot (R435). -/
structure QueueSt where
  pos : Place := .ring 0
  ringFront : Nat := 0
  front : Nat := 0
  stack : List (Place × Nat) := []
  window : List WinWord := []
  ahead : List (Place × Option Word) := []
  journal : List Entry := []
  snaps : List Snap := []
  posted : Option (Entry × Nat) := none
  deriving DecidableEq, Repr

/-- A barrier instance (R80): its mask and the queues that have arrived. -/
structure Barrier where
  mask : Nat
  arrived : Nat
  deriving DecidableEq, Repr

/-! The fabric, frets and tile ports (chapters 05 to 09). -/

/-- The tokens a source of the fabric offers (R146, R159): the first value is on the wire, the others wait behind it in
the interface that issues them, and acked names the loads that have acknowledged the first. -/
structure Tok where
  vals : List Bool
  acked : List Nat
  deriving DecidableEq, Repr

/-- A hold element: its occupancy and its value (R144, R148). -/
structure Hold where
  full : Bool
  val : Bool
  deriving DecidableEq, Repr

/-- The row register of a row port in one fret (R182, R230): its direction (true: port to bank), the slices passed, the
512 data bytes and the 48 check residues of the row, and its bank row. -/
structure RowReg where
  toBank : Bool
  slices : Nat
  bytes : List Byte
  res : List Byte
  srow : Nat
  deriving DecidableEq, Repr

/-- A row move at a row port (R274, R275): the buffer and buffer row, its direction, the command that drives it (queue and
sequence number; none for a kernel-driven row), whether the governor has admitted it, and the RSTAT that its slices so far call for (R231). -/
structure RowReq where
  buf : Nat
  row : Nat
  toBank : Bool
  cmd : Option (Nat × Nat)
  admitted : Bool
  worst : Nat := 0
  deriving DecidableEq, Repr

/-- A request a portal has outstanding (R201, R223): its tag, the tile it was sent from (a migration moves the portal's
side, and the answer comes back to the old tile, R130), the fret whose kernel issued it (8: that kernel is gone, and the response is to be
discarded, R184), and the flits its response may bring. -/
structure PortalReq where
  tag : Nat
  origin : Nat
  fret : Nat
  flits : Nat
  deriving DecidableEq, Repr

/-- A bind slot's binding (R97): kind 0 buffer to portal slot, 1 buffer to row-port slot, 2 event. -/
structure Bind where
  kind : Nat
  target : Nat
  deriving DecidableEq, Repr

/-- A running KRUN (R94): the command's queue and sequence number, whether START is issued, the done word, and the first
error met (R227). -/
structure Run where
  q : Nat
  seq : Nat
  begun : Bool
  done : Option Word
  err : Option Status
  deriving DecidableEq, Repr

/-- Where a kernel's frames came from (R466): a device address, or an image-store block; bytes 0 is the length that the header gives at an
address, and no known block otherwise. -/
structure ImgSrc where
  host : Bool
  addr : Nat
  bytes : Nat
  keyslot : Nat
  deriving DecidableEq, Repr

/-- An admitted kernel (R93 to R101, R111): anchor is the physical identifier of its lowest-numbered tile. static says
that a full or partial image placed it. released is set when retirement leaves it without tiles (R127). -/
structure Kernel where
  ready : Bool
  static : Bool
  released : Bool
  sole : Bool
  nomigrate : Bool
  dies : Nat
  anchor : Nat
  w : Nat
  h : Nat
  both : Bool
  fret : Nat
  drain : Nat
  power : Nat
  fixed : Bool
  metered : Bool
  meterN : Nat
  tiles : List TileReq
  src : ImgSrc
  binds : KMap Bind
  lanes : KMap (Nat × Nat)
  run : Option Run
  deriving DecidableEq, Repr

/-- What makes an ensemble switch, quiesce or preload (R202): a KRUN that waits for its fret to be shown (R115), a change of the ensemble's
rectangle, which a kernel may join (R114, R171), showing a fret, a refresh of the shown fret (R469), a park
for a migration, a park without a new fret (gates, Rest). by names the command whose completion waits for it. -/
inductive Trigger where
  | run (fret : Nat)
  | reshape (kern : Nat) (cmd : Option (Nat × Nat))
  | toFret (fret : Nat) (cmd : Option (Nat × Nat))
  | refresh (reset : Bool)
  | migrate
  | park
  deriving DecidableEq, Repr

/-- An ensemble (R114, R189, R191), keyed by the physical identifier of its anchor tile. phase is FRET_STAT.PHASE. -/
structure Ensemble where
  w : Nat
  h : Nat
  both : Bool
  phase : Nat
  cur : Option Trigger
  waiting : List Trigger
  rot : List RotEntry
  rotPos : Nat
  rotating : Bool
  preload : Option Nat
  deriving DecidableEq, Repr

/-- A migration of an ensemble in progress (R128): its source and target anchors, the reason, and the tiles whose planes and
block memories are copied. stage: 0 quiescing, 1 copying planes, 2 copying memories, 3 remapped. -/
structure Migration where
  kern : Nat
  src : Nat
  dst : Nat
  reason : Nat
  stage : Nat
  planes : List Nat
  mems : List Nat
  deriving DecidableEq, Repr

/-- A buffer migration in progress (R132): the column mask it moves to, its reason, and the store row each buffer row is to
take. -/
structure BufMove where
  mask : Nat
  reason : Nat
  target : List (Option Nat)
  deriving DecidableEq, Repr

/-- A packet that a portal has sent to a bank controller, a tally engine or a lane bridge and that is not there yet: the
kernel shown when the portal took its descriptor (R268), and for a bound buffer its handle and the offset (R224). -/
structure Sent where
  pkt : Packet
  kern : Nat
  buf : Option (Nat × Nat)
  deriving DecidableEq, Repr

/-- A packet that a portal's outbound queue holds whole or in part (R222): the packet, the kernel it is from, the buffer and offset of a bound
buffer's, and the data flits still to come. -/
structure OutPkt where
  pkt : Packet
  kern : Nat
  buf : Option (Nat × Nat)
  left : Nat
  deriving DecidableEq, Repr

/-- A portal's side of a tile (R221 to R228): requests outstanding; packets at its landing buffer, oldest first, and in its inbound queues;
the channel of the packet whose flits the fabric takes; packets in its outbound queues, the last of which may be incomplete; flits of a refused
packet still to be discarded; and packets on their way whose sender their destination must know. -/
structure PortalSt where
  outst : List PortalReq := []
  landing : List Packet := []
  inq : List Packet := []
  cur : Option Nat := none
  outq : List OutPkt := []
  skip : Nat := 0
  sent : List Sent := []
  deriving DecidableEq, Repr

/-- A block-memory access that is granted and has not issued its outputs (R213): its address, whether it writes, the value, and what overlaps
have made of it (R214): a read's data undefined, BUSY 1, a write whose fields a later one has decided. -/
structure MemHold where
  addr : Nat
  write : Bool
  value : Nat
  undef : Bool := false
  busy : Bool := false
  lost : Bool := false
  deriving DecidableEq, Repr

/-- An access to a debug window that waits (R219): its source, logical tile, memory, offset, size, direction and data. -/
structure DebugReq where
  src : Src
  ltile : Nat
  mem : Nat
  ofs : Nat
  size : Nat
  write : Bool
  data : Nat
  deriving DecidableEq, Repr

/-! Images and loading (chapter 13). -/

/-- Who a load serves (R327, R340): the boot's full image, an entry of the boot, a host operation, a KADMIT by queue and
sequence number, an image from the twin. -/
inductive Loader where
  | bootFull | entry (e : Nat) | host | kadmit (q seq : Nat) | twin
  deriving DecidableEq, Repr

/-- A load in progress at the frame loader (R326 to R340), as the image commands take it through. handle and proto are the
kernel it concerns; ens, anchor and fret where it goes (ens: the ensemble it shares). addr is the current frame address as
the image gives it; frames (by physical frame address) and mems (by 16 × tile + memory) are what it has written so far; crc
is the running CRC; ecode is not 0 once it is refused; committed is set by its FCOMMIT. -/
structure Load where
  who : Loader
  desc : Desc
  handle : Nat
  proto : Option Kernel
  ens : Option Nat
  anchor : Nat
  fret : Nat
  keyslot : Nat
  tagOk : Bool
  read : Outc
  headerCrc : Nat
  word0 : Nat
  addr : Nat
  frames : KMap (BitVec 27136)
  mems : KMap (List (BitVec 48))
  crc : Nat
  lastCrc : Option Nat
  meter : Option Nat
  ecode : Nat
  eaddr : Nat
  committed : Bool
  src : ImgSrc
  deriving DecidableEq, Repr

/-- What the loader is doing for a host (R345): which operation, and the bytes of the block it programs. -/
structure HostOp where
  op : Nat
  arg : Nat
  addr : Nat
  deriving DecidableEq, Repr

/-! Lanes (chapter 14). -/

/-- A lane group (R361, R368, R371 to R376). phase of a bring-up: 0 exchange, 1 confirming, 3 dwell, 4 reporting, 5 up.
bound is set once its LBIND has succeeded; ts1 and ts2 count valid sets received in a row; farRates is what the far end can
do, common the common set, rate the present rate code, passed the last one that passed; mine and far are the reports of the
dwell; cmd is the command that waits. tx holds the frames not acknowledged, oldest first, with how often each was sent
again; peerWin is the far end's window; rx the packets of accepted frames that have not entered the network, waiting the
LFR packets not yet framed; unbind says that its binding is being removed. -/
structure GroupSt where
  kern : Nat := 0
  slot : Nat := 0
  width : Nat := 0
  maxRate : Nat := 5
  bound : Bool := false
  phase : Nat := 0
  ts1 : Nat := 0
  ts2 : Nat := 0
  farRates : Nat := 0
  common : Nat := 0
  rate : Nat := 0
  passed : Nat := 0
  mine : Option Bool := none
  far : Option Bool := none
  cmd : Option (Nat × Nat) := none
  gotInit : Bool := false
  tx : List (LlpFrame × Nat) := []
  peerWin : Nat := 64
  rx : List Packet := []
  nakOut : Bool := false
  acksDue : Nat := 0
  unbind : Bool := false
  waiting : List Packet := []
  errs : List Nat := []
  deriving DecidableEq, Repr

/-- The PRBS generator and checker of a lane (R380): the last bits of the sequence that was sent, before inversion, newest in bit 0 (0: not
started), the last bits at the checker, how many it has taken as its seed and how many after them had no error (64: locked), the time in
four-hundredths of a nanosecond whose bits are not sent yet, and whether the next bit is sent inverted. -/
structure PrbsSt where
  gen : Nat := 0
  chk : Nat := 0
  seeded : Nat := 0
  good : Nat := 0
  time : Nat := 0
  flip : Bool := false
  deriving DecidableEq, Repr

/-- The transmit side of a group's lanes (R356, R358, R359): each lane's running disparity (true: positive), the symbol times since the last
skip fell due, whether one is due, idle code groups sent since the last comma, the time in fortieths of a nanosecond that the lanes have not
filled yet (negative: filled ahead by a frame), and the code groups last sent, one for each lane. -/
structure LineSt where
  disp : List Bool := []
  since : Nat := 0
  due : Bool := false
  idle : Nat := 0
  time : Int := 0
  last : List (BitVec 10) := []
  deriving DecidableEq, Repr

/-! The network between endpoints (chapter 12). -/

/-- A packet in the network (R310, R312): its number, its hops as (output port, class of the input buffer the hop leads to), and how many of
its flits have made each hop. -/
structure Flight where
  id : Nat
  pkt : Packet
  hops : List (Nat × Nat)
  made : List Nat
  deriving DecidableEq, Repr

/-- The routers (R312, R315): how many events of Dev.out the sources have taken up, the number the next packet gets, the packets not yet taken
by their endpoints in the order their sources gave them, the flits in each input buffer by 8 × port + 2 × channel + class as numbers of
packets, oldest first, for each output port the input port it served last and the PRI 1 headers that have won it in a row, and for each endpoint and
channel the source column that was granted a landing credit last (R313). -/
structure NocSt where
  seen : Nat := 0
  fresh : Nat := 0
  flights : List Flight := []
  bufs : KMap (List Nat) := []
  served : KMap Nat := []
  wins : KMap Nat := []
  granted : KMap Nat := []
  deriving DecidableEq, Repr

/-! DMA (chapter 16). -/

/-- A transfer of a channel (R405 to R411): who started it, its epoch, its first addresses and its length, the bytes whose
chunks have been read or asked for, chunks asked of portals as (tag, first byte, length), chunks whose data has arrived and
waits to be written as (first byte, data), chunks sent to portals and not acknowledged as (tag, first byte, length), chunks
written as (first byte, length), and the command that started it, if any. -/
structure Xfer where
  port : Port
  epoch : Nat
  src : Nat
  dst : Nat
  total : Nat
  issued : Nat
  reads : List (Nat × Nat × Nat)
  arrived : List (Nat × List Byte)
  writes : List (Nat × Nat × Nat)
  written : List (Nat × Nat)
  cmd : Option (Nat × Nat)
  deriving DecidableEq, Repr

/-- The shared engines (R406, R411): the channel that each served last, and requests of failed transfers that are still to be answered, as
(channel, tag, whether it is a read and holds a slot). -/
structure DmaSt where
  readLast : Nat := 63
  writeLast : Nat := 63
  strays : List (Nat × Nat × Bool) := []
  deriving DecidableEq, Repr

/-- Who armed a shadow set (R407). -/
structure Armer where
  port : Port
  epoch : Nat
  cmd : Option (Nat × Nat)
  deriving DecidableEq, Repr

/-- A transfer loaded by a DMAGO (R436): its channel, the command's queue, sequence number, epoch, port and operands. -/
structure DmaRec where
  ch : Nat
  q : Nat
  seq : Nat
  epoch : Nat
  port : Port
  cmd : Cmd
  deriving DecidableEq, Repr

/-! Tally tables (chapter 11). -/

/-- A set-up table's rows (R289): for each of its columns, in ascending order, the store rows that hold its primary rows and
then its spill rows; and whether a release waits (R297). Its entries stand in those rows. -/
structure TableSt where
  cols : List (Nat × List Nat)
  releasing : Bool
  deriving DecidableEq, Repr

/-- A TDRAIN with CLEAR whose columns have been read and whose commit is to come (R295): its queue and sequence number, its table, and the
inserts that have reached the table since, as entries of a delta, newest first. -/
structure DrainLog where
  q : Nat
  seq : Nat
  table : Nat
  log : List (Nat × Nat × Nat × Nat)
  deriving DecidableEq, Repr

/-! Twin operation (chapter 17). -/

/-- A frame of the Capo link (R421): its counter (0 while it waits to be sent), the order in which it arose, its kind and words. -/
structure CapoFrame where
  ctr : Nat
  ticket : Nat
  words : List Nat
  deriving DecidableEq, Repr

/-- The device's side of the Capo link and of its pair (R416 to R442): the counters of the two directions, frames sent and not yet
acknowledged, frames that wait to be sent, how many have arisen, the session keys of both directions, acknowledgements due, the partner's role and state as its HELLO said, whether
each direction's session key stands, commits that await acknowledgement as (queue, sequence number), the frame with which the
sync stream ends, whether the partner's heartbeats carry RECOVERING, whether this device drives TWIN_FENCE_N low, whether it was
ever paired, whether a swap drains it, the level of TWIN_HB_OUT, and, on a Shadow, word 1 of the admissions it was told of by
handle, kernels it could not place, and its standby groups by first lane. -/
structure CapoSt where
  txCtr : Nat := 0
  rxCtr : Nat := 0
  replay : List CapoFrame := []
  queue : List CapoFrame := []
  tickets : Nat := 0
  txKey : List Byte := []
  rxKey : List Byte := []
  acksDue : Nat := 0
  partner : Option (Bool × Nat) := none
  keyIn : Bool := false
  keyOut : Bool := false
  commits : List (Nat × Nat) := []
  syncTo : Nat := 0
  recovering : Bool := false
  fenceOut : Bool := false
  everPaired : Bool := false
  swapping : Bool := false
  hbLevel : Bool := false
  placed : KMap Nat := []
  cold : List (Nat × Nat × Image) := []
  standby : List Nat := []
  deriving DecidableEq, Repr

/-! Clocks, pins, security (chapters 19 to 22). -/

/-- The clock monitor and start-up (R493 to R496, R554): detector, start delay, and good windows in a row. -/
structure MonSt where
  ready : Bool := false
  delay : Bool := false
  good : Nat := 0
  hold : Bool := false
  deriving DecidableEq, Repr

/-- A step of the operating point (R506): the point it moves to, whether the frequencies are moving, and the TARGET written
meanwhile. -/
structure OpStep where
  goal : Nat
  ramp : Bool
  next : Option Nat
  deriving DecidableEq, Repr

/-- The timebase (R517 to R520): running from TB PLL lock, its seconds, nanoseconds and sixteenths, the fraction the PPB
accumulator holds, the rate of a slew in ppb (R443, R520), a load waiting (R518), and the last valid PPS edge as ns of the
timebase. -/
structure TimeSt where
  run : Bool := false
  sec : Nat := 0
  ns : Nat := 0
  six : Nat := 0
  frac : Nat := 0
  slew : Int := 0
  load : Bool := false
  lastPps : Option Nat := none
  deriving DecidableEq, Repr

/-- A service pin in hand-over (R530): the level it keeps, and GPIO writes that wait. -/
structure Handover where
  level : Bool
  out : Option Bool
  oe : Option Bool
  deriving DecidableEq, Repr

/-- The four FIFOs' worth of an I/O cell (R257): tokens toward the pin (TX0, TX1, OE) and values toward the fabric. -/
structure IoSt where
  tx0 : List Bool := []
  tx1 : List Bool := []
  oe : List Bool := []
  rx0 : List Bool := []
  rx1 : List Bool := []
  drive : Bool := false
  level : Bool := false
  deriving DecidableEq, Repr

/-- A key slot operation in progress (R477): its code, slot and key-encrypting key. -/
structure KeyOp where
  op : Nat
  slot : Nat
  kek : Nat
  deriving DecidableEq, Repr

/-- A host request that waits at its port for its turn (R390): a device address, and the data of a write; or the command that brought a
register access. -/
structure HostReq where
  write : Bool
  addr : Nat
  len : Nat
  data : List Byte
  enables : List Bool
  row : Option Instr
  deriving DecidableEq, Repr

/-- A host read of a portal window that is not answered yet (R388, R392): its device address and length, the parts asked for
as (tag, offset, length), and what has come as (offset, bytes) with the worst outcome. -/
structure HostRead where
  addr : Nat
  len : Nat
  parts : List (Nat × Nat × Nat)
  got : List (Nat × List Byte)
  worst : Outc
  deriving DecidableEq, Repr

/-- A PCIe port beyond its registers (R387 to R394, R398): host requests that wait, the last endpoint written (portal tile, or
256 + column), portal writes not acknowledged as (tag, tile), portal reads not answered, device reads of host memory by
PCIe tag and those that wait for a tag, the MSI-X table as (address, data, masked), its pending bits, the function mask, and
whether PERST is asserted and whether the port's turn is being served to a register access that had waited. -/
structure PortSt where
  held : List HostReq := []
  last : Nat := 0
  writes : List (Nat × Nat) := []
  reads : List HostRead := []
  dev : List (Nat × Packet) := []
  devWait : List Packet := []
  msix : KMap (Nat × Nat × Bool) := []
  pend : Nat := 0
  funcMask : Bool := false
  perst : Bool := true
  serving : Bool := false
  late : List Nat := []
  deriving DecidableEq, Repr

end Sys2Proof.Machine
end

