-- ==== Sys2Proof/Machine/State.lean ====
section
/-!
DEFINITION. The state of the T9240: every register field, every memory and buffer, and what the spec says the device
remembers without giving it a register; and the queue of the commands that wait. Each field's default is its value after
a cold reset, before POR_N is released (R548, R9).
-/
namespace Sys2Proof.Machine

/-- The device: everything but the queue of waiting commands. -/
structure Dev where
  /-- Register fields by their bit address (Field.key); an unlisted field holds its reset value. -/
  regs : KMap Nat := []
  /-- The model's own counter of free values met so far (log entry 1). -/
  free : Nat := 0
  /-- What has left the device, newest first (log entry 4). -/
  out : List OutEvent := []
  /-- Queues (chapter 02), by number. -/
  queues : KMap QueueSt := []
  /-- Slots each queue has taken of its engine's present round, at the accept stage and at the issue stage (R33, R34). -/
  acceptTurns : KMap Nat := []
  issueTurns : KMap Nat := []
  /-- Barrier instances (R80), by number. -/
  barriers : KMap Barrier := []
  /-- Error records waiting to be written, oldest first (R451). -/
  errq : List ErrRec := []
  /-- Leaky buckets by 2^24 × kind + unit (R453). -/
  buckets : KMap Bucket := []
  /-- Strings by UID (R460). -/
  strings : KMap StringSt := []
  /-- Retired units. -/
  retired : List (UnitKind × Nat) := []
  /-- The protected word STORE_FLIP_CTL last altered, until it is written again (R456). -/
  flipped : Option Nat := none
  /-- The store: data bytes at 0 to 2^28 − 1, check residues at 2^28 + 4 × word + k (log entry 5). -/
  mem : List Host.Cell := []
  /-- Live and burnt sealed rows by store row (R485). -/
  sealedRows : KMap SealedRow := []
  /-- Store words whose corrected value waits for its write-back (R264). -/
  writeBacks : List Nat := []
  /-- Requests waiting for a waking bank (R272), oldest first. -/
  bankWait : List StoreReq := []
  /-- Placement-record entries that wait for a bank to wake or for the end of a store-die reset (R272, R276), oldest first. -/
  recWait : List (List Nat) := []
  /-- Requests that arrived during a store-die reset (R276). -/
  resetWait : List StoreReq := []
  /-- Buffers by handle. -/
  buffers : KMap Buffer := []
  /-- Kernels by handle. -/
  kernels : KMap Kernel := []
  /-- Ensembles by anchor. -/
  ensembles : KMap Ensemble := []
  /-- Migrations in progress, by the source anchor. -/
  migrations : KMap Migration := []
  /-- Buffer migrations in progress, by handle. -/
  bufMoves : KMap BufMove := []
  /-- Placement decisions made so far per 2^24 × kind + handle (OCC, R123). -/
  occ : KMap Nat := []
  /-- The record entry Luthier has read and not yet matched, in Replay mode (R573). -/
  replayEntry : Option (List Word) := none
  /-- The Replay record has ended (R573). -/
  replayEnd : Bool := false
  /-- Recorded mode goes on unrecorded (R124, R573). -/
  recStop : Bool := false
  /-- Queues whose journal pointers are lost (R474). -/
  lostJournals : List Nat := []
  /-- The placement map root is lost (R474). -/
  rootLost : Bool := false
  /-- Configuration planes: frames by frame address (R333); an unlisted frame is all zeros. -/
  frames : KMap (BitVec 27136) := []
  /-- Frames whose stored CRC fails (R465). -/
  badFrames : List Nat := []
  /-- The CRC-32 each state plane was last given (R182, R197), by 8 × tile + fret. -/
  planeCrcs : KMap Nat := []
  /-- State planes whose stored CRC fails, by 8 × tile + fret (R198). -/
  badPlanes : List Nat := []
  /-- Hold elements by 16,384 × (8 × tile + fret) + cell; unlisted: IFULL and IVAL of the cell word (R147, R183). -/
  holds : KMap Hold := []
  /-- Tokens at their sources in the shown frets (R159). -/
  toks : KMap Tok := []
  /-- Parameter registers by 16 × (8 × tile + fret) + k. -/
  params : KMap Word := []
  /-- Parameter handshakes held in a quiesce (R182). -/
  paramHeld : List Nat := []
  /-- Parked responses by 8 × tile + fret, in arrival order (R201). -/
  parks : KMap (List Packet) := []
  /-- Row registers by 8 × tile + fret (R230). -/
  rowRegs : KMap RowReg := []
  /-- Row moves at row ports, by 8 × tile + fret (R274). -/
  rowReqs : KMap RowReq := []
  /-- The column whose waiting row move the governor admitted last (R275). -/
  moveTurn : Nat := 63
  /-- Block-memory words by 1,024 × (16 × tile + memory) + word (R209). -/
  bmem : KMap (BitVec 48) := []
  /-- Block-memory words whose corrected value waits for its write-back (R215), coded as bmem. -/
  bmemBack : List Nat := []
  /-- Block-memory accesses granted and not finished (R213), by 32 × tile + 2 × memory + port. -/
  memHolds : KMap MemHold := []
  /-- Accesses to debug windows that wait for a migration or for idle ports (R219), oldest first. -/
  debugWait : List DebugReq := []
  /-- Kernels whose values are undefined (R147, R196): 1 until they are started again, 2 until their state is known too. -/
  undef : KMap Nat := []
  /-- Tile resets that wait for their ensembles, as logical tiles (R553). -/
  tileResets : List Nat := []
  /-- Portals by tile. -/
  portals : KMap PortalSt := []
  /-- Packets translated after a remap that have reached its new tiles before the ensemble resumed, by tile (R130), oldest first. -/
  lateArrivals : List (Nat × Packet) := []
  /-- Logical to physical tiles; unlisted: the same identifier (R129). -/
  remap : KMap Nat := []
  /-- The dies' metering mode in force (R251): METER_A, METER_B, NA, NB packed as CFG_METER. -/
  meter : Nat := 0
  /-- Tally tables by number. -/
  tables : KMap TableSt := []
  /-- Drains of tables that are to be cleared (R295). -/
  drains : List DrainLog := []
  /-- Packets whose writes wait for staging rows (R59) or for room among the write records to the twin (R425), oldest first. -/
  stageWait : List Packet := []
  /-- Packets for the store die that wait at the routers during its reset (R276). -/
  topWait : List Packet := []
  /-- A load in progress (R326). -/
  load : Option Load := none
  /-- A host operation in progress (R345). -/
  hostOp : Option HostOp := none
  /-- Near-via classes of clusters by 1,024 × tile + cluster (R244, R245): written at manufacture, never changed. -/
  nearVia : KMap Nat := []
  /-- The image store's blocks: the 65,536 bytes that the last program operation of each wrote (R322, R323). -/
  nvBlocks : KMap (List Byte) := []
  /-- Program counts of image-store blocks (R323). -/
  nvWear : KMap Nat := []
  /-- Chain boot: the position is known (R351). -/
  chainPos : Bool := false
  /-- Chain images taken so far (R351). -/
  chainTaken : Nat := 0
  /-- Groups by first lane (chapter 14); 128 is the Capo group. -/
  groups : KMap GroupSt := []
  /-- The transmit side of the groups' lanes, by first lane (R356, R359). -/
  lines : KMap LineSt := []
  prbs : KMap PrbsSt := []
  /-- Transfers in progress by channel (R405). -/
  xfers : KMap Xfer := []
  dma : DmaSt := {}
  /-- Who armed the shadow set of a channel (R407). -/
  armers : KMap Armer := []
  /-- Transfers loaded by DMAGO with no record of ending well (R436). -/
  dmaLog : List DmaRec := []
  /-- Transfers that a replay starts again once their channel takes them (R436). -/
  dmaRedo : List DmaRec := []
  /-- Landing credits held by 2^12 × source column + 2^6 × destination column + 4 × endpoint + channel (R313). -/
  credits : KMap Nat := []
  /-- Route markers outstanding as (source column, destination column) (R309). -/
  markers : List (Nat × Nat) := []
  /-- Packets held for a route change (R309). -/
  heldPackets : List Packet := []
  /-- The routers between sources and destinations (R310, R312, R315). -/
  noc : NocSt := {}
  /-- The twin's link. -/
  capo : CapoSt := {}
  /-- Held under TWIN_FENCE_N (R433). -/
  held : Bool := false
  /-- The clock monitor. -/
  mon : MonSt := {}
  /-- The timebase. -/
  time : TimeSt := {}
  /-- An operating-point step in progress (R506). -/
  opStep : Option OpStep := none
  /-- A wake that arrived during Rest entry (R515): its source. -/
  wakePend : Option Nat := none
  /-- Levels of GPIO inputs at Rest entry (R536). -/
  restLevels : Nat := 0
  /-- Lanes the device took out of service, by 256 × cause + lane, with the state they had: 0 coast, 1 Rest, 2 muted by the
  governor, 3 a group made Idle by it (R500, R509, R514). -/
  lanesHeld : KMap Nat := []
  /-- Service pins in hand-over. -/
  handovers : KMap Handover := []
  /-- Owners of service pins as last driven, by pin. -/
  owners : KMap Nat := []
  /-- Pulses waiting on EVENT outputs, by line (R535). -/
  evPulses : KMap Nat := []
  /-- I/O cells (R257). -/
  io : KMap IoSt := []
  /-- Taps of the I/O cells' delay lines by cell, and the last measure of each bank's replica line in ps (R259, R260). -/
  taps : KMap Nat := []
  replicas : KMap Nat := []
  /-- The UART receive FIFO (R537). -/
  uart : List Byte := []
  /-- The TAP's instruction (R543): 0 BYPASS, 1 IDCODE, 2 a boundary instruction, 3 another. -/
  tap : Nat := 1
  /-- A slot operation in progress (R477). -/
  keyOp : Option KeyOp := none
  /-- Whether SEC_KEYDATA holds a wrap's result (R479). -/
  wrapShown : Bool := false
  /-- Key data written, by k (R476). -/
  keyData : KMap Word := []
  /-- The armed life-cycle request: its target (R489). -/
  lcArmed : Option Nat := none
  /-- The target recorded in the key store (R489). -/
  lcTarget : Option Nat := none
  /-- The non-volatile life-cycle state, key slots and generations (R475, R482, R489), which every reset keeps. -/
  nvLc : Nat := 0
  nvSlots : Nat := 0
  /-- The keys of filled slots, 32 bytes each (R475), which every reset keeps. -/
  nvKeys : KMap (List Byte) := []
  nvGens : KMap Nat := []
  /-- The life-cycle word is lost (R474). -/
  lcLost : Bool := false
  /-- The supplies of the user I/O banks, two bits each: 0 none, 1 1.2 V, 2 1.5 V, 3 1.8 V (R524, R538). -/
  vddio : Nat := 0
  /-- Dies in reset, oldest first (R552). -/
  dieResets : List Nat := []
  /-- A warm reset is in progress (R549). -/
  resetWarm : Bool := false
  /-- PCIe ports by number. -/
  ports : KMap PortSt := []
  deriving DecidableEq, Repr

/-- The state of the model: the device, and the commands that wait, first in, first out. -/
structure State where
  pending : List Instr := []
  dev : Dev := {}
  deriving DecidableEq, Repr

/-- The machine stops. No command of the table stops it: this names the one case in which the spec gives the device no
state at all. -/
inductive Fault where
  /-- Raised by nobody: supplies brought up in another order than R525's leave the device's state undefined, and no row of
  the table powers supplies. Safe. -/
  | supplyOrder
  deriving DecidableEq, Repr

/-- No meaning for a command. -/
inductive Refusal where
  /-- Raised by an arm of exec whose command has no meaning yet, by its mnemonic. Safe. -/
  | notModelled (mnemonic : String)
  deriving DecidableEq, Repr

/-- The device after a cold reset, POR_N still low (R548, R554). -/
def State.reset : State := {}

/-- What a meaning answers. -/
abbrev Result := Host.Outcome State Fault Refusal

/-- The outcome of a meaning that changes the device and leaves the waiting commands as they are. -/
def State.next (s : State) (d : Dev) : Result := .next { s with dev := d }

end Sys2Proof.Machine
end

