-- ==== Sys2Proof/Machine/Ops.lean ====
section
/-!
DEFINITION. The named operations over the device's registers and records: reading and writing fields, free values, what
leaves the device, the timebase, the topology of tiles and columns, messages, events and their error records.
-/
namespace Sys2Proof
open Sys2Proof.Machine

/-- The covered bits of an access (R5): lo and width of the half. -/
def Half.covers (h : Half) (i : Nat) : Bool :=
  match h with | .all => true | .lo => decide (i < 32) | .hi => decide (32 ≤ i)

/-- What a read of a half of a register returns of its value (R5). -/
def Half.part (h : Half) (v : Nat) : Nat :=
  match h with | .all => v | .lo => v % 2 ^ 32 | .hi => v / 2 ^ 32

/-- The ones a register write puts on a field's covered bits. -/
def RegWr.ones (w : RegWr) (f : Field) : Nat :=
  (List.range f.width).foldl (fun acc i =>
    acc + 2 ^ i * b2n (w.half.covers (f.lo + i) && w.data.toNat.testBit (f.lo + i))) 0

/-- A register write puts 1 on a one-bit field. -/
def RegWr.one (w : RegWr) (f : Field) : Bool := w.half.covers f.lo && w.data.toNat.testBit f.lo

/-- A register write covers some bit of a field. -/
def RegWr.touches (w : RegWr) (f : Field) : Bool :=
  (List.range f.width).any fun i => w.half.covers (f.lo + i)

/-- The bucket kind of a unit (k of ERR_BKT_CFGk), with the code of R449's UKIND. -/
def UnitKind.code : UnitKind → Nat
  | .tile => 0 | .bank => 1 | .lane => 2 | .link => 3 | .string => 4
  | .rowPort => 5 | .vertical => 6 | .tally => 7 | .edgeIo => 8

/-- The UKIND of a unit in an error record (R449). -/
def UnitKind.ukind : UnitKind → Nat
  | .tile => 1 | .bank => 2 | .lane => 3 | .link => 4 | .string => 5
  | .rowPort => 1 | .vertical => 1 | .tally => 10 | .edgeIo => 1

end Sys2Proof

namespace Sys2Proof.Machine

/-! Fields. -/

/-- The value of a field. -/
def Dev.rd (d : Dev) (f : Field) : Nat := KMap.get d.regs f.key f.reset

/-- A one-bit field as a truth value. -/
def Dev.on (d : Dev) (f : Field) : Bool := d.rd f % 2 == 1

/-- Set a field, keeping its width. -/
def Dev.wr (d : Dev) (f : Field) (v : Nat) : Dev := { d with regs := KMap.put d.regs f.key (v % 2 ^ f.width) }

/-- Set a one-bit field. -/
def Dev.set (d : Dev) (f : Field) : Dev := d.wr f 1

/-- Clear a field. -/
def Dev.clr (d : Dev) (f : Field) : Dev := d.wr f 0

/-- Add 1, modulo the field's width (a count that wraps). -/
def Dev.inc (d : Dev) (f : Field) : Dev := d.wr f (d.rd f + 1)

/-- Add n, staying at the field's largest value (a count that saturates). -/
def Dev.incSat (d : Dev) (f : Field) (n : Nat := 1) : Dev := d.wr f (min (d.rd f + n) (2 ^ f.width - 1))

/-- Run a change only when a condition holds. -/
def Dev.when (d : Dev) (c : Bool) (f : Dev → Dev) : Dev := if c then f d else d

/-- Bit i of a field. -/
def Dev.bit (d : Dev) (f : Field) (i : Nat) : Bool := (d.rd f).testBit i

/-- A number with bit i set or cleared. -/
def setBit (n i : Nat) (b : Bool) : Nat := if n.testBit i then (if b then n else n - 2 ^ i) else (if b then n + 2 ^ i else n)

/-- Set or clear bit i of a field. -/
def Dev.wrBit (d : Dev) (f : Field) (i : Nat) (b : Bool) : Dev := d.wr f (setBit (d.rd f) i b)

/-- A register write's value for a field: covered bits from the data, the others as they stand. -/
def Dev.wval (d : Dev) (w : RegWr) (f : Field) : Nat :=
  (List.range f.width).foldl (fun acc i =>
    acc + 2 ^ i * b2n (if w.half.covers (f.lo + i) then w.data.toNat.testBit (f.lo + i) else (d.rd f).testBit i)) 0

/-- A RW field takes the write. -/
def Dev.take (d : Dev) (w : RegWr) (f : Field) : Dev := d.wr f (d.wval w f)

/-- A W1C field takes the write (R7): each 1 clears its bit. -/
def Dev.takeW1c (d : Dev) (w : RegWr) (f : Field) : Dev :=
  d.wr f ((List.range f.width).foldl (fun acc i => setBit acc i (acc.testBit i && !(w.ones f).testBit i)) (d.rd f))

/-! Free values. -/

/-- A fresh undefined word (R10). -/
def Dev.freshWord (d : Dev) : Word × Dev := (Config.freeWord d.free, { d with free := d.free + 1 })

/-- The undefined word the next use of freshWord would give. -/
def Dev.peekWord (d : Dev) : Word := Config.freeWord d.free

/-- Note that an undefined value has been used. -/
def Dev.burn (d : Dev) : Dev := { d with free := d.free + 1 }

/-- n undefined bytes (R10). -/
def Dev.freshBytes (d : Dev) (n : Nat) : List Byte × Dev :=
  ((List.range n).map fun i => Config.freeByte (d.free + i), { d with free := d.free + n })

/-! What leaves the device. -/

/-- Send something outward. -/
def Dev.emit (d : Dev) (e : OutEvent) : Dev := { d with out := e :: d.out }

/-! Words and bytes. -/

/-- A number's low bytes, least significant first (R2). -/
def bytesLE : (n : Nat) → (v : Nat) → List Byte
  | 0, _ => []
  | k + 1, v => BitVec.ofNat 8 v :: bytesLE k (v / 256)

/-- The number whose bytes these are, least significant first. -/
def numLE : List Byte → Nat
  | [] => 0
  | b :: t => b.toNat + 256 * numLE t

/-- The bytes of words, each little-endian. -/
def wordBytes (ws : List Nat) : List Byte := (ws.map (bytesLE 8)).flatten

/-- One step of CRC-32 (IEEE 802.3 polynomial, reflected) over a byte. -/
def crcByte (crc : Nat) (b : Byte) : Nat :=
  (List.range 8).foldl (fun c _ => if c % 2 == 1 then c / 2 ^^^ 0xEDB88320 else c / 2) (crc ^^^ b.toNat)

/-- CRC-32 over bytes, from a running state (0xFFFFFFFF at the start), not yet complemented. -/
def crcRun (crc : Nat) (bs : List Byte) : Nat := bs.foldl crcByte crc

/-- CRC-32 of a byte sequence (IEEE 802.3). -/
def crc32 (bs : List Byte) : Nat := crcRun 0xFFFFFFFF bs ^^^ 0xFFFFFFFF

/-- The positions of a mask's ones below 64, ascending. -/
def maskList (m : Nat) : List Nat := (List.range 64).filter fun i => m.testBit i

/-- How many ones a mask has below 64. -/
def popCount (m : Nat) : Nat := (maskList m).length

/-- A mask from the positions of its ones. -/
def maskOf (l : List Nat) : Nat := l.foldl (fun m i => setBit m i true) 0

/-! Time (R62, R517). -/

/-- The stamp of the present moment, in the layout of completion word 3 (R62). -/
def Dev.stamp (d : Dev) : Nat :=
  d.time.sec % 2 ^ 30 * 2 ^ 34 + d.time.ns % 2 ^ 30 * 16 + d.time.six % 16

/-- The timebase in ns. -/
def Dev.nowNs (d : Dev) : Nat := d.time.sec * 1000000000 + d.time.ns

/-! Topology (chapter 01). -/

/-- The column of a tile (R14). -/
def colOfTile (t : Nat) : Nat := 8 * bitsOf t 0 3 + bitsOf t 4 3

/-- The portal endpoint of a tile (R15). -/
def epOfTile (t : Nat) : Nat := 2 * bitsOf t 7 1 + bitsOf t 3 1

/-- The four tiles of a column, by portal endpoint (R15). -/
def tileOfCol (c ep : Nat) : Nat := 128 * (ep / 2) + 8 * (2 * (c % 8) + ep % 2) + c / 8

/-- The x and y of a tile (R14). -/
def tileX (t : Nat) : Nat := bitsOf t 3 4
def tileY (t : Nat) : Nat := bitsOf t 0 3

/-- A tile from die, x, y. -/
def tileAt (die x y : Nat) : Nat := 128 * die + 8 * x + y

/-- The 16 banks of a column (R17). -/
def banksOfCol (c : Nat) : List Nat := (List.range 16).map fun k => 16 * c + k

/-- The sequencer engine that serves a queue (R33). -/
def engineOf (q : Nat) : Nat := q % 16

/-- The column whose router holds a queue's sequencer engine (R22). -/
def engineCol (q : Nat) : Nat := 8 * (2 + engineOf q / 4) + 2 + engineOf q % 4

/-- The column of the control registers, Luthier among them (R22). -/
def controlCol : Nat := 8 * 5 + 7

/-- The column of a port's PCIe endpoint (R22, R302). -/
def portCol (p : Port) : Nat := match p with | .a => 31 | .b => 39

/-- The column of the DMA engines, endpoint 7 (R22, R302). -/
def dmaCol : Nat := 23

/-- The column and bridge code of the lane bridge of a user lane (R22, R302). -/
def bridgeOf (L : Nat) : Nat × Nat :=
  let quad := L / 4
  (if quad < 16 then quad / 2 else 56 + (quad - 16) / 2, 8 + quad % 2)

/-- Hops between two coordinates of a ring of 8, the shorter way (R307). -/
def ringHops (a b : Nat) : Nat := min ((b + 8 - a) % 8) ((a + 8 - b) % 8)

/-- Hops between two columns (R307). -/
def colHops (a b : Nat) : Nat := ringHops (a % 8) (b % 8) + ringHops (a / 8) (b / 8)

/-- The physical tile of a logical one (R129). -/
def Dev.phys (d : Dev) (t : Nat) : Nat := KMap.get d.remap t t

/-- The logical tile of a physical one. -/
def Dev.logical (d : Dev) (t : Nat) : Nat := ((List.range 256).find? fun l => d.phys l == t).getD t

/-! Retirement, as recorded. -/

/-- A unit is retired. -/
def Dev.isRetired (d : Dev) (k : UnitKind) (u : Nat) : Bool := d.retired.contains (k, u)

/-! Routes (R307, R308). -/

/-- The steps along one ring from a to b in a direction: the lower coordinate of each link crossed. -/
def ringSteps (up : Bool) : (n a : Nat) → List Nat
  | 0, _ => []
  | n + 1, a => if up then a :: ringSteps up n ((a + 1) % 8) else ((a + 7) % 8) :: ringSteps up n ((a + 7) % 8)

/-- The links of a dimension between coordinates, the preferred direction first; none when both are blocked (R308). -/
def ringRoute (link : Nat → Nat) (retired : List Nat) (a b : Nat) : Option (List Nat) :=
  let up := (b + 8 - a) % 8
  let upSteps := (ringSteps true up a).map link
  let dnSteps := (ringSteps false ((8 - up) % 8) a).map link
  let (first, second) := if up ≤ 4 then (upSteps, dnSteps) else (dnSteps, upSteps)
  if !(first.any retired.contains) then some first
  else if !(second.any retired.contains) then some second else none

/-- The links a packet crosses between two columns; none when the pair is unreachable (R307, R308). -/
def routeOver (retired : List Nat) (s t : Nat) : Option (List Nat) :=
  match ringRoute (fun x => 2 * (8 * (s / 8) + x)) retired (s % 8) (t % 8),
        ringRoute (fun y => 2 * (8 * y + t % 8) + 1) retired (s / 8) (t / 8) with
  | some a, some b => some (a ++ b)
  | _, _ => none

/-- Retired links. -/
def Dev.deadLinks (d : Dev) : List Nat := d.retired.filterMap fun (k, u) => if k = .link then some u else none

/-- A column reaches another over the network (R17, R308). -/
def Dev.linked (d : Dev) (s t : Nat) : Bool := (routeOver d.deadLinks s t).isSome

/-- A column reaches the banks of some store rows. -/
def Dev.reachesRows (d : Dev) (s : Nat) (rows : List Nat) : Bool := rows.all fun r => d.linked s (r / 8192)

/-! Ports and messages. -/

/-- A port's PCIe state. -/
def Dev.port (d : Dev) (p : Port) : PortSt := KMap.get d.ports p.num {}

/-- Replace it. -/
def Dev.setPort (d : Dev) (p : Port) (x : PortSt) : Dev := { d with ports := KMap.put d.ports p.num x }

/-- The port named by a bit. -/
def portOf (b : Nat) : Port := if b % 2 == 1 then .b else .a

/-- A port's link works for the device's own requests: up, Bus Master Enable set, not in reset (R393, R398). -/
def Dev.portUp (d : Dev) (p : Port) : Bool :=
  d.on (PORT_STAT_LINKUP p.num) && d.on (PORT_STAT_BME p.num) && !d.on (PORT_STAT_INRESET p.num)

/-- Send an MSI-X message, or set its pending bit when its vector or function is masked (R394). One that is not masked while its port cannot
send, its link down or Bus Master Enable 0, is dropped (DEDUCED, log entry 56). -/
def Dev.msix (d : Dev) (p : Port) (vec : Nat) : Dev :=
  let st := d.port p
  let masked := (KMap.get st.msix (vec % 64) (0, 0, true)).2.2
  if st.funcMask || masked then d.setPort p { st with pend := setBit st.pend (vec % 64) true }
  else if d.portUp p then d.emit (.msix p (vec % 64)) else d

/-! Event counters (R54). -/

/-- Add 1 to an event counter; at 65,535 a pulse sets OVF. EVENT outputs bound to it pulse (R535). -/
def Dev.eventInc (d : Dev) (n : Nat) : Dev :=
  let d := if d.rd (EV_COUNT_COUNT n) ≥ 65535 then d.set (EV_COUNT_OVF n) else d.inc (EV_COUNT_COUNT n)
  (List.range 8).foldl (fun d k =>
    if d.bit PIN_FUNC_EV k && d.on (SVC_EVCFG_DIR k) && d.rd (SVC_EVCFG_EV k) == n then
      let w := KMap.get d.evPulses k 0
      if w < 15 then { d with evPulses := KMap.put d.evPulses k (w + 1) } else d.incSat (SVC_EVCFG_DROPPED k)
    else d) d

/-! Buckets (R453). -/

/-- A unit's bucket. -/
def Dev.bucket (d : Dev) (k : UnitKind) (u : Nat) : Bucket := KMap.get d.buckets (2 ^ 24 * k.code + u) {}

/-- Replace it. -/
def Dev.setBucket (d : Dev) (k : UnitKind) (u : Nat) (b : Bucket) : Dev :=
  { d with buckets := KMap.put d.buckets (2 ^ 24 * k.code + u) b }

/-- The kinds with a bucket, as k of ERR_BKT_CFGk. -/
def Dev.thresh (d : Dev) (k : UnitKind) : Nat := d.rd (ERR_BKT_CFG_THRESH k.code)

/-- The time after which a count falls (R454), in ns of the timebase. -/
def Dev.fallTime (d : Dev) (k : UnitKind) : Nat :=
  let w := max 1 (d.rd (ERR_BKT_CFG_WINDOW k.code)) * 1000000000
  let t := max 1 (d.thresh k)
  (w + t - 1) / t

/-- A bucket with the falls that have come (R454). -/
def Dev.settled (d : Dev) (k : UnitKind) (u : Nat) : Bucket :=
  let b := d.bucket k u
  let n := (d.nowNs - b.last) / d.fallTime k
  if n = 0 then b else { count := b.count - n, last := b.last + n * d.fallTime k }

/-- The kind of unit with a bucket that a UKIND names (R449). -/
def bucketKind (ukind : Nat) : Option UnitKind :=
  match ukind with
  | 1 => some .tile | 2 => some .bank | 3 => some .lane | 4 => some .link | 5 => some .string
  | _ => none

/-- COUNT of an error record (R449): the bucket count of the unit it names. -/
def Dev.recordCount (d : Dev) (ukind uid : Nat) : Nat :=
  match bucketKind ukind with
  | some k => (if d.isRetired k uid then d.bucket k uid else d.settled k uid).count
  | none => 0

/-! Events (R448 to R452). -/

/-- An event: its class, the flag (or counter) it names, its unit and detail, whether it concerns a word altered for a
checker test (R456). bare: the spec names neither a flag nor a counter for it, so its record's
FREG and FBIT are free values (log entry 8). -/
structure Ev where
  cls : EvClass
  flag : Field := ⟨0, 0, 1, 0⟩
  bare : Bool := false
  bit : Nat := 0
  ukind : Nat := 0
  uid : Nat := 0
  detail : Nat := 0
  test : Bool := false
  deriving DecidableEq, Repr

/-- A count of a class of dropped records (R451). -/
def dropField : EvClass → Field
  | .slate => ERR_DROP_SLATE | .ochre => ERR_DROP_OCHRE | .crimson => ERR_DROP_CRIMSON

/-- A record is not written: it counts under its class (R451). -/
def Dev.dropRecord (d : Dev) (c : EvClass) : Dev := (d.incSat (dropField c)).set ERR_STAT_DROPPED

/-- The error record of an event (R449), its PHASE not yet set. -/
def Dev.record (d : Dev) (e : Ev) : ErrRec :=
  { cls := e.cls
    w0 := e.cls.code + 8 * b2n e.test + 2 ^ 8 * (if e.bare then d.peekWord.toNat % 2 ^ 27
      else e.flag.off / 8 % 2 ^ 21 + 2 ^ 21 * ((e.flag.lo + e.bit) % 64))
    w1 := e.ukind % 16 + 2 ^ 8 * (e.uid % 2 ^ 24) + 2 ^ 32 * (d.recordCount e.ukind e.uid % 256)
    w2 := e.detail % 2 ^ 64
    w3 := d.stamp }

/-- Raise an event that names a counter rather than a flag: its record, and ERR_ALARM when it is Crimson (R448, R456). -/
def Dev.report (d : Dev) (e : Ev) : Dev :=
  let d := if e.cls = .crimson then
      let d := d.incSat ERR_ALARM_CCOUNT
      if e.test then d else d.set ERR_ALARM_PEND
    else d
  let d := if d.on ERR_CTL_EN then { d with errq := d.errq ++ [d.record e] } else d.dropRecord e.cls
  if e.bare then d.burn else d

/-- Raise an event: set its flag, then report it (R448). -/
def Dev.raise (d : Dev) (e : Ev) : Dev := (d.wrBit e.flag e.bit true).report e

/-! Clock gates (R501, R502). -/

/-- A block's gate bit in CLK_GATE0 is open, or closing with its block not yet idle. -/
def Dev.gateServes (d : Dev) (i : Nat) : Bool := d.bit CLK_GATE0_GATE i || d.bit CLK_GATE_PEND_PEND i

/-- A block's gate bit in CLK_GATE0 is open. -/
def Dev.gate (d : Dev) (i : Nat) : Bool := d.bit CLK_GATE0_GATE i

/-- A lane quad's gate bit in CLK_GATE1 is open. -/
def Dev.gateLane (d : Dev) (quad : Nat) : Bool := d.bit CLK_GATE1_GATE quad

/-- The device runs: phase 9, not held, awake (R554, R433, R514). -/
def Dev.running (d : Dev) : Bool :=
  d.rd RESET_STAT_PHASE == 9 && !d.held && d.rd CLK_REST_STATE == 0

/-- Ensembles still come to rest: the device runs, or enters Rest (R514). -/
def Dev.settling (d : Dev) : Bool := d.rd RESET_STAT_PHASE == 9 && !d.held && decide (d.rd CLK_REST_STATE < 2)

/-- The pair is protected and this device leads (R416). -/
def Dev.pairedLead (d : Dev) : Bool := d.rd TWIN_STAT_STATE == 3 && d.rd TWIN_STAT_ROLE == 0

/-- This device leads a pair that is syncing or paired: what it does travels to the Shadow (R417, R422). -/
def Dev.telling (d : Dev) : Bool := (d.rd TWIN_STAT_STATE == 2 || d.rd TWIN_STAT_STATE == 3) && d.rd TWIN_STAT_ROLE == 0

/-- The pair is protected and this device shadows. -/
def Dev.pairedShadow (d : Dev) : Bool := d.rd TWIN_STAT_STATE == 3 && d.rd TWIN_STAT_ROLE == 1

/-- A device that stands as Shadow takes no work from hosts (R429). -/
def Dev.shadowing (d : Dev) : Bool :=
  d.rd TWIN_STAT_ROLE == 1 && decide (1 ≤ d.rd TWIN_STAT_STATE ∧ d.rd TWIN_STAT_STATE ≤ 3)

/-- A Shadow that takes its Lead's records (R422, R429). -/
def Dev.mirroring (d : Dev) : Bool :=
  d.rd TWIN_STAT_ROLE == 1 && (d.rd TWIN_STAT_STATE == 2 || d.rd TWIN_STAT_STATE == 3) && !d.capo.fenceOut

/-- Pins of the device beside the 48 service pins 0 to 47, as OutEvent.pin names them. -/
def pinAlarm : Nat := 64
def pinDone : Nat := 65
def pinFence : Nat := 66
def pinHeartbeat : Nat := 67

/-- The life-cycle state in force: a lost word reads as Scrapped (R474, R488). -/
def Dev.lc (d : Dev) : Nat := if d.lcLost then 3 else d.rd SEC_LC_STATE

/-- A key index may be carried by a request (R480, R481, R488). -/
def Dev.keyOk (d : Dev) (k : Nat) : Bool := k == 0 || (d.bit SEC_SLOTS_FILLED k && d.lc != 3)

end Sys2Proof.Machine
end

