-- ==== Sys2Proof/Machine/LaneCode.lean ====
section
/-!
DEFINITION. The code layer of the lanes (R356 to R360, R369, R370): 8b/10b code groups with their running disparity, skips and idle code groups,
training sets and frames as the symbols that a group's lanes carry. A code group's most significant bit is bit a of Clause 36, sent first.
-/
namespace Sys2Proof.Machine

/-- A symbol of a lane: a data byte, or a special code group K28.5 (0xBC), K28.0 (0x1C) and the others by their byte (R357). -/
structure Sym where
  special : Bool
  byte : Byte
  deriving DecidableEq, Repr

/-- The special code groups in use (R357). -/
def symComma : Sym := ⟨true, 0xBC⟩
def symSkip : Sym := ⟨true, 0x1C⟩
def symSecond : Sym := ⟨true, 0x7C⟩
def symSof : Sym := ⟨true, 0xFB⟩
def symEof : Sym := ⟨true, 0xFD⟩
def symAbort : Sym := ⟨true, 0xFE⟩
def symIdle : Sym := ⟨true, 0xF7⟩

/-- A data byte. -/
def symData (b : Byte) : Sym := ⟨false, b⟩

/-! 8b/10b (R356). -/

/-- The 5b/6b sub-blocks abcdei of D0 to D31 at negative running disparity. -/
def sixTable : List Nat :=
  [0b100111, 0b011101, 0b101101, 0b110001, 0b110101, 0b101001, 0b011001, 0b111000,
   0b111001, 0b100101, 0b010101, 0b110100, 0b001101, 0b101100, 0b011100, 0b010111] ++
  [0b011011, 0b100011, 0b010011, 0b110010, 0b001011, 0b101010, 0b011010, 0b111010,
   0b110011, 0b100110, 0b010110, 0b110110, 0b001110, 0b101110, 0b011110, 0b101011]

/-- The 3b/4b sub-blocks fghj of Dx.0 to Dx.7, and of Kx.0 to Kx.7, at negative running disparity. -/
def fourTable : List Nat := [0b1011, 0b1001, 0b0101, 0b1100, 0b1101, 0b1010, 0b0110, 0b1110]
def fourSpecial : List Nat := [0b1011, 0b0110, 0b1010, 0b1100, 0b1101, 0b0101, 0b1001, 0b0111]

/-- The running disparity after a sub-block of an even number of bits (Clause 36): positive with more ones or a block of zeros then ones. -/
def dispAfter (half : Nat) (disp : Bool) (v : Nat) : Bool :=
  let ones := popCount v
  if half < ones then true
  else if ones < half then false
  else if v = 2 ^ half - 1 then true
  else if v = 2 ^ (2 * half) - 2 ^ half then false
  else disp

/-- The code group of a symbol at a running disparity, and the disparity after it (R356). -/
def codeGroup (disp : Bool) (s : Sym) : BitVec 10 × Bool :=
  let x := s.byte.toNat % 32
  let y := s.byte.toNat / 32
  let six := if s.special && x == 28 then 0b001111 else sixTable.getD x 0
  let six := if disp && (popCount six != 3 || x == 7) then 63 - six else six
  let mid := dispAfter 3 disp six
  let four :=
    if s.special then (if mid then 15 - fourSpecial.getD y 0 else fourSpecial.getD y 0)
    else if y = 7 ∧ (if mid then [11, 13, 14] else [17, 18, 20]).contains x then (if mid then 0b1000 else 0b0111)
    else
      let v := fourTable.getD y 0
      if mid && [0, 3, 4, 7].contains y then 15 - v else v
  (.ofNat 10 (16 * six + four), dispAfter 2 mid four)

/-- Every symbol with a use (R357). -/
def allSyms : List Sym :=
  [symComma, symSkip, symSecond, symSof, symEof, symAbort, symIdle] ++ (List.range 256).map fun n => symData (.ofNat 8 n)

/-- What a receiver reads in a code group at a running disparity, and the disparity after it; none is a code error (R357). -/
def readGroup (disp : Bool) (c : BitVec 10) : Option (Sym × Bool) :=
  (allSyms.find? fun s => (codeGroup disp s).1 == c).map fun s => (s, (codeGroup disp s).2)

/-! Frames and training sets as symbols. -/

/-- The header of an LLP frame (R370). Kinds: 0 INIT, 1 DATA, 2 ACK, 3 NAK. -/
def frameHeader (kind : Nat) (fr : LlpFrame) : List Byte :=
  [.ofNat 8 (kind + 16 * b2n fr.last), fr.channel] ++ bytesLE 2 fr.seq.toNat ++ [fr.epoch] ++ bytesLE 2 (fr.payload.length % 2 ^ 10) ++ [fr.run]

/-- The CRC-32 of an LLP frame's header and payload (R369). -/
def frameCrc (kind : Nat) (fr : LlpFrame) : Nat := crc32 (frameHeader kind fr ++ fr.payload)

/-- The bytes of an LLP frame: header, payload and CRC, its least significant byte first (R369). -/
def frameBytes (kind : Nat) (fr : LlpFrame) : List Byte := frameHeader kind fr ++ fr.payload ++ bytesLE 4 (frameCrc kind fr)

/-- Bytes striped over w lanes: byte i on lane i mod w in symbol time i div w, lanes without a byte at the end padded with 0x00 (R369). -/
def stripe (w : Nat) (bs : List Byte) : List (List Sym) :=
  (List.range ((bs.length + w - 1) / w)).map fun t => (List.range w).map fun l => symData (bs.getD (w * t + l) 0)

/-- A frame's symbols on w lanes, one list for each symbol time (R369). -/
def frameSymbols (w : Nat) (bs : List Byte) : List (List Sym) :=
  [List.replicate w symSof] ++ stripe w bs ++ [List.replicate w symEof]

/-- A training set's symbols on one lane (R360). -/
def trainingSymbols (type rates lane width group target errs : Nat) : List Sym :=
  let body := [type, rates, lane, width, group, target, errs % 256, errs / 256 % 256, 0, 0, 0, 0, 0].map fun n : Nat => (BitVec.ofNat 8 n : Byte)
  [symComma, symSecond] ++ (body ++ [body.foldl (· ^^^ ·) 0]).map symData

/-- What a receiver keeps of the symbol times it has received: the skips are removed (R359). -/
def withoutSkips (cols : List (List Sym)) : List (List Sym) := cols.filter fun col => !(col.all fun s => s == symSkip)

/-! The transmitter. -/

/-- A symbol time in fortieths of a nanosecond, by rate code (R355, R384): 10 UI. -/
def symTime (rate : Nat) : Nat := [320, 160, 80, 40, 32, 25].getD rate 320

/-- One symbol time of w lanes: each lane codes its symbol, and once in 1,024 symbol times a skip falls due (R356, R359). -/
def LineSt.column (x : LineSt) (w : Nat) (col : List Sym) : LineSt :=
  let cs := (List.range w).map fun i => codeGroup (x.disp.getD i false) (col.getD i symIdle)
  { x with
    disp := cs.map (·.2)
    last := cs.map (·.1)
    due := x.due || decide (1024 ≤ x.since + 1)
    since := (x.since + 1) % 1024 }

/-- The skip that is due, on every lane in one symbol time (R359). -/
def LineSt.skip (x : LineSt) (w : Nat) : LineSt := { x with due := false }.column w (List.replicate w symSkip)

/-- One symbol time between frames and training sets (R358, R359): a skip that is due, a comma as every 16th code group, idle otherwise. -/
def LineSt.rest (x : LineSt) (w : Nat) : LineSt :=
  if x.due then x.skip w
  else { x with idle := (x.idle + 1) % 16 }.column w (List.replicate w (if x.idle = 15 then symComma else symIdle))

/-- The symbol times of a frame or training set, with no skip inside it; one that falls due in it follows it (R359). The code groups, one list for
each symbol time, and the state after. -/
def LineSt.unit (x : LineSt) (w : Nat) (cols : List (List Sym)) : LineSt × List (List (BitVec 10)) :=
  let r := cols.foldl (fun (acc : LineSt × List (List (BitVec 10))) col =>
    let y := acc.1.column w col
    (y, acc.2 ++ [y.last])) (x, [])
  if r.1.due then
    let y := r.1.skip w
    (y, r.2 ++ [y.last])
  else r

/-- The transmit side of a group's lanes. -/
def Dev.line (d : Dev) (g : Nat) : LineSt := KMap.get d.lines g {}

/-- A group's lanes, w of them at a rate, carry a frame or a training set. -/
def Dev.lineUnit (d : Dev) (g w rate : Nat) (cols : List (List Sym)) : Dev :=
  let r := (d.line g).unit w cols
  { d with lines := KMap.put d.lines g { r.1 with time := r.1.time - (symTime rate * r.2.length : Nat) } }.emit (.line g r.2)

/-- The symbol times that a span of time leaves to the idle code groups of a group's lanes. -/
def LineSt.fill (w sym : Nat) : (fuel : Nat) → LineSt → LineSt
  | 0, x => x
  | n + 1, x => if (sym : Int) ≤ x.time then ({ x with time := x.time - sym }.rest w).fill w sym n else x

/-! PRBS (R380). -/

/-- The exponents of a pattern's polynomial x^n + x^k + 1 (R380; ITU-T O.150 for PRBS15, PRBS23 and PRBS31). -/
def prbsTaps (p : Nat) : Nat × Nat :=
  match p with
  | 0 => (7, 6)
  | 1 => (15, 14)
  | 2 => (23, 18)
  | _ => (31, 28)

/-- A pattern is sent inverted: each but PRBS7. -/
def prbsInverted (p : Nat) : Bool := p != 0

/-- The next bit of a sequence after the bits in a register, newest in bit 0. -/
def prbsNext (p reg : Nat) : Bool := reg.testBit ((prbsTaps p).1 - 1) ^^ reg.testBit ((prbsTaps p).2 - 1)

/-- A register with one more bit. -/
def prbsShift (p reg : Nat) (b : Bool) : Nat := (2 * reg + b.toNat) % 2 ^ (prbsTaps p).1

/-- The checker takes a line bit: it seeds itself, locks after 64 error-free bits, and from then on finds each wrong bit. -/
def PrbsSt.hear (x : PrbsSt) (p : Nat) (line : Bool) : PrbsSt × Bool :=
  let b := line ^^ prbsInverted p
  let want := prbsNext p x.chk
  if 64 ≤ x.good then ({ x with chk := prbsShift p x.chk want }, b != want)
  else if x.seeded < (prbsTaps p).1 then ({ x with chk := prbsShift p x.chk b, seeded := x.seeded + 1 }, false)
  else ({ x with chk := prbsShift p x.chk b, good := if b == want then x.good + 1 else 0 }, false)

/-- The generator sends a line bit, and a checker in loopback takes it. -/
def PrbsSt.bit (x : PrbsSt) (p : Nat) (loop : Bool) : PrbsSt × Bool :=
  let v := prbsNext p x.gen
  let y : PrbsSt := { x with gen := prbsShift p x.gen v, flip := false }
  if loop then y.hear p (v ^^ prbsInverted p ^^ x.flip) else (y, false)

/-- The bits of a span of time, with the errors found; a bit lasts a tenth of a symbol time. -/
def PrbsSt.fill (p sym : Nat) (loop : Bool) : (fuel : Nat) → PrbsSt → Nat → PrbsSt × Nat
  | 0, x, n => (x, n)
  | k + 1, x, n =>
    if sym ≤ x.time then
      let r := ({ x with time := x.time - sym } : PrbsSt).bit p loop
      r.1.fill p sym loop k (n + r.2.toNat)
    else (x, n)

/-- A nanosecond passes for a lane that carries a PRBS. The sequence starts anywhere: its first bits are a free value. -/
def Dev.prbsRun (d : Dev) (L p : Nat) : Dev :=
  let loop := d.on (LANE_CTL_LOOP L) && !d.on (LANE_STAT_GROUPED L)
  let x := KMap.get d.prbs L {}
  let d := if x.gen = 0 then d.burn else d
  let x := if x.gen = 0 then { x with gen := 1 + d.peekWord.toNat % (2 ^ (prbsTaps p).1 - 1) } else x
  let r := ({ x with time := x.time + 400 } : PrbsSt).fill p (symTime (d.rd (LANE_STAT_RATE L))) loop 17 0
  let d := { d with prbs := KMap.put d.prbs L r.1 }
  if loop && decide (64 ≤ r.1.good) then (d.set (LANE_PRBS_LOCK L)).incSat (LANE_PRBS_ERRORS L) r.2 else d

/-- A nanosecond passes for a group's lanes. -/
def Dev.lineRest (d : Dev) (g w rate : Nat) : Dev :=
  { d with lines := KMap.put d.lines g ({ d.line g with time := (d.line g).time + 40 }.fill w (symTime rate) 2) }

end Sys2Proof.Machine
end

