-- ==== Sys2Proof/Machine/Routers.lean ====
section
/-!
DEFINITION. The routers between a packet's source and its destination (R310, R312, R313, R315): the buffers of 8 flits for each input port,
channel and class, the slots they wait for, the channel that a packet holds on a link, and the arbitration at each output. A packet that the
device has sent is on its way until the command that stands for its arrival (log entry 131).
-/
namespace Sys2Proof.Machine

/-- Flits of a packet (R299): its header and 32 bytes of data in each other. -/
def packetFlits (p : Packet) : Nat := 1 + (p.data.length + 31) / 32

/-- The output port toward an endpoint of a column; the ports 2 × link + 1 and 2 × link send along a link upward and downward. -/
def ejectPort (c e : Nat) : Nat := 256 + 16 * c + e

/-- The hops of a packet along links from a column (R310): its class is 1 from the wrap link of a dimension on, and 0 again from its turn. -/
def hopsFrom : (links : List Nat) → (c cls : Nat) → (inY : Bool) → List (Nat × Nat)
  | [], _, _, _ => []
  | l :: ls, c, cls, inY =>
    let y := l % 2 == 1
    let low := if y then l / 2 / 8 else l / 2 % 8
    let here := if y then c / 8 else c % 8
    let up := low == here
    let there := if up then (here + 1) % 8 else (here + 7) % 8
    let cls := if low == 7 then 1 else if y != inY then 0 else cls
    (2 * l + b2n up, cls) :: hopsFrom ls (if y then 8 * there + c % 8 else 8 * (c / 8) + there) cls y

/-- All hops of a packet, its ejection last (R307, R310); none when its columns are unreachable. -/
def Dev.hops (d : Dev) (p : Packet) : Option (List (Nat × Nat)) :=
  (routeOver d.deadLinks p.scol.toNat p.dcol.toNat).map fun ls =>
    hopsFrom ls p.scol.toNat 0 false ++ [(ejectPort p.dcol.toNat p.dep.toNat, 0)]

/-- The key of an input buffer: the hop that leads to it, and the channel (R310, R312). -/
def bufKey (hop : Nat × Nat) (vc : Nat) : Nat := 8 * hop.1 + 2 * vc + hop.2

/-- Flits of a packet that have made hop i. -/
def Flight.gone (f : Flight) (i : Nat) : Nat := f.made.getD i 0

/-- Every flit is in the destination router's landing buffer. -/
def Flight.landed (f : Flight) : Bool := f.made.all fun n => n == packetFlits f.pkt

/-- The source endpoint and channel that give packets in order (R313). -/
def Flight.source (f : Flight) : Nat × Nat × Nat := (f.pkt.scol.toNat, f.pkt.sep.toNat, f.pkt.vc.toNat)

/-! Landing credits (R313, R314). -/

/-- The key of a landing credit. -/
def creditKey (s t e vc : Nat) : Nat := 2 ^ 12 * s + 2 ^ 6 * t + 4 * e + vc

/-- The landing credit a packet needs. -/
def creditOf (p : Packet) : Nat := creditKey p.scol.toNat p.dcol.toNat p.dep.toNat p.vc.toNat

/-- Credits that a source's packets use: on their way, or in a landing buffer. -/
def Dev.creditsUsed (d : Dev) (s t e vc : Nat) : Nat :=
  (d.noc.flights.filter fun f => creditOf f.pkt == creditKey s t e vc && decide (0 < f.gone 0)).length
    + if e < 4 then
        ((KMap.get d.portals (tileOfCol t e) {}).landing.filter fun p => p.vc.toNat == vc && p.scol.toNat == s).length
      else 0

/-- A packet may enter the network: it is a response, or a landing credit is left for it (R313, R314). -/
def Dev.mayEnter (d : Dev) (p : Packet) : Bool :=
  p.vc == 1 || decide (d.creditsUsed p.scol.toNat p.dcol.toNat p.dep.toNat p.vc.toNat < KMap.get d.credits (creditOf p) 0)

/-! One cycle of the network clock. -/

/-- A flit that can make its next hop: its packet, the hop, the input port it comes from, whether it is the header. -/
structure Bid where
  id : Nat
  pkt : Packet
  hop : Nat
  input : Nat
  header : Bool

/-- Another packet holds a channel on an output: its header has won it and its last flit has not passed (R312). -/
def NocSt.holds (n : NocSt) (id port vc : Nat) : Bool :=
  n.flights.any fun f => f.id != id && f.pkt.vc.toNat == vc
    && (List.range f.hops.length).any fun i => (f.hops.getD i (0, 0)).1 == port && decide (0 < f.gone i ∧ f.gone i < packetFlits f.pkt)

/-- The flit of a packet that can make hop i now (R312, R313): it is first at its source or in its buffer, its channel is free or its own, and
the buffer it goes to has a free slot. earlier: the packets given before it. -/
def Dev.bid (d : Dev) (earlier : List Flight) (f : Flight) (i : Nat) : Option Bid :=
  let n := d.noc
  let vc := f.pkt.vc.toNat
  let hop := f.hops.getD i (0, 0)
  let first := if i = 0 then
      decide (f.gone 0 < packetFlits f.pkt) && !earlier.any (fun g => g.source == f.source && decide (g.gone 0 < packetFlits g.pkt))
        && (decide (0 < f.gone 0) || d.mayEnter f.pkt && !d.markers.contains (f.pkt.scol.toNat, f.pkt.dcol.toNat))
    else (KMap.get n.bufs (bufKey (f.hops.getD (i - 1) (0, 0)) vc) []).head? == some f.id
  let room := decide (256 ≤ hop.1) || decide ((KMap.get n.bufs (bufKey hop vc) []).length < 8)
  if first && room && !n.holds f.id hop.1 vc then
    some ⟨f.id, f.pkt, i, if i = 0 then 256 + f.pkt.sep.toNat else (f.hops.getD (i - 1) (0, 0)).1, f.gone i == 0⟩
  else none

/-- Every flit that can make a hop, of the packets in the order their sources gave them. -/
def Dev.bidsAux (d : Dev) : (earlier rest : List Flight) → List (Nat × Bid)
  | _, [] => []
  | es, f :: fs =>
    ((List.range f.hops.length).filterMap fun i => (d.bid es f i).map fun b => ((f.hops.getD i (0, 0)).1, b)) ++ d.bidsAux (es ++ [f]) fs

/-- Of flits of equal standing, the one whose input port comes next in round-robin order after the port served last (R315). -/
def nextInTurn (served : Nat) (bs : List Bid) : Option Bid :=
  bs.foldl (fun best b => match best with
    | some x => if (b.input + 511 - served) % 512 < (x.input + 511 - served) % 512 then some b else some x
    | none => some b) none

/-- The flit that wins an output (R315): the mirror/control channel first; then PRI 1, but a waiting PRI 0 header after PRI_BURST wins of
PRI 1 in a row. A later flit has its packet's standing (log entry 131). -/
def Dev.arbitrate (d : Dev) (port : Nat) (bs : List Bid) : Option Bid :=
  let turn := nextInTurn (KMap.get d.noc.served port 511)
  let mirror := bs.filter fun b => b.pkt.vc == 2
  if !mirror.isEmpty then turn mirror
  else
    let low := bs.filter fun b => b.header && !b.pkt.pri
    if decide (max 1 (d.rd NOC_CTL_PRI_BURST) ≤ KMap.get d.noc.wins port 0) && !low.isEmpty then turn low
    else
      let high := bs.filter fun b => b.pkt.pri
      turn (if high.isEmpty then bs else high)

/-- A flit makes its hop: it leaves its buffer, and its slot is free from the next cycle on (R312). -/
def NocSt.move (n : NocSt) (port : Nat) (b : Bid) : NocSt :=
  match n.flights.find? fun f => f.id == b.id with
  | none => n
  | some f =>
    let vc := b.pkt.vc.toNat
    let upd := fun (k : Nat) (g : List Nat → List Nat) (m : KMap (List Nat)) =>
      let l := g (KMap.get m k [])
      if l.isEmpty then KMap.del m k else KMap.put m k l
    let bufs := if b.hop = 0 then n.bufs else upd (bufKey (f.hops.getD (b.hop - 1) (0, 0)) vc) (List.drop 1) n.bufs
    let bufs := if 256 ≤ port then bufs else upd (bufKey (f.hops.getD b.hop (0, 0)) vc) (· ++ [b.id]) bufs
    { n with
      bufs := bufs
      flights := n.flights.map fun g => if g.id == b.id then { g with made := g.made.modify b.hop (· + 1) } else g
      served := if b.header then KMap.put n.served port b.input else n.served
      wins := if b.header && b.pkt.vc != 2 then KMap.put n.wins port (if b.pkt.pri then KMap.get n.wins port 0 + 1 else 0) else n.wins }

/-- A packet whose route has lost a link it has still to cross starts again on its present route (R309, log entry 131). -/
def Dev.reroute (d : Dev) (n : NocSt) : NocSt :=
  n.flights.foldl (fun n f =>
    if (List.range f.hops.length).all fun i =>
        decide (256 ≤ (f.hops.getD i (0, 0)).1) || f.gone i == packetFlits f.pkt || !d.deadLinks.contains ((f.hops.getD i (0, 0)).1 / 2) then n
    else
      let bufs := n.bufs.filterMap fun x : Nat × List Nat =>
        let l := x.2.filter (· != f.id)
        if l.isEmpty then none else some (x.1, l)
      match d.hops f.pkt with
      | some hs => { n with
          bufs := bufs
          flights := n.flights.map fun g => if g.id == f.id then { g with hops := hs, made := hs.map fun _ => 0 } else g }
      | none => { n with bufs := bufs, flights := n.flights.filter fun g => g.id != f.id }) n

/-- The sources take up what the device has sent since they last did: each packet with a route waits at its source in class 0 (R310). -/
def Dev.takeUp (d : Dev) : NocSt :=
  let n := d.noc
  ((d.out.take (d.out.length - n.seen)).reverse.foldl (fun n e => match e with
    | .packet p => match d.hops p with
      | some hs => { n with fresh := n.fresh + 1, flights := n.flights ++ [⟨n.fresh, p, hs, hs.map fun _ => 0⟩] }
      | none => n
    | _ => n) { n with seen := d.out.length })

/-- Source columns that ask for a landing credit of an endpoint and channel (R313): the first packet that waits at a source endpoint and channel is
for there and holds none. -/
def Dev.askers (d : Dev) (t e vc : Nat) : List Nat :=
  let fs := d.takeUp.flights.filter fun f => f.gone 0 == 0
  ((fs.filter fun f => f.pkt.dcol.toNat == t && f.pkt.dep.toNat == e && f.pkt.vc.toNat == vc && !d.mayEnter f.pkt
    && (fs.find? fun g => g.source == f.source).any fun g => g.id == f.id).map fun f => f.pkt.scol.toNat).eraseDups

/-- A source column is next among those that ask, in round-robin order; one whose asking the model does not see is served (R313, log entry 29). -/
def Dev.grantTurn (d : Dev) (s t e vc : Nat) : Bool :=
  let l := d.askers t e vc
  !l.contains s
    || ((List.range 64).map fun i => (KMap.get d.noc.granted (creditKey 0 t e vc) 63 + 1 + i) % 64).find? l.contains == some s

/-- A packet of the network that an earlier one of the same source and destination endpoint and channel is still ahead of (R317). -/
def Dev.overtakes (d : Dev) (p : Packet) : Bool :=
  let fs := d.takeUp.flights.filter fun f =>
    f.source == (p.scol.toNat, p.sep.toNat, p.vc.toNat) && f.pkt.dcol == p.dcol && f.pkt.dep == p.dep
  fs.any (fun f => f.pkt == p) && !(fs.head?.any fun f => f.pkt == p)

/-- One cycle of every router (R312, R315, R316): each output passes on one flit, chosen on the buffers as the cycle finds them. -/
def Dev.nocCycle (d : Dev) : Dev :=
  let d := { d with noc := d.reroute d.noc }
  let bids := d.bidsAux [] d.noc.flights
  let ports := (bids.map (·.1)).eraseDups
  { d with noc := ports.foldl (fun n port =>
      match d.arbitrate port ((bids.filter fun x => x.1 == port).map (·.2)) with
      | some b => n.move port b
      | none => n) d.noc }

/-- n cycles. -/
def Dev.nocCycles (d : Dev) : Nat → Dev
  | 0 => d
  | n + 1 => if d.noc.flights.all Flight.landed then d else d.nocCycle.nocCycles n

/-- The cycles of the network clock in one period of the timebase (R316: 0.5 ns each). -/
def Dev.nocTick (d : Dev) : Dev := if d.running then { d with noc := ({ d with noc := d.takeUp }.nocCycles 2).noc } else d

/-- The cycles that pass until a packet has landed, or the routers wait for something else. -/
def Dev.untilLanded (d : Dev) (p : Packet) : Nat → Dev
  | 0 => d
  | n + 1 => match d.noc.flights.find? fun f => f.pkt == p with
    | some f => if f.landed || d.nocCycle.noc = d.noc then d else d.nocCycle.untilLanded p n
    | none => d

/-- A packet arrives at its endpoint: the cycles up to then have passed, and the network no longer holds it. -/
def Dev.offNetwork (d : Dev) (p : Packet) : Dev :=
  let n := d.takeUp
  let n := ({ d with noc := n }.untilLanded p (64 * (n.flights.length + 1))).noc
  { d with noc := match n.flights.find? fun f => f.pkt == p with
      | some f => { n with
          flights := n.flights.filter fun g => g.id != f.id
          bufs := n.bufs.filterMap fun x : Nat × List Nat =>
            let l := x.2.filter (· != f.id)
            if l.isEmpty then none else some (x.1, l) }
      | none => n }

end Sys2Proof.Machine
end

