-- ==== Sys2Proof/Machine/Aes.lean ====
section
/-!
DEFINITION. AES-256 and what the spec builds on it: the key wrap of RFC 3394 (R476, R479), AES-CMAC and the key derivation of SP 800-108, and
AES-256-GCM (R483). Blocks and keys are lists of bytes as numbers, first byte first.
-/
namespace Sys2Proof.Machine

/-! The cipher. -/

/-- The AES substitution, entry 0 in the highest byte. -/
def aesTable : Nat :=
  0x637C777BF26B6FC53001672BFED7AB76CA82C97DFA5947F0ADD4A2AF9CA472C0B7FD9326363FF7CC34A5E5F171D8311504C723C31896059A071280E2EB27B275 * 2 ^ 1536 +
  0x09832C1A1B6E5AA0523BD6B329E32F8453D100ED20FCB15B6ACBBE394A4C58CFD0EFAAFB434D338545F9027F503C9FA851A3408F929D38F5BCB6DA2110FFF3D2 * 2 ^ 1024 +
  0xCD0C13EC5F974417C4A77E3D645D197360814FDC222A908846EEB814DE5E0BDBE0323A0A4906245CC2D3AC629195E479E7C8376D8DD54EA96C56F4EA657AAE08 * 2 ^ 512 +
  0xBA78252E1CA6B4C6E8DD741F4BBD8B8A703EB5664803F60E613557B986C11D9EE1F8981169D98E949B1E87E9CE5528DF8CA1890DBFE6426841992D0FB054BB16

/-- Substitution of a byte. -/
def aesSub (b : Nat) : Nat := aesTable / 2 ^ (8 * (255 - b)) % 256

/-- The inverse substitution, entry 0 in the highest byte. -/
def aesInverse : Nat :=
  0x52096AD53036A538BF40A39E81F3D7FB7CE339829B2FFF87348E4344C4DEE9CB547B9432A6C2233DEE4C950B42FAC34E082EA16628D924B2765BA2496D8BD125 * 2 ^ 1536 +
  0x72F8F66486689816D4A45CCC5D65B6926C704850FDEDB9DA5E154657A78D9D8490D8AB008CBCD30AF7E45805B8B34506D02C1E8FCA3F0F02C1AFBD0301138A6B * 2 ^ 1024 +
  0x3A9111414F67DCEA97F2CFCEF0B4E67396AC7422E7AD3585E2F937E81C75DF6E47F11A711D29C5896FB7620EAA18BE1BFC563E4BC6D279209ADBC0FE78CD5AF4 * 2 ^ 512 +
  0x1FDDA8338807C731B11210592780EC5F60517FA919B54A0D2DE57A9F93C99CEFA0E03B4DAE2AF5B0C8EBBB3C83539961172B047EBA77D626E169146355210C7D

/-- The inverse substitution of a byte. -/
def aesUnsub (b : Nat) : Nat := aesInverse / 2 ^ (8 * (255 - b)) % 256

/-- Two byte lists combined bit by bit. -/
def xorLists : List Nat → List Nat → List Nat
  | a :: l, b :: m => (a ^^^ b) :: xorLists l m
  | _, _ => []

/-- Double an element of the AES field. -/
def aesDouble (a : Nat) : Nat := if a < 128 then 2 * a else (2 * a) % 256 ^^^ 0x1B

/-- Multiply an element of the AES field by one below 16. -/
def aesMul (a b : Nat) : Nat :=
  ((List.range 4).foldl (fun (acc, x) i => (if b.testBit i then acc ^^^ x else acc, aesDouble x)) (0, a)).1

/-- The 60 key words of a 32-byte key, four bytes each. -/
def aesSchedule (key : List Nat) : List (List Nat) :=
  (List.range 52).foldl (fun ws i =>
    let n := i + 8
    let p := ws.getD (n - 1) []
    let t :=
      if n % 8 = 0 then xorLists ((p.drop 1 ++ p.take 1).map aesSub) [(List.range (n / 8 - 1)).foldl (fun x _ => aesDouble x) 1, 0, 0, 0]
      else if n % 8 = 4 then p.map aesSub else p
    ws ++ [xorLists (ws.getD (n - 8) []) t]) ((List.range 8).map fun i => (key.drop (4 * i)).take 4)

/-- The 16 key bytes of a round. -/
def roundKey (ws : List (List Nat)) (r : Nat) : List Nat := ((ws.drop (4 * r)).take 4).flatten

/-- Rotate the rows of a state, row r by r places (by 4 − r the other way). -/
def shiftRows (back : Bool) (s : List Nat) : List Nat :=
  (List.range 16).map fun i =>
    let r := i % 4
    s.getD (4 * ((i / 4 + (if back then 4 - r else r)) % 4) + r) 0

/-- Multiply every column of a state by a row of coefficients turned into a circulant matrix. -/
def mixColumns (c : List Nat) (s : List Nat) : List Nat :=
  (List.range 16).map fun i =>
    (List.range 4).foldl (fun acc k => acc ^^^ aesMul (s.getD (4 * (i / 4) + k) 0) (c.getD ((k + 4 - i % 4) % 4) 0)) 0

/-- Encrypt a block under a key schedule. -/
def aesEncrypt (ws : List (List Nat)) (block : List Nat) : List Nat :=
  let s := (List.range 13).foldl (fun s r =>
    xorLists (mixColumns [2, 3, 1, 1] (shiftRows false (s.map aesSub))) (roundKey ws (r + 1))) (xorLists block (roundKey ws 0))
  xorLists (shiftRows false (s.map aesSub)) (roundKey ws 14)

/-- Decrypt a block under a key schedule. -/
def aesDecrypt (ws : List (List Nat)) (block : List Nat) : List Nat :=
  let s := (List.range 13).foldl (fun s r =>
    mixColumns [14, 11, 13, 9] (xorLists ((shiftRows true s).map aesUnsub) (roundKey ws (13 - r)))) (xorLists block (roundKey ws 14))
  xorLists ((shiftRows true s).map aesUnsub) (roundKey ws 0)

/-! Key wrap (RFC 3394). -/

/-- Big-endian bytes of a number. -/
def bytesBE (n v : Nat) : List Nat := (List.range n).map fun i => v / 256 ^ (n - 1 - i) % 256

/-- The number whose big-endian bytes these are. -/
def numBE (l : List Nat) : Nat := l.foldl (fun n b => 256 * n + b) 0

/-- Wrap a 32-byte key under a key schedule: 40 bytes. -/
def keyWrap (ws : List (List Nat)) (key : List Nat) : List Nat :=
  let (a, rs) := (List.range 24).foldl (fun (a, rs) k =>
    let b := aesEncrypt ws (a ++ rs.getD (k % 4) [])
    (xorLists (b.take 8) (bytesBE 8 (k + 1)), rs.set (k % 4) (b.drop 8)))
    (List.replicate 8 0xA6, (List.range 4).map fun i => (key.drop (8 * i)).take 8)
  a ++ rs.flatten

/-- Unwrap 40 bytes: the key, and whether its integrity check passes. -/
def keyUnwrap (ws : List (List Nat)) (data : List Nat) : List Nat × Bool :=
  let (a, rs) := (List.range 24).foldl (fun (a, rs) k =>
    let n := 23 - k
    let b := aesDecrypt ws (xorLists a (bytesBE 8 (n + 1)) ++ rs.getD (n % 4) [])
    (b.take 8, rs.set (n % 4) (b.drop 8)))
    (data.take 8, (List.range 4).map fun i => (data.drop (8 * (i + 1))).take 8)
  (rs.flatten, a == List.replicate 8 0xA6)

/-! AES-CMAC and the key derivation (R483). -/

/-- A subkey of AES-CMAC from the one before: doubling in the field of 2^128 elements. -/
def cmacDouble (l : List Nat) : List Nat :=
  let n := numBE l
  bytesBE 16 ((2 * n) % 2 ^ 128 ^^^ (if n < 2 ^ 127 then 0 else 0x87))

/-- AES-CMAC of a message that is not a whole number of blocks. -/
def cmac (ws : List (List Nat)) (m : List Nat) : List Nat :=
  let k2 := cmacDouble (cmacDouble (aesEncrypt ws (List.replicate 16 0)))
  let n := m.length / 16
  let full := (List.range n).foldl (fun x i => aesEncrypt ws (xorLists x ((m.drop (16 * i)).take 16))) (List.replicate 16 0)
  let tail := m.drop (16 * n)
  aesEncrypt ws (xorLists full (xorLists (tail ++ [0x80] ++ List.replicate (15 - tail.length) 0) k2))

/-- Little-endian bytes of a number. -/
def bytesLo (n v : Nat) : List Nat := (List.range n).map fun i => v / 256 ^ i % 256

/-- The row key K_r (R483) of a buffer row under its slot's key: CMAC(K, 0x01 ‖ M) ‖ CMAC(K, 0x02 ‖ M). -/
def rowKey (key : List Nat) (handle gen row : Nat) : List Nat :=
  let ws := aesSchedule key
  let m := [0x54, 0x52, 0x53, 0x4C, 0] ++ bytesLo 3 handle ++ bytesLo 4 gen ++ bytesLo 4 row ++ [1, 0]
  cmac ws (1 :: m) ++ cmac ws (2 :: m)

/-! AES-256-GCM (R483). -/

/-- Multiply in GCM's field: bit 127 of a number is the coefficient of x^0. -/
def ghashMul (x y : Nat) : Nat :=
  ((List.range 128).foldl (fun (z, v) i =>
    (if x.testBit (127 - i) then z ^^^ v else z, if v % 2 = 0 then v / 2 else v / 2 ^^^ 0xE1 * 2 ^ 120)) (0, y)).1

/-- The counter-mode stream of GCM combined with data, from counter value 2 on. -/
def gcmStream (ws : List (List Nat)) (iv data : List Nat) : List Nat :=
  ((List.range ((data.length + 15) / 16)).map fun i =>
    xorLists ((data.drop (16 * i)).take 16) (aesEncrypt ws (iv ++ bytesBE 4 (i + 2)))).flatten

/-- GHASH goes on over data, its last block padded with zeros. -/
def ghashRun (h s : Nat) (data : List Nat) : Nat :=
  (List.range ((data.length + 15) / 16)).foldl (fun s i =>
    let b := (data.drop (16 * i)).take 16
    ghashMul (s ^^^ numBE (b ++ List.replicate (16 - b.length) 0)) h) s

/-- The tag of additional data and a ciphertext. -/
def gcmAuth (ws : List (List Nat)) (iv aad ct : List Nat) : List Nat :=
  let h := numBE (aesEncrypt ws (List.replicate 16 0))
  let s := ghashRun h (ghashRun h 0 aad) ct
  xorLists (bytesBE 16 (ghashMul (s ^^^ (2 ^ 64 * (8 * aad.length) + 8 * ct.length)) h)) (aesEncrypt ws (iv ++ bytesBE 4 1))

/-- The tag of a ciphertext with no additional data. -/
def gcmTag (ws : List (List Nat)) (iv ct : List Nat) : List Nat := gcmAuth ws iv [] ct

/-- The IV of a sealed row (R483): its version counter, little-endian, and 4 zero bytes. -/
def rowIv (ctr : Nat) : List Nat := bytesLo 8 ctr ++ [0, 0, 0, 0]

/-- The 536 payload bytes of a live sealed row (R484): ciphertext, version counter, tag. -/
def sealPayload (rk : List Nat) (ctr : Nat) (plain : List Nat) : List Nat :=
  let ws := aesSchedule rk
  let ct := gcmStream ws (rowIv ctr) plain
  ct ++ bytesLo 8 ctr ++ gcmTag ws (rowIv ctr) ct

/-- What 536 payload bytes hold: the counter, the plaintext, and whether the tag verifies. -/
def unsealPayload (rk : List Nat) (p : List Nat) : Nat × List Nat × Bool :=
  let ws := aesSchedule rk
  let ct := p.take 512
  let ctr := (List.range 8).foldl (fun n i => n + 256 ^ i * p.getD (512 + i) 0) 0
  (ctr, gcmStream ws (rowIv ctr) ct, gcmTag ws (rowIv ctr) ct == (p.drop 520).take 16)

end Sys2Proof.Machine
end

