-- ==== Sys2Proof/Machine/CapoFrames.lean ====
section
/-!
DEFINITION. Frames of the Capo link (R419, R420): their header, ciphertext, tag and CRC under a direction's session key, the wrapped key of a
HELLO, and how they leave on the lanes of the Capo group.
-/
namespace Sys2Proof.Machine

/-- The key of a slot, or the device key (64), as bytes. -/
def Dev.keyBytes (d : Dev) (k : Nat) : List Nat :=
  if k = 64 then (List.range 32).map fun i => (Config.deviceKey i).toNat
  else (List.range 32).map fun i => ((KMap.get d.nvKeys k []).getD i 0).toNat

/-- A slot is filled. -/
def Dev.filled (d : Dev) (k : Nat) : Bool := d.bit SEC_SLOTS_FILLED k

/-- Bytes as numbers, and back. -/
def toNats (l : List Byte) : List Nat := l.map (·.toNat)
def toBytes (l : List Nat) : List Byte := l.map (BitVec.ofNat 8)

/-- The group of the Capo lanes. -/
def Dev.capoGroup (d : Dev) : Option (Nat × GroupSt) := d.groups.find? fun x => decide (128 ≤ x.1)

/-- Frames that wait or are not acknowledged, oldest first as far as they were sent. -/
def CapoSt.frames (c : CapoSt) : List CapoFrame := c.replay ++ c.queue

/-- Bytes 0 to 15 of a frame. -/
def capoHeader (type flags len ctr : Nat) : List Byte := [.ofNat 8 type, .ofNat 8 flags] ++ bytesLE 2 len ++ bytesLE 12 ctr

/-- The TAG of a frame: AES-256-GCM with CTR as IV and bytes 0 to 15 as additional data. -/
def capoTag (key : List Byte) (type flags ctr : Nat) (payload : List Byte) : List Byte :=
  toBytes (gcmAuth (aesSchedule (toNats key)) (bytesLo 12 ctr) (toNats (capoHeader type flags payload.length ctr)) (toNats payload))

/-- The CRC of a frame, over bytes 0 to 31 + LEN. -/
def capoCrc (type flags ctr : Nat) (payload tag : List Byte) : Nat := crc32 (capoHeader type flags payload.length ctr ++ payload ++ tag)

/-- What a direction's key makes of a payload: ciphertext of plaintext, or the reverse. -/
def capoCipher (key : List Byte) (ctr : Nat) (payload : List Byte) : List Byte :=
  toBytes (gcmStream (aesSchedule (toNats key)) (bytesLo 12 ctr) (toNats payload))

/-- A frame's bytes. -/
def capoWhole (type flags ctr : Nat) (payload tag : List Byte) : List Byte :=
  capoHeader type flags payload.length ctr ++ payload ++ tag ++ bytesLE 4 (capoCrc type flags ctr payload tag)

/-- TYPE by the model's kind of frame: 0 HELLO, 2 ACK, 3 HB; every record goes in a DATA frame. -/
def capoType (kind : Nat) : Nat := if kind = 0 ∨ kind = 2 ∨ kind = 3 then kind else 1

/-- A payload is a multiple of 16 bytes, up to 2,176. -/
def capoPad (bs : List Byte) : List Byte := (bs ++ List.replicate ((16 - bs.length % 16) % 16) 0).take 2176

/-- A payload before encryption: an ACK's first 12 bytes are the counter it acknowledges. -/
def capoPlain (kind : Nat) (words : List Nat) : List Byte :=
  if kind = 2 then bytesLE 12 (words.headD 0) ++ (Config.recordBytes 2 words ++ List.replicate 4 0).take 4
  else capoPad (Config.recordBytes kind words)

/-- The payload of a HELLO: the session key wrapped under the key of TWIN_CTL.KEYSLOT, then the role and state. -/
def Dev.helloPayload (d : Dev) (words : List Nat) : List Byte :=
  toBytes (keyWrap (aesSchedule (d.keyBytes (d.rd TWIN_CTL_KEYSLOT))) (toNats d.capo.txKey))
    ++ (Config.recordBytes 0 words ++ List.replicate 8 0).take 8

/-- The session key that a HELLO brings, and whether the unwrap's integrity check passes (R420). -/
def Dev.helloKey (d : Dev) (payload : List Byte) : List Byte × Bool :=
  let k := d.rd TWIN_CTL_KEYSLOT
  let r := keyUnwrap (aesSchedule (d.keyBytes k)) (toNats (payload.take 40))
  (toBytes r.1, d.filled k && decide (40 ≤ payload.length) && r.2)

/-- The bytes of a frame that this device sends. -/
def Dev.capoBytes (d : Dev) (kind ctr : Nat) (words : List Nat) : List Byte :=
  if kind = 0 then capoWhole 0 0 0 (d.helloPayload words) (List.replicate 16 0)
  else
    let t := capoType kind
    let flags := if kind = 3 then words.headD 0 else 0
    let ct := capoCipher d.capo.txKey ctr (capoPlain kind words)
    capoWhole t flags ctr ct (capoTag d.capo.txKey t flags ctr ct)

/-- A frame leaves on the lanes of the Capo group, as an LLP frame does (R369, R419). -/
def Dev.capoOut (d : Dev) (kind ctr : Nat) (words : List Nat) : Dev :=
  match d.capoGroup with
  | some (g, x) =>
    (d.emit (.capo kind ctr words)).lineUnit g (2 ^ x.width) x.rate (frameSymbols (2 ^ x.width) (d.capoBytes kind ctr words))
  | none => d.emit (.capo kind ctr words)

end Sys2Proof.Machine
end

