-- ==== Sys2Proof/Machine/Encoding.lean ====
section
/-!
DEFINITION. The command words of chapters 02 and 03: word 0 (R46), the operand fields of every opcode, an encoder, and a
decoder that refuses an undefined opcode, a wrong length and a reserved bit that is 1 (R47, R72, R73); and the ranges that
fields must keep.
-/
namespace Sys2Proof
open Sys2Proof.Machine

/-- The opcode of a command (R71). -/
def Cmd.opcode : Cmd → Nat
  | .nop => 0x01 | .halt => 0x02 | .fence => 0x08 | .barrier .. => 0x09 | .wait _ => 0x0A | .signal _ => 0x0B
  | .mark _ => 0x0C | .waittime .. => 0x0D | .sets .. => 0x10 | .adds .. => 0x11 | .loop .. => 0x12
  | .branch .. => 0x13 | .call _ => 0x14 | .ret => 0x15 | .balloc .. => 0x20 | .bfree _ => 0x21 | .bcopy .. => 0x22
  | .bfill .. => 0x23 | .rowmove .. => 0x24 | .bkey .. => 0x25 | .bhint .. => 0x26 | .kadmit .. => 0x30
  | .krun _ => 0x31 | .kstop _ => 0x32 | .kretire _ => 0x33 | .kbind .. => 0x34 | .kswitch .. => 0x35
  | .kparam .. => 0x36 | .krotate .. => 0x37 | .lbind .. => 0x40 | .lctl .. => 0x41 | .dmago .. => 0x50
  | .tsetup .. => 0x58 | .tclear _ => 0x59 | .tdrain .. => 0x5A | .pegtake .. => 0x60 | .peggive _ => 0x61
  | .commit _ => 0x70 | .epoch => 0x71

/-- The operand values of a command, in the order of its layout. -/
def Cmd.values : Cmd → List Nat
  | .nop => [] | .halt => [] | .fence => []
  | .barrier bar mask => [bar.toNat, mask.toNat]
  | .wait ev => [ev.toNat]
  | .signal ev => [ev.toNat]
  | .mark tag => [tag.toNat]
  | .waittime rel time => [b2n rel, time.toNat]
  | .sets a v => [a.toNat, v.toNat]
  | .adds a b reg imm => [a.toNat, b.toNat, b2n reg, imm.toNat]
  | .loop a back => [a.toNat, back.toNat]
  | .branch a b c ofs => [a.toNat, b.toNat, c.toNat, ofs.toNat]
  | .call l => [l.toNat]
  | .ret => []
  | .balloc buf c m s k size => [buf.toNat, b2n c, b2n m, b2n s, k.toNat, size.toNat]
  | .bfree buf => [buf.toNat]
  | .bcopy dst src so dof n => [dst.toNat, src.toNat, so.toNat, dof.toNat, n.toNat]
  | .bfill buf ofs n pat => [buf.toNat, ofs.toNat, n.toNat, pat.toNat]
  | .rowmove k buf port dir first n => [k.toNat, buf.toNat, port.toNat, b2n dir, first.toNat, n.toNat]
  | .bkey buf k s => [buf.toNat, k.toNat, b2n s]
  | .bhint buf col cv pin sp => [buf.toNat, col.toNat, b2n cv, b2n pin, b2n sp]
  | .kadmit k dies sole nm an tile img n => [k.toNat, dies.toNat, b2n sole, b2n nm, b2n an, tile.toNat, img.toNat, n.toNat]
  | .krun k => [k.toNat]
  | .kstop k => [k.toNat]
  | .kretire k => [k.toNat]
  | .kbind k slot kind t => [k.toNat, slot.toNat, kind.toNat, t.toNat]
  | .kswitch k p => [k.toNat, b2n p]
  | .kparam k p s l sr v => [k.toNat, p.toNat, b2n s, b2n l, sr.toNat, v.toNat]
  | .krotate stop es =>
    (if stop then 0 else es.length - 1) :: b2n stop ::
      (if stop then (es.take 1).map fun e => e.kern.toNat
       else (es.map fun e => [e.kern.toNat, e.dwell.toNat]).flatten)
  | .lbind k slot u first w r => [k.toNat, slot.toNat, b2n u, first.toNat, w.toNat, r.toNat]
  | .lctl first w act arg => [first.toNat, w.toNat, act.toNat, arg.toNat]
  | .dmago ch arm key src dst n ev en sw sk dw dk =>
    [ch.toNat, b2n arm, key.toNat, src.toNat, dst.toNat, n.toNat, ev.toNat, b2n en, b2n sw, sk.toNat, b2n dw, dk.toNat]
  | .tsetup t kb c m e cols => [t.toNat, kb.toNat, b2n c, b2n m, e.toNat, cols.toNat]
  | .tclear t => [t.toNat]
  | .tdrain t c buf ofs => [t.toNat, b2n c, buf.toNat, ofs.toNat]
  | .pegtake p w => [p.toNat, b2n w]
  | .peggive p => [p.toNat]
  | .commit buf => [buf.toNat]
  | .epoch => []

end Sys2Proof

namespace Sys2Proof.Machine

/-- Entry i of a KROTATE: its kernel and its dwell (chapter 03). -/
def rotateLayout (n : Nat) : List (Nat × Nat) :=
  ((List.range n).map fun i => [(64 + 32 * i, 16), (80 + 32 * i, 16)]).flatten

/-- The operand fields of an opcode as (lowest bit counted from bit 0 of word 0, width), and how many words it takes. The
first four bits of the operands say how many entries a KROTATE has. none: an undefined opcode (R72). -/
def cmdLayout (op w0 : Nat) : Option (Nat × List (Nat × Nat)) :=
  match op with
  | 0x01 => some (1, [])
  | 0x02 => some (1, [])
  | 0x08 => some (1, [])
  | 0x09 => some (2, [(0, 4), (64, 64)])
  | 0x0A => some (1, [(0, 8)])
  | 0x0B => some (1, [(0, 8)])
  | 0x0C => some (1, [(0, 32)])
  | 0x0D => some (2, [(0, 1), (64, 64)])
  | 0x10 => some (2, [(0, 4), (64, 64)])
  | 0x11 => some (1, [(0, 4), (4, 4), (8, 1), (16, 32)])
  | 0x12 => some (1, [(0, 4), (16, 16)])
  | 0x13 => some (1, [(0, 4), (4, 4), (8, 3), (16, 16)])
  | 0x14 => some (1, [(3, 45)])
  | 0x15 => some (1, [])
  | 0x20 => some (2, [(0, 24), (24, 1), (25, 1), (26, 1), (27, 6), (64, 29)])
  | 0x21 => some (1, [(0, 24)])
  | 0x22 => some (3, [(0, 24), (24, 24), (64, 32), (96, 32), (128, 32)])
  | 0x23 => some (3, [(0, 24), (64, 32), (96, 32), (128, 64)])
  | 0x24 => some (2, [(0, 16), (16, 24), (40, 4), (44, 1), (64, 20), (84, 20)])
  | 0x25 => some (1, [(0, 24), (24, 6), (30, 1)])
  | 0x26 => some (1, [(0, 24), (24, 6), (30, 1), (31, 1), (32, 1)])
  | 0x30 => some (3, [(0, 16), (16, 2), (18, 1), (19, 1), (20, 1), (24, 8), (64, 48), (128, 32)])
  | 0x31 => some (1, [(0, 16)])
  | 0x32 => some (1, [(0, 16)])
  | 0x33 => some (1, [(0, 16)])
  | 0x34 => some (1, [(0, 16), (16, 4), (20, 2), (24, 24)])
  | 0x35 => some (1, [(0, 16), (16, 1)])
  | 0x36 => some (2, [(0, 16), (16, 4), (20, 1), (21, 1), (24, 4), (64, 64)])
  | 0x37 =>
    if w0 / 8 % 2 == 1 then some (2, [(0, 3), (3, 1), (64, 16)])
    else some (1 + (w0 % 8 + 1 + 1) / 2, (0, 3) :: (3, 1) :: rotateLayout (w0 % 8 + 1))
  | 0x40 => some (2, [(0, 16), (16, 4), (20, 1), (64, 7), (71, 3), (74, 3)])
  | 0x41 => some (1, [(0, 7), (7, 3), (12, 4), (16, 3)])
  | 0x50 => some (4, [(0, 6), (6, 1), (8, 6), (64, 48), (128, 48), (192, 32), (224, 8), (232, 1), (233, 1), (234, 5), (239, 1), (240, 5)])
  | 0x58 => some (2, [(0, 3), (3, 6), (9, 1), (10, 1), (11, 5), (64, 64)])
  | 0x59 => some (1, [(0, 3)])
  | 0x5A => some (2, [(0, 3), (3, 1), (24, 24), (64, 32)])
  | 0x60 => some (1, [(0, 6), (8, 1)])
  | 0x61 => some (1, [(0, 6)])
  | 0x70 => some (1, [(0, 24)])
  | 0x71 => some (1, [])
  | _ => none

/-- Entries of a KROTATE from their values. -/
def rotateEntries : List Nat → List RotEntry
  | k :: w :: t => ⟨.ofNat 16 k, .ofNat 16 w⟩ :: rotateEntries t
  | _ => []

/-- The command an opcode and operand values spell. -/
def cmdOf (op : Nat) (vs : List Nat) : Option Cmd :=
  match op, vs with
  | 0x01, [] => some .nop
  | 0x02, [] => some .halt
  | 0x08, [] => some .fence
  | 0x09, [b, m] => some (.barrier (.ofNat 4 b) (.ofNat 64 m))
  | 0x0A, [e] => some (.wait (.ofNat 8 e))
  | 0x0B, [e] => some (.signal (.ofNat 8 e))
  | 0x0C, [t] => some (.mark (.ofNat 32 t))
  | 0x0D, [r, t] => some (.waittime (r == 1) (.ofNat 64 t))
  | 0x10, [a, v] => some (.sets (.ofNat 4 a) (.ofNat 64 v))
  | 0x11, [a, b, r, i] => some (.adds (.ofNat 4 a) (.ofNat 4 b) (r == 1) (.ofNat 32 i))
  | 0x12, [a, b] => some (.loop (.ofNat 4 a) (.ofNat 16 b))
  | 0x13, [a, b, c, o] => some (.branch (.ofNat 4 a) (.ofNat 4 b) (.ofNat 3 c) (.ofNat 16 o))
  | 0x14, [l] => some (.call (.ofNat 45 l))
  | 0x15, [] => some .ret
  | 0x20, [b, c, m, s, k, n] => some (.balloc (.ofNat 24 b) (c == 1) (m == 1) (s == 1) (.ofNat 6 k) (.ofNat 29 n))
  | 0x21, [b] => some (.bfree (.ofNat 24 b))
  | 0x22, [d, s, so, dof, n] => some (.bcopy (.ofNat 24 d) (.ofNat 24 s) (.ofNat 32 so) (.ofNat 32 dof) (.ofNat 32 n))
  | 0x23, [b, o, n, p] => some (.bfill (.ofNat 24 b) (.ofNat 32 o) (.ofNat 32 n) (.ofNat 64 p))
  | 0x24, [k, b, p, d, f, n] => some (.rowmove (.ofNat 16 k) (.ofNat 24 b) (.ofNat 4 p) (d == 1) (.ofNat 20 f) (.ofNat 20 n))
  | 0x25, [b, k, s] => some (.bkey (.ofNat 24 b) (.ofNat 6 k) (s == 1))
  | 0x26, [b, c, cv, p, s] => some (.bhint (.ofNat 24 b) (.ofNat 6 c) (cv == 1) (p == 1) (s == 1))
  | 0x30, [k, d, s, nm, an, t, i, n] =>
    some (.kadmit (.ofNat 16 k) (.ofNat 2 d) (s == 1) (nm == 1) (an == 1) (.ofNat 8 t) (.ofNat 48 i) (.ofNat 32 n))
  | 0x31, [k] => some (.krun (.ofNat 16 k))
  | 0x32, [k] => some (.kstop (.ofNat 16 k))
  | 0x33, [k] => some (.kretire (.ofNat 16 k))
  | 0x34, [k, s, d, t] => some (.kbind (.ofNat 16 k) (.ofNat 4 s) (.ofNat 2 d) (.ofNat 24 t))
  | 0x35, [k, p] => some (.kswitch (.ofNat 16 k) (p == 1))
  | 0x36, [k, p, s, l, sr, v] => some (.kparam (.ofNat 16 k) (.ofNat 4 p) (s == 1) (l == 1) (.ofNat 4 sr) (.ofNat 64 v))
  | 0x37, _ :: stop :: es =>
    if stop == 1 then match es with
      | [k] => some (.krotate true [⟨.ofNat 16 k, 0⟩])
      | _ => none
    else some (.krotate false (rotateEntries es))
  | 0x40, [k, s, u, f, w, r] => some (.lbind (.ofNat 16 k) (.ofNat 4 s) (u == 1) (.ofNat 7 f) (.ofNat 3 w) (.ofNat 3 r))
  | 0x41, [f, w, a, g] => some (.lctl (.ofNat 7 f) (.ofNat 3 w) (.ofNat 4 a) (.ofNat 3 g))
  | 0x50, [ch, a, k, s, d, n, ev, en, sw, sk, dw, dk] =>
    some (.dmago (.ofNat 6 ch) (a == 1) (.ofNat 6 k) (.ofNat 48 s) (.ofNat 48 d) (.ofNat 32 n) (.ofNat 8 ev) (en == 1)
      (sw == 1) (.ofNat 5 sk) (dw == 1) (.ofNat 5 dk))
  | 0x58, [t, kb, c, m, e, cols] => some (.tsetup (.ofNat 3 t) (.ofNat 6 kb) (c == 1) (m == 1) (.ofNat 5 e) (.ofNat 64 cols))
  | 0x59, [t] => some (.tclear (.ofNat 3 t))
  | 0x5A, [t, c, b, o] => some (.tdrain (.ofNat 3 t) (c == 1) (.ofNat 24 b) (.ofNat 32 o))
  | 0x60, [p, w] => some (.pegtake (.ofNat 6 p) (w == 1))
  | 0x61, [p] => some (.peggive (.ofNat 6 p))
  | 0x70, [b] => some (.commit (.ofNat 24 b))
  | 0x71, [] => some .epoch
  | _, _ => none

/-- Fields put together: each value at its lowest bit. -/
def packFields : List (Nat × Nat) → List Nat → Nat
  | (lo, w) :: t, v :: vs => v % 2 ^ w * 2 ^ lo + packFields t vs
  | _, _ => 0

/-- The values of fields. -/
def readFields (l : List (Nat × Nat)) (n : Nat) : List Nat := l.map fun f => bitsOf n f.1 f.2

/-- n words of 64 bits from one number, word 0 lowest. -/
def splitWords : (n : Nat) → Nat → List Word
  | 0, _ => []
  | k + 1, v => BitVec.ofNat 64 v :: splitWords k (v / 2 ^ 64)

/-- One number from words, word 0 lowest. -/
def joinWords : List Word → Nat
  | [] => 0
  | w :: t => w.toNat + 2 ^ 64 * joinWords t

/-- Bits [63:48] of word 0 (R46). -/
def headBits (op len : Nat) (f : CmdFlags) : Nat :=
  op * 2 ^ 56 + len * 2 ^ 53 + b2n f.fence * 2 ^ 52 + b2n f.record * 2 ^ 51 + b2n f.irq * 2 ^ 50
    + b2n f.tstart * 2 ^ 49 + b2n f.wait * 2 ^ 48

/-- The words of a command (R46, chapter 03). -/
def encodeCmd (c : Cmd) (f : CmdFlags) : List Word :=
  match cmdLayout c.opcode (packFields [(0, 3), (3, 1)] c.values) with
  | some (n, l) => splitWords n (packFields l c.values + headBits c.opcode (n - 1) f)
  | none => []

/-- The length LEN gives (R46, R47). -/
def wordsOf (w0 : Word) : Nat := bitsOf w0.toNat 53 3 + 1

/-- The flags of word 0 (R46). -/
def flagsOf (w0 : Word) : CmdFlags :=
  ⟨w0.toNat.testBit 52, w0.toNat.testBit 51, w0.toNat.testBit 50, w0.toNat.testBit 49, w0.toNat.testBit 48⟩

/-- The opcode of word 0 (R46). -/
def opcodeOf (w0 : Word) : Nat := bitsOf w0.toNat 56 8

/-- The command that words spell: none for an undefined opcode, a LEN that differs from the opcode's length, or a reserved
operand bit that is 1 (R47, R72, R73). -/
def decodeCmd (ws : List Word) : Option Cmd :=
  match ws with
  | [] => none
  | w0 :: t =>
    let n := joinWords ((w0 &&& 0xFFFFFFFFFFFF) :: t)
    match cmdLayout (opcodeOf w0) (w0.toNat % 16) with
    | none => none
    | some (k, l) =>
      if wordsOf w0 == k && ws.length == k && packFields l (readFields l n) == n then cmdOf (opcodeOf w0) (readFields l n)
      else none

end Sys2Proof.Machine

namespace Sys2Proof
open Sys2Proof.Machine

/-- A kernel handle is in R48's range. -/
def kernelHandle (k : Nat) : Bool := decide (0x1000 ≤ k ∧ k ≤ 0x1FFF)

/-- The branch offset as a signed number of words (R85). -/
def branchOfs (ofs : BitVec 16) : Int := ofs.toInt

/-- The ranges the descriptions give the fields of a command (chapter 03, R48). A field that the rest of the command leaves unused, such as
LCTL ARG with an action that takes none, KADMIT TILE with ANCHOR 0 or BHINT COL with COLV 0, may hold any value (DESIGN CHOICE, log entry
134). -/
def Cmd.inRange : Cmd → Bool
  | .waittime rel time =>
    if rel then decide (time.toNat < 2 ^ 40) else decide (bitsOf time.toNat 4 30 ≤ 999999999)
  | .loop _ back => decide (1 ≤ back.toNat ∧ back.toNat ≤ 256)
  | .branch _ _ _ ofs => decide (-256 ≤ branchOfs ofs ∧ branchOfs ofs ≠ 0)
  | .balloc buf _ _ _ _ size => decide (1 ≤ buf.toNat ∧ 1 ≤ size.toNat ∧ size.toNat ≤ 2 ^ 28)
  | .bcopy _ _ so dof n => so.toNat % 32 == 0 && dof.toNat % 32 == 0 && n.toNat % 32 == 0 && decide (32 ≤ n.toNat)
  | .bfill _ ofs n _ => ofs.toNat % 32 == 0 && n.toNat % 32 == 0 && decide (32 ≤ n.toNat)
  | .rowmove _ _ _ _ _ n => decide (1 ≤ n.toNat ∧ n.toNat ≤ 524288)
  | .bhint _ _ cv _ sp => !(cv && sp)
  | .kadmit k _ _ _ _ _ img _ => kernelHandle k.toNat && img.toNat % 64 == 0
  | .kbind _ _ kind t => if kind == 2 then decide (t.toNat < 256) else if kind == 3 then t == 0 else true
  | .krotate stop es =>
    stop || (decide (2 ≤ es.length ∧ es.length ≤ 8) && es.all fun e => decide (1 ≤ e.dwell.toNat))
  | .lbind _ _ u first w r =>
    if u then first == 0 && w == 0 && r == 0
    else decide (w.toNat ≤ 4 ∧ r.toNat ≤ 5) && first.toNat % 2 ^ w.toNat == 0
  | .lctl first w act arg =>
    decide (w.toNat ≤ 4 ∧ act.toNat ≤ 8) && first.toNat % 2 ^ w.toNat == 0
      && (if act == 4 then decide (arg.toNat ≤ 5) else if act == 5 then decide (arg.toNat ≤ 3) else true)
  | .dmago _ _ _ _ _ n _ _ sw sk dw dk =>
    decide (1 ≤ n.toNat) && (!sw || decide (6 ≤ sk.toNat ∧ sk.toNat ≤ 28)) && (!dw || decide (6 ≤ dk.toNat ∧ dk.toNat ≤ 28))
  | .tsetup _ kb _ _ e cols =>
    decide (1 ≤ kb.toNat ∧ kb.toNat ≤ 48 ∧ 8 ≤ e.toNat ∧ e.toNat ≤ 24 ∧ kb.toNat ≤ e.toNat + 38)
      && (cols == 0 || ((List.range 7).any (fun j => popCount cols.toNat == 2 ^ j)
          && decide (16 * popCount cols.toNat ≤ 2 ^ (e.toNat - 2))))
  | .tdrain _ _ _ ofs => ofs.toNat % 16 == 0
  | _ => true

/-- The kernel handles a command names (R71). -/
def Cmd.kernels : Cmd → List Nat
  | .rowmove k .. => [k.toNat] | .kadmit k .. => [k.toNat] | .krun k => [k.toNat] | .kstop k => [k.toNat]
  | .kretire k => [k.toNat] | .kbind k .. => [k.toNat] | .kswitch k _ => [k.toNat] | .kparam k .. => [k.toNat]
  | .krotate _ es => es.map fun e => e.kern.toNat
  | .lbind k .. => [k.toNat]
  | _ => []

/-- The buffer handles a command names (R71). -/
def Cmd.buffers : Cmd → List Nat
  | .balloc b .. => [b.toNat] | .bfree b => [b.toNat] | .bcopy a b .. => [a.toNat, b.toNat] | .bfill b .. => [b.toNat]
  | .rowmove _ b .. => [b.toNat] | .bkey b .. => [b.toNat] | .bhint b .. => [b.toNat]
  | .kbind _ _ kind t => if kind == 0 || kind == 1 then [t.toNat] else []
  | .tdrain _ _ b _ => [b.toNat] | .commit b => [b.toNat]
  | _ => []

/-- The tally tables a command names (R71). -/
def Cmd.tables : Cmd → List Nat
  | .tsetup t .. => [t.toNat] | .tclear t => [t.toNat] | .tdrain t .. => [t.toNat]
  | _ => []

/-- Two commands name the same kernel, buffer or table (R50). -/
def Cmd.meets (a b : Cmd) : Bool :=
  a.kernels.any b.kernels.contains || a.buffers.any b.buffers.contains || a.tables.any b.tables.contains

/-- Holding commands (R77). -/
def Cmd.holding : Cmd → Bool
  | .barrier .. => true | .wait _ => true | .waittime .. => true | .pegtake _ w => w
  | _ => false

/-- Commands the accept stage carries out (R71). -/
def Cmd.isSeq : Cmd → Bool
  | .sets .. => true | .adds .. => true | .loop .. => true | .branch .. => true | .call _ => true | .ret => true
  | _ => false

/-- Commands that behave as though F were set (R52, R79, R107, R403, EPOCH). -/
def Cmd.fenced : Cmd → Bool
  | .halt => true | .fence => true | .barrier .. => true | .signal _ => true | .commit _ => true | .epoch => true
  | .peggive _ => true
  | _ => false

end Sys2Proof
end

