-- ==== Sys2Proof/Machine/Rs.lean ====
section
/-!
DEFINITION. The Reed-Solomon codes (R262, R215): arithmetic in GF(2^8), check symbols, and what a decoder finds from the
difference between stored and computed check symbols.
-/
namespace Sys2Proof.Machine

/-- x times α in GF(2^8), polynomial x^8 + x^4 + x^3 + x^2 + 1 (R262). -/
def gfDouble (x : Nat) : Nat := if x < 128 then 2 * x else (2 * x) % 256 ^^^ 0x1D

/-- The product in GF(2^8): bits of a from the least significant. -/
def gfMulAux : Nat → Nat → Nat → Nat → Nat
  | 0, _, _, acc => acc
  | n + 1, a, b, acc => gfMulAux n (a / 2) (gfDouble b) (if a % 2 == 1 then acc ^^^ b else acc)

/-- The product of two elements of GF(2^8). -/
def gfMul (a b : Nat) : Nat := gfMulAux 8 a b 0

/-- α^n. -/
def gfExp : Nat → Nat
  | 0 => 1
  | n + 1 => gfDouble (gfExp n)

/-- The remainder of data(x)·x^3 modulo g(x) = x^3 + 7x^2 + 14x + 8 (R262): the check symbols, coefficient of x^2 first. -/
def rsCheck3 (data : List Nat) : Nat × Nat × Nat :=
  data.foldl (fun (r2, r1, r0) s =>
    let f := r2 ^^^ s
    (r1 ^^^ gfMul f 7, r0 ^^^ gfMul f 14, gfMul f 8)) (0, 0, 0)

/-- What a decoder finds in a codeword (R264). -/
inductive RsFound where
  | valid | one (sym val : Nat) | many
  deriving DecidableEq, Repr

/-- What the three-symbol decoder of a codeword of n symbols finds, from the difference of its check symbols: symbol s is
the coefficient of x^(n − 1 − s) (R262, R484). -/
def rsFind3 (n : Nat) (rho : Nat × Nat × Nat) : RsFound :=
  if rho = (0, 0, 0) then .valid
  else
    let (r2, r1, r0) := rho
    let s0 := r2 ^^^ r1 ^^^ r0
    let s1 := gfMul r2 (gfExp 2) ^^^ gfMul r1 (gfExp 1) ^^^ r0
    let s2 := gfMul r2 (gfExp 4) ^^^ gfMul r1 (gfExp 2) ^^^ r0
    if s0 == 0 then .many
    else match (List.range n).find? fun p =>
        gfMul s0 (gfExp p) == s1 && gfMul s0 (gfExp (2 * p)) == s2 with
      | some p => .one (n - 1 - p) s0
      | none => .many

/-- The check symbols of a block-memory word (R215), with the generator (x + 1)(x + α) = x^2 + 3x + 2 (log entry 7). -/
def rsCheck2 (data : List Nat) : Nat × Nat :=
  data.foldl (fun (r1, r0) s =>
    let f := r1 ^^^ s
    (r0 ^^^ gfMul f 3, gfMul f 2)) (0, 0)

/-- What the two-symbol decoder of a block-memory word finds (R215): symbol s is the coefficient of x^(5 − s). -/
def rsFind2 (rho : Nat × Nat) : RsFound :=
  if rho = (0, 0) then .valid
  else
    let s0 := rho.1 ^^^ rho.2
    let s1 := gfMul rho.1 2 ^^^ rho.2
    if s0 == 0 then .many
    else match (List.range 6).find? fun p => gfMul s0 (gfExp p) == s1 with
      | some p => .one (5 - p) s0
      | none => .many

end Sys2Proof.Machine
end

