-- ==== Sys2Proof/Machine/Mem.lean ====
section
/-!
DEFINITION. The store as addressed memory (R24, R261 to R266): one byte at a time, in one canonical form, and one protected
word at a time as its decoder sees it. A word's three check symbols are held as their difference from the check symbols of
its data (its residue), so a valid word has a residue of zeros and an unlisted word is the poison word (log entry 5).
-/
namespace Sys2Proof.Machine

/-- Where check residues are listed: above the store's bytes. -/
def residueBase : Nat := 2 ^ 28

/-- The residue of the poison word (R266): its data is zero, so its check symbols are their own difference. -/
def poisonRes : List Byte := [0x5D, 0xA2, 0x3B]

/-- What an unlisted address reads as: data 0, residue that of poison. -/
def memDefault (a : Nat) : Byte :=
  if a < residueBase then 0 else poisonRes.getD ((a - residueBase) % 4) 0

/-- Read one byte of the listing. -/
def memGet (m : List Host.Cell) (a : Nat) : Byte := (KMap.find m a).getD (memDefault a)

/-- Write one byte, keeping the canonical form. -/
def memPut (m : List Host.Cell) (a : Nat) (b : Byte) : List Host.Cell :=
  if b = memDefault a then KMap.del m a else KMap.put m a b

/-- The canonical form: addresses strictly rising, no entry equal to what an unlisted address reads as. -/
def Memory.wf (m : List Host.Cell) : Bool :=
  KMap.rising m && m.all fun c => decide (c.2 ≠ memDefault c.1)

/-- Write consecutive bytes. -/
def memPutList : List Host.Cell → Nat → List Byte → List Host.Cell
  | m, _, [] => m
  | m, a, b :: t => memPutList (memPut m a b) (a + 1) t

/-- Consecutive bytes. -/
def memGetList (m : List Host.Cell) (a n : Nat) : List Byte := (List.range n).map fun i => memGet m (a + i)

/-- Unlist a range of addresses: its contents are lost. -/
def memWipe (m : List Host.Cell) (lo hi : Nat) : List Host.Cell := m.filter fun c => decide (c.1 < lo ∨ hi ≤ c.1)

/-- One byte of the store's data. -/
def Dev.byteAt (d : Dev) (a : Nat) : Byte := memGet d.mem a

/-- The data of protected word w (32 × w is its address). -/
def Dev.wordData (d : Dev) (w : Nat) : List Byte := memGetList d.mem (32 * w) 32

/-- The residue of protected word w. -/
def Dev.wordRes (d : Dev) (w : Nat) : List Byte := memGetList d.mem (residueBase + 4 * w) 3

/-- Store a word as data and residue. -/
def Dev.setWord (d : Dev) (w : Nat) (data res : List Byte) : Dev :=
  { d with mem := memPutList (memPutList d.mem (32 * w) data) (residueBase + 4 * w) res }

/-- Make a word the poison word. -/
def Dev.poisonWord (d : Dev) (w : Nat) : Dev :=
  { d with mem := memWipe (memWipe d.mem (32 * w) (32 * w + 32)) (residueBase + 4 * w) (residueBase + 4 * w + 4) }

/-- Make every word of store row r (512 × bank + row) the poison word. -/
def Dev.poisonRow (d : Dev) (r : Nat) : Dev :=
  { d with
    mem := memWipe (memWipe d.mem (512 * r) (512 * r + 512)) (residueBase + 64 * r) (residueBase + 64 * r + 64)
    sealedRows := KMap.del d.sealedRows r }

/-- Make every word of bank n the poison word. -/
def Dev.poisonBank (d : Dev) (n : Nat) : Dev :=
  { d with
    mem := memWipe (memWipe d.mem (2 ^ 18 * n) (2 ^ 18 * n + 2 ^ 18)) (residueBase + 2 ^ 15 * n) (residueBase + 2 ^ 15 * n + 2 ^ 15)
    sealedRows := d.sealedRows.filter fun e => decide (e.1 / 512 ≠ n)
    writeBacks := d.writeBacks.filter fun w => decide (w / 2 ^ 13 ≠ n) }

/-- What a decoder finds in a protected word (R264). -/
inductive Found where
  | good (data : List Byte)
  | fixed (data : List Byte) (sym : Nat)
  | poison
  | lost
  deriving DecidableEq, Repr

/-- Apply a one-symbol correction to a word's data. -/
def fixByte (data : List Byte) (sym val : Nat) : List Byte :=
  data.set sym (data.getD sym 0 ^^^ BitVec.ofNat 8 val)

/-- Decode a word from its data and residue (R262, R264, R266). -/
def decodeWord (data res : List Byte) : Found :=
  if res == poisonRes && data.all (· == 0) then .poison
  else match rsFind3 35 ((res.getD 0 0).toNat, (res.getD 1 0).toNat, (res.getD 2 0).toNat) with
    | .valid => .good data
    | .one s v => .fixed (if s < 32 then fixByte data s v else data) s
    | .many => .lost

/-- Decode protected word w of the store. -/
def Dev.findWord (d : Dev) (w : Nat) : Found := decodeWord (d.wordData w) (d.wordRes w)

end Sys2Proof.Machine
end

