-- ==== Sys2Proof/Machine/Place.lean ====
section
/-!
DEFINITION. Where buffers and tables lie (chapter 04): owners and power of banks, pool banks, free rows, the row maps of
R117 and R568, and the bookkeeping of placement decisions.
-/
namespace Sys2Proof.Machine

/-- The owner code of a bank (R267). -/
def Dev.owner (d : Dev) (n : Nat) : Nat := d.rd (BANK_OWN_OWNER n)

/-- A bank is device-managed and in service. -/
def Dev.managed (d : Dev) (n : Nat) : Bool := d.owner n == 3 && !d.isRetired .bank n

/-- The pool bank of a column (R116): its highest-numbered device-managed bank that is not retired. -/
def Dev.poolBank (d : Dev) (c : Nat) : Option Nat := (banksOfCol c).reverse.find? d.managed

/-- A bank is its column's pool bank. -/
def Dev.isPool (d : Dev) (n : Nat) : Bool := d.poolBank (n / 16) == some n

/-- Banks of a column that may hold buffer and table rows (R116). -/
def Dev.eligible (d : Dev) (c : Nat) : List Nat := (banksOfCol c).filter fun n => d.managed n && !d.isPool n

/-- The store rows that buffers hold. -/
def Dev.bufferRows (d : Dev) : List Nat := (d.buffers.map fun (_, b) => b.rows.filterMap id).flatten

/-- The store rows that tables hold. -/
def Dev.tableRows (d : Dev) : List Nat := (d.tables.map fun (_, t) => (t.cols.map (·.2)).flatten).flatten

/-- The store rows that buffer migrations have chosen and their buffers do not hold yet. -/
def Dev.moveRows (d : Dev) : List Nat :=
  (d.bufMoves.map fun (h, m) =>
    let own := match KMap.find d.buffers h with | some b => b.rows | none => []
    (m.target.filter fun r => !own.contains r).filterMap id).flatten

/-- Every allocated store row. -/
def Dev.usedRows (d : Dev) : List Nat := d.bufferRows ++ d.tableRows ++ d.moveRows

/-- The lowest free row of a bank, given the rows in use. -/
def lowestFree (used : List Nat) (n : Nat) : Option Nat :=
  ((List.range 512).find? fun r => !used.contains (512 * n + r)).map fun r => 512 * n + r

/-- Free rows of a column outside its pool bank. -/
def Dev.freeRows (d : Dev) (used : List Nat) (c : Nat) : Nat :=
  let el := d.eligible c
  512 * el.length - (used.filter fun r => el.contains (r / 512)).length

/-- The next row for a buffer in a column (R117): the next eligible bank with a free row, in ascending circular order
after the bank of its previous row there, and that bank's lowest free row. -/
def Dev.nextRow (d : Dev) (used : List Nat) (c : Nat) (prev : Option Nat) : Option Nat :=
  let el := d.eligible c
  let order := match prev with
    | none => el
    | some b => el.filter (fun n => decide (b < n)) ++ el.filter (fun n => decide (n ≤ b))
  order.findSome? (lowestFree used)

/-- The previous bank of a buffer's rows in a column: that of its last row there. -/
def prevBank (rows : List Nat) (c : Nat) : Option Nat :=
  (rows.reverse.find? fun r => r / 8192 == c).map (· / 512)

/-- The row map of R rows over the columns of a mask (R117), or none when a row finds no place. -/
def Dev.rowMapAux (d : Dev) (cols : List Nat) : (n i : Nat) → (used rows : List Nat) → Option (List Nat)
  | 0, _, _, rows => some rows
  | n + 1, i, used, rows =>
    let c := cols.getD (i % cols.length) 0
    match d.nextRow used c (prevBank rows c) with
    | some r => d.rowMapAux cols n (i + 1) (r :: used) (rows ++ [r])
    | none => none

/-- The row map of a buffer (R117). -/
def Dev.rowMap (d : Dev) (used : List Nat) (mask rows : Nat) : Option (List Nat) :=
  match maskList mask with
  | [] => none
  | cols => d.rowMapAux cols rows 0 used []

/-- Take the n columns with the most free rows, ties toward lower numbers (R568 step 2). -/
def mostFree (free : Nat → Nat) : (n : Nat) → List Nat → List Nat
  | 0, _ => []
  | n + 1, cols =>
    match cols.foldl (fun best c => match best with
      | none => some c
      | some b => if free b < free c then some c else some b) none with
    | none => []
    | some c => c :: mostFree free n (cols.filter (· != c))

/-- Drop columns until every column can take its share (R568 step 3). -/
def fitColumns (free : Nat → Nat) (rows : Nat) : (fuel : Nat) → List Nat → List Nat
  | 0, _ => []
  | f + 1, cols =>
    let n := cols.length
    let short := (List.range n).filter fun k => decide (free (cols.getD k 0) < (rows - k + n - 1) / n)
    match short.foldl (fun best k => match best with
      | none => some k
      | some b => if free (cols.getD k 0) ≤ free (cols.getD b 0) then some k else some b) none with
    | none => cols
    | some k => fitColumns free rows f (cols.filter (· != cols.getD k 0))

/-- The column mask Luthier chooses for a buffer that nothing fixes (R568); 0 when no column is left. -/
def Dev.chooseMask (d : Dev) (used : List Nat) (rows : Nat) : Nat :=
  let free := d.freeRows used
  let all := (List.range 64).filter fun c => decide (0 < free c)
  let cols := if rows < all.length then mostFree free rows all else all
  let sorted := (List.range 64).filter cols.contains
  maskOf (fitColumns free rows 65 sorted)

/-! Power of banks (R271). -/

/-- A bank is On. -/
def Dev.bankOn (d : Dev) (n : Nat) : Bool := d.rd (BANK_OWN_PSTATE n) == 1

/-- Begin waking an Off bank (R271, R272): it is poisoned before it serves. -/
def Dev.wakeBank (d : Dev) (n : Nat) : Dev := if d.rd (BANK_OWN_PSTATE n) == 0 then d.wr (BANK_OWN_PSTATE n) 3 else d

/-- A bank goes Off: its contents are lost (R271). -/
def Dev.bankOff (d : Dev) (n : Nat) : Dev := (d.poisonBank n).wr (BANK_OWN_PSTATE n) 0

/-- A device-managed bank with no allocated row, other than a pool bank, is Off (R271); so is a retired one that its rows
have left (R458). -/
def Dev.settleBank (d : Dev) (n : Nat) : Dev :=
  if d.owner n == 3 && !d.isPool n && !(d.usedRows.any fun r => r / 512 == n) then d.bankOff n else d

/-- Banks of rows. -/
def banksOf (rows : List Nat) : List Nat := (rows.map (· / 512)).eraseDups

/-- Free rows: they are poisoned, and banks left empty go Off (R132, R271, R297). The rows must be out of every map. -/
def Dev.freeRowList (d : Dev) (rows : List Nat) : Dev :=
  (banksOf rows).foldl Dev.settleBank (rows.foldl Dev.poisonRow d)

/-- Wake the banks of newly placed rows (R271). -/
def Dev.wakeRows (d : Dev) (rows : List Nat) : Dev := (banksOf rows).foldl Dev.wakeBank d

/-! Decisions (R110, R123). -/

/-- Nothing is admitted, allocated or set up (R122). -/
def Dev.empty (d : Dev) : Bool := d.kernels.isEmpty && d.buffers.isEmpty && d.tables.isEmpty

/-- The number of earlier entries for a kind and handle (OCC, R123). -/
def Dev.occOf (d : Dev) (kind handle : Nat) : Nat := KMap.get d.occ (2 ^ 24 * kind + handle) 0

/-- A record entry (R123), words 0 to 3. -/
def recEntry (kind reason handle occ w1 w2 stamp : Nat) : List Nat :=
  [kind + 2 ^ 8 * reason + 2 ^ 16 * (handle % 2 ^ 24) + 2 ^ 40 * (occ % 2 ^ 24), w1, w2, stamp]

/-- The CRC-32 of a row map (R571). A lost row, which has no place, enters as bank 0, row 0: the spec is silent (DESIGN CHOICE, log entry
120). -/
def rowMapCrc (rows : List (Option Nat)) : Nat :=
  crc32 ((rows.map fun r => let r := r.getD 0; bytesLE 2 (r / 512) ++ bytesLE 2 (r % 512)).flatten)

/-- Word 1 of a kernel's entry (R123). -/
def placeWord (anchor w h dies fret : Nat) : Nat :=
  anchor % 256 + 2 ^ 8 * (w % 16) + 2 ^ 12 * (h % 8) + 2 ^ 15 * (dies % 4) + 2 ^ 17 * (fret % 8)

/-- A mask with the bits of retired units of a kind below n. -/
def Dev.retiredBytes (d : Dev) (k : UnitKind) (n : Nat) : List Byte :=
  bytesLE (n / 8) ((List.range n).foldl (fun m i => if d.isRetired k i then m + 2 ^ i else m) 0)

/-- The retirement map's CRC-32 (R571). -/
def Dev.retireCrc (d : Dev) : Nat :=
  crc32 (d.retiredBytes .tile 256 ++ d.retiredBytes .rowPort 256 ++ d.retiredBytes .vertical 128
    ++ d.retiredBytes .bank 1024 ++ d.retiredBytes .link 128)

end Sys2Proof.Machine
end

