-- ==== Sys2Proof/Machine/Journal.lean ====
section
/-!
DEFINITION. Queues and their journals: finding an accepted command, fixing its outcome, its completion point (R45, R56,
R66), events and the WAITs that they complete (R54, R82), kernels' running KRUNs, and frames to the twin.
-/
namespace Sys2Proof

/-- A status other than OK or Taken over (R45). -/
def Status.bad (st : Status) : Bool := st.code != 0 && st.code != 6

end Sys2Proof

namespace Sys2Proof.Machine

/-- A queue's hidden state. -/
def Dev.queue (d : Dev) (q : Nat) : QueueSt := KMap.get d.queues q {}

/-- Replace it. -/
def Dev.setQueue (d : Dev) (q : Nat) (x : QueueSt) : Dev := { d with queues := KMap.put d.queues q x }

/-- The journal of a queue. -/
def Dev.journal (d : Dev) (q : Nat) : List Entry := (d.queue q).journal

/-- An accepted, unposted command by sequence number. -/
def Dev.entry (d : Dev) (q seq : Nat) : Option Entry := (d.journal q).find? fun e => e.seq == seq

/-- Change one entry. -/
def Dev.updEntry (d : Dev) (q seq : Nat) (f : Entry → Entry) : Dev :=
  let s := d.queue q
  d.setQueue q { s with journal := s.journal.map fun e => if e.seq == seq then f e else e }

/-- The port that owns a queue (R29). -/
def Dev.queuePort (d : Dev) (q : Nat) : Port := portOf (d.rd (QU_CTL_OWNER q))

/-- Accepted, unposted commands over all queues (R44). -/
def Dev.journalUsed (d : Dev) : Nat := (d.queues.map fun (_, s) => s.journal.length).foldl (· + ·) 0

/-- A started command's outcome becomes fixed; the completion point follows. -/
def Dev.fix (d : Dev) (q seq : Nat) (st : Status) (res : Word := 0) : Dev :=
  d.updEntry q seq fun e => if e.fin.isNone && e.stage == .started then { e with fin := some (st, res) } else e

/-- Frames in a direction that may be on their way unacknowledged (R421). -/
def capoWindow : Nat := 128

/-- A frame to the twin leaves (R420, R421): it takes the next counter and stays until it is acknowledged. A direction whose counter has ended
sends nothing more. -/
def Dev.capoPut (d : Dev) (x : CapoFrame) : Dev :=
  let c := d.capo
  if 2 ^ 96 - 1 ≤ c.txCtr + 1 then
    let d := { d with capo := { c with keyOut := false } }
    (((d.clr TWIN_STAT_CAPOUP).incSat TWIN_ERR_COUNT).raise { cls := .crimson, flag := TWIN_ERR_CTREND, ukind := 12 })
  else
    { d with capo := { c with txCtr := c.txCtr + 1, replay := c.replay ++ [{ x with ctr := c.txCtr + 1 }] } }.capoOut
      (x.words.headD 0) (c.txCtr + 1) x.words.tail

/-- Where a frame waits: one that carries no write record goes ahead of those that do (R422). -/
def waitIn (x : CapoFrame) (q : List CapoFrame) : List CapoFrame :=
  if x.words.headD 0 = 0x14 then q ++ [x]
  else q.takeWhile (fun y => y.words.headD 0 != 0x14) ++ [x] ++ q.dropWhile fun y => y.words.headD 0 != 0x14

/-- A frame to the twin (R419 to R422): 128 are on their way at most, and further ones wait. -/
def Dev.capoSend (d : Dev) (kind : Nat) (words : List Nat) : Dev :=
  let c := d.capo
  let x : CapoFrame := ⟨0, c.tickets + 1, kind :: words⟩
  let d := { d with capo := { c with tickets := c.tickets + 1 } }
  if c.replay.length < capoWindow && c.queue.isEmpty then d.capoPut x
  else { d with capo := { d.capo with queue := waitIn x c.queue } }

/-- Frames that waited leave while there is room. -/
def Dev.capoFlush : (fuel : Nat) → Dev → Dev
  | 0, d => d
  | n + 1, d => match d.capo.queue with
    | [] => d
    | x :: rest =>
      if d.capo.replay.length < capoWindow then
        Dev.capoFlush n (({ d with capo := { d.capo with queue := rest } }).capoPut x)
      else d

/-- The code of a half in a register record. -/
def halfCode : Half → Nat | .all => 0 | .lo => 1 | .hi => 2

/-- A Lead tells its Shadow of a register write that takes effect (R422). -/
def Dev.tellReg (d : Dev) (off : Nat) (w : RegWr) : Dev :=
  if d.telling then d.capoSend 0x17 [off, halfCode w.half, w.data.toNat, 0] else d

/-- The status reported for OK: Taken over when a replay completes the command on the twin (R65). -/
def Entry.okStatus (e : Entry) (st : Status) : Status := if e.replay && st == .ok then .takenOver else st

/-- The generation that a BALLOC or a BKEY gave its buffer (R482). -/
def Dev.genOf (d : Dev) (c : Option Cmd) : Nat :=
  match c with
  | some (.balloc b ..) => ((KMap.find d.buffers b.toNat).map (·.gen)).getD 0
  | some (.bkey b ..) => ((KMap.find d.buffers b.toNat).map (·.gen)).getD 0
  | _ => 0

/-- The words of a commit record (R422, R424): queue, sequence number, status, result, stamp, generation, whether the failure stops
the queue (R66), the number of committed bytes, the bytes as buffer, offset and byte, and the updates of committed tables. -/
def commitWords (q : Nat) (e : Entry) (st : Status) (res : Word) (stamp gen : Nat) (stops : Bool) : List Nat :=
  let staged := if st.bad then [] else e.staged
  let delta := if st.bad then [] else e.delta
  [q, e.seq, st.code, res.toNat, stamp, gen, b2n stops, staged.length] ++ (staged.map fun (b, o, x) => [b, o, x.toNat]).flatten
    ++ (delta.map fun (t, op, k, v) => [t, op, k, v]).flatten

/-- The stamp of a completed command (R68): its start when T is 1, else the present moment. A T = 1 command that never starts, which R66
ends as Stopped, is stamped with the present moment: the spec is silent there (DESIGN CHOICE, log entry 121). -/
def Dev.closeStamp (d : Dev) (e : Entry) : Nat := if e.flags.tstart && e.stage == .started then e.started else d.stamp

/-- A failure of this command stops its queue (R66). -/
def Dev.stops (d : Dev) (q : Nat) (e : Entry) (st : Status) : Bool := st.bad && d.on (QU_CTL_STOP_ON_ERR q) && !e.mute

/-- Close one entry: its completion point, with its commit durable at once unless a twin must acknowledge it (R52, R68). -/
def Dev.closeOne (d : Dev) (q : Nat) (e : Entry) (st : Status) (res : Word) (stops : Bool := false) : Dev :=
  let st := e.okStatus st
  let paired := d.pairedLead
  let stamp := d.closeStamp e
  let d := { d with drains := d.drains.filter fun x => x.q != q || x.seq != e.seq }.updEntry q e.seq fun x =>
    { x with stage := .completed, status := st, result := res, fin := some (st, res), staged := [], delta := [], wrote := []
             stamp := stamp, durable := !paired }
  let d := if d.telling then d.capoSend 0x12 (commitWords q e st res stamp (d.genOf e.cmd) stops) else d
  if paired then { d with capo := { d.capo with commits := d.capo.commits ++ [(q, e.seq)] } } else d

/-- Stop after a failure (R66): later accepted commands that have not started end as Stopped, a later failure of one that has
started causes nothing further, the accept stage halts. -/
def Dev.stopQueue (d : Dev) (q seq : Nat) : Dev :=
  let later := (d.journal q).dropWhile (fun e => e.seq != seq)
  let d := (later.drop 1).foldl (fun d e =>
    if e.stage == .accepted then d.closeOne q e .stopped 0
    else if e.stage == .started then d.updEntry q e.seq fun x => { x with mute := true } else d) d
  d.set (QU_STAT_ERRSTOP q)

/-- The completion point of a command: its status and result are fixed, and a failure stops the queue when
QU_CTL.STOP_ON_ERR is 1 (R45, R66). -/
def Dev.close (d : Dev) (q seq : Nat) (st : Status) (res : Word := 0) : Dev :=
  match d.entry q seq with
  | none => d
  | some e =>
    if e.stage == .completed then d
    else
      let stops := d.stops q e st
      let d := d.closeOne q e st res stops
      if stops then d.stopQueue q seq else d

/-- Started commands with no outcome yet, in ascending queue number and path order. -/
def Dev.runningCmds (d : Dev) : List (Nat × Entry) :=
  (d.queues.map fun (q, s) => (s.journal.filter fun e => e.stage == .started && e.fin.isNone).map fun e => (q, e)).flatten

/-- The commands in progress: started and not completed, their outcome fixed or not. -/
def Dev.openCmds (d : Dev) : List (Nat × Entry) :=
  (d.queues.map fun (q, s) => (s.journal.filter fun e => e.stage == .started).map fun e => (q, e)).flatten

/-- The WAITs on an event that are ready. -/
def Dev.waits (d : Dev) (ev : Nat) : List (Nat × Nat) :=
  d.runningCmds.filterMap fun (q, e) => match e.cmd with
    | some (.wait n) => if n.toNat == ev then some (q, e.seq) else none
    | _ => none

/-- WAITs complete one after another while the count allows, in an order that a free value gives (R54, R82). -/
def Dev.settleWaitsAux (ev : Nat) : (fuel : Nat) → Dev → Dev
  | 0, d => d
  | n + 1, d =>
    let ws := d.waits ev
    let c := d.rd (EV_COUNT_COUNT ev)
    if ws.isEmpty || c == 0 then d
    else
      let (q, seq) := ws.getD (if ws.length == 1 then 0 else d.peekWord.toNat % ws.length) (0, 0)
      let d := if ws.length == 1 then d else d.burn
      let d := d.wr (EV_COUNT_COUNT ev) (c - 1)
      Dev.settleWaitsAux ev n (d.close q seq .ok (.ofNat 64 (c - 1)))

/-- The WAITs that an event's count completes (R82). -/
def Dev.settleWaits (d : Dev) (ev : Nat) : Dev := Dev.settleWaitsAux ev (d.waits ev).length d

/-- A pulse on an event, not yet told to a twin (R54). -/
def Dev.pulseHere (d : Dev) (ev : Nat) : Dev := (d.eventInc ev).settleWaits ev

/-- A hardware pulse on an event (R54), of which a Lead tells its Shadow (R422): no transfer ends with it. -/
def Dev.pulse (d : Dev) (ev : Nat) : Dev :=
  let d := if d.telling then d.capoSend 0x18 [ev, 1, 64] else d
  d.pulseHere ev

/-! Kernels. -/

/-- A kernel by handle. -/
def Dev.kernel (d : Dev) (h : Nat) : Option Kernel := KMap.find d.kernels h

/-- Change a kernel. -/
def Dev.updKernel (d : Dev) (h : Nat) (f : Kernel → Kernel) : Dev :=
  match d.kernel h with
  | some k => { d with kernels := KMap.put d.kernels h (f k) }
  | none => d

/-- The tiles of a rectangle (R111), in the order of an image's extension: x first, then y, then the die (R328). -/
def rectTiles (anchor w h : Nat) (both : Bool) : List Nat :=
  let die := anchor / 128
  let x0 := tileX anchor
  let y0 := tileY anchor
  let one := fun d => ((List.range h).map fun j => (List.range w).map fun i => tileAt d (x0 + i) (y0 + j)).flatten
  if both then one 0 ++ one 1 else one die

/-- The physical tiles of a kernel. -/
def Kernel.where (k : Kernel) : List Nat := rectTiles k.anchor k.w k.h k.both

/-- The physical tiles of an ensemble. -/
def Ensemble.where (anchor : Nat) (e : Ensemble) : List Nat := rectTiles anchor e.w e.h e.both

/-- The ensemble that holds a tile, with its anchor. -/
def Dev.ensembleOf (d : Dev) (t : Nat) : Option (Nat × Ensemble) :=
  d.ensembles.find? fun (a, e) => (e.where a).contains t

/-- The kernel in a fret of a tile, with its handle. -/
def Dev.kernelAt (d : Dev) (t f : Nat) : Option (Nat × Kernel) :=
  d.kernels.find? fun (_, k) => k.fret == f && !k.released && k.where.contains t

/-- The fret a tile shows. -/
def Dev.shown (d : Dev) (t : Nat) : Nat := d.rd (FRET_STAT_SHOWN t)

/-- The kernel a tile shows. -/
def Dev.shownKernel (d : Dev) (t : Nat) : Option (Nat × Kernel) := d.kernelAt t (d.shown t)

/-- Bits of the frame of cluster column u. -/
def Dev.frameBits (d : Dev) (f t u lo w : Nat) : Nat :=
  ((KMap.get d.frames (8192 * f + 32 * t + u) 0).extractLsb' lo w).toNat

/-- Port-setting bits (R236). -/
def Dev.portBits (d : Dev) (f t b w : Nat) : Nat := d.frameBits f t (b / 512) (26624 + b % 512) w

/-- A response answers a request: its tag, at the tile it was sent from (R201). -/
def PortalReq.answeredBy (r : PortalReq) (p : Packet) : Bool :=
  r.tag == p.tag.toNat && r.origin == tileOfCol p.dcol.toNat p.dep.toNat

/-- The request a response answers (R201). -/
def PortalSt.request (x : PortalSt) (p : Packet) : Option PortalReq := x.outst.find? fun r => r.answeredBy p

/-- A packet in a portal is a response for a fret. -/
def PortalSt.responseFor (x : PortalSt) (f : Nat) (p : Packet) : Bool :=
  p.vc.toNat == 1 && (match x.request p with | some r => r.fret == f | none => false)

/-- The first error a running KRUN meets decides its status when it ends (R227). -/
def Dev.runError (d : Dev) (h : Nat) (st : Status) : Dev :=
  d.updKernel h fun k => { k with run := k.run.map fun r => { r with err := r.err <|> some st } }

/-! Ensembles and their triggers (R114, R191, R202 to R205). -/

/-- Change an ensemble. -/
def Dev.updEns (d : Dev) (a : Nat) (f : Ensemble → Ensemble) : Dev :=
  match KMap.find d.ensembles a with
  | some e => { d with ensembles := KMap.put d.ensembles a (f e) }
  | none => d

/-- A trigger reaches an ensemble's fret controller (R204). -/
def Dev.trigger (d : Dev) (a : Nat) (t : Trigger) : Dev := d.updEns a fun e => { e with waiting := e.waiting ++ [t] }

/-- Kernels of an ensemble. -/
def Dev.members (d : Dev) (anchor : Nat) (e : Ensemble) : List (Nat × Kernel) :=
  d.kernels.filter fun (_, k) => !k.released && (e.where anchor).contains k.anchor

/-- The kernel that an ensemble shows. -/
def Dev.ensKernel (d : Dev) (a : Nat) : Option (Nat × Kernel) :=
  match KMap.find d.ensembles a with
  | some e => (d.members a e).find? fun (_, k) => k.fret == d.shown a
  | none => none

/-- The next plane of every member holds a fret whole (R185). -/
def Dev.planeReady (d : Dev) (a f : Nat) : Bool :=
  match KMap.find d.ensembles a with
  | some e => (e.where a).all fun t => d.on (FRET_STAT_NEXTV t) && d.rd (FRET_STAT_NEXT t) == f
  | none => false

/-- Begin a preload of a fret (R185, R186): the last one requested wins. -/
def Dev.preload (d : Dev) (a f : Nat) : Dev :=
  match KMap.find d.ensembles a with
  | none => d
  | some e =>
    if d.planeReady a f then d
    else
      let d := d.updEns a fun e => { e with preload := some f }
      (e.where a).foldl (fun d t => (Dev.wr d (FRET_STAT_NEXT t) f).clr (FRET_STAT_NEXTV t)) d

/-- The rotation entry that follows a position and whose kernel has a running KRUN (R205). -/
def Dev.nextEntry (d : Dev) (e : Ensemble) : Option (Nat × Nat) :=
  let n := e.rot.length
  ((List.range (n - 1)).map fun i => (e.rotPos + 1 + i) % n).findSome? fun i =>
    match e.rot[i]? with
    | some r => match d.kernel r.kern.toNat with
      | some k => if !k.released && k.run.isSome && (match k.run with | some x => x.done.isNone | none => false)
          then some (i, k.fret) else none
      | none => none
    | none => none

/-- During a dwell the fret of the next runnable entry is preloaded (R205). -/
def Dev.preloadNext (d : Dev) (a : Nat) : Dev :=
  match KMap.find d.ensembles a with
  | some e => if e.rotating && e.phase == 1 then (match d.nextEntry e with | some (_, f) => d.preload a f | none => d) else d
  | none => d

/-- A dwell ends (R205): the ensemble switches to the next entry with a running KRUN; with none, the dwell starts again. -/
def Dev.dwellEnd (d : Dev) (a : Nat) : Dev :=
  match KMap.find d.ensembles a with
  | none => d
  | some e =>
    if e.rotating && e.phase == 1 && (KMap.find d.migrations a).isNone then
      match d.nextEntry e with
      | some (_, f) => if e.waiting.contains (.toFret f none) then d else d.trigger a (.toFret f none)
      | none => d
    else d

/-- A kernel's KRUN has ended: a dwell that shows the kernel ends early (R205). -/
def Dev.runEnded (d : Dev) (h : Nat) : Dev :=
  match (d.kernel h).bind fun k => (d.ensembleOf k.anchor).map fun x => (k, x.1) with
  | some (k, a) => if k.fret == d.shown a then d.dwellEnd a else d
  | none => d

/-- A running KRUN ends at once with a status other than OK; its staged data is discarded at the completion point. -/
def Dev.endRun (d : Dev) (h : Nat) (st : Status) : Dev :=
  match d.kernel h with
  | some k => match k.run with
    | some r => ((d.fix r.q r.seq st).updKernel h fun k => { k with run := none }).runEnded h
    | none => d
  | none => d

/-- The entry of the KRUN that a kernel runs. -/
def Dev.runOf (d : Dev) (h : Nat) : Option (Nat × Entry) :=
  match d.kernel h with
  | some k => match k.run with
    | some r => (d.entry r.q r.seq).map fun e => (r.q, e)
    | none => none
  | none => none

/-! Buffers. -/

/-- A buffer by handle. -/
def Dev.buffer (d : Dev) (b : Nat) : Option Buffer := KMap.find d.buffers b

/-- Change a buffer. -/
def Dev.updBuffer (d : Dev) (b : Nat) (f : Buffer → Buffer) : Dev :=
  match d.buffer b with
  | some x => { d with buffers := KMap.put d.buffers b (f x) }
  | none => d

/-- The buffer that holds a store row, with the buffer row. -/
def Dev.bufferAt (d : Dev) (r : Nat) : Option (Nat × Buffer × Nat) :=
  d.buffers.findSome? fun (h, b) => (b.rows.idxOf? (some r)).map fun i => (h, b, i)

/-- Commands that name a kernel and are running (R88, R96), other than one. -/
def Dev.namesKernel (d : Dev) (h : Nat) (but : Nat × Nat) : Bool :=
  d.openCmds.any fun (q, e) => (q, e.seq) != but && (match e.cmd with | some c => c.kernels.contains h | none => false)

/-- Commands that name a buffer and are running (R88), other than one. -/
def Dev.namesBuffer (d : Dev) (b : Nat) (but : Nat × Nat) : Bool :=
  d.openCmds.any fun (q, e) => (q, e.seq) != but && (match e.cmd with | some c => c.buffers.contains b | none => false)

/-- A decision is recorded as the last one (PLACE_LAST, R123). -/
def Dev.lastDecision (d : Dev) (kind reason handle tile fret : Nat) : Dev :=
  ((((d.wr PLACE_LAST_KIND kind).wr PLACE_LAST_HANDLE handle).wr PLACE_LAST_TILE tile).wr PLACE_LAST_FRET fret).wr
    PLACE_LAST_REASON reason

end Sys2Proof.Machine
end

