-- ==== Sys2Proof/Machine/StoreWord.lean ====
section
/-!
DEFINITION. Who may reach a store row (R267, R268, R481), storing one protected word (R265, R279), mirroring (R426), and
the 32-byte records the device writes to memory (R569).
-/
namespace Sys2Proof.Machine

/-- What a bank controller does with a request to a row. -/
inductive Gate where
  | serve | wait | deny | keyDeny
  deriving DecidableEq, Repr

/-- The store answers requests (R276, R502). -/
def Dev.storeOpen (d : Dev) : Bool := !d.on STORE_STAT_RESETTING

/-- Whether a requester may reach store row r under a key index, by owner and buffer (R267, R268, R481). -/
def Dev.admits (d : Dev) (id : Ident) (key r : Nat) : Gate :=
  let n := r / 512
  let own := d.owner n
  if own == 3 then
    if d.isPool n && id != .device then .deny
    else match d.bufferAt r with
    | some (_, b, _) => if b.key == key then .serve else .keyDeny
    | none => if id = .device && !d.isRetired .bank n then .serve else .deny
  else if d.isRetired .bank n then .deny
  else match id with
    | .port p => if own == p.num + 1 then .serve else .deny
    | .kern h => if own == h && decide (0x1000 ≤ own) then .serve else .deny
    | .device => .deny

/-- A bank controller's answer to a request for a row (R270, R272). -/
def Dev.gateRow (d : Dev) (id : Ident) (key r : Nat) : Gate :=
  let g := match id, d.admits id key r with
    | .kern _, .serve => if d.owner (r / 512) == 3 then .deny else .serve
    | .kern _, .keyDeny => .deny
    | _, g => g
  if g = .serve then
    match d.rd (BANK_OWN_PSTATE (r / 512)) with
    | 0 => .deny
    | 1 => .serve
    | _ => .wait
  else g

/-- The rows a range of store bytes covers. -/
def rowsOfRange (a n : Nat) : List Nat :=
  if n = 0 then [] else (List.range ((a + n - 1) / 512 - a / 512 + 1)).map (a / 512 + ·)

/-- Every row of a range can be judged now: the store is not resetting and no bank is waking. -/
def Dev.storeReady (d : Dev) (id : Ident) (key a n : Nat) : Bool :=
  d.storeOpen && (rowsOfRange a n).all fun r => d.gateRow id key r != .wait

/-- A key-index mismatch at a bank (R481, R490). -/
def Dev.keyMismatch (d : Dev) (a : Nat) : Dev :=
  (d.incSat SEC_STAT_COUNT).raise
    { cls := .ochre, flag := SEC_STAT_KEYMIS, ukind := 2, uid := a / 2 ^ 18, detail := a }

/-- Bits of STORE_FLIPMASK (R279). -/
def Dev.flipMask (d : Dev) : Nat :=
  (List.range 5).foldl (fun m k => m + d.rd (STORE_FLIPMASK_MASK k) * 2 ^ (64 * k)) 0 % 2 ^ 280

/-- Bytes combined with a mask, byte by byte. -/
def xorBytes (bs : List Byte) (m : Nat) : List Byte :=
  (List.range bs.length).map fun i => bs.getD i 0 ^^^ BitVec.ofNat 8 (bitsOf m (8 * i) 8)

/-- The check symbols of 32 data bytes. -/
def checkBytes (data : List Byte) : List Byte :=
  let (a, b, c) := rsCheck3 (data.map (·.toNat))
  [.ofNat 8 a, .ofNat 8 b, .ofNat 8 c]

/-- Store a word in raw form: data and residue; an armed flip alters it (R279), a pending write-back of it is dropped. -/
def Dev.putRaw (d : Dev) (w : Nat) (data res : List Byte) : Dev :=
  let d := { d with writeBacks := d.writeBacks.filter (· != w) }
  if d.on STORE_FLIP_CTL_ARM && d.rd STORE_FLIP_CTL_BANK == w / 2 ^ 13 then
    let m := d.flipMask
    let flips := xorBytes (List.replicate 32 0) m
    let cf := checkBytes flips
    let res := (List.range 3).map fun k => res.getD k 0 ^^^ cf.getD k 0 ^^^ BitVec.ofNat 8 (bitsOf m (256 + 8 * k) 8)
    { (d.clr STORE_FLIP_CTL_ARM).setWord w (xorBytes data m) res with flipped := some w }
  else
    let d := if d.flipped = some w then { d with flipped := none } else d
    d.setWord w data res

/-- Encode and store a word. -/
def Dev.putWord (d : Dev) (w : Nat) (data : List Byte) : Dev := d.putRaw w data [0, 0, 0]

/-- A store row is mirrored to the twin (R87, R426, TWIN_BANKMIR). -/
def Dev.mirrored (d : Dev) (r : Nat) : Bool :=
  let n := r / 512
  if d.owner n == 3 then match d.bufferAt r with
    | some (_, b, _) => b.mirror || b.commit
    | none => false
  else d.bit (TWIN_BANKMIR_MIR (n / 64)) (n % 64)

/-! The stored form of sealed rows (R483, R484). -/

/-- The counter of a burnt row. -/
def burntCtr : Nat := 2 ^ 64 - 1

/-- The 70 symbols of a sealed codeword of 67 payload symbols (R484). -/
def sealedCodeword (p : List Nat) : List Nat :=
  let (a, b, c) := rsCheck3 p
  p ++ [a, b, c]

/-- The 560 bytes of a sealed row as it is stored (R483, R484): eight codewords, the first with its wrong symbols. -/
def Dev.sealedStored (d : Dev) (r : Nat) (s : SealedRow) : List Nat :=
  let payload :=
    if s.ctr = burntCtr then List.replicate 512 0 ++ bytesLo 8 burntCtr ++ List.replicate 16 0
    else match d.bufferAt r with
      | some (h, b, i) => sealPayload (rowKey (d.keyBytes b.key) h b.gen i) s.ctr ((memGetList d.mem (512 * r) 512).map (·.toNat))
      | none => []
  let ws := ((List.range 8).map fun j => sealedCodeword ((payload.drop (67 * j)).take 67)).flatten
  s.err.foldl (fun ws (i, v) => ws.set i (ws.getD i 0 ^^^ v)) ws

/-- A write record to the twin (R422, R425), once the write is in place: a row of a buffer is named by its buffer and its
offset there, since the twin may keep it elsewhere (R426), any other row by its address. A sealed row goes whole, as it is stored (R487). -/
def Dev.mirror (d : Dev) (a n : Nat) : Dev :=
  if d.telling && d.mirrored (a / 512) then
    let data := (memGetList d.mem a n).map (·.toNat)
    match d.bufferAt (a / 512) with
    | some (h, b, i) =>
      match (if b.sealed then KMap.find d.sealedRows (a / 512) else none) with
      | some s => d.capoSend 0x14 ([1, h, 512 * i] ++ d.sealedStored (a / 512) s)
      | none => d.capoSend 0x14 ([1, h, 512 * i + a % 512] ++ data)
    | none => d.capoSend 0x14 ([0, 0, a] ++ data)
  else d

/-- The Lead keeps as many bytes of write records as it may (R425). -/
def Dev.mirrorFull (d : Dev) : Bool :=
  d.pairedLead && decide (2 ^ 22 ≤ (d.capo.frames.map fun x => if x.words.headD 0 == 0x14 then x.words.length - 4 else 0).foldl (· + ·) 0)

/-- The unit a device address lies in (R24). -/
inductive AddrSpace where
  | store (a : Nat)
  | window (ltile ofs : Nat)
  | debug (ofs : Nat)
  | control (off : Nat)
  | host (p : Port) (a : Nat)
  | none
  deriving DecidableEq, Repr

/-- Where a device address lies (R24, R25). -/
def addrSpace (a : Nat) : AddrSpace :=
  if a < 2 ^ 28 then .store a
  else if 2 ^ 32 ≤ a ∧ a < 2 ^ 33 then .window (bitsOf a 24 8) (a % 2 ^ 24)
  else if 2 ^ 33 ≤ a ∧ a < 2 ^ 33 + 2 ^ 25 then .debug (a % 2 ^ 25)
  else if 0xF000000000 ≤ a ∧ a < 0xF001000000 then .control (a % 2 ^ 24)
  else if 0x100000000000 ≤ a ∧ a < 0x800000000000 then .host .a (a - 0x100000000000)
  else if 0x800000000000 ≤ a ∧ a < 0x1000000000000 then .host .b (a - 0x800000000000)
  else .none

/-- An event at a PCIe port (R391, R393): its flag, the address, an Ochre event that names them. -/
def Dev.portEvent (d : Dev) (p : Port) (flag : Field) (a : Nat) : Dev :=
  ((d.incSat (PORT_ERR_COUNT p.num)).wr (PORT_EADDR_ADDR p.num) a).raise
    { cls := .ochre, flag := flag, ukind := 7, uid := p.num, detail := a % 2 ^ 48 }

/-- A device request through a port fails (R393). -/
def Dev.deviceFail (d : Dev) (p : Port) (a : Nat) : Dev := d.portEvent p (PORT_ERR_DEVERR p.num) a

/-- A request finds its column unreachable (R17, R308): its source router says so. -/
def Dev.noRoute (d : Dev) (s t dep a : Nat) : Dev :=
  ((((d.wr NOC_STAT_SCOL s).wr NOC_STAT_DCOL t).wr NOC_STAT_DEP dep).incSat NOC_STAT_COUNT).raise
    { cls := .crimson, flag := NOC_STAT_UNREACH, uid := s, detail := a % 2 ^ 48 }

/-- Write one aligned 32-byte record to memory from a column for a requester with key index 0 (R569): a whole protected word in the
store, or host memory through a port whose link answers. It waits for a waking bank and for the end of a store-die reset (none, R272, R276). Any
other place answers a bus error, and so does a column that cannot be reached (R308). -/
def Dev.writeRecord (d : Dev) (id : Ident) (col a : Nat) (data : List Byte) : Dev × Option Outc :=
  match addrSpace a with
  | .store s =>
    if !d.linked col (s / 2 ^ 22) then (d.noRoute col (s / 2 ^ 22) 4 a, some .busError)
    else if !d.storeReady id 0 s 32 then (d, none)
    else match d.gateRow id 0 (s / 512) with
      | .serve => ((d.putWord (s / 32) data).mirror s 32, some .ok)
      | .keyDeny => (d.keyMismatch s, some .busError)
      | _ => (d, some .busError)
  | .host p h =>
    if !d.linked col (portCol p) then (d.noRoute col (portCol p) 10 a, some .busError)
    else if d.portUp p then (d.emit (.hostWrite p h data), some .ok)
    else (d.deviceFail p a, some .busError)
  | _ => (d, some .busError)

/-! Decisions of Luthier (R123, R124). -/

/-- A placement-record entry that could not be written, or found no room: placement goes on unrecorded (R124, R573). -/
def Dev.recFault (d : Dev) (flag : Field) : Dev :=
  ({ d with recStop := true }).raise { cls := .ochre, flag := flag }

/-- Write placement-record entries in order, until one must wait (R123, R124, R272, R276): PTR reaching SIZE ends the recording, and so does a write
that fails. -/
def Dev.writeEntries : List (List Nat) → Dev → Dev
  | [], d => { d with recWait := [] }
  | ws :: rest, d =>
    if d.recStop then { d with recWait := [] }
    else if d.rd PLACE_REC_SIZE_SIZE ≤ d.rd PLACE_REC_PTR_PTR then { d.recFault PLACE_STAT_RECFULL with recWait := [] }
    else match d.writeRecord .device controlCol (64 * d.rd PLACE_REC_BASE_BASE + 32 * d.rd PLACE_REC_PTR_PTR) (wordBytes ws) with
      | (d, none) => { d with recWait := ws :: rest }
      | (d, some .ok) =>
        let d := d.inc PLACE_REC_PTR_PTR
        if d.rd PLACE_REC_SIZE_SIZE ≤ d.rd PLACE_REC_PTR_PTR then { d.recFault PLACE_STAT_RECFULL with recWait := [] }
        else Dev.writeEntries rest d
      | (d, some _) => { d.recFault PLACE_STAT_RECERR with recWait := [] }

/-- The entries that wait are written once they can be. -/
def Dev.pumpRecord (d : Dev) : Dev := if d.recWait.isEmpty then d else Dev.writeEntries d.recWait d

/-- Append an entry to the placement record in Recorded mode (R120, R123, R124). -/
def Dev.appendRecord (d : Dev) (ws : List Nat) : Dev := if d.recStop then d else Dev.writeEntries (d.recWait ++ [ws]) d

/-- The header entry (R123). -/
def Dev.recHeader (d : Dev) : List Nat :=
  [2 ^ 8, d.retireCrc,
   (List.range 5).foldl (fun n k => n + 2 ^ (8 * k) * d.rd ([PLACE_WEIGHT_HOP, PLACE_WEIGHT_SPEED, PLACE_WEIGHT_VIA, PLACE_WEIGHT_POWER, PLACE_WEIGHT_TEMP].getD k PLACE_WEIGHT_HOP)) 0,
   d.rd PLACE_CTL_MODE + 4 * d.rd PLACE_CTL_AUTOMIG + 8 * d.rd PLACE_CTL_TIMESHARE + 2 ^ 8 * d.rd PLACE_CTL_HYST
     + 2 ^ 16 * d.rd PLACE_CTL_TEMP_LIM + 2 ^ 24 * d.rd PLACE_CTL_MIGBW + 2 ^ 32 * d.rd PLACE_CTL_TMO]

/-- Record a decision (R123): PLACE_LAST, the record in Recorded mode with its header first (which is written with the first decision: DESIGN
CHOICE, log entry 128), the count for the kind and
handle, and the placement record to a twin (R424). -/
def Dev.decided (d : Dev) (kind reason handle w1 w2 tile fret : Nat) : Dev :=
  let ws := recEntry kind reason handle (d.occOf kind handle) w1 w2 d.stamp
  let d := { d.lastDecision kind reason handle tile fret with occ := KMap.put d.occ (2 ^ 24 * kind + handle) (d.occOf kind handle + 1) }
  let d := if d.rd PLACE_CTL_MODE == 1 && !d.shadowing then
      let d := if d.rd PLACE_REC_PTR_PTR == 0 && d.recWait.isEmpty then d.appendRecord d.recHeader else d
      d.appendRecord ws
    else d
  if d.telling then d.capoSend 0x15 ws else d

end Sys2Proof.Machine
end

