-- ==== Sys2Proof/Machine/Retire.lean ====
section
/-!
DEFINITION. Leaky buckets and retirement (R453 to R459, R463, R18): counting an event, a lasting fault, what retiring each
kind of unit does, the strings of a column and what each serves, routes and their markers (R307 to R309), lane groups
going down (R374), and kernels released or cleared (R127, R184).
-/
namespace Sys2Proof.Machine

/-! Kernels and frets. -/

/-- The memories of a tile that one fret enables and no other (R217). -/
def Dev.ownedMems (d : Dev) (t f : Nat) : List Nat :=
  (List.range 16).filter fun m => d.portBits f t (64 * m) 1 == 1
    && (List.range 8).all fun g => g == f || d.portBits g t (64 * m) 1 == 0

/-- A portal forgets a fret (R184, R201): its queued responses are dropped, and those still to come will be. -/
def PortalSt.forget (x : PortalSt) (f : Nat) : PortalSt :=
  { x with
    landing := x.landing.filter fun p => !x.responseFor f p
    inq := x.inq.filter fun p => !x.responseFor f p
    outst := (x.outst.filter fun r => !(r.fret == f && (x.landing ++ x.inq).any fun p => p.vc.toNat == 1 && r.answeredBy p)).map fun r =>
      if r.fret == f then { r with fret := 8 } else r }

/-- Clear one fret of a tile (R183, R184, R218): its planes, parameters, parks, row register and requests, the memories it owned, and the
next plane's copy of it (R185). -/
def Dev.clearFret (d : Dev) (t f : Nat) : Dev :=
  let tf := 8 * t + f
  let mems := d.ownedMems t f
  let d := if d.rd (FRET_STAT_NEXT t) == f then d.clr (FRET_STAT_NEXTV t) else d
  { d with
    frames := d.frames.filter fun x => decide (x.1 / 32 ≠ 256 * f + t)
    badFrames := d.badFrames.filter fun a => decide (a / 32 ≠ 256 * f + t)
    badPlanes := d.badPlanes.filter fun x => decide (x ≠ tf)
    planeCrcs := KMap.del d.planeCrcs tf
    holds := d.holds.filter fun x => decide (x.1 / 16384 ≠ tf)
    params := d.params.filter fun x => decide (x.1 / 16 ≠ tf)
    paramHeld := d.paramHeld.filter fun x => decide (x / 16 ≠ tf)
    parks := KMap.del d.parks tf
    rowRegs := KMap.del d.rowRegs tf
    rowReqs := KMap.del d.rowReqs tf
    bmem := d.bmem.filter fun x => !(x.1 / 16384 == t && mems.contains (x.1 / 1024 % 16))
    bmemBack := d.bmemBack.filter fun x => !(x / 16384 == t && mems.contains (x / 1024 % 16))
    memHolds := d.memHolds.filter fun x => !(x.1 / 32 == t && mems.contains (x.1 / 2 % 16))
    portals := match KMap.find d.portals t with
      | some x => KMap.put d.portals t (x.forget f)
      | none => d.portals
    toks := if d.shown t = f then d.toks.filter fun x => decide (x.1 / 16384 % 256 ≠ t) else d.toks }

/-- The FRET_KERN field of a fret (R202). -/
def fretKern (t f : Nat) : Field :=
  match f with
  | 0 => FRET_KERN0_F0 t | 1 => FRET_KERN0_F1 t | 2 => FRET_KERN0_F2 t | 3 => FRET_KERN0_F3 t
  | 4 => FRET_KERN1_F4 t | 5 => FRET_KERN1_F5 t | 6 => FRET_KERN1_F6 t | _ => FRET_KERN1_F7 t

/-- An ensemble that holds no kernel is dissolved; its tiles are free (R96, R114). -/
def Dev.dropEnsemble (d : Dev) (anchor : Nat) : Dev :=
  match KMap.find d.ensembles anchor with
  | none => d
  | some e =>
    if d.kernels.any fun (_, k) => !k.released && (e.where anchor).contains k.anchor then d
    else
      let d := (e.where anchor).foldl (fun d t => d.clr (FRET_STAT_PHASE t)) d
      { d with ensembles := KMap.del d.ensembles anchor, migrations := KMap.del d.migrations anchor }

/-- A tile shows a fret. -/
def Dev.showFret (d : Dev) (t f : Nat) : Dev := d.wr (FRET_STAT_SHOWN t) f

/-- The smallest rectangle over two, each an anchor, a width, a height and whether it spans both dies. -/
def boxJoin (x y : Nat × Nat × Nat × Bool) : Nat × Nat × Nat × Bool :=
  let both := x.2.2.2 || y.2.2.2 || x.1 / 128 != y.1 / 128
  let x0 := min (tileX x.1) (tileX y.1)
  let y0 := min (tileY x.1) (tileY y.1)
  let x1 := max (tileX x.1 + x.2.1) (tileX y.1 + y.2.1)
  let y1 := max (tileY x.1 + x.2.2.1) (tileY y.1 + y.2.2.1)
  (tileAt (if both then 0 else x.1 / 128) x0 y0, x1 - x0, y1 - y0, both)

/-- The smallest rectangle over an ensemble and a kernel at a tile (R114). -/
def boxOver (ea : Nat) (e : Ensemble) (k : Kernel) (a : Nat) : Nat × Nat × Nat × Bool :=
  boxJoin (ea, e.w, e.h, e.both) (a, k.w, k.h, k.both)

/-- The smallest rectangle over some kernels (R114). -/
def boxAll : List Kernel → Option (Nat × Nat × Nat × Bool)
  | [] => none
  | k :: ks => some (ks.foldl (fun x k => boxJoin x (k.anchor, k.w, k.h, k.both)) (k.anchor, k.w, k.h, k.both))

/-- An ensemble becomes the smallest rectangle over its kernels and one that joins (R114, R171): its gates change, a tile that joins shows
what the others show, and its controller sits at the new anchor. -/
def Dev.reshape (d : Dev) (a : Nat) (join : Option Kernel) : Dev :=
  match KMap.find d.ensembles a with
  | none => d
  | some e => match boxAll ((d.members a e).map (·.2) ++ join.toList) with
    | none => d.dropEnsemble a
    | some (ba, w, h, both) =>
      let s := d.shown a
      let d := { d with ensembles := KMap.put (KMap.del d.ensembles a) ba { e with w := w, h := h, both := both } }
      (rectTiles ba w h both).foldl (fun d t => if (e.where a).contains t then d else Dev.showFret d t s) d

/-- Luthier sets gates only while the tiles they part are quiesced or in no ensemble (R171): before DONE nothing runs. -/
def Dev.mayReshape (d : Dev) (e : Ensemble) : Bool := e.phase == 3 || !d.on CFG_STAT_DONE

/-- A kernel has left an ensemble (R96, R114): one that holds no kernel is dissolved, another shrinks once it is quiesced. -/
def Dev.shrink (d : Dev) (a : Nat) : Dev :=
  match KMap.find d.ensembles a with
  | none => d
  | some e =>
    let ks := (d.members a e).map (·.2)
    if ks.isEmpty then d.dropEnsemble a
    else if boxAll ks == some (a, e.w, e.h, e.both) then d
    else if d.mayReshape e then d.reshape a none
    else d.trigger a (.reshape 0 none)

/-- A kernel leaves any rotation; a rotation left with one kernel ends (R96). -/
def Dev.leaveRotation (d : Dev) (anchor h : Nat) : Dev :=
  match KMap.find d.ensembles anchor with
  | none => d
  | some e =>
    let rot := e.rot.filter fun r => r.kern.toNat != h
    let e := if rot.length < e.rot.length then
        { e with rot := if rot.length ≤ 1 then [] else rot, rotating := e.rotating && decide (1 < rot.length), rotPos := 0 }
      else e
    { d with ensembles := KMap.put d.ensembles anchor e }

/-- The ensemble a kernel belongs to, by its anchor. -/
def Dev.homeOf (d : Dev) (k : Kernel) : Nat :=
  match d.ensembleOf k.anchor with
  | some (a, _) => a
  | none => k.anchor

/-- Take a kernel off its tiles: frets cleared, tokens on its spines gone, out of its rotation, its ensemble without it. -/
def Dev.evict (d : Dev) (h : Nat) (k : Kernel) : Dev :=
  let home := d.homeOf k
  let d := if d.shown home == k.fret then { d with toks := d.toks.filter fun x => decide (x.1 / 16384 ≠ 4 * 256 + home) } else d
  let d := k.where.foldl (fun d t => (d.clearFret t k.fret).clr (fretKern t k.fret)) d
  let d := d.updKernel h fun k => { k with released := true }
  let d := { d with undef := KMap.del d.undef h }
  (d.leaveRotation home h).shrink home

/-- Release a kernel by retirement (R127, R467): its running KRUN ends with status Placement exhausted. -/
def Dev.releaseKernel (d : Dev) (h : Nat) : Dev :=
  match d.kernel h with
  | none => d
  | some k =>
    if k.released then d
    else
      let d := d.endRun h .placement
      let occ := (d.decided 7 2 h 0 0 k.anchor k.fret)
      occ.evict h k

/-! Candidate places for a rectangle (R111, R112). -/

/-- A rectangle lies on the die grid (R111). -/
def rectFits (anchor w h : Nat) (both : Bool) : Bool :=
  decide (tileX anchor + w ≤ 16 ∧ tileY anchor + h ≤ 8 ∧ (both → anchor < 128) ∧ anchor < 256)

/-- The tiles of a rectangle work for a shape: none retired, row ports and vertical routing where needed (R111, R18). -/
def Dev.rectWorks (d : Dev) (anchor w h : Nat) (both : Bool) (tiles : List TileReq) : Bool :=
  let ts := rectTiles anchor w h both
  rectFits anchor w h both && ts.all (fun t => !d.isRetired .tile t)
    && (List.range ts.length).all (fun i =>
      match tiles[i]? with
      | some r => !r.rowPort || !d.isRetired .rowPort (ts.getD i 0)
      | none => true)
    && (!both || ts.all fun t => !d.isRetired .vertical (t % 128))

/-- A tile is flagged slow (R133). -/
def Dev.slow (d : Dev) (t : Nat) : Bool := d.bit (PLACE_SLOW_SLOW (t / 64)) (t % 64)

/-- Tiles of a load that is to place a kernel and has not committed (R179). -/
def Dev.loadTiles (d : Dev) : List Nat :=
  match d.load.bind fun l => if l.committed then none else l.proto.map fun k => (l, k) with
  | some (l, k) => rectTiles l.anchor k.w k.h k.both
  | none => []

/-- Tiles held besides the ensembles' own: by migrations (R128), by a load in progress, by kernels that are still to join an ensemble. -/
def Dev.heldTiles (d : Dev) : List Nat :=
  (d.migrations.map fun (a, m) => match KMap.find d.ensembles a with
    | some e => rectTiles m.src e.w e.h e.both ++ rectTiles m.dst e.w e.h e.both
    | none => []).flatten ++ d.loadTiles
    ++ (d.kernels.map fun x => if x.2.released then [] else x.2.where.filter fun t => (d.ensembleOf t).isNone).flatten

/-- A rectangle is free for a new ensemble: its tiles are in none, held by no migration, and not slow (R114, R133). -/
def Dev.rectFree (d : Dev) (anchor w h : Nat) (both : Bool) : Bool :=
  let held := d.heldTiles
  (rectTiles anchor w h both).all fun t => (d.ensembleOf t).isNone && !held.contains t && !d.slow t

/-- The die that KADMIT's DIES asks for (R93): 0 any, 1 A, 2 B, 3 both. -/
def Kernel.dieFits (k : Kernel) (anchor : Nat) : Bool :=
  match k.dies with
  | 0 => true
  | 1 => !k.both && decide (anchor < 128)
  | 2 => !k.both && decide (128 ≤ anchor)
  | _ => k.both

/-- A die's metering mode and frequency match the kernel's image (R255). -/
def Dev.meterFits (d : Dev) (k : Kernel) (anchor : Nat) : Bool :=
  let one := fun die => d.meter.testBit die == k.metered && (!k.metered || bitsOf d.meter (2 + 7 * die) 7 == k.meterN)
  if k.both then one 0 && one 1 else one (anchor / 128)

/-- An ensemble can move to another anchor: no load is bound for it, every member may move, and the target works for each and is free (R127,
R128). -/
def Dev.canMove (d : Dev) (src : Nat) (e : Ensemble) (dst : Nat) : Bool :=
  !d.rootLost && dst != src && (match d.load with | some l => l.committed || l.ens != some src | none => true) && d.rectFree dst e.w e.h e.both && rectFits dst e.w e.h e.both && (d.members src e).all fun (_, k) =>
    let a := dst + k.anchor - src
    !k.nomigrate && !k.fixed && d.rectWorks a k.w k.h k.both k.tiles && k.dieFits a && d.meterFits k a

/-- Some place is left for an ensemble (R127). -/
def Dev.hasPlace (d : Dev) (src : Nat) (e : Ensemble) : Bool := (List.range 256).any fun a => d.canMove src e a

/-- An ensemble is on its way to a target that stands (R131). -/
def Dev.hasTarget (d : Dev) (src : Nat) : Bool := match KMap.find d.migrations src with | some m => decide (m.dst < 256) | none => false

/-- A kernel lost a tile, row port or vertical routing: it is released unless its ensemble can move (R127), or is moving away already: the copy then
continues from the parked planes (R131). -/
def Dev.lostPlace (d : Dev) (h : Nat) (k : Kernel) : Dev :=
  let src := d.homeOf k
  match KMap.find d.ensembles src with
  | some e => if d.hasTarget src || d.hasPlace src e then d else d.releaseKernel h
  | none => d.releaseKernel h

/-- The kernels that a test picks lose their place. -/
def Dev.loseKernels (d : Dev) (p : Kernel → Bool) : Dev :=
  d.kernels.foldl (fun d (h, k) => if !k.released && p k then d.lostPlace h k else d) d

/-! Lane groups. -/

/-- The lanes of a group. -/
def groupLanes (first width : Nat) : List Nat := (List.range (2 ^ width)).map (first + ·)

/-- A group by first lane. -/
def Dev.group (d : Dev) (g : Nat) : Option GroupSt := KMap.find d.groups g

/-- Change a group. -/
def Dev.updGroup (d : Dev) (g : Nat) (f : GroupSt → GroupSt) : Dev :=
  match d.group g with
  | some x => { d with groups := KMap.put d.groups g (f x) }
  | none => d

/-- The group a lane belongs to, by first lane. -/
def Dev.groupOf (d : Dev) (L : Nat) : Option (Nat × GroupSt) :=
  d.groups.find? fun (g, x) => (groupLanes g x.width).contains L

/-- An event in a group's registers: its flag, its count, an Ochre event (R381). -/
def Dev.llpEvent (d : Dev) (g : Nat) (flag : Field) : Dev :=
  (d.incSat (LLP_GRP_ERR_COUNT g)).raise { cls := .ochre, flag := flag, ukind := 3, uid := g }

/-- Frames or a group's retrain count in its registers without an event (R373, R374). -/
def Dev.llpCount (d : Dev) (g : Nat) (flag : Field) : Dev := (d.incSat (LLP_GRP_ERR_COUNT g)).set flag

/-- A lane's power state, unless it is retired: a retired lane stays Muted (R374). -/
def Dev.laneTo (d : Dev) (L st : Nat) : Dev := d.wr (LANE_STAT_PSTATE L) (if d.on (LANE_STAT_RETIRED L) then 0 else st)

/-- A lane leaves its group (R368). -/
def Dev.ungroup (d : Dev) (L : Nat) : Dev :=
  (((d.clr (LANE_STAT_GROUPED L)).clr (LANE_STAT_LANENUM L)).clr (LANE_STAT_WIDTH L)).clr (LANE_STAT_FIRST L)

/-- The binding of a group is removed: unacknowledged frames are discarded, its lanes go to Idle (R96, R376). -/
def Dev.unbindGroup (d : Dev) (g : Nat) (state : Nat) : Dev :=
  match d.group g with
  | none => d
  | some x =>
    let d := if x.tx.isEmpty && x.waiting.isEmpty then d else d.llpCount g (LLP_GRP_ERR_DROPPED g)
    let d := d.updKernel x.kern fun k => { k with lanes := k.lanes.filter fun e => decide (e.2.1 ≠ g) }
    let d := (groupLanes g x.width).foldl (fun d L => (d.ungroup L).laneTo L 1) d
    let d := { d with groups := KMap.del d.groups g }
    (((d.wr (LLP_GRP_STAT_STATE g) state).clr (LLP_GRP_STAT_KERN g)).clr (LLP_GRP_STAT_SLOT g)).clr (LLP_GRP_STAT_WIDTH g)

/-- A group goes down (R374): the kernel's running KRUN ends with status Bus error; a command waiting on the group fails. -/
def Dev.groupDown (d : Dev) (g : Nat) : Dev :=
  match d.group g with
  | none => d
  | some x =>
    let d := match x.cmd with
      | some (q, seq) => d.fix q seq .busError
      | none => d
    (d.unbindGroup g 4).endRun x.kern .busError

/-! Forming and training groups (R361, R364, R368). -/

/-- Bring a lane to Active: from Idle or Muted it wakes first (R364). -/
def Dev.laneWake (d : Dev) (L : Nat) : Dev :=
  if d.rd (LANE_STAT_PSTATE L) == 2 || d.rd (LANE_STAT_PSTATE L) == 3 then d else d.laneTo L 3

/-- A lane leaves Active: it has no sync (R364). -/
def Dev.laneSleep (d : Dev) (L st : Nat) : Dev := (d.laneTo L st).clr (LANE_STAT_SYNC L)

/-- The lanes of a group by first lane. -/
def Dev.lanesOf (d : Dev) (g : Nat) : List Nat :=
  match d.group g with
  | some x => groupLanes g x.width
  | none => []

/-- A group runs at a rate: its lanes align again (R361). -/
def Dev.groupRate (d : Dev) (g r : Nat) : Dev :=
  let d := (d.lanesOf g).foldl (fun d L => (Dev.wr d (LANE_STAT_RATE L) r).clr (LANE_STAT_SYNC L)) d
  (d.updGroup g fun x => { x with rate := r }).wr (LLP_GRP_STAT_RATE g) r

/-- A training set leaves on every lane of a group (R360). Types: 1 TS1, 2 TS2, 3 PASS, 4 FAIL. -/
def Dev.sendTraining (d : Dev) (g type target : Nat) : Dev :=
  match d.group g with
  | none => d
  | some x =>
    let w := 2 ^ x.width
    let lanes := (List.range w).map fun i =>
      trainingSymbols type (2 ^ (x.maxRate + 1) - 1) i x.width g target (min 65535 (x.errs.getD i 0))
    (d.emit (.training g type target)).lineUnit g w x.rate ((List.range 16).map fun t => lanes.map fun l => l.getD t symIdle)

/-- Begin an exchange at 1.25 Gbaud (R361 steps 1 to 3). -/
def Dev.beginTraining (d : Dev) (g : Nat) (state : Nat) : Dev :=
  let d := (d.lanesOf g).foldl Dev.laneWake d
  let d := d.groupRate g 0
  let d := d.updGroup g fun x => { x with phase := 0, ts1 := 0, ts2 := 0, common := 0, passed := 0, mine := none, far := none }
  (d.wr (LLP_GRP_STAT_STATE g) state).sendTraining g 1 0

/-- A group leaves the lane numbers of its lanes in their registers (R368). -/
def Dev.nameLanes (d : Dev) (g w : Nat) : Dev :=
  (List.range (2 ^ w)).foldl (fun d i =>
    (((Dev.set d (LANE_STAT_GROUPED (g + i))).wr (LANE_STAT_LANENUM (g + i)) i).wr (LANE_STAT_WIDTH (g + i)) w).wr
      (LANE_STAT_FIRST (g + i)) g) d

/-- Form a group and begin its bring-up (R101, R361, R368). -/
def Dev.formGroup (d : Dev) (g w : Nat) (x : GroupSt) : Dev :=
  let d := { d with groups := KMap.put d.groups g { x with width := w } }
  let d := (d.nameLanes g w).clr (LLP_GRP_STAT_TXSEQ g)
  let d := (((d.clr (LLP_GRP_STAT_RXSEQ g)).wr (LLP_GRP_STAT_WIDTH g) w).wr (LLP_GRP_STAT_KERN g) x.kern).wr (LLP_GRP_STAT_SLOT g) x.slot
  d.beginTraining g 1

/-! The Capo lanes (R417, R418). -/

/-- Some of a run of lanes is retired. -/
def Dev.anyRetired (d : Dev) (first n : Nat) : Bool := (List.range n).any fun i => d.on (LANE_STAT_RETIRED (first + i))

/-- The lanes a Capo link can run on, as first lane and width code: all sixteen, or the half with no retired lane (R418). -/
def Dev.capoLanes (d : Dev) : Option (Nat × Nat) :=
  if !d.anyRetired 128 16 then some (128, 4)
  else if !d.anyRetired 128 8 then some (128, 3)
  else if !d.anyRetired 136 8 then some (136, 3) else none

/-- A device that may pair trains its Capo lanes (R417). -/
def Dev.capoStart (d : Dev) : Dev :=
  if !d.on TWIN_CTL_EN || !d.on CFG_STAT_DONE || d.held || d.capoGroup.isSome then d
  else match d.capoLanes with
    | some (g, w) => (d.wr TWIN_STAT_HALF (b2n (w == 3))).formGroup g w { bound := true }
    | none => d

/-- The Capo lanes leave their group, with a power state. -/
def Dev.capoDrop (d : Dev) (st : Nat) : Dev :=
  match d.capoGroup with
  | none => d
  | some (g, x) =>
    let d := (groupLanes g x.width).foldl (fun d L => ((Dev.ungroup d L).laneTo L st).clr (LANE_STAT_SYNC L)) d
    ({ d with groups := KMap.del d.groups g }).clr TWIN_STAT_CAPOUP

/-! Links taken out (R308, R309). -/

/-- Every ordered pair of distinct columns. -/
def columnPairs : List (Nat × Nat) :=
  ((List.range 64).map fun s => ((List.range 64).filter (· != s)).map fun t => (s, t)).flatten

/-- A link is taken out: markers go along every old route that used it, and pairs left unreachable are reported (R308, R309). -/
def Dev.dropLink (d : Dev) (before : List Nat) (n : Nat) : Dev :=
  let dead := n :: before
  let moved := columnPairs.filter fun (s, t) => match routeOver before s t with
    | some l => l.contains n
    | none => false
  let d := { (d.set (NOC_LINK_RETIRED n)) with markers := d.markers ++ moved.filter fun p => !d.markers.contains p }
  let d := if moved.isEmpty then d else d.set NOC_STAT_ROUTECHG
  if moved.any fun (s, t) => (routeOver dead s t).isNone then
    d.raise { cls := .crimson, flag := NOC_STAT_UNREACH, ukind := 4, uid := n }
  else d

/-! Retirement (R457, R458). -/

/-- Units of a kind (R457). -/
def unitCount : UnitKind → Nat
  | .tile => 256 | .bank => 1024 | .lane => 144 | .link => 128 | .string => 2 ^ 24
  | .rowPort => 256 | .vertical => 128 | .tally => 64 | .edgeIo => 256

/-- What retiring a unit does beyond marking it (R458). -/
def Dev.retireEffect (d : Dev) (before : List Nat) (k : UnitKind) (u : Nat) : Dev :=
  match k with
  | .tile =>
    let hit := fun (a : Nat) (m : Migration) => m.stage < 3 && (match KMap.find d.ensembles a with
      | some e => (rectTiles m.dst e.w e.h e.both).contains u
      | none => false)
    let d := { d with migrations := d.migrations.map fun x : Nat × Migration =>
      if (hit x.1 x.2) = true then (x.1, { x.2 with dst := 256, stage := min 1 x.2.stage, planes := [], mems := [] }) else x }
    d.loseKernels fun x => x.where.contains u
  | .rowPort => d.loseKernels fun x =>
      (List.range x.where.length).any fun i => x.where.getD i 256 == u && (match x.tiles[i]? with | some r => r.rowPort | none => false)
  | .vertical => d.loseKernels fun x => x.both && x.where.any fun t => t % 128 == u
  | .bank =>
    let d := if d.owner u == 3 then d.settleBank u else d
    match d.poolBank (u / 16) with
    | some p => d.wakeBank p
    | none => d
  | .lane =>
    let d := d.set (LANE_STAT_RETIRED u)
    let d := match d.groupOf u with
      | some (g, _) => if 128 ≤ g then (d.capoDrop 1).capoStart else d.groupDown g
      | none => d
    d.laneTo u 0
  | .link => d.dropLink before u
  | _ => d

/-- Retire a unit (R457): a Crimson event with its cause, and its effects. -/
def Dev.retire (d : Dev) (k : UnitKind) (u cause : Nat) (strUid : Nat := 0) : Dev :=
  if d.isRetired k u then d
  else
    let before := d.deadLinks
    let d := { d with retired := d.retired ++ [(k, u)] }
    let d := d.raise { cls := .crimson, flag := ERR_STAT_RETIRED, ukind := k.ukind, uid := u
                       detail := cause + (if cause == 1 then 2 ^ 40 * strUid else 0) }
    d.retireEffect before k u

/-! Strings (R18, R19). -/

/-- What kinds of strings an interface of a column has, in index order: how many, and what they serve (R18). Kinds: 0
control of the store die, 1 control of die A, 2 of the fret die, 3 of die B, 4 bank controllers, 5 tally engine, 6 portals
of die A, 7 of die B, 8 row ports of die A, 9 of die B, 10 configuration bonds of die A, 11 of die B, 12 vertical routing,
13 edge I/O of die A, 14 of die B. -/
def stringKinds (iface col : Nat) : List (Nat × Nat) :=
  let edge := col % 8 == 0 || col % 8 == 7
  match iface with
  | 0 => [(2, 0), (2, 1), (2, 2), (2, 3), (10, 4), (10, 5), (20, 6), (20, 7)] ++ if edge then [(2, 13), (2, 14)] else []
  | 1 => [(2, 1), (2, 2), (2, 3), (20, 6), (20, 7), (140, 8), (140, 9)] ++ if edge then [(2, 13), (2, 14)] else []
  | 2 => [(2, 2), (2, 3), (20, 7), (140, 9), (2048, 10), (768, 12)] ++ if edge then [(2, 14)] else []
  | 3 => [(2, 3), (20, 7), (140, 9), (2048, 11), (768, 12)] ++ if edge then [(2, 14)] else []
  | _ => []

/-- The kind of a string and its number within the kind. -/
def stringAt : List (Nat × Nat) → Nat → Option (Nat × Nat × Nat)
  | [], _ => none
  | (n, k) :: t, i => if i < n then some (k, i, n) else stringAt t (i - n)

/-- A string's kind, its number within the kind, and how many the kind has, from its UID (R450); none: no such string. -/
def stringOf (uid : Nat) : Option (Nat × Nat × Nat) :=
  if bitsOf uid 12 4 = 0 then stringAt (stringKinds (bitsOf uid 22 2) (bitsOf uid 16 6)) (uid % 2 ^ 12) else none

/-- The edge tile of a column on a die (R16). -/
def edgeTile (col die : Nat) : Nat := tileOfCol col (2 * die + if col % 8 == 0 then 0 else 1)

/-- The units retired when a string is exhausted (R18). -/
def stringServes (uid : Nat) : List (UnitKind × Nat) :=
  let c := bitsOf uid 16 6
  let tiles := fun (l : List Nat) => l.map fun e => (UnitKind.tile, tileOfCol c e)
  let banks := (banksOfCol c).map fun n => (UnitKind.bank, n)
  match stringOf uid with
  | none => []
  | some (k, i, n) =>
    let second := if i < n / 2 then 0 else 1
    match k with
    | 0 => banks ++ [(.tally, c)]
    | 1 => tiles [0, 1]
    | 2 => tiles [0, 1, 2, 3]
    | 3 => tiles [2, 3]
    | 4 => banks
    | 5 => [(.tally, c)]
    | 6 => tiles [second]
    | 7 => tiles [2 + second]
    | 8 => [(.rowPort, tileOfCol c second)]
    | 9 => [(.rowPort, tileOfCol c (2 + second))]
    | 10 => tiles [second]
    | 11 => tiles [2 + second]
    | 12 => [(.vertical, tileOfCol c second % 128)]
    | 13 => [(.edgeIo, edgeTile c 0)]
    | _ => [(.edgeIo, edgeTile c 1)]

/-- A string by UID. -/
def Dev.string (d : Dev) (uid : Nat) : StringSt := KMap.get d.strings uid {}

/-- Replace it. -/
def Dev.setString (d : Dev) (uid : Nat) (s : StringSt) : Dev := { d with strings := KMap.put d.strings uid s }

/-- A string is exhausted (R463): the device stops using it and retires the units it serves, with cause 1. -/
def Dev.exhaust (d : Dev) (uid : Nat) : Dev :=
  let s := d.string uid
  if s.exhausted then d
  else
    let d := d.setString uid { s with exhausted := true }
    let d := (d.inc BOND_STAT_EXHAUSTED).wr BOND_STAT_LAST uid
    let d := d.raise { cls := .crimson, flag := ERR_STAT_EXHAUSTED, ukind := 5, uid := uid }
    (stringServes uid).foldl (fun d (k, u) => d.retire k u 1 uid) d

/-! Buckets (R454 to R456). -/

/-- One counted event of a unit: its count rises and saturates; a retired unit's count stops (R454, R455). -/
def Dev.countUp (d : Dev) (k : UnitKind) (u : Nat) : Dev :=
  if d.isRetired k u then d
  else d.setBucket k u { count := min ((d.settled k u).count + 1) 255, last := d.nowNs }

/-- A lasting fault at the present count (R454): a tile, bank, lane or link is retired. -/
def Dev.lasting (d : Dev) (k : UnitKind) (u : Nat) : Dev :=
  if d.thresh k ≠ 0 && decide (d.thresh k ≤ (d.bucket k u).count) then d.retire k u 0 else d

/-- Raise an event that counts in a unit's bucket (R453), unless it concerns a word altered for a test (R456). -/
def Dev.raiseCounted (d : Dev) (e : Ev) (k : UnitKind) (u : Nat) : Dev :=
  if e.test then d.raise e
  else
    let d := d.countUp k u
    (d.raise e).lasting k u

end Sys2Proof.Machine
end

