-- ==== Sys2Proof/Machine/Store.lean ====
section
/-!
DEFINITION. Requests to the store (chapter 10): reads and writes of bytes under R264, R265, R567 and the sealed rows of
R484 to R487, what decoding reports, buffers as byte ranges, and serving the requests that wait (R272, R276).
-/
namespace Sys2Proof.Machine

/-! Reports (R264). -/

/-- The report of one protected word: kind 0 corrected, 1 uncorrectable, 2 poison; symbol 63 when none. -/
def Dev.storeReport (d : Dev) (w kind sym : Nat) (count : Bool := true) : Dev :=
  let n := w / 2 ^ 13
  let d := ((((d.wr STORE_ERR_ADDR_BANK n).wr STORE_ERR_ADDR_ROW (w / 16)).wr STORE_ERR_ADDR_WORD w).wr
    STORE_ERR_ADDR_SYMBOL sym).wr STORE_ERR_ADDR_KIND kind
  let e : Ev := { cls := if kind == 0 then .ochre else if kind == 1 then .crimson else .slate
                  flag := if kind == 0 then STORE_STAT_CORR else if kind == 1 then STORE_STAT_UNCORR else STORE_STAT_POISONRD
                  ukind := 2, uid := n, detail := 32 * w + 2 ^ 48 * sym, test := d.flipped == some w }
  let d := d.incSat (if kind == 0 then STORE_STAT_CCOUNT else if kind == 1 then STORE_STAT_UCOUNT else STORE_STAT_PCOUNT)
  if kind == 2 then d.raise { e with test := false } else if count then d.raiseCounted e .bank n else d.raise e

/-- A corrected word waits for its write-back (R264). -/
def Dev.queueWriteBack (d : Dev) (w : Nat) : Dev :=
  { d with writeBacks := if d.writeBacks.contains w then d.writeBacks else d.writeBacks ++ [w] }

/-- Read protected word w: its bytes, the outcome, and the report (R264, R567). -/
def Dev.readWord (d : Dev) (w : Nat) : List Byte × Outc × Dev :=
  match d.findWord w with
  | .good b => (b, .ok, d)
  | .fixed b s => (b, .ok, (d.queueWriteBack w).storeReport w 0 s)
  | .poison => (List.replicate 32 0xFF, .busError, d.storeReport w 2 63)
  | .lost => (List.replicate 32 0xFF, .uncorrectable, d.storeReport w 1 63)

/-- Merge bytes under enables. -/
def mergeBytes : List Byte → List Byte → List Bool → List Byte
  | o :: os, n :: ns, e :: es => (if e then n else o) :: mergeBytes os ns es
  | os, _, _ => os

/-- Write protected word w under byte enables (R265). -/
def Dev.writeWord (d : Dev) (w : Nat) (data : List Byte) (en : List Bool) : Outc × Dev :=
  if !(en.any id) then (.ok, d)
  else if en.all id && en.length == 32 then (.ok, d.putWord w data)
  else match d.findWord w with
    | .good b => (.ok, d.putWord w (mergeBytes b data en))
    | .fixed b s => (.ok, (d.storeReport w 0 s).putWord w (mergeBytes b data en))
    | .poison => (.busError, d.storeReport w 2 63)
    | .lost => (.uncorrectable, d.storeReport w 1 63)

/-! Sealed rows (R484 to R487). -/

/-- What the first codeword of a sealed row decodes to, from its wrong symbols (R484). -/
inductive SealFound where
  | clean | corrected (sym : Nat) | lost | forged
  deriving DecidableEq, Repr

/-- Decode the wrong symbols of codeword 0: a correction that is not the real error leaves a payload whose tag fails. -/
def sealFind (err : List (Nat × Nat)) : SealFound :=
  if err.isEmpty then .clean
  else
    let at_ := fun s => (err.filterMap fun (i, v) => if i = s then some v else none).foldl (· ^^^ ·) 0
    let (a, b, c) := rsCheck3 ((List.range 67).map at_)
    match rsFind3 70 (a ^^^ at_ 67, b ^^^ at_ 68, c ^^^ at_ 69) with
    | .valid => .forged
    | .many => .lost
    | .one s v => if err == [(s, v)] then .corrected s else .forged

/-- A tag failure (R485, R490): the row is burnt. -/
def Dev.tagFail (d : Dev) (r : Nat) : Dev :=
  let d := match d.bufferAt r with
    | some (h, _, i) => (d.wr SEC_TAGBUF_BUF h).wr SEC_TAGBUF_ROW i
    | none => d
  let d := { d.poisonRow r with sealedRows := KMap.put d.sealedRows r ⟨burntCtr, [], false⟩ }
  ((d.wr SEC_TAGADDR_ADDR (512 * r)).incSat SEC_STAT_COUNT).raise
    { cls := .crimson, flag := SEC_STAT_TAGFAIL, ukind := 2, uid := r / 512, detail := 512 * r + 2 ^ 48 * 63 }

/-- The version counter of a row has ended (R485, R490). -/
def Dev.counterEnd (d : Dev) (r : Nat) : Dev :=
  let d := match d.bufferAt r with
    | some (h, _, i) => (d.wr SEC_TAGBUF_BUF h).wr SEC_TAGBUF_ROW i
    | none => d
  ((d.wr SEC_TAGADDR_ADDR (512 * r)).incSat SEC_STAT_COUNT).raise
    { cls := .crimson, flag := SEC_STAT_CTREND, ukind := 2, uid := r / 512, detail := 512 * r + 2 ^ 48 * 63 }

/-- Read and verify sealed row r: its outcome, the counter of a live row, and the reports (R485). -/
def Dev.verifyRow (d : Dev) (r : Nat) : Outc × Nat × Dev :=
  match KMap.find d.sealedRows r with
  | none => (.busError, 0, d.storeReport (16 * r) 2 63)
  | some s =>
    if s.ctr == burntCtr then (.busError, burntCtr, d.storeReport (16 * r) 2 63)
    else match sealFind s.err with
      | .clean => if s.forged then (.busError, burntCtr, d.tagFail r) else (.ok, s.ctr, d)
      | .corrected sym =>
        let d := (d.queueWriteBack (16 * r)).storeReport (16 * r) 0 sym
        if s.forged then (.busError, burntCtr, d.tagFail r) else (.ok, s.ctr, d)
      | .lost => (.uncorrectable, s.ctr, d.storeReport (16 * r) 1 63)
      | .forged => (.busError, burntCtr, d.tagFail r)

/-- Seal row r with its plaintext under a counter; an armed flip alters codeword 0 (R279, R487). -/
def Dev.sealRow (d : Dev) (r ctr : Nat) (data : List Byte) : Dev :=
  let flip := d.on STORE_FLIP_CTL_ARM && d.rd STORE_FLIP_CTL_BANK == r / 512
  let m := d.flipMask
  let err := if flip then (List.range 35).filterMap fun s => if bitsOf m (8 * s) 8 = 0 then none else some (s, bitsOf m (8 * s) 8)
    else []
  let d := (List.range 16).foldl (fun d w => d.setWord (16 * r + w) ((data.drop (32 * w)).take 32) [0, 0, 0]) d
  let d := { d with
    sealedRows := KMap.put d.sealedRows r ⟨ctr, err, false⟩
    writeBacks := d.writeBacks.filter fun w => decide (w / 16 ≠ r)
    flipped := if flip then some (16 * r) else if d.flipped = some (16 * r) then none else d.flipped }
  if flip then d.clr STORE_FLIP_CTL_ARM else d

/-- The symbols of a stored codeword as a decoder reads them: the payload, corrected where it can be, and the wrong symbols (two stand for what
cannot be corrected). -/
def readCodeword (cw : List Nat) : List Nat × List (Nat × Nat) :=
  let p := cw.take 67
  let (a, b, c) := rsCheck3 p
  match rsFind3 70 (a ^^^ cw.getD 67 0, b ^^^ cw.getD 68 0, c ^^^ cw.getD 69 0) with
  | .valid => (p, [])
  | .one s v => (p.set s (p.getD s 0 ^^^ v), [(s, v)])
  | .many => (p, [(67, 1), (68, 1)])

/-- A sealed row takes 560 stored bytes (R483, R484, R487): a mirrored row verifies under its handle, generation and index, wherever it lies. -/
def Dev.putStored (d : Dev) (r : Nat) (stored : List Nat) : Dev :=
  match d.bufferAt r with
  | none => d
  | some (h, b, i) =>
    let cws := (List.range 8).map fun j => readCodeword ((stored.drop (70 * j)).take 70)
    let (ctr, plain, ok) := unsealPayload (rowKey (d.keyBytes b.key) h b.gen i) ((cws.map (·.1)).flatten)
    let err := if (cws.drop 1).any fun c => 1 < c.2.length then [(67, 1), (68, 1)] else (cws.headD ([], [])).2
    if ctr = burntCtr then { d.poisonRow r with sealedRows := KMap.put d.sealedRows r ⟨burntCtr, [], false⟩ }
    else
      let d := (List.range 16).foldl (fun d w => d.setWord (16 * r + w) (((plain.drop (32 * w)).take 32).map (BitVec.ofNat 8)) [0, 0, 0]) d
      { d with sealedRows := KMap.put d.sealedRows r ⟨ctr, err, !ok⟩ }

/-- Write bytes of sealed row r (R485). -/
def Dev.writeSealed (d : Dev) (r : Nat) (data : List Byte) (en : List Bool) : Outc × Dev :=
  let full := en.all id
  match KMap.find d.sealedRows r with
  | none => if full then (.ok, d.sealRow r 1 data) else (.busError, d)
  | some s =>
    if s.ctr == burntCtr then (.busError, d)
    else
      let (o, _, d) := d.verifyRow r
      if o ≠ .ok then (o, d)
      else if s.ctr == burntCtr - 1 then (.busError, d.counterEnd r)
      else (.ok, d.sealRow r (s.ctr + 1) (mergeBytes (memGetList d.mem (512 * r) 512) data en))

/-! Byte ranges. -/

/-- Row r belongs to a sealed buffer. -/
def Dev.isSealed (d : Dev) (r : Nat) : Bool :=
  match d.bufferAt r with
  | some (_, b, _) => b.sealed
  | none => false

/-- A range of bytes cut at rows: (row, offset in the row, length). -/
def rowPieces (a n : Nat) : List (Nat × Nat × Nat) :=
  (rowsOfRange a n).map fun r =>
    let lo := max a (512 * r)
    (r, lo - 512 * r, min (a + n) (512 * r + 512) - lo)

/-- Read bytes of row r that its bank admits. -/
def Dev.readRow (d : Dev) (r ofs n : Nat) : List Byte × Outc × Dev :=
  if n = 0 then ([], .ok, d)
  else if d.isSealed r then
    let (o, _, d) := d.verifyRow r
    let data := (memGetList d.mem (512 * r + ofs) n)
    (if o = .ok then data else List.replicate n 0xFF, o, d)
  else
    let first := ofs / 32
    let last := (ofs + n - 1) / 32
    let (bytes, o, d) := (List.range (last - first + 1)).foldl (fun (bs, o, d) k =>
      let (b, o2, d) := Dev.readWord d (16 * r + first + k)
      (bs ++ b, o.join o2, d)) (([] : List Byte), Outc.ok, d)
    ((bytes.drop (ofs - 32 * first)).take n, o, d)

/-- Write bytes of row r that its bank admits, under enables. -/
def Dev.writeRow (d : Dev) (r ofs : Nat) (data : List Byte) (en : List Bool) : Outc × Dev :=
  if data.isEmpty then (.ok, d)
  else if d.isSealed r then
    d.writeSealed r (List.replicate ofs 0 ++ data ++ List.replicate (512 - ofs - data.length) 0)
      (List.replicate ofs false ++ en ++ List.replicate (512 - ofs - en.length) false)
  else
    let first := ofs / 32
    let last := (ofs + data.length - 1) / 32
    let dd := List.replicate (ofs - 32 * first) 0 ++ data
    let ee := List.replicate (ofs - 32 * first) false ++ en
    (List.range (last - first + 1)).foldl (fun (o, d) k =>
      let db := (dd.drop (32 * k)).take 32
      let eb := (ee.drop (32 * k)).take 32
      let pad := 32 - db.length
      let (o2, d) := Dev.writeWord d (16 * r + first + k) (db ++ List.replicate pad 0) (eb ++ List.replicate pad false)
      (o.join o2, d)) (Outc.ok, d)

/-- A store read by absolute address (R264, R267, R268, R567). A bank that is waking answers when it is On, so callers ask
storeReady first. -/
def Dev.storeRead (d : Dev) (id : Ident) (key a n : Nat) : List Byte × Outc × Dev :=
  (rowPieces a n).foldl (fun (bs, o, d) (r, ofs, len) =>
    match d.gateRow id key r with
    | .serve =>
      let (b, o2, d) := d.readRow r ofs len
      (bs ++ b, o.join o2, d)
    | .keyDeny => (bs ++ List.replicate len 0xFF, .busError, d.keyMismatch (512 * r + ofs))
    | _ => (bs ++ List.replicate len 0xFF, .busError, d)) (([] : List Byte), Outc.ok, d)

/-- A store write by absolute address (R265, R267, R268, R567): words whose write succeeds are stored and mirrored. -/
def Dev.storeWrite (d : Dev) (id : Ident) (key a : Nat) (data : List Byte) (en : List Bool) : Outc × Dev :=
  (rowPieces a data.length).foldl (fun (o, d) (r, ofs, len) =>
    let from_ := 512 * r + ofs - a
    match d.gateRow id key r with
    | .serve =>
      let db := (data.drop from_).take len
      let (o2, d) := d.writeRow r ofs db ((en.drop from_).take len)
      (o.join o2, if o2 = .ok then d.mirror (512 * r + ofs) len else d)
    | .keyDeny => (.busError, d.keyMismatch (512 * r + ofs))
    | _ => (.busError, d)) (Outc.ok, d)

/-! Buffers. -/

/-- The pieces of a buffer's range: (store row or none when lost, offset in the row, length). -/
def bufPieces (b : Buffer) (ofs n : Nat) : List (Option Nat × Nat × Nat) :=
  (rowPieces ofs n).map fun (i, o, len) => (b.rows.getD i none, o, len)

/-- Read a range of a buffer as the device (R268); a lost row answers a bus error (R574). -/
def Dev.bufRead (d : Dev) (h ofs n : Nat) : List Byte × Outc × Dev :=
  match d.buffer h with
  | none => ([], .busError, d)
  | some b =>
    (bufPieces b ofs n).foldl (fun (bs, o, d) (r, lo, len) =>
      match r with
      | none => (bs ++ List.replicate len 0xFF, .busError, d)
      | some r =>
        let (x, o2, d) := Dev.storeRead d .device b.key (512 * r + lo) len
        (bs ++ x, o.join o2, d)) (([] : List Byte), Outc.ok, d)

/-- Write a range of a buffer as the device (R268). -/
def Dev.bufWrite (d : Dev) (h ofs : Nat) (data : List Byte) (en : List Bool) : Outc × Dev :=
  match d.buffer h with
  | none => (.busError, d)
  | some b =>
    let (o, d, _) := (bufPieces b ofs data.length).foldl (fun (o, d, k) (r, lo, len) =>
      match r with
      | none => (.busError, d, k + len)
      | some r =>
        let (o2, d) := Dev.storeWrite d .device b.key (512 * r + lo) ((data.drop k).take len) ((en.drop k).take len)
        (o.join o2, d, k + len)) (Outc.ok, d, 0)
    (o, d)

/-- What staged bytes give for n bytes of a buffer from an offset: the bytes and which of them are staged. -/
def stagedAt (staged : List (Nat × Nat × Byte)) (h ofs n : Nat) : List Byte × List Bool :=
  let val := fun i => (staged.find? fun (h2, o, _) => h2 == h && o == ofs + i).map fun e => e.2.2
  ((List.range n).map fun i => (val i).getD 0, (List.range n).map fun i => (val i).isSome)

/-- The unit in which a buffer's staged bytes are written: a row of a sealed buffer, else a protected word. -/
def Dev.stageUnit (d : Dev) (h : Nat) : Nat := match d.buffer h with | some b => if b.sealed then 512 else 32 | none => 32

/-- Staged bytes become a buffer's contents (R56) at the completion point. The bytes of a protected word that this commit did not write keep
what an earlier one left, also where R58 says that the later commit determines the word (DESIGN CHOICE, log entry 135). The commit record
tells the twin of them, not write records (R422). -/
def Dev.applyStaged (d : Dev) (staged : List (Nat × Nat × Byte)) : Dev :=
  let firsts := (staged.map fun (h, o, _) => (h, o / d.stageUnit h)).eraseDups
  { firsts.reverse.foldl (fun d (h, w) =>
    let n := Dev.stageUnit d h
    let (bytes, en) := stagedAt staged h (n * w) n
    (d.bufWrite h (n * w) bytes en).2) d with
    capo := d.capo
    out := d.out }

/-- A staged write into a buffer needs what a write needs of the words (the rows, in a sealed buffer) that it covers in part
(R56, R265, R485): the outcome, and what reading them reports. -/
def Dev.stageCheck (d : Dev) (staged : List (Nat × Nat × Byte)) (h ofs : Nat) (en : List Bool) : Outc × Dev :=
  let n := d.stageUnit h
  if en.isEmpty then (.ok, d)
  else (List.range ((ofs + en.length - 1) / n - ofs / n + 1)).foldl (fun (o, d) i =>
    let w := ofs / n + i
    let covered := (List.range n).all fun j =>
      (decide (ofs ≤ n * w + j) && en.getD (n * w + j - ofs) false) || (staged.any fun (h2, x, _) => h2 == h && x == n * w + j)
    if covered then (o, d)
    else
      let (_, o2, d) := Dev.bufRead d h (n * w) n
      (o.join o2, d)) (Outc.ok, d)

/-- Bytes as staged writes of a buffer, under enables, newest first. -/
def stageBytes (h ofs : Nat) (data : List Byte) (en : List Bool) : List (Nat × Nat × Byte) :=
  ((List.range data.length).filterMap fun i => if en.getD i false then some (h, ofs + i, data.getD i 0) else none).reverse

/-- Lay a command's own staged bytes over what it reads (R56). -/
def overlayStaged (staged : List (Nat × Nat × Byte)) (h ofs : Nat) (data : List Byte) : List Byte :=
  (List.range data.length).map fun i =>
    match staged.find? fun (h2, o, _) => h2 == h && o == ofs + i with
    | some e => e.2.2
    | none => data.getD i 0

/-! Answers (R391). -/

/-- Answer a host read or log a host write (R391). -/
def Dev.answerHost (d : Dev) (p : Port) (a : Nat) (write : Bool) (o : Outc) (data : List Byte) : Dev :=
  if write then
    if o = .ok then d else d.portEvent p (PORT_ERR_CA p.num) a
  else match o with
    | .ok => d.emit (.reply p (.ok data))
    | .busError => (d.emit (.reply p .completerAbort)).portEvent p (PORT_ERR_CA p.num) a
    | .uncorrectable => (d.emit (.reply p (.poisoned data))).portEvent p (PORT_ERR_EPTX p.num) a

/-- The response to a request packet (R300, R305). -/
def response (p : Packet) (o : Outc) (data : List Byte) : Packet :=
  let pad := (32 - data.length % 32) % 32
  { p with
    dcol := p.scol
    dep := p.sep
    scol := p.dcol
    sep := p.dep
    cmd := if data.isEmpty || o == .busError then 0x80 else 0x81
    vc := 1
    rstat := BitVec.ofNat 2 o.rstat
    operand := 0
    rlen := 0
    data := if o == .busError then [] else data ++ List.replicate pad 0
    enables := if o == .busError then [] else List.replicate (data.length + pad) true }

/-- Answer a request packet, unless it was posted. -/
def Dev.answerPacket (d : Dev) (p : Packet) (o : Outc) (data : List Byte) : Dev :=
  if p.vc == 0 then d.emit (.packet (response p o data)) else d

/-! Ownership (R269, R270). -/

/-- A hand-over is rejected (R269). -/
def Dev.rejectOwn (d : Dev) (n writer code reason : Nat) : Dev :=
  let d := (((d.wr BANK_OWN_ERR_BANK n).wr BANK_OWN_ERR_WRITER writer).wr BANK_OWN_ERR_CODE code).wr BANK_OWN_ERR_REASON reason
  (d.incSat BANK_OWN_ERR_COUNT).raise { cls := .slate, flag := BANK_OWN_ERR_REJ, ukind := 2, uid := n }

/-- A reserved owner code (R267). -/
def codeReserved (c : Nat) : Bool := decide (3 < c ∧ c < 0x1000) || decide (0x1FFF < c)

/-- A kernel handle that is admitted. -/
def Dev.admitted (d : Dev) (h : Nat) : Bool := match d.kernel h with | some k => k.ready | none => false

/-- A bank that was a column's pool bank and is none any more goes Off when it holds no row (R271). -/
def Dev.settlePool (d : Dev) (was : Option Nat) : Dev :=
  match was with
  | some p => if d.isPool p then d else d.settleBank p
  | none => d

/-- A write of an owner code by a requester takes its turn at the bank (R269). -/
def Dev.handOverNow (d : Dev) (n writer code : Nat) : Dev :=
  let cur := d.owner n
  if cur == writer && code == writer then d
  else if d.isRetired .bank n then d.rejectOwn n writer code 3
  else if codeReserved code then d.rejectOwn n writer code 4
  else if decide (0x1000 ≤ code) && !d.admitted code then d.rejectOwn n writer code 2
  else if code == writer && cur == 0 then (d.wr (BANK_OWN_OWNER n) code).wakeBank n
  else if code == writer && cur == 3 then
    if d.isPool n || d.usedRows.any fun r => r / 512 == n then d.rejectOwn n writer code 1
    else ((d.wr (BANK_OWN_PSTATE n) 0).wr (BANK_OWN_OWNER n) code).wakeBank n
  else if cur == writer then
    if code == 0 || code == 3 then
      let was := d.poolBank (n / 16)
      let d := (d.bankOff n).wr (BANK_OWN_OWNER n) code
      (if code == 3 && d.isPool n then d.wakeBank n else d).settlePool was
    else d.wr (BANK_OWN_OWNER n) code
  else d.rejectOwn n writer code 0

/-- The hand-over as it takes effect, of which a Lead tells its Shadow (R422). -/
def Dev.handOverTold (d : Dev) (n writer code : Nat) : Dev :=
  let was := d.owner n
  let d := d.handOverNow n writer code
  if d.owner n != was && d.telling then d.capoSend 0x17 [0x201000 + 8 * n, halfCode .lo, code, 0] else d

/-- Banks that a waiting request concerns. -/
def StoreReq.banks (q : StoreReq) : List Nat :=
  match q.reply with
  | .own _ _ => [q.addr / 2 ^ 18]
  | _ => (rowsOfRange q.addr q.len).map (· / 512)

/-- A hand-over reaches a bank (R269, R270): behind the requests that wait there. -/
def Dev.handOver (d : Dev) (n writer code : Nat) : Dev :=
  if d.bankWait.any fun q => q.banks.contains n then
    { d with bankWait := d.bankWait ++ [⟨.device, 0, true, 2 ^ 18 * n, 0, [], [], .own writer code⟩] }
  else d.handOverTold n writer code

/-! Serving. -/

/-- Serve one store request whose banks answer. -/
def Dev.serveReq (d : Dev) (q : StoreReq) : Dev :=
  if q.write then
    let (o, d) := d.storeWrite q.ident q.key q.addr q.data q.enables
    match q.reply with
    | .packet p => d.answerPacket p o []
    | .host p => d.answerHost p q.addr true o []
    | _ => d
  else
    let (b, o, d) := d.storeRead q.ident q.key q.addr q.len
    match q.reply with
    | .packet p => d.answerPacket p o b
    | .host p => d.answerHost p q.addr false o b
    | _ => d

/-- A hand-over of one of a request's banks waits: the request is judged after it (R270). -/
def Dev.behindOwn (d : Dev) (q : StoreReq) : Bool :=
  d.bankWait.any fun x => (match x.reply with | .own _ _ => true | _ => false) && x.banks.any q.banks.contains

/-- A store request arrives (R270, R272, R276): it waits for a reset of the store die, a waking bank or a hand-over before it, or is served. -/
def Dev.storeRequest (d : Dev) (q : StoreReq) : Dev :=
  match q.reply with
  | .own w c => d.handOver (q.addr / 2 ^ 18) w c
  | _ =>
    if !d.storeOpen then { d with resetWait := d.resetWait ++ [q] }
    else if !d.behindOwn q && d.storeReady q.ident q.key q.addr q.len
        && !(q.write && d.mirrorFull && (rowsOfRange q.addr q.len).any d.mirrored) then d.serveReq q
    else { d with bankWait := d.bankWait ++ [q] }

/-- Serve the waiting requests whose banks answer now, oldest first (R270, R272). -/
def Dev.serveWaiting (d : Dev) : Dev :=
  let all := d.bankWait
  (all.foldl (fun d q => Dev.storeRequest d q) { d with bankWait := [] }).pumpRecord

/-! Banks. -/

/-- BANK_OWN_WRITE (R269). -/
def Dev.bankOwnWrite (d : Dev) (n : Nat) (w : RegWr) : Dev :=
  if w.touches (BANK_OWN_OWNER n) then
    match w.src with
    | .host p => d.handOver n (p.num + 1) (d.wval w (BANK_OWN_OWNER n))
    | .dma p => d.handOver n (p.num + 1) (d.wval w (BANK_OWN_OWNER n))
    | .portal => d
  else d

/-- The Lead's bank has a new owner (R422): the Shadow's follows, whoever wrote it. -/
def Dev.bankOwnMirror (d : Dev) (n : Nat) (w : RegWr) : Dev :=
  let cur := d.owner n
  let code := d.wval w (BANK_OWN_OWNER n)
  d.handOver n (if cur == 0 || cur == 3 then code else cur) code

/-- BANK_WAKE_COMPLETE (R271, R272): the bank is On; waking from Off, every word of it is poisoned. -/
def Dev.bankWakeComplete (d : Dev) (n : Nat) : Dev :=
  if d.rd (BANK_OWN_PSTATE n) == 3 && d.storeOpen then (d.wr (BANK_OWN_PSTATE n) 1).serveWaiting else d

/-- BANK_WRITEBACK (R264): the first waiting write-back of the bank is stored. -/
def Dev.bankWriteback (d : Dev) (n : Nat) : Dev :=
  match d.writeBacks.find? fun w => w / 2 ^ 13 == n with
  | none => d
  | some w =>
    let d := { d with writeBacks := d.writeBacks.filter (· != w) }
    if d.isSealed (w / 16) then
      match KMap.find d.sealedRows (w / 16) with
      | some s => { d with sealedRows := KMap.put d.sealedRows (w / 16) { s with err := [] }
                           flipped := if d.flipped = some w then none else d.flipped }
      | none => d
    else match d.findWord w with
      | .fixed b _ => d.putWord w b
      | _ => d

/-- A sealed codeword as patrol decodes it: no tag is checked (R484). -/
def Dev.patrolSealed (d : Dev) (r : Nat) : Dev :=
  match KMap.find d.sealedRows r with
  | none => d
  | some s => match sealFind s.err with
    | .corrected sym => (d.queueWriteBack (16 * r)).storeReport (16 * r) 0 sym
    | .lost => d.storeReport (16 * r) 1 63
    | _ => d

/-- PATROL_READ (R277): a row of an On bank is read; poison is not reported. -/
def Dev.patrolRead (d : Dev) (n row : Nat) : Dev :=
  let r := 512 * n + row
  if !(d.on STORE_CTL_PATROL) || !d.bankOn n || !d.storeOpen then d
  else if d.isSealed r then d.patrolSealed r
  else (List.range 16).foldl (fun d k =>
    let w := 16 * r + k
    match d.findWord w with
    | .fixed _ s => (d.queueWriteBack w).storeReport w 0 s
    | .lost => d.storeReport w 1 63
    | _ => d) d

/-- STORE_FLIP_CTL takes a write only while ARM is 0 (R279). -/
def Dev.flipCtlWrite (d : Dev) (w : RegWr) : Dev :=
  if d.on STORE_FLIP_CTL_ARM then d else (d.take w STORE_FLIP_CTL_BANK).take w STORE_FLIP_CTL_ARM

/-- STORE_FLIPMASK takes a write only while ARM is 0 (R279). -/
def Dev.flipMaskWrite (d : Dev) (k : Nat) (w : RegWr) : Dev :=
  if d.on STORE_FLIP_CTL_ARM then d
  else
    let d := d.take w (STORE_FLIPMASK_MASK k)
    if k == 4 then d.wr (STORE_FLIPMASK_MASK k) (d.rd (STORE_FLIPMASK_MASK k) % 2 ^ 24) else d

/-- STORE_DIE_RESET_END (R276): the endpoints serve what waited. -/
def Dev.storeResetEnd (d : Dev) : Dev :=
  if d.storeOpen then d
  else
    let all := d.resetWait
    let d := { d.clr STORE_STAT_RESETTING with resetWait := [] }
    (all.foldl (fun d q => Dev.storeRequest d q) d).pumpRecord

end Sys2Proof.Machine
end

