-- ==== Sys2Proof/Machine/ImageBytes.lean ====
section
/-!
DEFINITION. Images and manifests as bytes (R322, R324 to R329, R332 to R335): what the loader finds in an image that lies in the store or in a
block of the image store that this device has programmed. An image in host memory, or one that the image store has held since before, is an
operand of its command in the same terms (log entry 13).
-/
namespace Sys2Proof.Machine

/-- n bytes of a list from byte i, as a little-endian number. -/
def fieldLE (bs : List Byte) (i n : Nat) : Nat := numLE ((bs.drop i).take n)

/-- Bytes lo to hi − 1 of a list are zero. -/
def zeroBytes (bs : List Byte) (lo hi : Nat) : Bool := ((bs.drop lo).take (hi - lo)).all fun b => b == 0

/-! Class descriptors (R328). -/

/-- A region entry of a full image. -/
def regionEntry (v : Nat) : Region :=
  ⟨.ofNat 16 v, .ofNat 8 (v / 2 ^ 16), .ofNat 4 (v / 2 ^ 24), .ofNat 3 (v / 2 ^ 28), v.testBit 31, .ofNat 12 (v / 2 ^ 32),
    .ofNat 16 (bitsOf v 44 12)⟩

/-- A tile entry of a kernel image. -/
def tileEntry (v : Nat) : TileReq := ⟨.ofNat 16 v, v.testBit 16, v.testBit 17, v.testBit 18, .ofNat 12 (v / 2 ^ 32)⟩

/-- The class descriptor in a header's 64 bytes of DESC and its extension words, and whether their fields are in range and the others 0. -/
def readDesc (cls : Nat) (desc : List Byte) (ext : List Nat) : Desc × Bool :=
  let at_ := fun i n => fieldLE desc i n
  if cls = 0 then
    (.full (.ofNat 3 (at_ 0 1)) (ext.map regionEntry),
      decide (at_ 0 1 < 8 ∧ at_ 1 1 ≤ 32 ∧ ext.length = at_ 1 1) && zeroBytes desc 2 64 && ext.all fun v => bitsOf v 56 8 == 0)
  else if cls = 1 then
    (.part ⟨.ofNat 16 (at_ 0 2), .ofNat 8 (at_ 2 1), .ofNat 4 (at_ 3 1), .ofNat 3 (at_ 4 1), at_ 5 1 == 1, .ofNat 12 (at_ 6 2), .ofNat 16 (at_ 8 2)⟩,
      decide (at_ 3 1 < 16 ∧ at_ 4 1 < 8 ∧ at_ 5 1 < 2 ∧ at_ 6 2 < 4096 ∧ ext.length = 0) && zeroBytes desc 10 64)
  else
    let f := at_ 2 1
    (.kernel (.ofNat 4 (at_ 0 1)) (.ofNat 3 (at_ 1 1)) (f.testBit 0) (f.testBit 1) (f.testBit 2) (.ofNat 8 (at_ 3 1)) (.ofNat 16 (at_ 4 2))
        (.ofNat 16 (at_ 6 2)) (.ofNat 8 (at_ 8 1)) (.ofNat 32 (at_ 12 4)) (ext.map tileEntry),
      decide (at_ 0 1 < 16 ∧ at_ 1 1 < 8 ∧ f < 8) && zeroBytes desc 9 12 && zeroBytes desc 16 64
        && ext.all fun v => bitsOf v 19 13 == 0 && bitsOf v 44 20 == 0)

/-! The body (R332 to R335). -/

/-- The bytes that follow a command's word. -/
def tailLength (w : Nat) : Nat :=
  match w % 256 with
  | 2 => if w.testBit 16 then 0 else if bitsOf w 32 32 ≤ 8192 then 3400 * bitsOf w 32 32 else 0
  | 4 => 8
  | 6 => 6152
  | _ => 0

/-- A command word's reserved bits are 0. -/
def wordFits (w : Nat) : Bool :=
  bitsOf w 8 8 == 0 && match w % 256 with
    | 1 => bitsOf w 32 32 == 0
    | 2 => bitsOf w 17 15 == 0
    | 4 => bitsOf w 32 32 == 0
    | 6 => bitsOf w 28 36 == 0
    | _ => bitsOf w 16 48 == 0

/-- The frame records of an FWRITE (R334). -/
def frameRecords (n : Nat) (bs : List Byte) : List (BitVec 27136 × BitVec 32) :=
  (List.range n).map fun i => (.ofNat 27136 (fieldLE bs (3400 * i) 3392), .ofNat 32 (fieldLE bs (3400 * i + 3392) 4))

/-- The command at the front of a body, with the bytes that follow its word. One that the table does not give, or whose reserved bits are not 0,
has another OP, which R332 refuses (the bits: DEDUCED, log entry 137). -/
def readImgCmd (w : Nat) (bs : List Byte) : ImgCmd :=
  if !wordFits w then .other (.ofNat 8 w)
  else match w % 256 with
    | 0 => .noop
    | 1 => .faddr (.ofNat 16 (w / 2 ^ 16))
    | 2 => .fwrite (w.testBit 16) (.ofNat 32 (w / 2 ^ 32)) (frameRecords (bs.length / 3400) bs)
    | 3 => .fcommit
    | 4 => .wcfg (.ofNat 16 (w / 2 ^ 16)) (.ofNat 64 (fieldLE bs 0 8))
    | 5 => .sync
    | 6 => .mwrite (.ofNat 4 (w / 2 ^ 16)) (.ofNat 8 (w / 2 ^ 20)) ((List.range 1024).map fun p => .ofNat 48 (fieldLE bs (6 * p) 6)) (.ofNat 32 (fieldLE bs 6144 4))
    | 15 => .endImage
    | _ => .other (.ofNat 8 w)

/-- The commands of a body, n of them at most; one that runs past its end is refused like an OP that is not there (R332). -/
def readBody : (n : Nat) → List Byte → List ImgCmd
  | 0, _ => []
  | n + 1, bs =>
    if bs.isEmpty then []
    else
      let w := fieldLE bs 0 8
      let k := tailLength w
      if bs.length < 8 + k then [.other 0xFF]
      else readImgCmd w ((bs.drop 8).take k) :: readBody n (bs.drop (8 + k))

/-! The container (R326, R327, R329). -/

/-- The length that an image's header gives it. -/
def imageLength (bs : List Byte) : Nat := fieldLE bs 6 2 + fieldLE bs 16 8

/-- The additional authenticated data of an image whose body is in the clear, or of its header alone (R329). -/
def imageAad (head ext clear : List Byte) : List Nat :=
  let aad : List Byte := head.take 104 ++ List.replicate 16 0 ++ (head.drop 120).take 4 ++ List.replicate 4 0 ++ ext ++ clear
  aad.map (·.toNat)

/-- What the loader finds in an image's bytes, with the keys of its slots: its header, whether its form is right (R327), whether its tag verifies,
and the commands of its body, decrypted up to END where ENC is set (R329). -/
def readImage (keyOf : Nat → List Nat) (o : Outc) (bs : List Byte) : Image :=
  let head := bs.take 128
  let at_ := fun i n => fieldLE head i n
  let cls := at_ 13 1
  let hdrlen := at_ 6 2
  let ext := (bs.drop 128).take (hdrlen - 128)
  let body := (bs.drop hdrlen).take (at_ 16 8)
  let (desc, descOk) := readDesc cls ((head.drop 40).take 64) ((List.range (ext.length / 8)).map fun i => fieldLE ext (8 * i) 8)
  let enc := at_ 15 1 == 1
  let covered := body.take (body.length - 8)
  let ws := aesSchedule (keyOf (at_ 14 1))
  let iv := ((head.drop 24).take 12).map (·.toNat)
  let ct := if enc then covered.map (·.toNat) else []
  let clear := if enc then (gcmStream ws iv ct).map (BitVec.ofNat 8) ++ body.drop covered.length else body
  { read := o
    formOk := at_ 0 4 == 0x4C535254 && at_ 4 2 == 1 && decide (128 ≤ hdrlen ∧ hdrlen % 8 = 0 ∧ cls ≤ 2 ∧ at_ 15 1 ≤ 1 ∧ at_ 16 8 % 8 = 0)
      && decide (imageLength bs ≤ bs.length) && descOk && zeroBytes head 36 40 && zeroBytes head 120 124
      && at_ 124 4 == crc32 (head.take 124 ++ ext)
    part := .ofNat 16 (at_ 8 2), revmask := .ofNat 16 (at_ 10 2), chain := .ofNat 8 (at_ 12 1), keyslot := .ofNat 8 (at_ 14 1)
    tagOk := gcmAuth ws iv (imageAad head ext (if enc then [] else covered)) ct == ((head.drop 104).take 16).map (fun b => b.toNat)
    headerCrc := .ofNat 32 (at_ 124 4)
    desc := desc
    body := readBody (body.length / 8) clear }

/-- The frame record of a body whose address is wanted (R333, R334), as its offset in the body and its contents; the zeros of an FWRITE with Z
have no bytes, and n is the offset of the command. -/
def recordIn (want : Nat → Bool) : (a n : Nat) → List ImgCmd → Option (Option Nat × BitVec 27136)
  | _, _, [] => none
  | _, n, .faddr b :: rest => recordIn want b.toNat (n + 8) rest
  | a, n, .fwrite true k _ :: rest =>
    if (List.range (min k.toNat 8192)).any fun i => want (a + i) then some (none, 0) else recordIn want (a + k.toNat) (n + 8) rest
  | a, n, .fwrite false _ rs :: rest =>
    match (List.range rs.length).find? fun i => want (a + i) with
    | some i => (rs[i]?).map fun r => (some (n + 8 + 3400 * i), r.1)
    | none => recordIn want (a + rs.length) (n + 8 + 3400 * rs.length) rest
  | a, n, .wcfg _ _ :: rest => recordIn want a (n + 16) rest
  | a, n, .mwrite .. :: rest => recordIn want a (n + 6160) rest
  | a, n, _ :: rest => recordIn want a (n + 8) rest

/-! Where the bytes lie. -/

/-- Bytes of the store as the loader reads them. -/
def Dev.storeBytes (d : Dev) (a n : Nat) : List Byte × Outc × Dev :=
  if 2 ^ 28 < a + n then ([], .busError, d) else d.storeRead .device 0 a n

/-- The image at a device address, of a length or as long as its header says: from the store as its bytes stand; otherwise as the
command gives it. -/
def Dev.imageAt (d : Dev) (addr : Nat) (len : Option Nat) (given : Image) : Image × Dev :=
  match addrSpace addr with
  | .store a =>
    let n := len.getD (imageLength (d.storeBytes a 128).1)
    let (bs, o, d) := d.storeBytes a n
    (readImage d.keyBytes o bs, d)
  | _ => (given, d)

/-- Consecutive blocks of the image store, when this device has programmed every one of them. -/
def Dev.nvBytes (d : Dev) (block n : Nat) : Option (List Byte) :=
  ((List.range ((n + 65535) / 65536)).foldl (fun acc i => match acc, KMap.find d.nvBlocks (block + i) with
    | some bs, some x => some (bs ++ x)
    | _, _ => none) (some [])).map fun bs => bs.take n

/-- The bytes of a source that lies in the device (R466): in the store, or in blocks this device has programmed. -/
def Dev.sourceBytes (d : Dev) (s : ImgSrc) : Option (List Byte) :=
  if s.host then match addrSpace s.addr with
    | .store a => some (d.storeBytes a (if s.bytes = 0 then imageLength (d.storeBytes a 128).1 else s.bytes)).1
    | _ => none
  else if s.bytes = 0 then none
  else d.nvBytes s.addr s.bytes

/-- The image an entry of a manifest names (R324). -/
def Dev.nvImage (d : Dev) (e : MEntry) : MEntry :=
  match d.nvBytes e.block.toNat e.bytes.toNat with
  | some bs => { e with image := readImage d.keyBytes .ok bs }
  | none => e

/-- A manifest copy from its block's bytes (R324, R325). given: the copy as the command gives it, for images that this device has not programmed. -/
def readManifest (given : Manifest) (bs : List Byte) : Manifest :=
  let n := fieldLE bs 6 2
  let entries := (List.range n).map fun e =>
    let at_ := fun i k => fieldLE bs (16 + 16 * e + i) k
    let block : BitVec 16 := .ofNat 16 (at_ 0 2)
    let image := match given.entries.find? fun x => x.block == block with
      | some x => x.image
      | none => readImage (fun _ => []) .ok []
    (⟨block, .ofNat 32 (at_ 4 4), .ofNat 64 (at_ 8 8), image⟩ : MEntry)
  { valid := fieldLE bs 0 4 == 0x4E414D54 && fieldLE bs 4 2 == 1 && decide (1 ≤ n ∧ n ≤ 32)
      && fieldLE bs 12 4 == crc32 (bs.take 12 ++ (bs.drop 16).take (16 * n))
      && (List.range n).all fun e =>
        decide (6 ≤ fieldLE bs (16 + 16 * e) 2 ∧ fieldLE bs (16 + 16 * e) 2 ≤ 2047 ∧ fieldLE bs (18 + 16 * e) 1 ≤ 2 ∧ fieldLE bs (19 + 16 * e) 1 = 0)
    seq := .ofNat 32 (fieldLE bs 8 4)
    entries := entries }

/-- Copy k of the manifest as the loader finds it (R324): blocks this device has programmed speak for themselves. -/
def Dev.manifestAt (d : Dev) (k : Nat) (given : Manifest) : Manifest :=
  let m := match KMap.find d.nvBlocks (4 + k) with
    | some bs => readManifest given bs
    | none => given
  { m with entries := m.entries.map d.nvImage }

end Sys2Proof.Machine
end

