-- ==== Sys2Proof/Machine/DeviceData.lean ====
section
/-!
DEFINITION. The device-data area of the image store (R322): the near-via map of chapter 09, record by record, and the rest of the
area, of which the spec gives no layout.
-/
namespace Sys2Proof.Machine

/-- The near-via class of a cluster of a physical tile (R244). -/
def Dev.nearClass (d : Dev) (t q : Nat) : Nat := KMap.get d.nearVia (1024 * t + q) 0 % 4

/-- The VIA byte of a tile (R245): its clusters of class 1 to 3, as a percentage of 1,024, rounded up. -/
def Dev.viaByte (d : Dev) (t : Nat) : Nat :=
  (100 * (d.nearVia.filter fun x => x.1 / 1024 == t && x.2 % 4 != 0).length + 1023) / 1024

/-- A tile's record in the near-via map but for its CRC (R245). -/
def Dev.viaBody (d : Dev) (t : Nat) : List Byte :=
  ((List.range 256).map fun b => BitVec.ofNat 8 (((List.range 4).map fun i => 4 ^ i * d.nearClass t (4 * b + i)).sum))
    ++ [.ofNat 8 t, .ofNat 8 (d.viaByte t), 0, 0]

/-- A tile's record (R245). -/
def Dev.viaRecord (d : Dev) (t : Nat) : List Byte := d.viaBody t ++ bytesLE 4 (crc32 (d.viaBody t))

/-- The 8 bytes of the device-data area at a multiple of 8 (R245, R322): the map stands at 0x1000, in records of 264 bytes. -/
def Dev.deviceWord (d : Dev) (ofs : Nat) : Nat :=
  let n := ofs - 0x1000
  if 0x1000 ≤ ofs && n / 264 < 256 then numLE (((d.viaRecord (n / 264)).drop (n % 264)).take 8)
  else (Config.deviceData (ofs / 8)).toNat

end Sys2Proof.Machine
end

