-- ==== Sys2Proof/Machine/Ports.lean ====
section
/-!
DEFINITION. Requests that hosts send through BAR2 and BAR4 (R387 to R392): the order their port keeps, the packets that
carry portal accesses, their answers, and the device's own requests to host memory (R393).
-/
namespace Sys2Proof.Machine

/-- Where a host request goes: a portal's physical tile, or 256 + the column of a bank (R304). -/
def Dev.hostDest (d : Dev) (a : Nat) : Nat := if a < 2 ^ 28 then 256 + a / 2 ^ 22 else d.phys (bitsOf a 24 8)

/-- Store writes of a port that wait at their banks, by destination. -/
def Dev.hostStoreWaits (d : Dev) (p : Port) : List Nat :=
  (d.resetWait ++ d.bankWait).filterMap fun r =>
    if r.write && r.reply == .host p then some (256 + r.addr / 2 ^ 22) else none

/-- Destinations of a port's writes that have no CPL yet (R390). -/
def Dev.hostBusy (d : Dev) (p : Port) : List Nat := (d.port p).writes.map (·.2) ++ d.hostStoreWaits p

/-- The tags of a port's requests to portals that are not answered: a read that has timed out or that a port reset has dropped keeps its tags
until its answers have come (R301, R392, R398). -/
def PortSt.usedTags (x : PortSt) : List Nat := x.writes.map (·.1) ++ (x.reads.map fun r => r.parts.map (·.1)).flatten ++ x.late

/-- A tag that none of the port's requests to portals bears. -/
def PortSt.freeTag (x : PortSt) (n : Nat) : Nat :=
  let used := x.usedTags
  (((List.range 1024).filter fun g => !used.contains g)[n]?).getD n

/-- The tags of reads whose answers nobody awaits any more. -/
def readTags (rs : List HostRead) : List Nat := (rs.map fun r => r.parts.map (·.1)).flatten

/-- A range cut into pieces that each lie in one 512-byte block: (offset, length). -/
def packetPieces (a n : Nat) : List (Nat × Nat) :=
  if n = 0 then []
  else (List.range ((a + n - 1) / 512 - a / 512 + 1)).map fun i =>
    let lo := max a (512 * (a / 512 + i))
    (lo - a, min (a + n) (512 * (a / 512 + i) + 512) - lo)

/-- The packet of a host access to a portal window (R305, R320, R388): key index 0, epoch 0. -/
def Dev.hostPacket (d : Dev) (p : Port) (tag a n : Nat) (write : Bool) (data : List Byte) (en : List Bool) : Packet :=
  let t := d.phys (bitsOf a 24 8)
  let pad := (32 - data.length % 32) % 32
  { dcol := BitVec.ofNat 6 (colOfTile t)
    dep := BitVec.ofNat 4 (epOfTile t)
    scol := BitVec.ofNat 6 (portCol p)
    sep := 10
    cmd := if write then 2 else 1
    key := 0
    tag := BitVec.ofNat 10 tag
    epoch := 0
    pri := false
    vc := 0
    rstat := 0
    operand := BitVec.ofNat 64 a
    rlen := if write then 0 else BitVec.ofNat 10 n
    data := data ++ List.replicate pad 0
    enables := en ++ List.replicate (if write then pad else 0) false }

/-- A host request enters the device (R388). -/
def Dev.hostIssue (d : Dev) (p : Port) (r : HostReq) : Dev :=
  if r.addr < 2 ^ 28 then
    let d := d.setPort p { d.port p with last := if r.write then d.hostDest r.addr else (d.port p).last }
    let c := r.addr / 2 ^ 22
    if d.linked (portCol p) c then d.storeRequest ⟨.port p, 0, r.write, r.addr, r.len, r.data, r.enables, .host p⟩
    else (d.noRoute (portCol p) c 4 r.addr).answerHost p r.addr r.write .busError []
  else
    let x := d.port p
    let ps := packetPieces r.addr r.len
    let tagged := ps.mapIdx fun i q => (x.freeTag i, q)
    let t := d.phys (bitsOf r.addr 24 8)
    let d := d.setPort p (if r.write then { x with writes := x.writes ++ tagged.map fun q => (q.1, t), last := t }
      else { x with reads := x.reads ++ [⟨r.addr, r.len, tagged.map fun q => (q.1, q.2.1, q.2.2), [], .ok⟩] })
    tagged.foldl (fun d (g, o, n) =>
      d.emit (.packet (d.hostPacket p g (r.addr + o) n r.write
        (if r.write then (r.data.drop o).take n else []) (if r.write then (r.enables.drop o).take n else [])))) d

/-- There are tags for the packets of a request (R301). -/
def PortSt.tagsFor (x : PortSt) (r : HostReq) : Bool :=
  r.row.isSome || decide (r.addr < 2 ^ 28) || decide (x.usedTags.length + (packetPieces r.addr r.len).length ≤ 1024)

/-- A request may go now (R390): a write when every write before it goes to its own endpoint, or has its CPL; a read, and a register
access, which goes to the control endpoint, when every write before it has its CPL. -/
def Dev.hostMayGo (d : Dev) (p : Port) (r : HostReq) (before : List HostReq) : Bool :=
  (d.port p).tagsFor r && !(before.any (·.write)) && (if r.write && r.row.isNone then (d.hostBusy p).all (· == d.hostDest r.addr) else (d.hostBusy p).isEmpty)

/-- Send what may go, in order (R390). -/
def Dev.pumpHostAux (p : Port) : (fuel : Nat) → Dev → Dev
  | 0, d => d
  | n + 1, d =>
    let x := d.port p
    match (List.range x.held.length).find? fun i => match x.held[i]? with
        | some r => r.row.isNone && d.hostMayGo p r (x.held.take i)
        | none => false with
    | none => d
    | some i => match x.held[i]? with
      | some r => Dev.pumpHostAux p n ((d.setPort p { x with held := x.held.eraseIdx i }).hostIssue p r)
      | none => d

/-- Send what may go. -/
def Dev.pumpHost (d : Dev) (p : Port) : Dev := Dev.pumpHostAux p (d.port p).held.length d

/-- Both ports. -/
def Dev.pumpHosts (d : Dev) : Dev := (d.pumpHost .a).pumpHost .b

/-- A host request arrives (R390). -/
def Dev.hostRequest (d : Dev) (p : Port) (r : HostReq) : Dev :=
  (d.setPort p { d.port p with held := (d.port p).held ++ [r] }).pumpHost p

/-- Earlier writes of a port have no CPL yet (R390). -/
def Dev.writesAhead (d : Dev) (p : Port) : Bool := ((d.port p).held.any (·.write)) || !(d.hostBusy p).isEmpty

/-- A register access waits behind earlier writes of its port, as the command that brought it (R390). -/
def Dev.keepRow (d : Dev) (src : Src) (write : Bool) (off : Nat) (i : Instr) : Dev :=
  match src with
  | .host p => d.setPort p { d.port p with held := (d.port p).held ++ [⟨write, 0xF000000000 + off, 0, [], [], some i⟩] }
  | _ => d

/-- The oldest register access of a port that may go, and the device that serves it (R390). -/
def Dev.rowOf (d : Dev) (p : Port) : Option (Port × Instr × Dev) :=
  let x := d.port p
  match (List.range x.held.length).find? fun i => match x.held[i]? with
      | some r => r.row.isSome && d.hostMayGo p r (x.held.take i)
      | none => false with
  | none => none
  | some i => (x.held[i]?.bind (·.row)).map fun c => (p, c, d.setPort p { x with held := x.held.eraseIdx i, serving := true })

/-- A register access that may go at either port. -/
def Dev.heldRow (d : Dev) : Option (Port × Instr × Dev) :=
  match d.rowOf .a with
  | some x => some x
  | none => d.rowOf .b

/-- A kept register access is done, and what waited behind it goes on. -/
def Dev.rowServed (d : Dev) (p : Port) : Dev := (d.setPort p { d.port p with serving := false }).pumpHost p

/-- A host read is answered whole (R391). -/
def Dev.answerRead (d : Dev) (p : Port) (r : HostRead) : Dev :=
  let data := (List.range r.len).map fun i =>
    match r.got.find? fun g => decide (g.1 ≤ i ∧ i < g.1 + g.2.length) with
    | some g => g.2.getD (i - g.1) 0xFF
    | none => 0xFF
  d.answerHost p r.addr false r.worst data

/-- A CPL or CPLD reaches a PCIe port from a portal (R319, R391): a write has its CPL; a read is answered when its last part
has come. A response that no request awaits is discarded (R392). -/
def Dev.hostResponse (d : Dev) (p : Port) (k : Packet) : Dev :=
  let x := d.port p
  let tag := k.tag.toNat
  let o : Outc := if k.rstat == 1 then .busError else if k.rstat == 2 then .uncorrectable else .ok
  match x.writes.find? fun w => w.1 == tag with
  | some w =>
    let d := d.setPort p { x with writes := x.writes.filter fun v => v.1 != tag }
    let d := if o = .ok then d else d.answerHost p (2 ^ 32 + 2 ^ 24 * d.logical w.2) true o []
    d.pumpHost p
  | none => match x.reads.find? fun r => r.parts.any fun q => q.1 == tag with
    | none => (d.setPort p { x with late := x.late.filter (· != tag) }).pumpHost p
    | some r =>
      let rest := x.reads.filter (· != r)
      match r.parts.find? fun q => q.1 == tag with
      | none => d
      | some (_, ofs, n) =>
        let r := { r with
          parts := r.parts.filter fun q => q.1 != tag
          got := r.got ++ [(ofs, if o = .busError then List.replicate n 0xFF else k.data.take n)]
          worst := r.worst.join (if o = .ok && decide (k.data.length < n) then .busError else o) }
        if r.parts.isEmpty then ((d.setPort p { x with reads := rest }).answerRead p r).pumpHost p
        else (d.setPort p { x with reads := rest ++ [r] }).pumpHost p

/-- HOST_READ_TIMEOUT (R391, R392): a portal read not answered in time ends with Completer Abort; RDTMO 0 sets no limit. -/
def Dev.hostReadTimeout (d : Dev) (p : Port) (tag : Nat) : Dev :=
  let x := d.port p
  match x.reads.find? fun r => r.parts.any fun q => q.1 == tag with
  | none => d
  | some r =>
    if d.rd (PORT_CTL_RDTMO p.num) == 0 then d
    else
      let d := (d.setPort p { x with reads := x.reads.filter (· != r), late := x.late ++ readTags [r] }).emit (.reply p .completerAbort)
      (d.set (PORT_ERR_CA p.num)).portEvent p (PORT_ERR_RDTMO p.num) r.addr

/-! The device's own requests to host memory (R393). -/

/-- The host address of a device address behind a port (R24). -/
def hostAddr (a : Nat) : Nat := if a < 0x800000000000 then a - 0x100000000000 else a - 0x800000000000

/-- Reads that wait for a PCIe tag are sent while tags are free (R385). -/
def Dev.pumpDevice (d : Dev) (p : Port) : Dev :=
  let x := d.port p
  match x.devWait with
  | [] => d
  | q :: rest =>
    match (List.range 256).find? fun g => !(x.dev.any fun e => e.1 == g) with
    | none => d
    | some g => (d.setPort p { x with dev := x.dev ++ [(g, q)], devWait := rest }).emit
        (.hostRead p (hostAddr q.operand.toNat) q.rlen.toNat)

/-- The runs of enabled bytes of a write, as (offset, bytes). -/
def enabledRuns : (ofs : Nat) → List Byte → List Bool → List (Nat × List Byte)
  | ofs, b :: bs, e :: es =>
    let t := enabledRuns (ofs + 1) bs es
    if e then match t with
      | (o, r) :: u => if o == ofs + 1 then (ofs, b :: r) :: u else (ofs, [b]) :: (o, r) :: u
      | [] => [(ofs, [b])]
    else t
  | _, _, _ => []

/-- A request packet reaches a PCIe port (R305, R393, R410): a read is sent to the host; a write is sent, and answered when
it has left. -/
def Dev.hostMemory (d : Dev) (p : Port) (k : Packet) : Dev :=
  let a := k.operand.toNat
  if !d.portUp p then (d.deviceFail p a).answerPacket k .busError []
  else if k.cmd == 1 then
    (d.setPort p { d.port p with devWait := (d.port p).devWait ++ [k] }).pumpDevice p
  else
    let d := (enabledRuns 0 k.data k.enables).foldl (fun d (o, bs) => d.emit (.hostWrite p (hostAddr a + o) bs)) d
    d.answerPacket k .ok []

/-- HOST_COMPLETION (R393): the host's answer becomes the outcome of the device's read. -/
def Dev.hostCompletion (d : Dev) (p : Port) (tag : Nat) (o : Outc) (data : List Byte) : Dev :=
  let x := d.port p
  match x.dev.find? fun e => e.1 == tag with
  | none => d
  | some (_, k) =>
    let d := d.setPort p { x with dev := x.dev.filter fun e => e.1 != tag }
    let o : Outc := if o = .ok && decide (data.length < k.rlen.toNat) then .busError else o
    let d := if o = .ok then d else d.deviceFail p k.operand.toNat
    (d.answerPacket k o (data.take k.rlen.toNat)).pumpDevice p

end Sys2Proof.Machine
end

