-- ==== Sys2Proof/Machine/Access.lean ====
section
/-!
DEFINITION. Accesses to the control range (R5, R387, R391, R502, R514, R549, R433, R558 to R560): which block an offset lies
in, whether the access is served, and what a refused one leaves behind.
-/
namespace Sys2Proof.Machine

/-- A block of the control range (R558): its offsets, its gate (bit of CLK_GATE0, or 64 + bit of CLK_GATE1; 99: none), and
whether it answers in Rest, in a warm reset and (reads) in the held state. -/
structure Block where
  lo : Nat
  hi : Nat
  gate : Nat
  rest : Bool
  warm : Bool
  held : Bool
  deriving DecidableEq, Repr

/-- The table of R558, but for the lanes, the fabric and the MSI-X range, whose gates depend on the offset or the port. -/
def blocks : List Block :=
  [⟨0x000000, 0x010000, 0, true, true, false⟩, ⟨0x010000, 0x020000, 1, true, false, false⟩,
   ⟨0x020000, 0x030000, 2, true, true, true⟩, ⟨0x030000, 0x040000, 3, true, false, false⟩,
   ⟨0x040000, 0x050000, 4, false, false, false⟩, ⟨0x050000, 0x080000, 5, false, false, false⟩,
   ⟨0x080000, 0x0A0000, 6, false, false, false⟩, ⟨0x0A0000, 0x0C0000, 7, false, false, false⟩,
   ⟨0x0C0000, 0x100000, 8, false, false, false⟩, ⟨0x200000, 0x280000, 9, false, false, false⟩,
   ⟨0x280000, 0x300000, 10, false, false, false⟩, ⟨0x380000, 0x3C0000, 13, false, false, false⟩,
   ⟨0x3C0000, 0x3E0000, 14, true, true, true⟩, ⟨0x3E0000, 0x400000, 15, false, false, false⟩,
   ⟨0x400000, 0x420000, 16, false, true, true⟩, ⟨0x420000, 0x440000, 17, true, false, false⟩]

/-- The block of an offset for an access by a source (R558, R559); none: no block. -/
def blockAt (src : Src) (off : Nat) : Option Block :=
  if 0x100000 ≤ off ∧ off < 0x190000 then some ⟨0x100000, 0x190000, 64 + (off - 0x100000) / 0x4000, false, false, false⟩
  else if 0x300000 ≤ off ∧ off < 0x340000 then
    some ⟨0x300000, 0x340000, if off < 0x320000 then 11 else 12, false, false, false⟩
  else if 0xFE0000 ≤ off ∧ off < 0xFE2000 then
    match src with
    | .host p => some ⟨0xFE0000, 0xFE2000, 18 + p.num, false, false, false⟩
    | _ => none
  else blocks.find? fun b => b.lo ≤ off && off < b.hi

/-- A block's gate serves accesses: open, or closing and not yet idle (R502, R503). -/
def Dev.blockOpen (d : Dev) (b : Block) : Bool :=
  if b.gate < 64 then d.gateServes b.gate else d.gateLane (b.gate - 64) || d.bit CLK_GATE_PEND_PEND (20 + b.gate - 64)

/-- A warm reset is in progress (R549). -/
def Dev.warming (d : Dev) : Bool := d.resetWarm

/-- Registers that a host may not write on such a device (R429). -/
def shadowGuarded (off : Nat) : Bool :=
  decide ((0x040000 ≤ off ∧ off < 0x0C0000) ∨ (0x201000 ≤ off ∧ off < 0x203000) ∨ (0x400100 ≤ off ∧ off < 0x400180))
    || off / 8 == 0x380008 / 8

/-- An event of the twin: its flag, its count, its record. -/
def Dev.twinEvent (d : Dev) (c : EvClass) (flag : Field) : Dev :=
  (d.incSat TWIN_ERR_COUNT).raise { cls := c, flag := flag, ukind := 12 }

/-- A host request that the Shadow refuses leaves a report (R429). -/
def Dev.shadowRefuses (d : Dev) : Dev := d.twinEvent .slate TWIN_ERR_SHADOWWR

/-- What the control endpoint does with an access: serve it, answer a bus error (at a gated block: with GATEHIT), refuse it
for a Shadow, refuse it at a port in D3hot (R386), keep it until earlier writes of its port are done (R390); or nothing reaches it. -/
inductive Access where
  | ok | busError | gated | silent | shadow | unsupported | later
  deriving DecidableEq, Repr

/-- Judge an access to an offset (R558 to R560). -/
def Dev.access (d : Dev) (src : Src) (off : Nat) (write : Bool) : Access :=
  let reach : Bool := match src with
    | .host p => (d.port p).serving
        || (d.on (PORT_STAT_LINKUP p.num) && !d.on (PORT_STAT_INRESET p.num) && decide (9 ≤ d.rd RESET_STAT_PHASE))
    | _ => d.running
  let host : Bool := match src with | .host _ => true | _ => false
  let hot : Bool := match src with | .host p => !(d.port p).serving && d.rd (PORT_STAT_DSTATE p.num) == 3 | _ => false
  let behind : Bool := match src with | .host p => !(d.port p).serving && d.writesAhead p | _ => false
  if !reach then .silent
  else if hot then .unsupported
  else if behind then .later
  else if host && d.shadowing && (write && shadowGuarded off || !write && decide (0x040000 ≤ off ∧ off < 0x040800) && off % 0x20 / 8 == 0) then .shadow
  else if src = .portal then .busError
  else match blockAt src off with
    | none => .busError
    | some b =>
      if d.held then (if b.held && !write then .ok else .busError)
      else if d.rd CLK_REST_STATE ≠ 0 then (if b.rest then .ok else .busError)
      else if d.warming then (if b.warm then .ok else .busError)
      else if d.blockOpen b then .ok else .gated

/-- A refused write leaves its mark: GATEHIT at a gated block (R502), the port's log for a host (R391). -/
def Dev.refuseWrite (d : Dev) (src : Src) (off : Nat) (a : Access) : Dev :=
  let d := if a = .gated then d.set CLK_STAT_GATEHIT else d
  let d := if a = .shadow then d.shadowRefuses else d
  match src with
  | .host p =>
    if a = .silent || a = .shadow then d
    else if a = .unsupported then d.portEvent p (PORT_ERR_UR p.num) (0xF000000000 + off)
    else d.answerHost p (0xF000000000 + off) true .busError []
  | _ => d

/-- A register write that reaches its register has the effect f (R5, R561); one whose port has earlier writes to complete is kept as the
command i that brought it (R390). -/
def Dev.onWrite (d : Dev) (i : Instr) (src : Src) (off : Nat) (f : Dev → Dev) : Dev :=
  match d.access src off true with
  | .ok => f d
  | .later => d.keepRow src true off i
  | a => d.refuseWrite src off a

/-- A write that only a host port may make (R396, R404): any other source ends with a bus error. -/
def Dev.onHostWrite (d : Dev) (i : Instr) (src : Src) (off : Nat) (f : Port → Dev → Dev) : Dev :=
  match src with
  | .host p => d.onWrite i src off (f p)
  | _ => d

/-- The port a register write counts for (R560). -/
def writePort (src : Src) : Port := match src with | .host p => p | .dma p => p | .portal => .a

/-- A write in a queue's own range (R29): from the port that does not own the queue it is ignored and sets NOTOWN. -/
def Dev.onQueueWrite (d : Dev) (i : Instr) (q : Nat) (src : Src) (off : Nat) (f : Dev → Dev) : Dev :=
  d.onWrite i src off fun d => if writePort src = d.queuePort q then f d else d.set (QU_STAT_NOTOWN q)

/-- Answer a register read (R390, R391): the data to the reader, or the refusal. -/
def Dev.onRead (d : Dev) (i : Instr) (src : Src) (off : Nat) (f : Dev → Nat × Dev) : Dev :=
  match d.access src off false with
  | .later => d.keepRow src false off i
  | .ok => let (v, d) := f d; d.emit (.regData src v)
  | a =>
    let d := if a = .gated then d.set CLK_STAT_GATEHIT else d
    let d := if a = .shadow then d.shadowRefuses else d
    match src with
    | .host p =>
      if a = .silent then d
      else if a = .unsupported then (d.emit (.reply p .unsupported)).portEvent p (PORT_ERR_UR p.num) (0xF000000000 + off)
      else d.answerHost p (0xF000000000 + off) false .busError []
    | _ => d

/-! Meanings of the store's own rows. -/

/-- BANK_OWN_WRITE (R269). -/
def execBankOwnWrite (bank : Fin 1024) (w : RegWr) (s : State) : Result :=
  s.next (s.dev.onWrite (.bankOwnWrite bank w) w.src (0x201000 + 8 * bank.val) fun d => d.bankOwnWrite bank.val w)

/-- BANK_WAKE_COMPLETE (R272). -/
def execBankWakeComplete (bank : Fin 1024) (s : State) : Result := s.next (s.dev.bankWakeComplete bank.val).pumpHosts

/-- BANK_WRITEBACK (R264). -/
def execBankWriteback (bank : Fin 1024) (s : State) : Result := s.next (s.dev.bankWriteback bank.val)

/-- PATROL_READ (R277). -/
def execPatrolRead (bank : Fin 1024) (row : BitVec 9) (s : State) : Result :=
  s.next (s.dev.patrolRead bank.val row.toNat)

/-- STORE_FLIP_ARM (R279): a write of STORE_FLIP_CTL. -/
def execStoreFlipArm (w : RegWr) (s : State) : Result :=
  s.next (s.dev.onWrite (.storeFlipArm w) w.src 0x200028 fun d => d.flipCtlWrite w)

end Sys2Proof.Machine
end

