-- ==== Sys2Proof/Machine/Fabric.lean ====
section
/-!
DEFINITION. The fabric (chapters 05 and 06, R206 to R212 for port cells): the settings of a fret, which source feeds a pin
and which loads a source has, tokens and their acknowledges, cell operations, hold elements, token registers and spines.
-/
namespace Sys2Proof.Machine

/-! Settings of a fret (R138, R163, R236). A tile t, a fret f, a cluster cl = 32u + v, a cell index 16·cl + i. -/

/-- The cell word of a cell (R138). -/
def Dev.cellWord (d : Dev) (f t idx : Nat) : Nat :=
  d.frameBits f t (idx / 512) (832 * (idx / 16 % 32) + 18 * (idx % 16)) 18

/-- The crossbar selection of input p of a cell (R163, R164). -/
def Dev.xbar (d : Dev) (f t idx p : Nat) : Nat :=
  d.frameBits f t (idx / 512) (832 * (idx / 16 % 32) + 288 + 5 * (6 * (idx % 16) + p)) 5

/-- The code of head h of a cluster (R166). -/
def Dev.headCode (d : Dev) (f t cl h : Nat) : Nat := d.frameBits f t (cl / 32) (832 * (cl % 32) + 768 + 4 * h) 4

/-- The selector of spine tap m of a cluster (R176). -/
def Dev.tapCode (d : Dev) (f t cl m : Nat) : Nat := d.frameBits f t (cl / 32) (832 * (cl % 32) + 816 + 4 * m) 4

/-! Port cells (R206, R207). -/

/-- The interface that takes a cell over. -/
inductive Iface where
  | mem (m : Nat) (portB : Bool) | portal | rowData | rowCtl | control | none
  deriving DecidableEq, Repr

/-- The interface of a cell in a fret and its port cell number (R206). -/
def Dev.iface (d : Dev) (f t idx : Nat) : Iface × Nat :=
  let u := idx / 512
  let v := idx / 16 % 32
  let i := idx % 16
  if v < 4 then (if d.portBits f t (64 * (u / 2)) 1 == 1 then .mem (u / 2) (u % 2 == 1) else .none, 16 * v + i)
  else if v < 29 then (.none, 0)
  else if v == 29 then
    if u < 8 then (if d.portBits f t 1536 2 ≠ 0 then .control else .none, 16 * u + i)
    else if u < 10 then (if d.portBits f t 1280 1 == 1 then .rowCtl else .none, 16 * (u - 8) + i)
    else (.none, 0)
  else if u < 16 then (if d.portBits f t 1024 1 == 1 then .portal else .none, 32 * u + 16 * (v - 30) + i)
  else (if d.portBits f t 1280 1 == 1 then .rowData else .none, 32 * (u - 16) + 16 * (v - 30) + i)

/-- The cell index of a port cell (R206). -/
def portCell (k : Iface) (n : Nat) : Nat :=
  match k with
  | .mem m b => 512 * (2 * m + b2n b) + 16 * (n / 16) + n % 16
  | .portal => 512 * (n / 32) + 16 * (30 + n % 32 / 16) + n % 16
  | .rowData => 512 * (16 + n / 32) + 16 * (30 + n % 32 / 16) + n % 16
  | .rowCtl => 512 * (8 + n / 16) + 16 * 29 + n % 16
  | .control => 512 * (n / 16) + 16 * 29 + n % 16
  | .none => 0

/-- The logical width and depth of a SHAPE (R209): (width, log2 of the depth). -/
def shapeOf (s : Nat) : Nat × Nat :=
  [(32, 10), (48, 10), (24, 11), (12, 12), (6, 13), (3, 14), (32, 10), (16, 11), (8, 12), (4, 13), (2, 14), (1, 15), (96, 9)].getD s (0, 0)

/-- SHAPE and the USE of a memory's port (R236). -/
def Dev.memShape (d : Dev) (f t m : Nat) : Nat := d.portBits f t (64 * m + 1) 4
def Dev.memUse (d : Dev) (f t m : Nat) (b : Bool) : Nat := d.portBits f t (64 * m + if b then 7 else 5) 2

/-- The user I/O cells of an edge tile, by I/O cell k of the tile (R539); none: not an edge tile. -/
def ioCell (t k : Nat) : Option Nat :=
  if 12 ≤ k then none
  else if tileX t = 0 then some (192 * (t / 128) + 12 * tileY t + k)
  else if tileX t = 15 then some (192 * (t / 128) + 96 + 12 * tileY t + k)
  else none

/-- Whether an edge tile's I/O cells use input D of port cell n of the control port (R540). -/
def Dev.ioPin (d : Dev) (t n : Nat) : Bool :=
  match ioCell t (n / 8) with
  | none => false
  | some i => d.on (IOCELL_EN i) && match n % 8 with
    | 0 => true
    | 1 => d.on (IOCELL_DDR i)
    | 2 => d.rd (IOCELL_DIR i) == 2
    | _ => false

/-- Whether an interface uses input p of port cell n (R211, R221, R229, R233, R540). -/
def Dev.pinUsed (d : Dev) (f t : Nat) (k : Iface) (n p : Nat) : Bool :=
  match k with
  | .mem m b =>
    let use := d.memUse f t m b
    let s := d.memShape f t m
    let (w, a) := shapeOf s
    if s == 12 then
      if b then use != 0 && p == 0 && decide (n < a)
      else use != 0 && ((p == 0 && decide (n < a)) || ((p == 1 || p == 2) && decide (n < 48)))
    else use != 0 && ((p == 0 && decide (n < a)) || (p == 1 && decide (2 ≤ use ∧ n < w)) || (p == 3 && use == 3 && n == 0))
  | .portal => p == 0 && decide (n < 288)
  | .rowData => p == 0
  | .rowCtl => d.portBits f t 1281 1 == 1 && ((p == 0 && decide (n < 20)) || (p == 1 && n == 0))
  | .control =>
    (d.portBits f t 1536 1 == 1 && p == 0 && decide (n < 4))
      || (d.portBits f t 1537 1 == 1 && ((p == 1 && decide (n < 64)) || (p == 2 && decide (n < 16))))
      || (p == 3 && d.portBits f t 1536 2 != 0 && d.ioPin t n)
  | .none => false

/-- Input p of a cell is a load of its crossbar selection (R161, R207). -/
def Dev.routed (d : Dev) (f t idx p : Nat) : Bool :=
  match d.iface f t idx with
  | (.none, _) =>
    let w := d.cellWord f t idx
    if p < 4 then bitsOf w (2 * p + 1) 1 == 1 else bitsOf w (4 + p) 1 == 1
  | (k, n) => d.pinUsed f t k n p

/-! Geometry (R165, R171 to R173). -/

/-- The cluster a span away in a direction, as (tile, cluster); none beyond the die. -/
def stepCluster (t cl dir : Nat) (span : Int) : Option (Nat × Nat) :=
  let gx : Int := 32 * tileX t + cl / 32
  let gy : Int := 32 * tileY t + cl % 32
  let (x, y) := match dir with
    | 0 => (gx + span, gy) | 1 => (gx, gy + span) | 2 => (gx - span, gy) | _ => (gx, gy - span)
  if 0 ≤ x ∧ x < 512 ∧ 0 ≤ y ∧ y < 256 then
    some (tileAt (t / 128) (x.toNat / 32) (y.toNat / 32), 32 * (x.toNat % 32) + y.toNat % 32)
  else none

/-- A boundary gate between two tiles is open (R171). -/
def Dev.gateOpen (d : Dev) (a b : Nat) : Bool :=
  a == b || match d.ensembleOf a with
    | some (_, e) => (match d.ensembleOf b with | some (y, _) => (match d.ensembleOf a with | some (x, _) => x == y | none => false) | none => false) && (a / 128 == b / 128 || e.both)
    | none => false

/-- A vertical track of a tile is open (R173). -/
def Dev.trackOpen (d : Dev) (t : Nat) : Bool :=
  !d.isRetired .vertical (t % 128) && match d.ensembleOf t with
    | some (_, e) => e.both
    | none => false

/-- The stacked partner of a tile. -/
def partner (t : Nat) : Nat := if t < 128 then t + 128 else t - 128

/-- Where the wire of head h ends: (tile, cluster, IN pin); none at a closed gate or beyond the die (R165, R171, R172). -/
def Dev.tailOf (d : Dev) (t cl h : Nat) : Option (Nat × Nat × Nat) :=
  if h < 8 then
    match stepCluster t cl (h % 4) (if h < 4 then 1 else 4) with
    | some (t2, c2) => if d.gateOpen t t2 then some (t2, c2, h) else none
    | none => none
  else if d.trackOpen t then some (partner t, cl, h) else none

/-- The head whose wire feeds IN pin n < 12: (tile, cluster, head). -/
def Dev.feederOf (d : Dev) (t cl n : Nat) : Option (Nat × Nat × Nat) :=
  if n < 8 then
    match stepCluster t cl (n % 4) (if n < 4 then -1 else -4) with
    | some (t2, c2) => if d.gateOpen t t2 then some (t2, c2, n) else none
    | none => none
  else if d.trackOpen t then some (partner t, cl, n) else none

/-! Sources and loads. -/

/-- A source of tokens: a cell's O, a token register, a spine of an ensemble; none of them. -/
inductive Wire where
  | out (t idx : Nat) | reg (t cl h : Nat) | spine (a n : Nat) | dead
  deriving DecidableEq, Repr

/-- What a head's source code selects (R167): (true, OUT i) or (false, IN n). -/
def headSelect (h src : Nat) : Bool × Nat :=
  if h < 4 then
    if src < 5 then (true, (h + 4 * (src - 1)) % 16) else (false, if src == 5 then h else if src == 6 then (h + 1) % 4 else 4 + h)
  else if h < 8 then
    if src < 5 then (true, (4 * (h - 4) + src - 1) % 16) else (false, if src == 5 then h else if src == 6 then h - 4 else 4 + h)
  else
    if src < 5 then (true, (h - 8 + 4 * (src - 1)) % 16)
    else (false, if src == 5 then h - 8 else if src == 6 then h - 4 else (h - 7) % 4)

/-- The source behind IN pin n of a cluster, through heads without token registers (R165 to R169, R176). -/
def Dev.inSource (d : Dev) (f : Nat) : (fuel t cl n : Nat) → Wire
  | 0, _, _, _ => .dead
  | fuel + 1, t, cl, n =>
    if n < 12 then
      match d.feederOf t cl n with
      | none => .dead
      | some (t2, c2, h) =>
        let code := d.headCode f t2 c2 h
        if code % 8 = 0 then .dead
        else if 8 ≤ code then .reg t2 c2 h
        else match headSelect h (code % 8) with
          | (true, i) => .out t2 (16 * c2 + i)
          | (false, m) => d.inSource f fuel t2 c2 m
    else
      let c := d.tapCode f t cl (n - 12)
      if c = 0 then .dead
      else match d.ensembleOf t with
        | some (a, _) => .spine a (16 * (n - 12) + c)
        | none => .dead

/-- Steps that a walk along a route, or back along acknowledges, takes at most: more than the device has heads, cells and spines, so no
route is cut. -/
def routeFuel : Nat := 16777216

/-- The source a crossbar code takes (R164). -/
def Dev.codeSource (d : Dev) (f t cl code : Nat) : Wire :=
  if code < 16 then d.inSource f routeFuel t cl code else .out t (16 * cl + (code - 16))

/-- The source of input p of a cell. -/
def Dev.pinSource (d : Dev) (f t idx p : Nat) : Wire := d.codeSource f t (idx / 16) (d.xbar f t idx p)

/-- The source of the token register at a head. -/
def Dev.regSource (d : Dev) (f t cl h : Nat) : Wire :=
  match headSelect h (d.headCode f t cl h % 8) with
  | (true, i) => .out t (16 * cl + i)
  | (false, n) => d.inSource f routeFuel t cl n

/-- The code of a load: kind 0 input p of a cell, 1 the token register of a head, 2 spine driver j of a tile. -/
def loadCode (kind t idx p : Nat) : Nat := ((kind * 256 + t) * 16384 + idx) * 8 + p

/-- Crossbar loads of a code within a cluster (R157, R161). -/
def Dev.xbarLoads (d : Dev) (f t cl code : Nat) : List Nat :=
  ((List.range 16).map fun i => (List.range 6).filterMap fun p =>
    let idx := 16 * cl + i
    if d.routed f t idx p && d.xbar f t idx p == code then some (loadCode 0 t idx p) else none).flatten

/-- Heads of a cluster that select a source. -/
def Dev.headsOn (d : Dev) (f t cl : Nat) (isOut : Bool) (n : Nat) : List Nat :=
  (List.range 12).filter fun h =>
    let c := d.headCode f t cl h % 8
    c != 0 && headSelect h c == (isOut, n)

/-- Loads of IN pin n of a cluster, through heads without token registers. -/
def Dev.inLoads (d : Dev) (f : Nat) : (fuel t cl n : Nat) → List Nat
  | 0, _, _, _ => []
  | fuel + 1, t, cl, n =>
    d.xbarLoads f t cl n ++ ((d.headsOn f t cl false n).map fun h =>
      if 8 ≤ d.headCode f t cl h then [loadCode 1 t (12 * cl + h) 0]
      else match d.tailOf t cl h with
        | some (t2, c2, m) => d.inLoads f fuel t2 c2 m
        | none => []).flatten

/-- Loads of the wire of a head. -/
def Dev.wireLoads (d : Dev) (f t cl h : Nat) : List Nat :=
  match d.tailOf t cl h with
  | some (t2, c2, m) => d.inLoads f routeFuel t2 c2 m
  | none => []

/-- A tile's spine driver j (R177, R236): enabled, its spine and its cell. -/
def Dev.spineDriver (d : Dev) (f t j : Nat) : Bool × Nat × Nat :=
  (d.portBits f t (1664 + 32 * j) 1 == 1, d.portBits f t (1665 + 32 * j) 6, d.portBits f t (1671 + 32 * j) 14)

/-- Loads of a cell's O (R146, R161). -/
def Dev.outLoads (d : Dev) (f t idx : Nat) : List Nat :=
  let cl := idx / 16
  let i := idx % 16
  d.xbarLoads f t cl (16 + i)
    ++ ((d.headsOn f t cl true i).map fun h =>
        if 8 ≤ d.headCode f t cl h then [loadCode 1 t (12 * cl + h) 0] else d.wireLoads f t cl h).flatten
    ++ (List.range 4).filterMap fun j =>
        let (en, _, c) := d.spineDriver f t j
        if en && c == idx then some (loadCode 2 t j 0) else none

/-- Loads of a spine: every tap in the ensemble that selects it (R176). -/
def Dev.spineLoads (d : Dev) (f a n : Nat) : List Nat :=
  match KMap.find d.ensembles a with
  | none => []
  | some e =>
    let m := n / 16
    ((e.where a).map fun t => ((List.range 1024).map fun cl =>
      if d.tapCode f t cl m == n % 16 then d.inLoads f routeFuel t cl (12 + m) else []).flatten).flatten

/-- Loads of a source in a fret. -/
def Dev.loads (d : Dev) (f : Nat) : Wire → List Nat
  | .out t idx => d.outLoads f t idx
  | .reg t cl h => d.wireLoads f t cl h
  | .spine a n => d.spineLoads f a n
  | .dead => []

/-! Tokens (R146, R159). -/

/-- The key of a token record: kind 0 a Y not yet complete or captured, 1 acknowledges of a Q, 2 a CO, 3 a token register,
4 a spine, 5 what an interface offers on a port cell's O, 6 a CO issued ahead of its operation. -/
def tokKey (kind t idx : Nat) : Nat := (kind * 256 + t) * 16384 + idx

/-- A token record. -/
def Dev.tok (d : Dev) (k : Nat) : Option Tok := KMap.find d.toks k

/-- Set or remove a token record. -/
def Dev.setTok (d : Dev) (k : Nat) (x : Tok) : Dev := { d with toks := KMap.put d.toks k x }
def Dev.delTok (d : Dev) (k : Nat) : Dev := { d with toks := KMap.del d.toks k }

/-- O carries Q (R144). -/
def oselQ (w : Nat) : Bool := w.testBit 14

/-- The hold element of a cell in a fret (R147, R148). -/
def Dev.hold (d : Dev) (f t idx : Nat) : Hold :=
  let w := d.cellWord f t idx
  KMap.get d.holds (16384 * (8 * t + f) + idx) ⟨w.testBit 15, w.testBit 16⟩

/-- Set it. -/
def Dev.setHold (d : Dev) (f t idx : Nat) (h : Hold) : Dev :=
  { d with holds := KMap.put d.holds (16384 * (8 * t + f) + idx) h }

/-- The key of the record of a source's token. -/
def Dev.wireKey (d : Dev) (f : Nat) : Wire → Nat
  | .out t idx =>
    if (d.iface f t idx).1 ≠ .none then tokKey 5 t idx
    else if oselQ (d.cellWord f t idx) then tokKey 1 t idx else tokKey 0 t idx
  | .reg t cl h => tokKey 3 t (12 * cl + h)
  | .spine a n => tokKey 4 a n
  | .dead => 0


/-- The routed inputs of a cell. -/
def Dev.triggersOf (d : Dev) (f t idx : Nat) : List Nat := (List.range 6).filter (d.routed f t idx)

/-- The cell below on the chain, when one is linked (R152). -/
def Dev.cellBelow (d : Dev) (t idx : Nat) : Option (Nat × Nat) :=
  let n := idx % 512
  if n ≠ 0 then some (t, idx - 1)
  else if tileY t = 0 then none
  else if d.gateOpen t (t - 1) then some (t - 1, idx + 511) else none

/-- The cell above on the chain, when one is linked (R152). -/
def Dev.cellAbove (d : Dev) (t idx : Nat) : Option (Nat × Nat) :=
  let n := idx % 512
  if n ≠ 511 then some (t, idx + 1)
  else if tileY t = 7 then none
  else if d.gateOpen t (t + 1) then some (t + 1, idx - 511) else none

/-- MODE and CIN of a cell word (R138). -/
def cellMode (w : Nat) : Nat := bitsOf w 10 2
def cellCin (w : Nat) : Nat := bitsOf w 12 2

/-- A cell's mode, logic for a port cell (R207). -/
def Dev.modeOf (d : Dev) (f t idx : Nat) : Nat :=
  if (d.iface f t idx).1 = .none then cellMode (d.cellWord f t idx) else 0

/-- The cell below whose CO is this cell's CI (R151). -/
def Dev.chainIn (d : Dev) (f t idx : Nat) : Option (Nat × Nat) :=
  if d.modeOf f t idx ≠ 0 && cellCin (d.cellWord f t idx) == 2 then
    match d.cellBelow t idx with
    | some (t2, i2) => if d.modeOf f t2 i2 ≠ 0 then some (t2, i2) else none
    | none => none
  else none

/-- The cell above takes this cell's CO as its CI (R151); otherwise the CO is discarded or not linked. -/
def Dev.chainOut (d : Dev) (f t idx : Nat) : Bool :=
  match d.cellAbove t idx with
  | some (t2, i2) => d.modeOf f t idx ≠ 0 && d.modeOf f t2 i2 ≠ 0 && cellCin (d.cellWord f t2 i2) == 2
  | none => false

/-- A cell has no trigger (R139, R141). -/
def Dev.idleCell (d : Dev) (f t idx : Nat) : Bool := (d.triggersOf f t idx).isEmpty && (d.chainIn f t idx).isNone

/-- The value a source offers, if any. A cell with no trigger offers none (R141), though IFULL makes its hold element full (R147; log
entry 125). -/
def Dev.offers (d : Dev) (f : Nat) (w : Wire) : Option Bool :=
  match w with
  | .dead => none
  | .out t idx =>
    if (d.iface f t idx).1 = .none && oselQ (d.cellWord f t idx) then
      let h := d.hold f t idx
      if h.full && !d.idleCell f t idx then some h.val else none
    else (d.tok (d.wireKey f w)).bind fun x => x.vals.head?
  | _ => (d.tok (d.wireKey f w)).bind fun x => x.vals.head?

/-- The loads that have acknowledged a source's token. -/
def Dev.ackedBy (d : Dev) (f : Nat) (w : Wire) : List Nat :=
  match d.tok (d.wireKey f w) with
  | some x => x.acked
  | none => []

/-- The token a source offers to one of its loads, if that load has not acknowledged it. -/
def Dev.offeredTo (d : Dev) (f : Nat) (w : Wire) (load : Nat) : Option Bool :=
  if (d.ackedBy f w).contains load then none else d.offers f w

/-- The driver of a spine of an ensemble: its tile, its number and its cell (R178). -/
def Dev.driverOf (d : Dev) (f a n : Nat) : Option (Nat × Nat × Nat) :=
  (KMap.find d.ensembles a).bind fun e => (e.where a).findSome? fun t => (List.range 4).findSome? fun j =>
    let (en, s, c) := d.spineDriver f t j
    if en && s == n then some (t, j, c) else none

/-- Acknowledge a source's token for one load; when every load has, the token is complete and its source goes on (R145,
R146, R169, R176). -/
def Dev.ack (f : Nat) : (fuel : Nat) → Dev → Wire → Nat → Dev
  | 0, d, _, _ => d
  | fuel + 1, d, w, load =>
    let k := d.wireKey f w
    let acked := load :: d.ackedBy f w
    let vals := match d.tok k with | some x => x.vals | none => []
    let d := d.setTok k ⟨vals, acked⟩
    if (d.loads f w).all acked.contains then
      match w with
      | .dead => d
      | .reg .. => d.delTok k
      | .spine a n =>
        let d := d.delTok k
        match d.driverOf f a n with
        | some (t, j, c) => Dev.ack f fuel d (.out t c) (loadCode 2 t j 0)
        | none => d
      | .out t idx =>
        if (d.iface f t idx).1 ≠ .none then
          if vals.length ≤ 1 then d.delTok k else d.setTok k ⟨vals.drop 1, []⟩
        else if oselQ (d.cellWord f t idx) then d
        else
          let d := d.delTok k
          let d := match d.chainIn f t idx with
            | some (t2, i2) => d.delTok (tokKey 2 t2 i2)
            | none => d
          (d.triggersOf f t idx).foldl (fun d p => Dev.ack f fuel d (d.pinSource f t idx p) (loadCode 0 t idx p)) d
    else d

/-- Offer a value on a source: with no load it is complete at once (R168, R208). -/
def Dev.offer (d : Dev) (f : Nat) (w : Wire) (v : Bool) : Dev :=
  if (d.loads f w).isEmpty then d
  else
    let k := d.wireKey f w
    match d.tok k with
    | some x => d.setTok k { x with vals := x.vals ++ [v] }
    | none => d.setTok k ⟨[v], []⟩

/-- Consume the tokens of a cell's triggers. -/
def Dev.consume (d : Dev) (f t idx : Nat) : Dev :=
  let d := match d.chainIn f t idx with
    | some (t2, i2) => d.delTok (tokKey 2 t2 i2)
    | none => d
  (d.triggersOf f t idx).foldl (fun d p => Dev.ack f routeFuel d (d.pinSource f t idx p) (loadCode 0 t idx p)) d

/-! When the fabric of a tile runs. -/

/-- The phase of a tile's ensemble: 1 running, 2 quiescing; otherwise the tile's fabric does nothing. -/
def Dev.phaseOf (d : Dev) (t : Nat) : Nat :=
  match d.ensembleOf t with
  | some (_, e) => e.phase
  | none => 0

/-- The fabric operates (R342): from DONE on, outside a warm reset, the held state and Rest. -/
def Dev.fabricOn (d : Dev) : Bool :=
  d.on CFG_STAT_DONE && decide (7 ≤ d.rd RESET_STAT_PHASE ∧ d.rd RESET_STAT_PHASE ≤ 9) && !d.held && decide (d.rd CLK_REST_STATE < 2)

/-- The fabric of a tile runs: its die is not gated nor in reset, its ensemble runs or quiesces (R194, R504, R552). -/
def Dev.live (d : Dev) (t : Nat) : Bool :=
  d.fabricOn && !d.dieResets.contains (if t < 128 then 1 else 3) && d.gateServes (if t < 128 then 11 else 12) && (d.phaseOf t == 1 || d.phaseOf t == 2)

/-- The die of a tile is metered and the tile's ensemble paces by it (R252, R254). -/
def Dev.metered (d : Dev) (t : Nat) : Bool := d.meter.testBit (t / 128) && d.phaseOf t == 1

/-! Cell operations (R139 to R154). -/

/-- A value of an input or a constant (R136): TIE 0, 1, routed, complement. -/
def tied (tie : Nat) (v : Bool) : Bool :=
  match tie with | 0 => false | 1 => true | 2 => v | _ => !v

/-- M0, M1 and X of a cell (R137) from its word and its six inputs. -/
def cellTree (w : Nat) (inp : Nat → Bool) : Bool × Bool × Bool :=
  let val := fun p => tied (bitsOf w (2 * p) 2) (inp p)
  let s0 := w.testBit 8 && inp 4
  let s1 := w.testBit 9 && inp 5
  let m0 := if s0 then val 1 else val 0
  let m1 := if s0 then val 3 else val 2
  (m0, m1, if s1 then m1 else m0)

/-- Y and CO of a cell (R150); CO means nothing in logic mode. -/
def cellOut (mode : Nat) (m0 m1 x ci : Bool) : Bool × Bool :=
  let carry := if m0 then ci else m1
  match mode with
  | 0 => (x, false)
  | 1 => (m0 != ci, carry)
  | 2 => (x != ci, x != ci)
  | _ => (carry, carry)

/-- A dual-rail fault seen by a load (R160): an Ochre event that names the tile and the cluster; it counts for the tile. -/
def Dev.dualRail (d : Dev) (t cl : Nat) : Dev :=
  d.raiseCounted { cls := .ochre, flag := ERR_STAT_DUALRAIL, ukind := 1, uid := t, detail := cl } .tile t

/-- The kernel a tile shows produces undefined values (R147, R196). -/
def Dev.undefined (d : Dev) (t : Nat) : Bool :=
  match d.shownKernel t with
  | some (h, _) => (KMap.find d.undef h).isSome
  | none => false

/-- A late capture on a metered die (R253). -/
def Dev.lateCapture (d : Dev) (t : Nat) : Dev :=
  let f := if t < 128 then CFG_METER_STAT_LATE_A else CFG_METER_STAT_LATE_B
  let first := d.rd f == 0
  let d := d.incSat f
  if first then d.report { cls := .slate, flag := f } else d

/-- A hold element that is empty captures the Y token that waits for it, and its cell acknowledges its triggers (R144). -/
def Dev.captureY (d : Dev) (f t idx : Nat) : Dev :=
  match (d.tok (tokKey 0 t idx)).bind fun x => x.vals.head? with
  | some y =>
    if oselQ (d.cellWord f t idx) && !(d.hold f t idx).full then
      ((d.setHold f t idx ⟨true, y⟩).delTok (tokKey 0 t idx)).consume f t idx
    else d
  | none => d

/-- A Y token meets the hold element or its loads (R144, R145): one that finds H full waits, and on a metered die every one waits for an
edge (R252); late marks one that completed after an edge (R253). -/
def Dev.placeY (d : Dev) (f t idx : Nat) (y late : Bool) : Dev :=
  if oselQ (d.cellWord f t idx) then
    let d := d.setTok (tokKey 0 t idx) ⟨[y], if late then [0] else []⟩
    if d.metered t then d else d.captureY f t idx
  else if (d.outLoads f t idx).isEmpty then d.consume f t idx
  else d.setTok (tokKey 0 t idx) ⟨[y], []⟩

/-- Input 5, a routed S1, is a cell's CI (R139). -/
def s1Chain (w : Nat) : Bool := cellMode w ≠ 0 && cellCin w == 3 && w.testBit 9

/-- What an operation has found on a cell's inputs: their values, and which of them it found with both rails high (R160). An operation whose
CO went ahead of its CI has kept them. -/
def Dev.cellInputs (d : Dev) (f t idx faults : Nat) : Option (Nat → Bool) × Dev :=
  let w := d.cellWord f t idx
  let seen := fun p => d.offeredTo f (d.pinSource f t idx p) (loadCode 0 t idx p)
  let kept := d.tok (tokKey 6 t idx)
  let need := (d.triggersOf f t idx).filter fun p => !(s1Chain w && p == 5)
  if need.any fun p => (seen p).isNone then (none, d)
  else
    let fresh := (d.triggersOf f t idx).filter fun p => (seen p).isSome && (kept.isNone || !need.contains p)
    let bad := fresh.filter fun p => faults.testBit p
    let word := d.peekWord.toNat
    let d := bad.foldl (fun d _ => d.dualRail t (idx / 16)) (if bad.isEmpty then d else d.burn)
    (some fun p => if bad.contains p then word.testBit p
      else match kept with
        | some x => if need.contains p then x.vals.getD p false else (seen p).getD false
        | none => (seen p).getD false, d)

/-- The CI an operation takes, once it is there (R139, R151). -/
def Dev.cellCi (d : Dev) (f t idx : Nat) (inp : Nat → Bool) : Option Bool :=
  let w := d.cellWord f t idx
  match d.chainIn f t idx with
  | some (t2, i2) => (d.tok (tokKey 2 t2 i2)).bind fun k => k.vals.head?
  | none => match cellCin w with
    | 1 => some true
    | 3 =>
      if w.testBit 9 then (if (d.offeredTo f (d.pinSource f t idx 5) (loadCode 0 t idx 5)).isSome then some (inp 5) else none)
      else some false
    | _ => some false

/-- One operation of a cell, or the CO it may issue ahead of its CI (R139, R150, R154). Inputs whose bit of faults is 1 are
found with both rails high (R160). An operation begins whatever its hold element holds: only its Y waits (R144). -/
def Dev.cellOperation (d : Dev) (t idx : Nat) (faults : Nat) (late : Bool) : Dev :=
  let f := d.shown t
  if !d.live t || (d.iface f t idx).1 ≠ .none || d.idleCell f t idx || (d.tok (tokKey 0 t idx)).isSome then d
  else
    let w := d.cellWord f t idx
    match d.cellInputs f t idx faults with
    | (none, _) => d
    | (some inp, d1) =>
      let (m0, m1, x) := cellTree w inp
      let mode := cellMode w
      let linked := d.chainOut f t idx
      let coFree := !linked || (d.tok (tokKey 2 t idx)).isNone
      let early := (d.tok (tokKey 6 t idx)).isSome
      match d.cellCi f t idx inp with
      | none =>
        if (mode == 1 || mode == 3) && !m0 && !early && coFree then
          let (co, d1) := if d1.undefined t then (d1.peekWord.getLsbD 0, d1.burn) else (m1, d1)
          let d1 := d1.setTok (tokKey 6 t idx) ⟨(List.range 6).map inp, []⟩
          if linked then d1.setTok (tokKey 2 t idx) ⟨[co], []⟩ else d1
        else d
      | some ci =>
        if !early && !coFree then d
        else
          let (y, co) := cellOut mode m0 m1 x ci
          let (y, co, d1) := if d1.undefined t then (d1.peekWord.getLsbD 0, d1.peekWord.getLsbD 1, d1.burn) else (y, co, d1)
          let d1 := if early then d1.delTok (tokKey 6 t idx)
            else if linked then d1.setTok (tokKey 2 t idx) ⟨[co], []⟩ else d1
          d1.placeY f t idx y late

/-- HOLD_RELEASE (R144): H empties when every load of O has acknowledged its Q token, and captures the Y that waits; on a metered die that
Y waits for an edge. A ring whose hold elements are all full never comes to this (R142; log entry 126). -/
def Dev.holdRelease (d : Dev) (t idx : Nat) : Dev :=
  let f := d.shown t
  let w := d.cellWord f t idx
  if d.live t && (d.iface f t idx).1 = .none && oselQ w && (d.hold f t idx).full && !d.idleCell f t idx
      && (d.outLoads f t idx).all (d.ackedBy f (.out t idx)).contains then
    let d := (d.setHold f t idx ⟨false, (d.hold f t idx).val⟩).delTok (tokKey 1 t idx)
    if d.metered t then d else d.captureY f t idx
  else d

/-- Y tokens that wait at empty hold elements of some tiles, by tile and cell. -/
def Dev.waitingYs (d : Dev) (here : Nat → Bool) : List (Nat × Nat) :=
  d.toks.filterMap fun (k, _) =>
    let t := k / 16384 % 256
    let idx := k % 16384
    if k / 16384 / 256 == 0 && here t && oselQ (d.cellWord (d.shown t) t idx) && !(d.hold (d.shown t) t idx).full then some (t, idx) else none

/-- An ensemble that begins to quiesce runs free (R254): the Y tokens that waited for an edge are captured. -/
def Dev.runFree (d : Dev) (ts : List Nat) : Dev :=
  (d.waitingYs ts.contains).foldl (fun d (t, idx) => d.captureY (d.shown t) t idx) d

/-- A token register takes the token its head offers (R169). -/
def Dev.captureReg (d : Dev) (f t cl h : Nat) (fault : Bool) : Dev :=
  let code := d.headCode f t cl h
  let src := d.regSource f t cl h
  let load := loadCode 1 t (12 * cl + h) 0
  if decide (8 < code) && (d.tok (tokKey 3 t (12 * cl + h))).isNone then
    match d.offeredTo f src load with
    | none => d
    | some v =>
      let (v, d) := if fault then ((d.peekWord).getLsbD 0, d.burn.dualRail t cl) else (v, d)
      let d := if (d.wireLoads f t cl h).isEmpty then d else d.setTok (tokKey 3 t (12 * cl + h)) ⟨[v], []⟩
      Dev.ack f routeFuel d src load
  else d

/-- TOKEN_REGISTER_CAPTURE (R169): on a metered die only at the clock's edges (R252). -/
def Dev.tokenRegisterCapture (d : Dev) (t cl h : Nat) (fault : Bool) : Dev :=
  if d.live t && !d.metered t then d.captureReg (d.shown t) t cl h fault else d

/-- SPINE_TOKEN (R176, R177): a spine driver places its cell's token onto its spine; with fault it found both rails high (R160). On SP32
the token goes to the fret controller; during a quiesce it is acknowledged and discarded (R194). -/
def Dev.spineToken (d : Dev) (t j : Nat) (fault : Bool) : Dev :=
  let f := d.shown t
  let (en, s, c) := d.spineDriver f t j
  let load := loadCode 2 t j 0
  if !d.live t || !en || s == 0 || s == 16 || s == 48 then d
  else match d.ensembleOf t, d.offeredTo f (.out t c) load with
    | some (a, e), some v =>
      if (d.tok (tokKey 4 a s)).isSome then d
      else
        let (v, d) := if fault then (d.peekWord.getLsbD 0, d.burn.dualRail t (c / 16)) else (v, d)
        if s == 32 then
          if e.phase == 1 then d.setTok (tokKey 4 a s) ⟨[v], []⟩ else Dev.ack f routeFuel d (.out t c) load
        else if (d.spineLoads f a s).isEmpty then Dev.ack f routeFuel d (.out t c) load
        else d.setTok (tokKey 4 a s) ⟨[v], []⟩
    | _, _ => d

/-- The SP32 token is taken by the fret controller (R203): its driver's cell is acknowledged. -/
def Dev.takeRequest (d : Dev) (a : Nat) : Dev :=
  let f := d.shown a
  let d := d.delTok (tokKey 4 a 32)
  match d.driverOf f a 32 with
  | some (t, j, c) => Dev.ack f routeFuel d (.out t c) (loadCode 2 t j 0)
  | none => d

/-- The tile whose element offers on a wire; none: a spine. -/
def Wire.tile : Wire → Option Nat
  | .out t _ => some t
  | .reg t _ _ => some t
  | _ => none

/-- The loads in a tile's cells and token registers that a token from elsewhere in the ensemble stands at, with its wire. -/
def Dev.foreignLoads (d : Dev) (t : Nat) : List (Wire × Nat) :=
  let f := d.shown t
  ((d.frames.filter fun x => x.1 / 8192 == f && x.1 / 32 % 256 == t).map fun (a, _) =>
    ((List.range 32).map fun v =>
      let cl := 32 * (a % 32) + v
      let pins := ((List.range 16).map fun i => ((d.triggersOf f t (16 * cl + i)).map fun p =>
        (d.pinSource f t (16 * cl + i) p, loadCode 0 t (16 * cl + i) p))).flatten
      let regs := (List.range 12).filterMap fun h =>
        if decide (8 < d.headCode f t cl h) then some (d.regSource f t cl h, loadCode 1 t (12 * cl + h) 0) else none
      (pins ++ regs).filter fun x => x.1.tile != some t && (d.offeredTo f x.1 x.2).isSome).flatten).flatten

/-- Tokens from other tiles of the ensemble that stand at a tile's cells are acknowledged and discarded (R147). -/
def Dev.refuseForeign (d : Dev) (t : Nat) : Dev :=
  let f := d.shown t
  let d := (d.foreignLoads t).foldl (fun d x => Dev.ack f routeFuel d x.1 x.2) d
  ((List.range 32).filterMap fun u => (d.chainIn f t (512 * u)).bind fun x => if x.1 == t then none else some x).foldl
    (fun d (t2, i2) => Dev.delTok d (tokKey 2 t2 i2)) d

/-- The token registers of a die whose tokens wait for an edge. -/
def Dev.waitingRegs (d : Dev) (die : Nat) : List (Nat × Nat × Nat) :=
  (d.frames.map fun (a, _) =>
    let t := a / 32 % 256
    if a / 8192 == d.shown t && t / 128 == die && d.live t && d.metered t then
      ((List.range 32).map fun v => (List.range 12).filterMap fun h =>
        let cl := 32 * (a % 32) + v
        if decide (8 < d.headCode (d.shown t) t cl h) && (d.tok (tokKey 3 t (12 * cl + h))).isNone
            && (d.offeredTo (d.shown t) (d.regSource (d.shown t) t cl h) (loadCode 1 t (12 * cl + h) 0)).isSome
          then some (t, cl, h) else none).flatten
    else []).flatten

/-- A token register is among some. -/
def regIn (l : List RegAt) (t cl h : Nat) : Bool := l.any fun x => x.tile.toNat == t && x.cluster.toNat == cl && x.head.val == h

/-- The captures of an edge of a metering clock (R252): on a metered die, every hold element and token register whose token waits captures
it; one whose token completed after an earlier edge counts (R253). -/
def Dev.edgeCaptures (d : Dev) (die : Nat) (late faults : List RegAt) : Dev :=
  let ys := d.waitingYs fun t => t / 128 == die && d.live t && d.metered t
  let regs := d.waitingRegs die
  let d := ys.foldl (fun d (t, idx) =>
    let d := match d.tok (tokKey 0 t idx) with
      | some x => if x.acked.isEmpty then d else d.lateCapture t
      | none => d
    d.captureY (d.shown t) t idx) d
  regs.foldl (fun d (t, cl, h) =>
    (if regIn late t cl h then d.lateCapture t else d).captureReg (d.shown t) t cl h (regIn faults t cl h)) d

/-! User I/O cells (R257, R540, R541). -/

/-- The edge tile and the cell k of it that a user I/O pin belongs to (R539). -/
def ioTile (i : Nat) : Nat × Nat := (128 * (i / 192) + 120 * (i / 96 % 2) + i % 96 / 12, i % 12)

/-- An I/O cell's FIFOs. -/
def Dev.ioAt (d : Dev) (i : Nat) : IoSt := KMap.get d.io i {}

/-- Change them. -/
def Dev.updIo (d : Dev) (i : Nat) (f : IoSt → IoSt) : Dev := { d with io := KMap.put d.io i (f (d.ioAt i)) }

/-- The token waiting for a pin of an I/O cell in the shown fret, taken (R540). -/
def Dev.takeIo (d : Dev) (i pin : Nat) : Option Bool × Dev :=
  let (t, k) := ioTile i
  let f := d.shown t
  let c := portCell .control (8 * k + pin)
  if d.portBits f t 1536 2 == 0 || !d.ioPin t (8 * k + pin) then (none, d)
  else
    let w := d.pinSource f t c 3
    let load := loadCode 0 t c 3
    match d.offeredTo f w load with
    | some v => (some v, Dev.ack f routeFuel d w load)
    | none => (none, d)

/-- Offer the oldest value of an input FIFO on its wire, when the wire is free. -/
def Dev.giveIo (d : Dev) (i : Nat) (second : Bool) : Dev :=
  let (t, k) := ioTile i
  let f := d.shown t
  let c := portCell .control (65 + 2 * k + b2n second)
  let x := d.ioAt i
  match if second then x.rx1 else x.rx0 with
  | [] => d
  | v :: rest =>
    if (d.tok (d.wireKey f (.out t c))).isSome then d
    else Dev.offer (d.updIo i fun x => if second then { x with rx1 := rest } else { x with rx0 := rest }) f (.out t c) v

/-- Values of an input path between its register and the fabric: the FIFO's and the one on the wire. -/
def Dev.rxHeld (d : Dev) (i : Nat) (second : Bool) : Nat :=
  let (t, k) := ioTile i
  let x := d.ioAt i
  (if second then x.rx1 else x.rx0).length
    + b2n (d.tok (d.wireKey (d.shown t) (.out t (portCell .control (65 + 2 * k + b2n second))))).isSome

/-- A user I/O cell is served: its tile's edge I/O strings are not retired (R18). -/
def Dev.ioServed (d : Dev) (i : Nat) : Bool := !d.isRetired .edgeIo (ioTile i).1

/-- A cell's output FIFOs take what the fabric offers while they have room, and its input FIFOs offer their oldest values. -/
def Dev.pumpCell (d : Dev) (i : Nat) : Dev :=
  let d := if decide ((d.ioAt i).tx0.length < 4) then
      (match d.takeIo i 0 with | (some v, d) => d.updIo i fun x => { x with tx0 := x.tx0 ++ [v] } | (none, d) => d)
    else d
  let d := if decide ((d.ioAt i).tx1.length < 4) then
      (match d.takeIo i 1 with | (some v, d) => d.updIo i fun x => { x with tx1 := x.tx1 ++ [v] } | (none, d) => d)
    else d
  let d := if decide ((d.ioAt i).oe.length < 4) then
      (match d.takeIo i 2 with | (some v, d) => d.updIo i fun x => { x with oe := x.oe ++ [v] } | (none, d) => d)
    else d
  (d.giveIo i false).giveIo i true

/-- Every enabled cell. -/
def Dev.pumpIo (d : Dev) : Dev :=
  if d.fabricOn then ((List.range 384).filter fun i => d.on (IOCELL_EN i) && d.ioServed i).foldl Dev.pumpCell d else d

/-! Meanings. -/

/-- CELL_OPERATION (R139). -/
def execCellOperation (tile : TileId) (cell : BitVec 14) (faults : BitVec 6) (late : Bool) (s : State) : Result :=
  s.next (s.dev.cellOperation tile.toNat cell.toNat faults.toNat late).pumpIo

/-- HOLD_RELEASE (R144). -/
def execHoldRelease (tile : TileId) (cell : BitVec 14) (s : State) : Result :=
  s.next (s.dev.holdRelease tile.toNat cell.toNat).pumpIo

/-- TOKEN_REGISTER_CAPTURE (R169). -/
def execTokenRegisterCapture (tile : TileId) (cluster : BitVec 10) (head : Fin 12) (fault : Bool) (s : State) : Result :=
  s.next (s.dev.tokenRegisterCapture tile.toNat cluster.toNat head.val fault).pumpIo

/-- SPINE_TOKEN (R177). -/
def execSpineToken (tile : TileId) (driver : DriverSense) (s : State) : Result :=
  s.next (s.dev.spineToken tile.toNat driver.driver.val driver.fault).pumpIo

end Sys2Proof.Machine
end

