-- ==== Sys2Proof/Machine/Luthier.lean ====
section
/-!
DEFINITION. Luthier (chapter 04): candidate places of kernels and shared ensembles, the placement record in Replay mode,
plans and moves of buffer rows, kernel migration, and the speed of tiles. Candidates are weighed as R119 says; the temperatures of
the dies come with the command (log entry 9).
-/
namespace Sys2Proof.Machine

/-! Ensembles. -/

/-- A kernel's start handshake (R94, R235): one START token of value 1. Its values are defined again unless its state is
not known (R147, R196). -/
def Dev.startKernel (d : Dev) (h : Nat) : Dev :=
  match d.kernel h with
  | some k => match k.run with
    | some r =>
      if r.begun then d
      else
        let d := d.updKernel h fun k => { k with run := some { r with begun := true } }
        let d := if KMap.get d.undef h 0 == 1 then { d with undef := KMap.del d.undef h } else d
        if d.portBits k.fret k.anchor 1537 1 == 1 then d.offer k.fret (.out k.anchor (portCell .control 64)) true else d
    | none => d
  | none => d

/-- A token record belongs to a tile: a spine's to the tile of its driver. -/
def Dev.tokenOf (d : Dev) (k t : Nat) : Bool :=
  let a := k / 16384 % 256
  if k / 16384 / 256 == 4 then (match d.driverOf (d.shown a) a (k % 16384) with | some (u, _) => u == t | none => false) else a == t

/-- Tile reset of a physical tile (R147): tokens that come from other tiles are acknowledged and discarded, every token in the tile's cells is
discarded, the shown fret's hold elements take IFULL and IVAL, and the values of the kernel shown are undefined. -/
def Dev.tileReset (d : Dev) (t : Nat) : Dev :=
  let tf := 8 * t + d.shown t
  let d := d.refuseForeign t
  let d := { d with
    toks := d.toks.filter fun x => !d.tokenOf x.1 t
    holds := d.holds.filter fun x => decide (x.1 / 16384 ≠ tf) }
  match (d.ensembleOf t).bind fun (a, _) => d.ensKernel a with
  | some (h, k) =>
    { d with undef := KMap.put d.undef h (if KMap.get d.undef h 0 == 2 && k.where.length != 1 then 2 else 1) }
  | none => d

/-- An ensemble resumes: tile resets that waited for it take place (R553), and the kernel it shows is started if its KRUN
waited for this (R94). -/
def Dev.resume (d : Dev) (a : Nat) : Dev :=
  let d := d.updEns a fun e => { e with phase := 1, cur := none }
  let ts := match KMap.find d.ensembles a with
    | some e => e.where a
    | none => []
  let mine := d.tileResets.filter fun l => ts.contains (d.phys l)
  let d := { d with tileResets := d.tileResets.filter fun l => !mine.contains l }
  let d := mine.foldl (fun d l => Dev.tileReset d (d.phys l)) d
  match d.ensKernel a with
  | some (h, _) => d.startKernel h
  | none => d

/-- An ensemble holds a kernel that is never shared in time: SOLE, or one that names user I/O cells (R114, R192). -/
def Dev.unshared (d : Dev) (a : Nat) (e : Ensemble) : Bool := (d.members a e).any fun (_, k) => k.sole || k.fixed

/-! Candidates (R111 to R114, R119). -/

/-- A shape can lie with its anchor at a tile (R111, R112, R255): only names the one anchor allowed, if any. -/
def Dev.shapeFits (d : Dev) (k : Kernel) (only : Option Nat) (a : Nat) : Bool :=
  (match only with | some x => x == a | none => true) && d.rectWorks a k.w k.h k.both k.tiles && k.dieFits a && d.meterFits k a

/-- A new ensemble can stand at a tile, with the kernel in a fret that is not active (R93). -/
def Dev.newFits (d : Dev) (k : Kernel) (only : Option Nat) (a f : Nat) : Bool :=
  decide (f < 8) && d.shapeFits k only a && d.rectFree a k.w k.h k.both && d.shown a != f

/-- The block memories a kernel uses in a physical tile (R328). -/
def Kernel.memsAt (k : Kernel) (t : Nat) : Nat :=
  match k.where.idxOf? t with
  | some i => match k.tiles[i]? with
    | some r => r.mems.toNat
    | none => 0
  | none => 0

/-- A kernel can share an ensemble in time, its anchor at a tile and in a fret (R113, R114, R192). -/
def Dev.shareFits (d : Dev) (k : Kernel) (only : Option Nat) (ea : Nat) (e : Ensemble) (a f : Nat) : Bool :=
  let (ba, bw, bh, bb) := boxOver ea e k a
  let mine := e.where ea
  let held := d.heldTiles
  let here := { k with anchor := a, fret := f }
  decide (f < 8) && d.shapeFits k only a && !d.unshared ea e && (KMap.find d.migrations ea).isNone && d.shown ea != f
    && !(here.where.any d.slow)
    && rectFits ba bw bh bb
    && (rectTiles ba bw bh bb).all (fun t => mine.contains t
      || ((d.ensembleOf t).isNone && !held.contains t && !d.slow t && !d.isRetired .tile t))
    && (!bb || (rectTiles ba bw bh bb).all fun t => !d.isRetired .vertical (t % 128))
    && (d.members ea e).all fun (_, m) =>
      m.fret != f && here.where.all fun t => m.memsAt t &&& here.memsAt t == 0

/-! How a candidate is weighed (R119, R511). -/

/-- Columns of some tiles. -/
def colsOf (ts : List Nat) : List Nat := (ts.map colOfTile).eraseDups

/-- Hops from the nearest of some columns to a column, over the routes in force; 16 when none leads there (log entry 122). -/
def Dev.nearestHops (d : Dev) (cs : List Nat) (c : Nat) : Nat :=
  cs.foldl (fun m x => min m (match routeOver d.deadLinks x c with | some l => l.length | none => 16)) 16

/-- The tile of a kernel that declares a bind slot of a row port (R236). -/
def Dev.slotTile (d : Dev) (k : Kernel) (slot : Nat) : Option Nat := k.where.find? fun t => d.portBits k.fret t (1792 + 8 * slot) 2 == 2

/-- What a binding adds to the affinity term (R118, R119): the rows of a portal-bound buffer by their columns' shares, or the rows of a
row-port-bound buffer outside the port's column. -/
def Dev.bindHops (d : Dev) (k : Kernel) (a : Nat) (cols : List Nat) (slot : Nat) (b : Bind) : Nat :=
  match (if b.kind < 2 then d.buffer b.target else none) with
  | none => 0
  | some x =>
    let rs := x.rows.filterMap id
    if b.kind == 0 then
      ((List.range 64).map fun c => (rs.filter fun r => r / 8192 == c).length * d.nearestHops cols c).sum / max 1 rs.length
    else match d.slotTile k slot with
      | some t => ((rs.filter fun r => r / 8192 != colOfTile (t + a - k.anchor)).length + 63) / 64
      | none => 0

/-- The affinity term of a kernel at an anchor, its ensemble over some columns. -/
def Dev.hopTerm (d : Dev) (k : Kernel) (a : Nat) (cols : List Nat) : Nat :=
  (k.lanes.map fun x => d.nearestHops cols (bridgeOf x.2.1).1).sum + (k.binds.map fun x => d.bindHops k a cols x.1 x.2).sum

/-- The speed term of some tiles. -/
def Dev.speedTerm (d : Dev) (ts : List Nat) : Nat := (ts.map fun t => (1000 - d.rd (FABRIC_TILE_SPEED_PCT t)) / 10).sum

/-- The near-via term of some tiles: the VIA byte of each (R246). -/
def Dev.viaTerm (d : Dev) (ts : List Nat) : Nat := (ts.map d.viaByte).sum

/-- Declared power that a kernel on some tiles brings to a column, in thousandths of 0.1 W: its tiles bear equal shares (log entry 122). -/
def powerShare (power : Nat) (ts : List Nat) (c : Nat) : Nat := 1000 * power * (ts.filter fun t => colOfTile t == c).length / max 1 ts.length

/-- The power term of a kernel on some tiles (R511): what each of its columns then exceeds the budget by. -/
def Dev.powerTerm (d : Dev) (h : Nat) (k : Kernel) (ts : List Nat) : Nat :=
  ((colsOf ts).map fun c =>
    let load := (d.kernels.map fun x => if x.1 == h || x.2.released then 0 else powerShare x.2.power x.2.where c).sum + powerShare k.power ts c
    (load - 10 * d.rd GOV_CTL_COLBUD * d.rd GOV_CTL_CAP + 999) / 1000).sum

/-- The temperature term of some tiles: what the temperature of their die exceeds TEMP_LIM by in each column. -/
def Dev.tempTerm (d : Dev) (temps : List ColTemp) (ts : List Nat) : Nat :=
  (((ts.map fun t => (t / 128, colOfTile t)).eraseDups).map fun x =>
    match temps.find? fun m => b2n m.dieB == x.1 && m.col.val == x.2 with
    | some m => m.temp.toNat - d.rd PLACE_CTL_TEMP_LIM
    | none => 0).sum

/-- The cost of a kernel with its anchor at a tile, its ensemble over some tiles (R119). -/
def Dev.placeCost (d : Dev) (temps : List ColTemp) (h : Nat) (k : Kernel) (a : Nat) (ens : List Nat) : Nat :=
  let ts := rectTiles a k.w k.h k.both
  d.rd PLACE_WEIGHT_HOP * d.hopTerm k a (colsOf ens) + d.rd PLACE_WEIGHT_SPEED * d.speedTerm ts
    + d.rd PLACE_WEIGHT_VIA * d.viaTerm ts + d.rd PLACE_WEIGHT_POWER * d.powerTerm h k ts
    + d.rd PLACE_WEIGHT_TEMP * d.tempTerm temps ts

/-- The cheapest of some candidates, each a cost with an anchor, a fret and what goes with them; ties go to the lower anchor, then to the
lower fret (R119). -/
def cheapest {X : Type} (l : List (Nat × Nat × Nat × X)) : Option (Nat × Nat × X) :=
  (l.foldl (fun best x => match best with
    | none => some x
    | some b => if x.1 < b.1 || x.1 == b.1 && (x.2.1 < b.2.1 || x.2.1 == b.2.1 && x.2.2.1 < b.2.2.1) then some x else some b) none).map (·.2)

/-- The candidates of a test, at each anchor its lowest fret: a cost and a place. -/
def candidates {X : Type} (x : X) (ok : Nat → Nat → Bool) (cost : Nat → Nat) : List (Nat × Nat × Nat × X) :=
  (List.range 256).filterMap fun a => ((List.range 8).find? (ok a)).map fun f => (cost a, a, f, x)

/-- A place in a new ensemble. -/
def Dev.pickNew (d : Dev) (h : Nat) (k : Kernel) (only : Option Nat) (temps : List ColTemp) : Option (Nat × Nat) :=
  (cheapest (candidates () (d.newFits k only) fun a => d.placeCost temps h k a (rectTiles a k.w k.h k.both))).map fun x => (x.1, x.2.1)

/-- The tiles of the ensemble that sharing one makes. -/
def boxTiles (ea : Nat) (e : Ensemble) (k : Kernel) (a : Nat) : List Nat :=
  let (ba, bw, bh, bb) := boxOver ea e k a
  rectTiles ba bw bh bb

/-- A place in an ensemble shared in time: the ensemble's anchor, the kernel's anchor and its fret. -/
def Dev.pickShared (d : Dev) (h : Nat) (k : Kernel) (only : Option Nat) (temps : List ColTemp) : Option (Nat × Nat × Nat) :=
  (cheapest ((d.ensembles.map fun (ea, e) =>
    candidates ea (d.shareFits k only ea e) fun a => d.placeCost temps h k a (boxTiles ea e k a)).flatten)).map fun x => (x.2.2, x.1, x.2.1)

/-- Where a kernel goes in the modes other than Replay: a free rectangle, else, when allowed, a shared ensemble (R114). -/
def Dev.pickFree (d : Dev) (h : Nat) (k : Kernel) (only : Option Nat) (temps : List ColTemp) : Option (Option Nat × Nat × Nat) :=
  match d.pickNew h k only temps with
  | some (a, f) => some (none, a, f)
  | none =>
    if d.on PLACE_CTL_TIMESHARE && !k.sole && !k.fixed then
      (d.pickShared h k only temps).map fun (ea, a, f) => (some ea, a, f)
    else none

/-- The anchor hint of a KADMIT is honoured in Recorded and Hinted modes when the rectangle there is free and valid (R120, R121). -/
def Dev.pickHinted (d : Dev) (h : Nat) (k : Kernel) (only hint : Option Nat) (temps : List ColTemp) :
    Option (Option Nat × Nat × Nat) × Dev :=
  let mode := d.rd PLACE_CTL_MODE
  match (if mode == 1 || mode == 3 then hint else none) with
  | some t =>
    match (if only.isNone || only == some t then d.pickNew h k (some t) temps else none) with
    | some (a, f) => (some (none, a, f), d)
    | none => (d.pickFree h k only temps, d.set PLACE_STAT_HINT_MISSED)
  | none => (d.pickFree h k only temps, d)

/-! The placement record in Replay mode (R125, R573). -/

/-- What the record says of a request. -/
inductive ReplayAsk where
  | free | take (w1 w2 : Nat) | wait | none
  deriving DecidableEq, Repr

/-- Ask the record for a request's entry: not in Replay mode, matched at the pointer, not reached yet, or in no entry. -/
def Dev.replayAsk (d : Dev) (kind reason handle : Nat) : ReplayAsk :=
  if d.rd PLACE_CTL_MODE ≠ 2 then .free
  else if d.replayEnd then .none
  else match d.replayEntry with
    | none => .wait
    | some ws =>
      let w0 := (ws.getD 0 0).toNat
      if bitsOf w0 0 8 == kind && bitsOf w0 8 8 == reason && bitsOf w0 16 24 == handle && bitsOf w0 40 24 == d.occOf kind handle % 2 ^ 24
      then .take (ws.getD 1 0).toNat (ws.getD 2 0).toNat
      else .wait

/-- The pointer passes an entry (R573). -/
def Dev.passEntry (d : Dev) : Dev :=
  let d := { d.inc PLACE_REC_PTR_PTR with replayEntry := none }
  if d.rd PLACE_REC_SIZE_SIZE ≤ d.rd PLACE_REC_PTR_PTR then { d with replayEnd := true } else d

/-- The pointer passes an entry that no request takes: it counts among the earlier entries of its kind and handle (R123, R125). -/
def Dev.skipEntry (d : Dev) : Dev :=
  match d.replayEntry with
  | none => d.passEntry
  | some ws =>
    let w0 := (ws.getD 0 0).toNat
    let kind := bitsOf w0 0 8
    let h := bitsOf w0 16 24
    { d.passEntry with occ := KMap.put d.occ (2 ^ 24 * kind + h) (d.occOf kind h + 1) }

/-- A request that the record does not reproduce (R125). -/
def Dev.diverge (d : Dev) : Dev := d.set PLACE_STAT_DIVERGED

/-- PLACEMENT_RECORD_ENTRY_READ (R573): an entry in the store is read there, once its bank answers (R272, R276); one
in host memory arrives with the command. -/
def Dev.readEntry (d : Dev) (words : List Word) (o : Outc) : Dev :=
  let ptr := d.rd PLACE_REC_PTR_PTR
  if d.rd PLACE_CTL_MODE ≠ 2 || d.replayEnd || d.replayEntry.isSome then d
  else if d.rd PLACE_REC_SIZE_SIZE ≤ ptr then { d with replayEnd := true }
  else if (match addrSpace (64 * d.rd PLACE_REC_BASE_BASE + 32 * ptr) with
      | .store a => d.linked controlCol (a / 2 ^ 22) && !d.storeReady .device 0 a 32
      | _ => false) then d
  else
    let (ws, o, d) := match addrSpace (64 * d.rd PLACE_REC_BASE_BASE + 32 * ptr) with
      | .store a =>
        let (b, o2, d) := if d.linked controlCol (a / 2 ^ 22) then d.storeRead .device 0 a 32
          else ([], .busError, d.noRoute controlCol (a / 2 ^ 22) 4 a)
        ((List.range 4).map fun i => BitVec.ofNat 64 (numLE ((b.drop (8 * i)).take 8)), o2, d)
      | .host p a => if d.portUp p then (words, o, d) else (words, .busError, d.deviceFail p a)
      | _ => (words, .busError, d)
    if o ≠ .ok then { (d.diverge.raise { cls := .ochre, flag := PLACE_STAT_RECERR }) with replayEnd := true }
    else
      let w0 := (ws.getD 0 0).toNat
      if ptr == 0 then d.passEntry
      else if bitsOf w0 0 8 == 0 then { d with replayEnd := true }
      else if decide (1 ≤ bitsOf w0 8 8 ∧ bitsOf w0 8 8 ≤ 5) then
        { d.diverge with replayEntry := some ws }.skipEntry
      else { d with replayEntry := some ws }

/-- REPLAY_ENTRY_TIMEOUT (R125). -/
def Dev.entryTimeout (d : Dev) : Dev :=
  if d.rd PLACE_CTL_MODE == 2 && d.replayEntry.isSome && d.rd PLACE_CTL_TMO ≠ 0 then d.diverge.skipEntry else d

/-! Placing a kernel. -/

/-- Put a kernel at its place: a new ensemble that shows the fret of its anchor on every tile, or a shared one (R114, R189; log entry 10). One
that must grow over it does so once it is quiesced (R171); cmd is the command that waits for this. NEXT and NEXTV of tiles that join stay as
they were: the spec is silent (DESIGN CHOICE, log entry 136). -/
def Dev.settleKernel (d : Dev) (h : Nat) (k : Kernel) (ens : Option Nat) (a f : Nat) (cmd : Option (Nat × Nat)) : Dev :=
  let k := { k with anchor := a, fret := f }
  let d := match ens.bind fun ea => (KMap.find d.ensembles ea).map fun e => (ea, e) with
    | some (ea, e) =>
      if boxOver ea e k a == (ea, e.w, e.h, e.both) then d
      else if d.mayReshape e then d.reshape ea (some k)
      else d.trigger ea (.reshape h cmd)
    | none =>
      let e : Ensemble := ⟨k.w, k.h, k.both, 1, none, [], [], 0, false, none⟩
      let s := d.shown a
      let d := { d with ensembles := KMap.put d.ensembles a e }
      k.where.foldl (fun d t => Dev.showFret d t s) d
  let d := k.where.foldl (fun d t => d.wr (fretKern t f) h) d
  { d with kernels := KMap.put d.kernels h k }

/-- Every tile of a kernel belongs to its ensemble. -/
def Dev.joined (d : Dev) (h : Nat) : Bool :=
  match d.kernel h with
  | some k => match d.ensembleOf k.anchor with
    | some (a, e) => k.where.all (e.where a).contains
    | none => false
  | none => false

/-- A KADMIT whose kernel stands in its ensemble is over, with its result (R93). -/
def Dev.admitDone (d : Dev) (q seq h : Nat) : Dev :=
  match d.kernel h with
  | some k => d.fix q seq .ok (.ofNat 64 (d.logical (d.homeOf k) + 2 ^ 8 * k.fret + 2 ^ 11 * k.where.length))
  | none => d

/-! Rows of buffers (R117, R132, R574). -/

/-- Where each row of a buffer lies after a move to a column mask (R117): a row already in its column stays; lost rows stay
lost; none when a row finds no place. -/
def Dev.planAux (d : Dev) (cols : List Nat) : (i : Nat) → (used : List Nat) → List (Option Nat) → List (Option Nat) →
    Option (List (Option Nat))
  | _, _, [], acc => some acc
  | i, used, r :: rest, acc =>
    let c := cols.getD (i % cols.length) 0
    match r with
    | none => d.planAux cols (i + 1) used rest (acc ++ [none])
    | some x =>
      if x / 8192 == c && d.managed (x / 512) then d.planAux cols (i + 1) used rest (acc ++ [some x])
      else match d.nextRow used c (prevBank (acc.filterMap id) c) with
        | some y => d.planAux cols (i + 1) (y :: used) rest (acc ++ [some y])
        | none => none

/-- The plan of a move to a mask. -/
def Dev.planMove (d : Dev) (b : Buffer) (mask : Nat) : Option (List (Option Nat)) :=
  match maskList mask with
  | [] => none
  | cols => if d.rootLost then none else d.planAux cols 0 d.usedRows b.rows []

/-- Copy a store row as it is stored, check symbols and seal included (R132). -/
def Dev.copyRow (d : Dev) (r1 r2 : Nat) : Dev :=
  let d := (List.range 16).foldl (fun d k => d.setWord (16 * r2 + k) (d.wordData (16 * r1 + k)) (d.wordRes (16 * r1 + k))) d
  { d with
    sealedRows := match KMap.find d.sealedRows r1 with
      | some s => KMap.put (KMap.del d.sealedRows r1) r2 s
      | none => KMap.del d.sealedRows r2
    writeBacks := d.writeBacks.filter fun w => decide (w / 16 ≠ r1) }

/-- Move row i of a buffer to store row r2 (R132): its map entry changes, the old row is poisoned and freed. -/
def Dev.moveRow (d : Dev) (h i r2 : Nat) : Dev :=
  match d.buffer h with
  | none => d
  | some b => match b.rows.getD i none with
    | none => d
    | some r1 =>
      if r1 == r2 then d
      else
        let d := (d.copyRow r1 r2).updBuffer h fun b => { b with rows := b.rows.set i (some r2) }
        d.freeRowList [r1]

/-- The columns that hold a buffer's rows, as a mask. -/
def rowsMask (rows : List (Option Nat)) : Nat := maskOf (rows.filterMap fun r => r.map (· / 8192))

/-- Record a buffer's migration (R123, kind 6). -/
def Dev.bufDecided (d : Dev) (reason h mask : Nat) (rows : List (Option Nat)) : Dev :=
  d.decided 6 reason h mask (rowMapCrc rows + 2 ^ 32 * rows.length) 0 0

/-- The place of a row that leaves a retiring bank (R574): its own column, else the column with the most free rows. -/
def Dev.refuge (d : Dev) (b : Buffer) (r : Nat) : Option Nat :=
  let used := d.usedRows
  let c := r / 8192
  match d.nextRow used c (prevBank (b.rows.filterMap id) c) with
  | some x => some x
  | none =>
    let free := d.freeRows used
    match mostFree free 1 ((List.range 64).filter fun c => decide (0 < free c)) with
    | c2 :: _ => d.nextRow used c2 none
    | [] => none

/-- A row is lost (R574): a Crimson event names the buffer and the buffer row. -/
def Dev.loseRow (d : Dev) (h i r : Nat) : Dev :=
  let d := d.updBuffer h fun b => { b with rows := b.rows.set i none }
  (d.freeRowList [r]).report { cls := .crimson, bare := true, uid := h, detail := i }

/-- Take a row to a place once its bank is On: a bank that is Off wakes first (R271). -/
def Dev.carryRow (d : Dev) (h i r2 : Nat) : Dev :=
  if d.bankOn (r2 / 512) then d.moveRow h i r2 else d.wakeBank (r2 / 512)

/-- Drop a buffer migration whose rows all lie where it wanted them. -/
def Dev.endMove (d : Dev) (h : Nat) : Dev :=
  match KMap.find d.bufMoves h, d.buffer h with
  | some m, some b => if m.target == b.rows then { (d.updBuffer h fun b => { b with mask := m.mask }) with bufMoves := KMap.del d.bufMoves h } else d
  | some _, none => { d with bufMoves := KMap.del d.bufMoves h }
  | _, _ => d

/-- A buffer row must leave its bank (R458): the bank is retired, or has become its column's pool bank. -/
def Dev.leaving (d : Dev) (r : Nat) : Bool := d.isRetired .bank (r / 512) || d.isPool (r / 512)

/-- BUFFER_ROW_MIGRATE (R132, R574): a row that must leave its bank finds a refuge; otherwise a row of a buffer in migration goes to
its new place. -/
def Dev.bufferRowMigrate (d : Dev) (h i : Nat) : Dev :=
  if d.rootLost then d
  else match d.buffer h with
  | none => d
  | some b => match b.rows.getD i none with
    | none => d
    | some r =>
      let want := match KMap.find d.bufMoves h with
        | some m => m.target.getD i none
        | none => none
      let want := want.filter fun x => x != r && d.managed (x / 512)
      match want with
      | some x => (d.carryRow h i x).endMove h
      | none =>
        if d.leaving r then
          match d.refuge b r with
          | some x =>
            if d.bankOn (x / 512) then
              let d := match KMap.find d.bufMoves h with
                | some m => { d with bufMoves := KMap.put d.bufMoves h { m with target := m.target.set i (some x) } }
                | none => d
              let d := if d.rd PLACE_CTL_MODE == 2 then d.diverge else d
              (((d.bufDecided 2 h (rowsMask (b.rows.set i (some x))) (b.rows.set i (some x))).moveRow h i x)).endMove h
            else d.wakeBank (x / 512)
          | none => (d.loseRow h i r).endMove h
        else d.endMove h

/-! Kernel migration (R127 to R131). -/

/-- The cost of a buffer whose rows lie at some places: the affinity of the kernels it is bound to (R119). -/
def Dev.bufferCost (d : Dev) (h : Nat) (rows : List (Option Nat)) : Nat :=
  let d2 := d.updBuffer h fun b => { b with rows := rows }
  d.rd PLACE_WEIGHT_HOP * (d.kernels.map fun x => if x.2.released then 0 else
    (x.2.binds.map fun (slot, b) => if b.kind < 2 && b.target == h then d2.bindHops x.2 x.2.anchor (colsOf x.2.where) slot b else 0).sum).sum

/-- The cost of an ensemble with its anchor at a tile: that of the kernels it takes along (R119). -/
def Dev.ensCost (d : Dev) (temps : List ColTemp) (src : Nat) (e : Ensemble) (dst : Nat) : Nat :=
  ((d.members src e).map fun (h, k) => d.placeCost temps h k (dst + k.anchor - src) (rectTiles dst e.w e.h e.both)).sum

/-- The place an ensemble migrates to: the cheapest it can move to (R119, R127). -/
def Dev.bestMove (d : Dev) (temps : List ColTemp) (src : Nat) (e : Ensemble) : Option Nat :=
  (cheapest (candidates () (fun a f => f == 0 && d.canMove src e a) fun a => d.ensCost temps src e a)).map (·.1)

/-- The cause of a migration stands (R119, R127, R133): a slow tile under a kernel, power or heat in its columns, or affinity. -/
def Dev.hasCause (d : Dev) (temps : List ColTemp) (src : Nat) (e : Ensemble) (dst reason : Nat) : Bool :=
  (d.members src e).any fun (h, k) =>
    match reason with
    | 1 => k.where.any d.slow
    | 3 => decide (0 < d.powerTerm h k k.where)
    | 4 => decide (0 < d.tempTerm temps k.where)
    | 5 => decide (d.hopTerm k (dst + k.anchor - src) (colsOf (rectTiles dst e.w e.h e.both)) < d.hopTerm k k.anchor (colsOf (e.where src)))
    | _ => false

/-- A tile of an ensemble lost a unit that a member needs (R127). -/
def Dev.crippled (d : Dev) (a : Nat) (e : Ensemble) : Bool :=
  (d.members a e).any fun (_, k) => !(d.rectWorks k.anchor k.w k.h k.both k.tiles)

/-- Whether Luthier may migrate for a reason now (R125, R127). -/
def Dev.mayMigrate (d : Dev) (reason : Nat) (forced : Bool) : Bool :=
  if reason == 2 then forced
  else (reason == 1 || reason == 3 || reason == 4 || reason == 5) && d.on PLACE_CTL_AUTOMIG && d.rd PLACE_CTL_MODE != 2

/-- Luthier's own migrations need a fall of the cost by at least HYST (R127). -/
def Dev.worthIt (d : Dev) (before after : Nat) : Bool := decide (after + d.rd PLACE_CTL_HYST ≤ before)

/-- MIGRATION_DECIDE (R127): the ensemble of a kernel begins to move to the cheapest place, a migration whose target was retired takes a
new one (R131), or a buffer begins to move. -/
def Dev.migrationDecide (d : Dev) (what : MigTarget) (reason : Nat) : Dev :=
  match what with
  | .kernel kern anchor temps => match d.kernel kern.toNat with
    | none => d
    | some k =>
      let a := d.homeOf k
      match KMap.find d.ensembles a with
      | none => d
      | some e =>
        let dst := anchor.toNat
        if k.released || d.bestMove temps a e != some dst then d
        else match KMap.find d.migrations a with
          | some m => if m.dst == 256 then { d with migrations := KMap.put d.migrations a { m with dst := dst } } else d
          | none =>
            if !d.mayMigrate reason (d.crippled a e) then d
            else if reason != 2 && !(d.hasCause temps a e dst reason && d.worthIt (d.ensCost temps a e a) (d.ensCost temps a e dst)) then d
            else
              let d := if d.rd PLACE_CTL_MODE == 2 then d.diverge else d
              let d := { d with migrations := KMap.put d.migrations a ⟨kern.toNat, a, dst, reason, 0, [], []⟩ }
              let dies := if e.both then 3 else if dst < 128 then 1 else 2
              (d.trigger a .migrate).decided 5 reason kern.toNat (placeWord dst (e.w - 1) (e.h - 1) dies k.fret) 0 dst k.fret
  | .buffer buf mask => match d.buffer buf.toNat with
    | none => d
    | some b =>
      if b.pin || (KMap.find d.bufMoves buf.toNat).isSome || !d.mayMigrate reason false || reason == 1 then d
      else match d.planMove b mask.toNat with
        | none => d
        | some rows =>
          if rows == b.rows || !d.worthIt (d.bufferCost buf.toNat b.rows) (d.bufferCost buf.toNat rows) then d
          else
            let d := { d with bufMoves := KMap.put d.bufMoves buf.toNat ⟨mask.toNat, reason, rows⟩ }
            (d.wakeRows (rows.filterMap id)).bufDecided reason buf.toNat mask.toNat rows

/-- The keys of a map that a test maps to new ones; the others stay. -/
def moveKeys {V : Type} (m : KMap V) (f : Nat → Option Nat) : KMap V :=
  m.foldl (fun acc (k, v) => match f k with | some k2 => KMap.put acc k2 v | none => acc) m

/-- Copy the planes of tile t to tile u: all eight frets, configuration and state (R127 step 3). -/
def Dev.copyPlanes (d : Dev) (t u : Nat) : Dev :=
  { d with
    frames := moveKeys d.frames fun a => if a / 32 % 256 = t then some (a + 32 * u - 32 * t) else none
    holds := moveKeys d.holds fun x => if x / 131072 = t then some (x + 131072 * u - 131072 * t) else none
    params := moveKeys d.params fun x => if x / 128 = t then some (x + 128 * u - 128 * t) else none
    paramHeld := d.paramHeld ++ d.paramHeld.filterMap fun x => if x / 128 = t then some (x + 128 * u - 128 * t) else none
    parks := moveKeys d.parks fun x => if x / 8 = t then some (x + 8 * u - 8 * t) else none
    rowRegs := moveKeys d.rowRegs fun x => if x / 8 = t then some (x + 8 * u - 8 * t) else none
    badFrames := d.badFrames ++ d.badFrames.filterMap fun a => if a / 32 % 256 = t then some (a + 32 * u - 32 * t) else none
    planeCrcs := moveKeys d.planeCrcs fun x => if x / 8 = t then some (x + 8 * u - 8 * t) else none
    badPlanes := d.badPlanes ++ d.badPlanes.filterMap fun x => if x / 8 = t then some (x + 8 * u - 8 * t) else none }

/-- Copy the block memories of tile t to tile u, raw (R218). -/
def Dev.copyMems (d : Dev) (t u : Nat) : Dev :=
  { d with bmem := moveKeys (d.bmem.filter fun x => decide (x.1 / 16384 ≠ u)) fun x =>
      if x / 16384 = t then some (x + 16384 * u - 16384 * t) else none }

/-- Forget everything a tile holds in its frets and block memories (R184, R218). -/
def Dev.wipeTile (d : Dev) (t : Nat) : Dev :=
  let d := (List.range 8).foldl (fun d f => (d.clearFret t f).clr (fretKern t f)) d
  { d with
    bmem := d.bmem.filter fun x => decide (x.1 / 16384 ≠ t)
    bmemBack := d.bmemBack.filter fun x => decide (x / 16384 ≠ t) }

/-- A migration by its source anchor, with its ensemble; none goes on while the placement map's root is lost (R474). -/
def Dev.migration (d : Dev) (a : Nat) : Option (Migration × Ensemble) :=
  if d.rootLost then none
  else (KMap.find d.migrations a).bind fun m => (KMap.find d.ensembles a).map fun e => (m, e)

/-- MIGRATION_PLANE_COPY_DONE (R127 step 3): the parked planes of a tile now stand in the target tile. -/
def Dev.planeCopyDone (d : Dev) (a t : Nat) : Dev :=
  match d.migration a with
  | some (m, e) =>
    if m.stage == 1 && decide (m.dst < 256) && (e.where a).contains t && !m.planes.contains t then
      { d.copyPlanes t (t + m.dst - a) with migrations := KMap.put d.migrations a { m with planes := m.planes ++ [t] } }
    else d
  | none => d

/-- MIGRATION_BMEM_COPY_DONE (R127 step 4). -/
def Dev.bmemCopyDone (d : Dev) (a t : Nat) : Dev :=
  match d.migration a with
  | some (m, e) =>
    if m.stage == 1 && decide (m.dst < 256) && (e.where a).contains t && m.planes.contains t && !m.mems.contains t then
      { d.copyMems t (t + m.dst - a) with migrations := KMap.put d.migrations a { m with mems := m.mems ++ [t] } }
    else d
  | none => d

/-- Swap the physical tiles of the logical identifiers mapped to P and Q (R129). -/
def Dev.swapRemap (d : Dev) (p q : Nat) : Dev :=
  let lp := d.logical p
  let lq := d.logical q
  if p == q then d else { d with remap := KMap.put (KMap.put d.remap lp q) lq p }

/-- What a tile's own registers say of its kernels moves with them; the portals' packets follow the logical tiles, which change
places (R129, R130). -/
def Dev.handTile (d : Dev) (t u : Nat) : Dev :=
  let d := d.showFret u (d.shown t)
  let d := (List.range 8).foldl (fun d f => d.wr (fretKern u f) (d.rd (fretKern t f))) d
  let swap := fun (m : KMap PortalSt) => match KMap.find d.portals t, KMap.find d.portals u with
    | some x, some y => KMap.put (KMap.put m u x) t y
    | some x, none => KMap.put (KMap.del m t) u x
    | none, some y => KMap.put (KMap.del m u) t y
    | none, none => m
  let d := { d with
    portals := swap d.portals
    rowReqs := d.rowReqs.foldl (fun (m : KMap RowReq) (x : Nat × RowReq) => if x.1 / 8 = t then KMap.put m (x.1 % 8 + 8 * u) x.2 else m)
      (d.rowReqs.filter fun x => decide (x.1 / 8 ≠ t)) }
  (d.clr (FABRIC_BMEM_CTL_BYPASS t)).clr (FABRIC_BMEM_CTL_BYPASS u)

/-- MIGRATION_REMAP_UPDATE (R127 step 5, R129, R130, R184, R218): the logical tiles of the ensemble name its new tiles; a
remap packet tells every endpoint; the old tiles are cleared. -/
def Dev.remapUpdate (d : Dev) (a : Nat) : Dev :=
  match d.migration a with
  | some (m, e) =>
    let ts := e.where a
    if m.stage == 1 && decide (m.dst < 256) && ts.all m.mems.contains then
      let d := ts.foldl (fun d t => (d.swapRemap t (t + m.dst - a)).handTile t (t + m.dst - a)) d
      let d := { d with
        kernels := d.kernels.map fun x : Nat × Kernel =>
          if !x.2.released && ts.contains x.2.anchor then (x.1, { x.2 with anchor := x.2.anchor + m.dst - a }) else x
        ensembles := KMap.put (KMap.del d.ensembles a) m.dst e
        migrations := KMap.put (KMap.del d.migrations a) m.dst { m with stage := 3 } }
      ts.foldl Dev.wipeTile d
    else d
  | none => d

/-- MIGRATION_RESUME (R127 step 6): the ensemble runs again on the fret it showed. -/
def Dev.migrationResume (d : Dev) (a : Nat) : Dev :=
  match d.migration a with
  | some (m, _) =>
    if m.stage == 3 then
      ({ d with migrations := KMap.del d.migrations a }).resume a
    else d
  | none => d

/-! Speed (R133). -/

/-- Put a number among rising ones. -/
def sortIn (n : Nat) : List Nat → List Nat
  | [] => [n]
  | a :: l => if n ≤ a then n :: a :: l else a :: sortIn n l

/-- Twice the median of the rates of a die's working tiles (R240, log entry 123). -/
def Dev.medianRate (d : Dev) (die : Nat) : Nat :=
  let l := (((List.range 128).map (128 * die + ·)).filter fun t => !d.isRetired .tile t).foldl (fun l t => sortIn (d.rd (FABRIC_TILE_SPEED_RATE t)) l) []
  l.getD (l.length / 2) 0 + l.getD ((l.length - 1) / 2) 0

/-- TILE_SPEED_MEASURE (R240): RATE, and its share of the die's median in units of 0.1%. -/
def Dev.tileSpeed (d : Dev) (t rate : Nat) : Dev :=
  let d := d.wr (FABRIC_TILE_SPEED_RATE t) rate
  d.wr (FABRIC_TILE_SPEED_PCT t) (min 4095 (2000 * rate / max 1 (d.medianRate (t / 128))))

/-- SLOW_TILE_FLAG (R133): below 85% of the median for 100 ms. -/
def Dev.slowFlag (d : Dev) (t : Nat) : Dev :=
  if d.slow t || decide (850 ≤ d.rd (FABRIC_TILE_SPEED_PCT t)) then d
  else (d.set (FABRIC_TILE_SPEED_SLOW t)).raise
    { cls := .slate, flag := PLACE_SLOW_SLOW (t / 64), bit := t % 64, ukind := 1, uid := t }

/-- SLOW_TILE_CLEAR (R133): at or above 90% for 1 s. -/
def Dev.slowClear (d : Dev) (t : Nat) : Dev :=
  if d.slow t && decide (900 ≤ d.rd (FABRIC_TILE_SPEED_PCT t)) then
    (d.clr (FABRIC_TILE_SPEED_SLOW t)).wrBit (PLACE_SLOW_SLOW (t / 64)) (t % 64) false
  else d

/-! PLACE_CTL (R122). -/

/-- A write of PLACE_CTL. -/
def Dev.placeCtlWrite (d : Dev) (w : RegWr) : Dev :=
  let mode := d.wval w PLACE_CTL_MODE
  let enters := mode != d.rd PLACE_CTL_MODE && (mode == 1 || mode == 2)
  if enters && !d.empty then d.set PLACE_STAT_CFGERR
  else
    let d := if enters then
        { d.clr PLACE_REC_PTR_PTR with remap := [], occ := [], replayEntry := none, replayEnd := false, recStop := false }
      else d
    ([PLACE_CTL_MODE, PLACE_CTL_AUTOMIG, PLACE_CTL_TIMESHARE, PLACE_CTL_HYST, PLACE_CTL_TEMP_LIM, PLACE_CTL_MIGBW, PLACE_CTL_TMO].foldl
      (fun d f => Dev.take d w f) d).tellReg 0xA0000 w

/-! Meanings. -/

/-- PLACE_MODE_WRITE (R122). -/
def execPlaceModeWrite (w : RegWr) (s : State) : Result := s.next (s.dev.onWrite (.placeModeWrite w) w.src 0xA0000 fun d => d.placeCtlWrite w)

/-- PLACEMENT_RECORD_ENTRY_READ (R573). -/
def execPlacementRecordEntryRead (words : List Word) (o : Outc) (s : State) : Result := s.next (s.dev.readEntry words o)

/-- REPLAY_ENTRY_TIMEOUT (R125). -/
def execReplayEntryTimeout (s : State) : Result := s.next s.dev.entryTimeout

/-- MIGRATION_DECIDE (R127). -/
def execMigrationDecide (what : MigTarget) (reason : BitVec 3) (s : State) : Result :=
  s.next (s.dev.migrationDecide what reason.toNat)

/-- MIGRATION_PLANE_COPY_DONE (R128). -/
def execMigrationPlaneCopyDone (anchor tile : TileId) (s : State) : Result :=
  s.next (s.dev.planeCopyDone anchor.toNat tile.toNat)

/-- MIGRATION_BMEM_COPY_DONE (R128). -/
def execMigrationBmemCopyDone (anchor tile : TileId) (s : State) : Result :=
  s.next (s.dev.bmemCopyDone anchor.toNat tile.toNat)

/-- MIGRATION_REMAP_UPDATE (R128). -/
def execMigrationRemapUpdate (anchor : TileId) (s : State) : Result := s.next (s.dev.remapUpdate anchor.toNat)

/-- BUFFER_ROW_MIGRATE (R132). -/
def execBufferRowMigrate (buf : BitVec 24) (row : BitVec 20) (s : State) : Result :=
  s.next (s.dev.bufferRowMigrate buf.toNat row.toNat)

/-- TILE_SPEED_MEASURE (R119, R240): of a tile by its die and its place there. -/
def execTileSpeedMeasure (dieB : Bool) (tile : BitVec 7) (rate : BitVec 16) (s : State) : Result :=
  s.next (s.dev.tileSpeed (128 * b2n dieB + tile.toNat) rate.toNat)

/-- SLOW_TILE_FLAG (R133). -/
def execSlowTileFlag (tile : TileId) (s : State) : Result := s.next (s.dev.slowFlag tile.toNat)

/-- SLOW_TILE_CLEAR (R133). -/
def execSlowTileClear (tile : TileId) (s : State) : Result := s.next (s.dev.slowClear tile.toNat)

end Sys2Proof.Machine
end

