-- ==== Sys2Proof/Machine/Staging.lean ====
section
/-!
DEFINITION. The hash of tally keys and where a key lies (R287, R288); and the staging rows of the pool banks: how many a command takes, where
they lie, and whether they are free (R59, R116, R292).
-/
namespace Sys2Proof.Machine

/-! Hashing (R287, R288). -/

/-- The hash of a key of n bits. -/
def tallyHash (n k : Nat) : Nat :=
  let x := k ^^^ k / 2 ^ ((n + 1) / 2)
  x ^^^ x / 2 ^ ((n + 2) / 3)

/-- The key of a hash. -/
def tallyKey (n h : Nat) : Nat :=
  let b := (n + 2) / 3
  let x := h ^^^ h / 2 ^ b ^^^ h / 2 ^ (2 * b)
  x ^^^ x / 2 ^ ((n + 1) / 2)

/-- A table's fields: key width, capacity exponent, columns as an exponent. -/
def Dev.kbits (d : Dev) (t : Nat) : Nat := d.rd (TALLY_TBL_CFG_KBITS t)
def Dev.tblE (d : Dev) (t : Nat) : Nat := d.rd (TALLY_TBL_CFG_E t)
def Dev.table (d : Dev) (t : Nat) : Option TableSt := KMap.find d.tables t
def log2 (n : Nat) : Nat := ((List.range 7).find? fun i => decide (n ≤ 2 ^ i)).getD 0

/-- Primary rows in each column of a table of 2^E entries over n columns (R288). -/
def primaryRows (E n : Nat) : Nat := 2 ^ (E - 6) / n

/-- Where a hash lies in a table (R288): its column, the word of its bucket, the bucket TAG, the word of its spill set and
the spill TAG. -/
structure TallySpot where
  col : Nat
  bucket : Nat
  tag : Nat
  spill : Nat
  stag : Nat
  deriving DecidableEq, Repr

/-- The position of a hash. -/
def Dev.tallySpot (d : Dev) (t : Nat) (x : TableSt) (h : Nat) : TallySpot :=
  let n := x.cols.length
  let p := log2 n
  let E := d.tblE t
  let (c, rows) := x.cols.getD (h % n) (0, [])
  let b := h / 2 ^ p % 2 ^ (E - 2 - p)
  let s := h / 2 ^ p % 2 ^ (14 - p)
  ⟨c, 16 * rows.getD (b / 16) 0 + b % 16, h / 2 ^ (E - 2),
   16 * rows.getD (primaryRows E n + s / 16) 0 + s % 16, h / 2 ^ 14⟩

/-! Staging rows (R56, R59, R116, R292). -/

/-- Staging rows that a command's staged bytes take (R59): one for each buffer row. -/
def stagedRows (staged : List (Nat × Nat × Byte)) : Nat := ((staged.map fun (h, o, _) => (h, o / 512)).eraseDups).length

/-- Distinct keys of a delta, as (table, key). -/
def deltaKeys (delta : List (Nat × Nat × Nat × Nat)) : List (Nat × Nat) :=
  (delta.filterMap fun (t, op, k, _) => if op == 0 then some (t, k) else none).eraseDups

/-- Staging rows of a command (R59, R292): those of its staged bytes, and one for each 32 keys of its delta. -/
def stagingRows (staged : List (Nat × Nat × Byte)) (delta : List (Nat × Nat × Nat × Nat)) : Nat :=
  stagedRows staged + ((deltaKeys delta).length + 31) / 32

/-- The pool bank that holds what a column would hold in its own (R116): its own, or that of the nearest column that has one. -/
def Dev.poolServing (d : Dev) (c : Nat) : Option Nat :=
  (((List.range 64).filter fun x => (d.poolBank x).isSome).foldl (fun best x => match best with
    | none => some x
    | some b => if colHops c x < colHops c b then some x else some b) none).bind d.poolBank

/-- The pool banks in which a command's staging rows lie, one item for each row: a staged buffer row is held by the column that holds the
row (log entry 127), a delta's keys by theirs. -/
def Dev.stagingBanks (d : Dev) (staged : List (Nat × Nat × Byte)) (delta : List (Nat × Nat × Nat × Nat)) : List (Option Nat) :=
  let rows := (staged.map fun (h, o, _) => (h, o / 512)).eraseDups
  let rowBank := fun (x : Nat × Nat) =>
    d.poolServing (match KMap.find d.buffers x.1 with | some b => ((b.rows.getD x.2 none).getD 0) / 8192 | none => 0)
  let keyBanks := (deltaKeys delta).map fun (t, k) => match d.table t with
    | some x => d.poolServing (d.tallySpot t x (tallyHash (d.kbits t) k)).col
    | none => none
  rows.map rowBank ++ (keyBanks.eraseDups.map fun n => List.replicate ((keyBanks.count n + 31) / 32) n).flatten

/-- Rows of a pool bank for staging: those that the journal leaves, whose share the spec does not give (log entry 127). -/
def poolRows (n : Nat) : Nat := 512 - Config.journalRows n

/-- Staging rows that the other commands in progress hold in a pool bank. -/
def Dev.stagingHeld (d : Dev) (q seq : Nat) (n : Option Nat) : Nat :=
  ((d.openCmds.filter fun x => x.1 != q || x.2.seq != seq).map fun x => (d.stagingBanks x.2.staged x.2.delta).count n).sum

/-- What becomes of a command that would hold these staged bytes and this delta (R59): it needs more rows than any may have, it must wait
until rows are freed, or it goes on. -/
inductive StageFit where
  | over | waits | fits
  deriving DecidableEq, Repr

/-- The test of R59. -/
def Dev.stageFit (d : Dev) (q seq : Nat) (staged : List (Nat × Nat × Byte)) (delta : List (Nat × Nat × Nat × Nat)) : StageFit :=
  if 4096 < stagingRows staged delta then .over
  else
    let banks := d.stagingBanks staged delta
    if banks.eraseDups.all fun n => match n with
      | some b => decide (banks.count n + d.stagingHeld q seq n ≤ poolRows b)
      | none => false then .fits
    else .waits

end Sys2Proof.Machine
end

