-- ==== Sys2Proof/Machine/TilePorts.lean ====
section
/-!
DEFINITION. The hard interfaces of a tile (chapter 08): port cells as pins, block memories, the portal, the row port and the
control port.
-/
namespace Sys2Proof.Machine

/-! Pins (R206 to R208, R212). -/

/-- The token that waits on input p of port cell n, if any. -/
def Dev.pinOffer (d : Dev) (f t : Nat) (k : Iface) (n p : Nat) : Option Bool :=
  let idx := portCell k n
  d.offeredTo f (d.pinSource f t idx p) (loadCode 0 t idx p)

/-- The pins an interface uses among its first N port cells. -/
def Dev.usedPins (d : Dev) (f t : Nat) (k : Iface) (N : Nat) : List (Nat × Nat) :=
  ((List.range N).map fun n => (List.range 4).filterMap fun p => if d.pinUsed f t k n p then some (n, p) else none).flatten

/-- A token waits on every one of these pins. -/
def Dev.pinsReady (d : Dev) (f t : Nat) (k : Iface) (pins : List (Nat × Nat)) : Bool :=
  pins.all fun (n, p) => (d.pinOffer f t k n p).isSome

/-- The number on input p of port cells lo to lo + w − 1. -/
def Dev.pinsValue (d : Dev) (f t : Nat) (k : Iface) (p lo w : Nat) : Nat :=
  (List.range w).foldl (fun v i => v + 2 ^ i * b2n ((d.pinOffer f t k (lo + i) p).getD false)) 0

/-- Consume the tokens of pins. -/
def Dev.pinsTake (d : Dev) (f t : Nat) (k : Iface) (pins : List (Nat × Nat)) : Dev :=
  pins.foldl (fun d (n, p) =>
    let idx := portCell k n
    Dev.ack f routeFuel d (d.pinSource f t idx p) (loadCode 0 t idx p)) d

/-- A free number of w bits: data that the spec calls undefined (R10). -/
def Dev.freeBits (d : Dev) (w : Nat) : Nat × Dev :=
  let (bs, d) := d.freshBytes ((w + 7) / 8)
  (numLE bs % 2 ^ w, d)

/-- The number on input p of port cells lo to lo + w − 1, as an interface takes it: the bits of pins that found both rails high are undefined,
and each raises its event (R160). -/
def Dev.senseWord (d : Dev) (f t : Nat) (k : Iface) (p lo w : Nat) (faults : List (BitVec 9 × Fin 4)) : Nat × Dev :=
  let v := d.pinsValue f t k p lo w
  let bad := (List.range w).filter fun i => faults.any fun x => x.1.toNat == lo + i && x.2.val == p
  if bad.isEmpty then (v, d)
  else
    let (n, d) := d.freeBits w
    let mask := bad.foldl (fun m i => m + 2 ^ i) 0
    (v ^^^ (n &&& mask), bad.foldl (fun d i => Dev.dualRail d t (portCell k (lo + i) / 16)) d)

/-- The data of a transfer between the fabric and a clocked domain: undefined when its synchronizer was left unresolved (R250). -/
def Dev.synced (d : Dev) (unresolved : Bool) (w v : Nat) : Nat × Dev := if unresolved then d.freeBits w else (v, d)

/-- No earlier output token of these port cells is incomplete. -/
def Dev.outsFree (d : Dev) (t : Nat) (k : Iface) (lo w : Nat) : Bool :=
  (List.range w).all fun i => (d.tok (tokKey 5 t (portCell k (lo + i)))).isNone

/-- Issue one output token. -/
def Dev.outBit (d : Dev) (f t : Nat) (k : Iface) (n : Nat) (v : Bool) : Dev := d.offer f (.out t (portCell k n)) v

/-- Issue a number on port cells lo to lo + w − 1. -/
def Dev.outWord (d : Dev) (f t : Nat) (k : Iface) (lo w v : Nat) : Dev :=
  (List.range w).foldl (fun d i => Dev.outBit d f t k (lo + i) (v.testBit i)) d

/-! Block memories (R209 to R219). -/

/-- A physical word. -/
def Dev.bmemWord (d : Dev) (t m p : Nat) : Nat := (KMap.get d.bmem (1024 * (16 * t + m) + p) 0).toNat

/-- Store a physical word; a write-back of it that waits is dropped (R215). -/
def Dev.setBmem (d : Dev) (t m p v : Nat) : Dev :=
  let k := 1024 * (16 * t + m) + p
  { d with
    bmem := if v % 2 ^ 48 = 0 then KMap.del d.bmem k else KMap.put d.bmem k (BitVec.ofNat 48 v)
    bmemBack := d.bmemBack.filter (· != k) }

/-- The 48 bits of a 32-bit word in shape 0: data in [31:0], check symbols above (R215, log entry 7). -/
def eccWord (v : Nat) : Nat :=
  let (c1, c0) := rsCheck2 ((List.range 4).map fun i => bitsOf v (8 * i) 8)
  v % 2 ^ 32 + 2 ^ 32 * c1 + 2 ^ 40 * c0

/-- What a shape-0 decoder finds in 48 stored bits. -/
def eccFind (x : Nat) : RsFound :=
  let (c1, c0) := rsCheck2 ((List.range 4).map fun i => bitsOf x (8 * i) 8)
  rsFind2 (c1 ^^^ bitsOf x 32 8, c0 ^^^ bitsOf x 40 8)

/-- Data bits of a shape-0 word after a correction. -/
def eccFix (x s v : Nat) : Nat := if s < 4 then x % 2 ^ 32 ^^^ v * 2 ^ (8 * s) else x % 2 ^ 32

/-- A block-memory report (R215, R450, R456): most recent error, flag, class; it counts for the tile unless bypassed. -/
def Dev.bmemReport (d : Dev) (t m p : Nat) (corr : Bool) : Dev :=
  let d := (d.wr (FABRIC_BMEM_ERR_MEM t) m).wr (FABRIC_BMEM_ERR_WORD t) p
  let test := d.bit (FABRIC_BMEM_CTL_BYPASS t) m || d.on (FABRIC_BMEM_CTL_DBG_RAW t)
  let d := if corr then d.incSat (FABRIC_BMEM_ERR_CCOUNT t) else d
  d.raiseCounted { cls := if corr then .ochre else .crimson
                   flag := if corr then FABRIC_BMEM_ERR_CORR t else FABRIC_BMEM_ERR_UNCORR t
                   bit := m, ukind := 9, uid := t + 256 * m, detail := p, test := test } .tile t

/-- Read a shape-0 word (R215): its data, and none when it is uncorrectable. -/
def Dev.eccRead (d : Dev) (t m p : Nat) : Option Nat × Dev :=
  let x := d.bmemWord t m p
  match eccFind x with
  | .valid => (some (x % 2 ^ 32), d)
  | .one s v =>
    let k := 1024 * (16 * t + m) + p
    let d := { d with bmemBack := if d.bmemBack.contains k then d.bmemBack else d.bmemBack ++ [k] }
    (some (eccFix x s v), d.bmemReport t m p true)
  | .many => (none, d.bmemReport t m p false)

/-- Where logical word a lies (R210): the first physical word, and the lowest bit in it. -/
def bmemPlace (s a : Nat) : Nat × Nat :=
  let (w, _) := shapeOf s
  if s == 0 then (a, 0)
  else if s == 12 then (2 * a, 0)
  else
    let r := if s ≤ 5 then 48 / w else 32 / w
    (a / r, a % r * w)

/-- A fabric read of logical word a: an uncorrectable word delivers undefined data and ends the kernel's KRUN (R215). -/
def Dev.bmemGet (d : Dev) (t m s a : Nat) : Nat × Dev :=
  let (p, lo) := bmemPlace s a
  if s == 0 then
    match d.eccRead t m p with
    | (some v, d) => (v, d)
    | (none, d) =>
      let v := d.peekWord.toNat % 2 ^ 32
      let d := d.burn
      (v, match d.shownKernel t with
        | some (h, _) => d.runError h .uncorrectable
        | none => d)
  else if s == 12 then (d.bmemWord t m p + 2 ^ 48 * d.bmemWord t m (p + 1), d)
  else (bitsOf (d.bmemWord t m p) lo (shapeOf s).1, d)

/-- A fabric write of logical word a (R210, R215, R216). -/
def Dev.bmemSet (d : Dev) (t m s a v : Nat) : Dev :=
  let (p, lo) := bmemPlace s a
  let x := d.bmemWord t m p
  if s == 0 then
    d.setBmem t m p (if d.bit (FABRIC_BMEM_CTL_BYPASS t) m then x - x % 2 ^ 32 + v % 2 ^ 32 else eccWord v)
  else if s == 12 then (d.setBmem t m p (v % 2 ^ 48)).setBmem t m (p + 1) (bitsOf v 48 48)
  else
    let w := (shapeOf s).1
    d.setBmem t m p (x - bitsOf x lo w * 2 ^ lo + v % 2 ^ w * 2 ^ lo)

/-- The number of a memory's port in State.memHolds. -/
def memKey (t m : Nat) (b : Bool) : Nat := 32 * t + 2 * m + b2n b

/-- The access a port has been granted and not finished. -/
def Dev.memHeld (d : Dev) (t m : Nat) (b : Bool) : Option MemHold := KMap.find d.memHolds (memKey t m b)

/-- Set it. -/
def Dev.setMemHold (d : Dev) (t m : Nat) (b : Bool) (h : MemHold) : Dev := { d with memHolds := KMap.put d.memHolds (memKey t m b) h }

/-- An access waits at a port for its grant: its pins hold tokens and every output of the access before is complete (R212). -/
def Dev.memReady (d : Dev) (f t m : Nat) (b : Bool) : Bool :=
  let k := Iface.mem m b
  let s := d.memShape f t m
  let use := d.memUse f t m b
  let outs := if s == 12 then (if b then d.outsFree t k 0 48 && d.outsFree t (.mem m false) 0 48 else true)
    else use == 2 || d.outsFree t k 0 (shapeOf s).1
  d.portBits f t (64 * m) 1 == 1 && use != 0 && outs && d.outsFree t k 48 1 && (d.memHeld t m b).isNone
    && d.pinsReady f t k (d.usedPins f t k 64)

/-- The access that a port's pins ask for. -/
def Dev.memRead (d : Dev) (f t m : Nat) (b : Bool) (faults : List (BitVec 9 × Fin 4)) : MemHold × Dev :=
  let k := Iface.mem m b
  let s := d.memShape f t m
  let use := d.memUse f t m b
  let (w, a) := shapeOf s
  let (addr, d) := d.senseWord f t k 0 0 a faults
  let (lo, d) := d.senseWord f t k 1 0 (if s == 12 then 48 else w) faults
  let (hi, d) := if s == 12 then d.senseWord f t k 2 0 48 faults else (0, d)
  let (we, d) := if use == 3 then d.senseWord f t k 3 0 1 faults else (b2n (use == 2), d)
  ({ addr := addr, write := we == 1, value := lo + 2 ^ 48 * hi }, d)

/-- What becomes of two accesses that overlap, g granted first and h second (R214). -/
def overlapped (g h : MemHold) : MemHold × MemHold :=
  match g.write, h.write with
  | false, false => (g, h)
  | false, true => ({ g with undef := true }, { h with busy := true })
  | true, false => (g, { h with undef := true, busy := true })
  | true, true => ({ g with lost := true }, { h with busy := true })

/-- Grant the access that waits at a port (R213): it overlaps the other port's when that one holds the same physical word. Fields that only an
earlier write covers are undefined from then on (R214). -/
def Dev.memGrant (d : Dev) (t m : Nat) (b : Bool) (faults : List (BitVec 9 × Fin 4)) : Dev :=
  let f := d.shown t
  if !d.memReady f t m b then d
  else
    let s := d.memShape f t m
    let (h, d) := d.memRead f t m b faults
    match d.memHeld t m (!b) with
    | some g =>
      if (bmemPlace s g.addr).1 == (bmemPlace s h.addr).1 then
        let (g2, h2) := overlapped g h
        let d := if g2.lost && !g.lost && g.addr != h.addr then (let (v, d) := d.freeBits 64; d.bmemSet t m s g.addr v) else d
        (d.setMemHold t m (!b) g2).setMemHold t m b h2
      else d.setMemHold t m b h
    | none => d.setMemHold t m b h

/-- Issue the outputs of an access (R211, R212): RD where the port reads, and BUSY. -/
def Dev.memAnswer (d : Dev) (f t m : Nat) (b : Bool) (rd : Nat) (busy : Bool) : Dev :=
  let k := Iface.mem m b
  let s := d.memShape f t m
  let use := d.memUse f t m b
  let d := if s == 12 then
      if b then (d.outWord f t k 0 48 rd).outWord f t (.mem m false) 0 48 (rd / 2 ^ 48) else d
    else if use == 2 then d else d.outWord f t k 0 (shapeOf s).1 rd
  d.outBit f t k 48 busy

/-- A granted access takes place and issues its outputs (R212 to R214). -/
def Dev.memFinish (d : Dev) (t m : Nat) (b : Bool) : Dev :=
  match d.memHeld t m b with
  | none => d
  | some h =>
    let f := d.shown t
    let s := d.memShape f t m
    let d := { d.pinsTake f t (.mem m b) (d.usedPins f t (.mem m b) 64) with memHolds := KMap.del d.memHolds (memKey t m b) }
    if h.write then (if h.lost then d else d.bmemSet t m s h.addr h.value).memAnswer f t m b h.value h.busy
    else if h.undef then (let (v, d) := d.freeBits 96; d.memAnswer f t m b v h.busy)
    else
      let (v, d) := d.bmemGet t m s h.addr
      d.memAnswer f t m b v h.busy

/-- Both ports of a memory are idle. -/
def Dev.memIdle (d : Dev) (t m : Nat) : Bool := (d.memHeld t m false).isNone && (d.memHeld t m true).isNone

/-- BMEM_WRITEBACK (R215). -/
def Dev.bmemWriteback (d : Dev) (t m p : Nat) : Dev :=
  let k := 1024 * (16 * t + m) + p
  if d.bmemBack.contains k then
    let x := d.bmemWord t m p
    match eccFind x with
    | .one s v => d.setBmem t m p (eccWord (eccFix x s v))
    | _ => { d with bmemBack := d.bmemBack.filter (· != k) }
  else d

/-- The shape that governs debug accesses to a memory (R217, R219): that of the fret that enables it. One that no fret enables is accessed
as in the row for other shapes, raw: the spec is silent (DESIGN CHOICE, log entry 133). -/
def Dev.ownShape (d : Dev) (t m : Nat) : Nat :=
  match (List.range 8).find? fun f => d.portBits f t (64 * m) 1 == 1 with
  | some f => d.memShape f t m
  | none => 1

/-- A debug window serves accesses (R488). -/
def Dev.debugOpen (d : Dev) : Bool := d.lc == 0 || d.lc == 1

/-- A debug read of an aligned 32-bit or 64-bit word (R219). -/
def Dev.debugRead (d : Dev) (t m ofs size : Nat) : Nat × Outc × Dev :=
  if !((size == 4 || size == 8) && ofs % size == 0 && d.debugOpen) then (0, .busError, d)
  else
    let p := ofs / 8
    let cut := fun v => if size == 4 then bitsOf v (8 * (ofs % 8)) 32 else v
    if d.on (FABRIC_BMEM_CTL_DBG_RAW t) || d.ownShape t m ≠ 0 then (cut (d.bmemWord t m p), .ok, d)
    else match d.eccRead t m p with
      | (some v, d) => (cut v, .ok, d)
      | (none, d) => (0, .busError, d)

/-- A debug write (R219). -/
def Dev.debugWrite (d : Dev) (t m ofs size data : Nat) : Outc × Dev :=
  if !((size == 4 || size == 8) && ofs % size == 0 && d.debugOpen) then (.busError, d)
  else
    let p := ofs / 8
    let x := d.bmemWord t m p
    let raw := if size == 8 then data % 2 ^ 48
      else if ofs % 8 == 0 then x - x % 2 ^ 32 + data % 2 ^ 32
      else x % 2 ^ 32 + data % 2 ^ 16 * 2 ^ 32
    if d.on (FABRIC_BMEM_CTL_DBG_RAW t) || d.ownShape t m ≠ 0 then (.ok, d.setBmem t m p raw)
    else if size == 4 && ofs % 8 == 4 then (.ok, d)
    else (.ok, d.setBmem t m p (eccWord (data % 2 ^ 32)))

/-- A tile's ensemble is migrating: debug accesses to it wait (R219). -/
def Dev.migrating (d : Dev) (t : Nat) : Bool :=
  match d.ensembleOf t with
  | some (a, _) => (KMap.find d.migrations a).isSome
  | none => false

/-- A debug access waits: its tile migrates, or a port of its memory is busy (R219). -/
def Dev.debugWaits (d : Dev) (lt m : Nat) : Bool := d.migrating (d.phys lt) || !d.memIdle (d.phys lt) m

/-- A debug access is served. -/
def Dev.debugServe (d : Dev) (x : DebugReq) : Dev :=
  let t := d.phys x.ltile
  if x.write then
    let (o, d) := d.debugWrite t x.mem x.ofs x.size x.data
    if o = .ok then d else d.emit (.refused x.src)
  else
    let (v, o, d) := d.debugRead t x.mem x.ofs x.size
    if o = .ok then d.emit (.regData x.src v) else d.emit (.refused x.src)

/-- The debug accesses that wait and need not any longer are served, oldest first. -/
def Dev.pumpDebug (d : Dev) : Dev :=
  d.debugWait.foldl (fun d x =>
    if d.debugWaits x.ltile x.mem then d else Dev.debugServe { d with debugWait := d.debugWait.erase x } x) d

/-- BMEM_DEBUG_ACCESS (R219): no BAR reaches the windows, so a host's access is none. -/
def Dev.bmemDebug (d : Dev) (src : Src) (lt m ofs size : Nat) (write : Bool) (data : Nat) : Dev :=
  match src with
  | .host _ => d
  | _ => { d with debugWait := d.debugWait ++ [DebugReq.mk src lt m ofs size write data] }.pumpDebug

/-- BMEM_ACCESS (R212 to R216): a port's access is granted, unless it was, and finishes; with overlap, the one that waits at the other port is
granted in between. On a metered die the clock's edges grant (R252). -/
def Dev.bmemAccess (d : Dev) (t m : Nat) (b : Bool) (x : MemSense) : Dev :=
  if !d.live t then d
  else
    let d := if d.metered t then d
      else (let d := d.memGrant t m b x.faults
            if x.overlap && (d.memHeld t m b).isSome then d.memGrant t m (!b) [] else d)
    (d.memFinish t m b).pumpDebug

/-- Memory ports of a die whose access waits for an edge, as (tile, memory): each with whether port A's and port B's does. -/
def Dev.waitingMems (d : Dev) (die : Nat) : List (Nat × Nat × Bool × Bool) :=
  ((((d.frames.map fun x => x.1 / 32 % 256).eraseDups).filter fun t => t / 128 == die && d.live t && d.metered t).map fun t =>
    (List.range 16).filterMap fun m =>
      let a := d.memReady (d.shown t) t m false
      let b := d.memReady (d.shown t) t m true
      if a || b then some (t, m, a, b) else none).flatten

/-- METERING_CLOCK_EDGE (R252): hold elements and token registers capture, and block-memory accesses are granted; which of two that wait at one
memory comes first is not defined (R213). -/
def Dev.meteringEdge (d : Dev) (die : Nat) (late faults : List RegAt) : Dev :=
  if !d.meter.testBit die then d
  else
    let mems := d.waitingMems die
    mems.foldl (fun d (t, m, a, b) =>
      let first := d.peekWord.getLsbD 0
      let d := if a && b then Dev.burn d else d
      let go := fun (d : Dev) (p : Bool) => if (if p then b else a) then d.memGrant t m p [] else d
      if first then go (go d true) false else go (go d false) true) (d.edgeCaptures die late faults)

/-! The portal (R221 to R228). -/

/-- A tile's portal. -/
def Dev.portal (d : Dev) (t : Nat) : PortalSt := KMap.get d.portals t {}

/-- Replace it. -/
def Dev.setPortal (d : Dev) (t : Nat) (x : PortalSt) : Dev := { d with portals := KMap.put d.portals t x }

/-- The shown fret enables the portal. -/
def Dev.portalOn (d : Dev) (t : Nat) : Bool := d.portBits (d.shown t) t 1024 1 == 1

/-- The flits of a packet as a portal delivers them (R221, R226): 288 bits each, the descriptor first. -/
def portalFlits (p : Packet) : List Nat :=
  let n := p.data.length / 32
  let win := bitsOf p.operand.toNat 32 16 == 1 && (p.cmd == 1 || p.cmd == 2 || p.cmd == 3)
  let desc := p.sep.toNat + 2 ^ 4 * p.scol.toNat + 2 ^ 10 * p.cmd.toNat + 2 ^ 18 * p.vc.toNat + 2 ^ 20 * n
    + 2 ^ 25 * p.tag.toNat + 2 ^ 35 * p.epoch.toNat + 2 ^ 43 * (if p.vc == 1 then p.rstat.toNat else 0)
    + (if win then 2 ^ 256 * (p.operand.toNat % 2 ^ 24) else if p.cmd == 0x30 then 2 ^ 256 * (p.operand.toNat % 2 ^ 27) else 0)
  desc :: (List.range n).map fun i =>
    numLE ((p.data.drop (32 * i)).take 32)
      + 2 ^ 256 * (List.range 32).foldl (fun m j => m + 2 ^ j * b2n (p.enables.getD (32 * i + j) false)) 0

/-- Deliver a packet to the fabric: its flits on DIN, IFIRST with the first. lost is the flit whose transfer a synchronizer spoilt (R250). -/
def Dev.deliverFlits (d : Dev) (f t : Nat) (p : Packet) (lost : Option Nat) : Dev :=
  ((portalFlits p).foldl (fun (x : Dev × Nat) w =>
    let (v, d) := Dev.synced x.1 (lost == some x.2) 288 w
    ((d.outWord f t .portal 0 288 v).outBit f t .portal 288 (x.2 == 0), x.2 + 1)) (d, 0)).1

/-- Flits of the packet in delivery that the fabric has not taken whole. -/
def Dev.dinLeft (d : Dev) (t : Nat) : Nat :=
  (List.range 289).foldl (fun n i => match d.tok (tokKey 5 t (portCell .portal i)) with | some x => max n x.vals.length | none => n) 0

/-- A portal error (R225, R227, R228). -/
def Dev.portalErr (d : Dev) (t : Nat) (flag : Field) (ev : Bool) : Dev :=
  let d := d.incSat (FABRIC_PORTAL_ERR_COUNT t)
  if ev then d.raise { cls := .ochre, flag := flag, ukind := 1, uid := t } else d.set flag

/-- A response reaches the fabric (R227): an error response sets RERR and decides the KRUN's status. -/
def Dev.deliverResponse (d : Dev) (f t : Nat) (p : Packet) (lost : Option Nat) : Dev :=
  let d := if p.rstat == 1 || p.rstat == 2 then
      let d := d.portalErr t (FABRIC_PORTAL_ERR_RERR t) false
      match d.kernelAt t f with
      | some (h, _) => d.runError h (if p.rstat == 1 then .busError else .uncorrectable)
      | none => d
    else d
  d.deliverFlits f t p lost

/-- Responses parked in a fret of a tile. -/
def Dev.park (d : Dev) (t f : Nat) : List Packet := KMap.get d.parks (8 * t + f) []

/-! The state plane (R182). -/

/-- The 47,744 bits of a state plane that its CRC covers: hold elements, parameter registers, parked flits, row register, park control. -/
def Dev.statePlane (d : Dev) (t f : Nat) : Nat :=
  let tf := 8 * t + f
  let holds := (List.range 16384).foldl (fun n i => let h := d.hold f t i; n + (b2n h.val + 2 * b2n h.full) * 2 ^ (2 * i)) 0
  let params := (List.range 16).foldl (fun n k => n + (KMap.get d.params (16 * tf + k) 0).toNat * 2 ^ (32768 + 64 * k)) 0
  let flits := ((KMap.get d.parks tf []).map portalFlits).flatten
  let parked := (List.range flits.length).foldl (fun n s =>
    n + flits.getD s 0 * 2 ^ (33792 + 288 * s) + (32 + s % 32) * 2 ^ (47488 + 6 * s)) 0
  let row := match KMap.find d.rowRegs tf with
    | some g => numLE (g.bytes ++ List.replicate (512 - g.bytes.length) 0 ++ g.res) * 2 ^ 43008
        + (b2n g.toBank + 2 * g.slices) * 2 ^ (47488 + 192)
    | none => 0
  let flags := (d.paramHeld.filter fun x => x / 16 == tf).foldl (fun n x => n ||| 2 ^ (47488 + 197 + x % 16)) 0
  holds + params + parked + row + flags

/-- The CRC-32 of a state plane (R182). -/
def Dev.planeCrc (d : Dev) (t f : Nat) : Nat := crc32 (bytesLE 5968 (d.statePlane t f))

/-- A state plane is written, with a fresh CRC-32 (R197). -/
def Dev.writePlane (d : Dev) (t f : Nat) : Dev := { d with planeCrcs := KMap.put d.planeCrcs (8 * t + f) (d.planeCrc t f) }

/-- A parked plane that changes keeps a valid CRC. -/
def Dev.touchPlane (d : Dev) (t f : Nat) : Dev :=
  if (KMap.find d.planeCrcs (8 * t + f)).isSome && d.shown t != f then d.writePlane t f else d

/-- The CRC stored with a plane fails: the plane was upset, or its bits are not those the CRC was written over (R198, R465). -/
def Dev.planeFails (d : Dev) (t f : Nat) : Bool :=
  d.badPlanes.contains (8 * t + f) || (match KMap.find d.planeCrcs (8 * t + f) with | some c => c != d.planeCrc t f | none => false)

/-- Replace the responses parked in a fret of a tile. -/
def Dev.setPark (d : Dev) (t f : Nat) (ps : List Packet) : Dev :=
  { d with parks := if ps.isEmpty then KMap.del d.parks (8 * t + f) else KMap.put d.parks (8 * t + f) ps }.touchPlane t f

/-- Park slots of a fret that are neither filled nor kept for a response it awaits (R201). -/
def Dev.parkFree (d : Dev) (t f : Nat) : Nat :=
  32 - (((d.park t f).map packetFlits).foldl (· + ·) 0
    + (((d.portal t).outst.filter fun r => r.fret == f).map (·.flits)).foldl (· + ·) 0)

/-- A packet is an access to a debug window (R24, R304). -/
def debugBound (p : Packet) : Bool :=
  (p.cmd == 1 || p.cmd == 2 || p.cmd == 3) && (match addrSpace p.operand.toNat with | .debug _ => true | _ => false)

/-- A debug access through the network (R219): a read of 4 or 8 bytes, or a write whose enabled bytes are one run of them. -/
def Dev.debugPacket (d : Dev) (t : Nat) (p : Packet) : Dev :=
  let a := p.operand.toNat
  let m := bitsOf a 13 4
  if p.cmd == 1 then
    let (v, o, d) := d.debugRead t m (bitsOf a 0 13) p.rlen.toNat
    d.answerPacket p o (bytesLE p.rlen.toNat v)
  else match enabledRuns 0 p.data p.enables with
    | [(ofs, bs)] =>
      let (o, d) := d.debugWrite t m (bitsOf a 0 13 + ofs) bs.length (numLE bs)
      d.answerPacket p o []
    | _ => d.answerPacket p .busError []

/-- A portal takes packets in: not while its ensemble quiesces or is held (R194, R130). -/
def Dev.portalTakes (d : Dev) (t : Nat) : Bool :=
  d.running && d.gateServes (if t < 128 then 11 else 12) && (d.phaseOf t == 1 || (d.ensembleOf t).isNone)

/-- Flits of a channel in some packets. -/
def flitsOf (vc : Nat) (ps : List Packet) : Nat := ((ps.filter fun p => p.vc.toNat == vc).map packetFlits).sum

/-- Packets go from the landing buffer into the portal's queues, those of a channel in order, while the queue has room for the whole packet
(R222): 34 flits. -/
def portalFill : List Packet → List Nat → List Packet → List Packet → List Packet × List Packet
  | [], _, left, q => (left, q)
  | p :: rest, shut, left, q =>
    if shut.contains p.vc.toNat || decide (34 < flitsOf p.vc.toNat q + packetFlits p) then portalFill rest (p.vc.toNat :: shut) (left ++ [p]) q
    else portalFill rest shut left (q ++ [p])

/-- A tile is the new one of an ensemble whose remap has been updated and which has not resumed (R130). -/
def Dev.remapped (d : Dev) (t : Nat) : Bool :=
  d.migrations.any fun x => x.2.stage == 3 && (match KMap.find d.ensembles x.2.dst with
    | some e => (e.where x.2.dst).contains t
    | none => false)

/-- Packets translated after a remap follow the forwarded ones once the ensemble has resumed (R130). -/
def Dev.settleLate (d : Dev) (t : Nat) : Dev :=
  let mine := (d.lateArrivals.filter fun x => x.1 == t).map (·.2)
  if mine.isEmpty || d.remapped t then d
  else { d.setPortal t { d.portal t with landing := (d.portal t).landing ++ mine } with
    lateArrivals := d.lateArrivals.filter fun x => x.1 != t }

/-- Fill a portal's queues. -/
def Dev.fillPortal (d : Dev) (t : Nat) : Dev :=
  let d := d.settleLate t
  let x := d.portal t
  let (left, q) := portalFill x.landing [] [] x.inq
  if left.length == x.landing.length then d else d.setPortal t { x with landing := left, inq := q }

/-- A response at the head of its queue: to the fabric, or into the park area of a fret not shown (R201); one whose kernel is gone is discarded
(R184). -/
def Dev.takeResponse (d : Dev) (t : Nat) (p : Packet) (rest : List Packet) (lost : Option Nat) : Dev :=
  let x := d.portal t
  match x.request p with
  | none => d.setPortal t { x with inq := rest }
  | some r =>
    let d := d.setPortal t { x with inq := rest, outst := x.outst.erase r, cur := some 1 }
    if r.fret == 8 then d
    else if r.fret == d.shown t then d.deliverResponse r.fret t p lost
    else d.setPark t r.fret (d.park t r.fret ++ [p])

/-- Remove the first packet of a channel. -/
def takeFirst (vc : Nat) : List Packet → Option (Packet × List Packet)
  | [] => none
  | p :: t => if p.vc.toNat == vc then some (p, t) else (takeFirst vc t).map fun (q, r) => (q, p :: r)

/-- A packet that a debug window must keep waiting (R219). -/
def Dev.windowWaits (d : Dev) (t : Nat) (p : Packet) : Bool := debugBound p && !d.memIdle t (bitsOf p.operand.toNat 13 4)

/-- PORTAL_INBOUND (R200, R201, R222, R226, R228): the portal takes in what its queues have room for, and the next packet of a channel that no
packet of a higher class waits ahead of leaves for the fabric, once that has taken the one before; parked responses of the shown fret come
first. lost is the flit whose transfer a synchronizer spoilt (R250). -/
def Dev.portalInbound (d : Dev) (t vc : Nat) (lost : Option Nat) : Dev :=
  if !d.portalTakes t then d
  else
    let d := d.fillPortal t
    let f := d.shown t
    let x := d.portal t
    let has := fun c => x.inq.any fun p => p.vc.toNat == c
    if !d.outsFree t .portal 0 289 then d
    else if vc == 1 then
      match d.park t f with
      | p :: rest => ((d.setPark t f rest).setPortal t { x with cur := none }).deliverResponse f t p lost
      | [] => match takeFirst 1 x.inq with
        | some (p, rest) => d.takeResponse t p rest lost
        | none => d
    else if vc == 2 || !(d.park t f).isEmpty || has 1 || (vc == 3 && has 0) then d
    else match takeFirst vc x.inq with
      | none => d
      | some (p, rest) =>
        if d.windowWaits t p then d
        else
          let d := d.setPortal t { x with inq := rest, cur := some vc }
          if debugBound p then d.debugPacket t p
          else if d.portalOn t then d.deliverFlits f t p lost
          else (d.answerPacket p .busError []).portalErr t (FABRIC_PORTAL_ERR_UNDELIV t) true

/-- The device address of a byte of a buffer (R117, R224); none when its row is lost. -/
def Buffer.addrOf (b : Buffer) (ofs : Nat) : Option Nat := (b.rows.getD (ofs / 512) none).map fun r => 512 * r + ofs % 512

/-- The lowest tag that no request sent from a tile bears. -/
def Dev.portalTag (d : Dev) (t : Nat) : Nat :=
  let used := (d.portals.map fun x => (x.2.outst.filter fun r => r.origin == t).map (·.tag)).flatten
  ((List.range 1024).find? fun g => !used.contains g).getD 0

/-- The declared type of a kernel's bind slot (R236): the one its tiles' port settings give. -/
def Dev.slotType (d : Dev) (k : Kernel) (slot : Nat) : Nat :=
  (k.where.findSome? fun t =>
    let y := d.portBits k.fret t (1792 + 8 * slot) 2
    if y == 0 then none else some y).getD 0

/-- A kernel declares a lane slot (R236). -/
def Dev.laneSlot (d : Dev) (k : Kernel) (slot : Nat) : Bool :=
  k.where.any fun t => d.portBits k.fret t (1794 + 8 * slot) 1 == 1

/-- A descriptor's fields (R223): KIND, the slot, the CMD, VC, LEN and OFS. -/
structure PortalDesc where
  kind : Nat
  slot : Nat
  cmd : Nat
  vc : Nat
  len : Nat
  ofs : Nat
  deriving DecidableEq, Repr

/-- The fields of a descriptor flit. -/
def portalDesc (w : Nat) : PortalDesc := ⟨bitsOf w 0 2, bitsOf w 2 4, bitsOf w 12 8, bitsOf w 20 2, bitsOf w 22 5, bitsOf w 28 36⟩

/-- The flits that the response to a request may bring: a read's bytes, a write's bare completion, a tally operation's summary and results,
whatever a kernel answers to a message. -/
def respFlits (x : PortalDesc) (rlen : Nat) : Nat :=
  if x.cmd == 1 then 1 + (rlen + 31) / 32 else if x.cmd == 2 then 1 else if x.cmd == 0x10 then 1 + (8 + 16 * x.len + 31) / 32 else 17

/-- The buffer that a KIND 1 descriptor's slot is bound to. -/
def Dev.descBuffer (d : Dev) (k : Kernel) (x : PortalDesc) : Option (Nat × Buffer) :=
  match KMap.find k.binds x.slot with
  | some b => if b.kind == 0 then (d.buffer b.target).map fun y => (b.target, y) else none
  | none => none

/-- A portal refuses a descriptor (R225); rlen is the length of a read. -/
def Dev.descBad (d : Dev) (k : Kernel) (x : PortalDesc) (rlen : Nat) : Bool :=
  let n := if x.cmd == 1 then rlen else 32 * x.len
  x.len > 16 || x.vc == 2
    || (x.kind == 1 && (d.slotType k x.slot != 1 || (match d.descBuffer k x with | some b => decide (b.2.size < x.ofs + n) | none => true)))
    || (x.kind == 3 && (!d.laneSlot k x.slot || (KMap.find k.lanes x.slot).isNone))

/-- The header a portal builds from a descriptor (R223, R224), its data still to come. -/
def Dev.portalHeader (d : Dev) (t : Nat) (k : Kernel) (w rlen epoch : Nat) : Packet :=
  let x := portalDesc w
  let buf := d.descBuffer k x
  let addr := buf.bind fun b => b.2.addrOf x.ofs
  let dst : Nat × Nat := match x.kind with
    | 0 => let p := d.phys (bitsOf w 2 8); (colOfTile p, epOfTile p)
    | 1 => (match addr with | some a => (a / 2 ^ 22, 4) | none => (0, 4))
    | 2 => (bitsOf w 6 6, bitsOf w 2 4)
    | _ => (match KMap.find k.lanes x.slot with | some (g, _) => bridgeOf g | none => (0, 8))
  { dcol := .ofNat 6 dst.1, dep := .ofNat 4 dst.2, scol := .ofNat 6 (colOfTile t), sep := .ofNat 4 (epOfTile t)
    cmd := .ofNat 8 x.cmd, key := .ofNat 6 (match x.kind, buf with | 1, some b => b.2.key | _, _ => 0)
    tag := .ofNat 10 (if x.vc == 1 then bitsOf x.ofs 0 10 else if x.vc == 0 then d.portalTag t else if x.kind == 3 then x.slot else 0)
    epoch := .ofNat 8 epoch, pri := bitsOf w 27 1 == 1, vc := .ofNat 2 x.vc
    rstat := .ofNat 2 (if x.vc == 1 then bitsOf x.ofs 10 2 else 0)
    operand := .ofNat 64 (if x.kind == 1 then addr.getD 0 else if x.vc == 1 then 0 else x.ofs), rlen := .ofNat 10 rlen
    data := [], enables := [] }

/-- A portal takes a descriptor (R223 to R225): one it refuses, or whose buffer row is lost, is discarded with its flits, and a request among
them is answered with a bus error; any other begins a packet in its outbound queue. -/
def Dev.takeDescriptor (d : Dev) (f t h : Nat) (k : Kernel) (w rlen : Nat) : Dev :=
  let x := portalDesc w
  let (epoch, d) := match d.runOf h with
    | some (_, e) => (e.epoch, d)
    | none => (d.peekWord.toNat % 256, d.burn)
  let pkt := d.portalHeader t k w rlen epoch
  let lost := x.kind == 1 && (match d.descBuffer k x with | some b => (b.2.addrOf x.ofs).isNone | none => false)
  let bad := d.descBad k x rlen
  if bad || lost then
    let d := d.setPortal t { d.portal t with skip := x.len }
    let d := if bad then d.portalErr t (FABRIC_PORTAL_ERR_DESC t) true else d
    if x.vc == 0 then
      d.deliverResponse f t { pkt with vc := 1, rstat := 1, cmd := 0x80, scol := pkt.dcol, sep := pkt.dep } none
    else d
  else
    let y := d.portal t
    d.setPortal t { y with
      outst := if x.vc == 0 then y.outst ++ [⟨pkt.tag.toNat, t, f, respFlits x rlen⟩] else y.outst
      outq := y.outq ++ [⟨pkt, h, if x.kind == 1 then (d.descBuffer k x).map fun b => (b.1, x.ofs) else none, x.len⟩] }

/-- Flits of a channel in a portal's inbound queue, those that the fabric has not yet taken among them (R222). -/
def Dev.inFill (d : Dev) (t vc : Nat) : Nat :=
  flitsOf vc (d.portal t).inq + (if (d.portal t).cur == some vc then d.dinLeft t else 0)

/-- Flits of a channel in a portal's outbound queue. -/
def PortalSt.outFill (x : PortalSt) (vc : Nat) : Nat :=
  ((x.outq.filter fun o => o.pkt.vc.toNat == vc).map fun o => packetFlits o.pkt).sum

/-- A descriptor can be taken (R201, R222, R223): its queue has room for the whole packet among 17 flits, and a request finds a place among 64
and park slots for its response. One that will be refused needs none. -/
def Dev.descFits (d : Dev) (f t : Nat) (k : Kernel) (w rlen : Nat) : Bool :=
  let x := portalDesc w
  let p := d.portal t
  d.descBad k x rlen || (decide (p.outFill x.vc + 1 + x.len ≤ 17)
    && (x.vc != 0 || (decide (p.outst.length < 64) && decide (respFlits x rlen ≤ d.parkFree t f))))

/-- The pins of DOUT (R221). -/
def Dev.doutPins (d : Dev) (f t : Nat) : List (Nat × Nat) := d.usedPins f t .portal 288

/-- A descriptor stands on DOUT of d; it is taken once it fits, from d1, which has paid for what was undefined in it. RLEN of a read has no
place in a descriptor (log entry 40). -/
def Dev.startPacket (d d1 : Dev) (f t h : Nat) (k : Kernel) (v : Nat) : Dev :=
  let w := v % 2 ^ 64
  let (rlen, d1) := if (portalDesc w).cmd == 1 then (1 + d1.peekWord.toNat % 512, d1.burn) else (0, d1)
  if d1.descFits f t k w rlen then (d1.pinsTake f t .portal (d.doutPins f t)).takeDescriptor f t h k w rlen else d

/-- A portal takes the flit that stands on DOUT (R221 to R223): a data flit of the packet begun, a flit to discard, or a descriptor. A packet begun
is filled by the next flits taken, also after a switch (DEDUCED, log entry 138). -/
def Dev.takeFlit (d : Dev) (t : Nat) (sense : PinSense) : Dev :=
  let f := d.shown t
  if !d.live t || !d.portalOn t || !d.pinsReady f t .portal (d.doutPins f t) then d
  else match d.shownKernel t with
    | none => d
    | some (h, k) =>
      let x := d.portal t
      let (v, d1) := d.senseWord f t .portal 0 0 288 sense.faults
      let (v, d1) := d1.synced sense.unresolved 288 v
      let take := fun (d : Dev) => d.pinsTake f t .portal (d.doutPins f t)
      if x.skip ≠ 0 then (take d).setPortal t { x with skip := x.skip - 1 }
      else match x.outq.reverse with
        | o :: rest =>
          if o.left ≠ 0 then
            let pkt := { o.pkt with data := o.pkt.data ++ bytesLE 32 v, enables := o.pkt.enables ++ (List.range 32).map fun j => v.testBit (256 + j) }
            (take d1).setPortal t { x with outq := ({ o with pkt := pkt, left := o.left - 1 } :: rest).reverse }
          else Dev.startPacket d d1 f t h k v
        | [] => Dev.startPacket d d1 f t h k v

/-- The router takes the oldest whole packet of a channel from a portal's outbound queue (R222, R268). -/
def Dev.sendOut (d : Dev) (t vc : Nat) : Dev :=
  let x := d.portal t
  match x.outq.find? fun o => o.pkt.vc.toNat == vc with
  | none => d
  | some o =>
    if o.left ≠ 0 || !d.running then d
    else
      let x := { x with outq := x.outq.erase o }
      let x := if [4, 5, 8, 9].contains o.pkt.dep.toNat then { x with sent := x.sent ++ [⟨o.pkt, o.kern, o.buf⟩] } else x
      (d.setPortal t x).emit (.packet o.pkt)

/-- PORTAL_DESCRIPTOR (R221 to R225): the portal takes the next flit that the fabric gives, and the router takes a whole packet. -/
def Dev.portalDescriptor (d : Dev) (t : Nat) (take : Bool) (sense : PinSense) (send : Option Nat) : Dev :=
  let d := if take then d.takeFlit t sense else d
  match send with
  | some vc => d.sendOut t vc
  | none => d

/-! The row port (R229 to R231, R90, R274, R275). -/

/-- A fret's row-port mode and bind slot (R236). -/
def Dev.rowPortOn (d : Dev) (t : Nat) : Bool := d.portBits (d.shown t) t 1280 1 == 1
def Dev.kdrive (d : Dev) (t : Nat) : Bool := d.rowPortOn t && d.portBits (d.shown t) t 1281 1 == 1

/-- The row register of the shown fret. -/
def Dev.rowReg (d : Dev) (t : Nat) : Option RowReg := KMap.find d.rowRegs (8 * t + d.shown t)

/-- Replace or empty it. -/
def Dev.setRowReg (d : Dev) (t : Nat) (r : RowReg) : Dev := { d with rowRegs := KMap.put d.rowRegs (8 * t + d.shown t) r }
def Dev.delRowReg (d : Dev) (t : Nat) : Dev := { d with rowRegs := KMap.del d.rowRegs (8 * t + d.shown t) }

/-- The outputs of a row port are complete. -/
def Dev.rowOutsFree (d : Dev) (t : Nat) : Bool := d.outsFree t .rowData 0 512 && d.outsFree t .rowCtl 0 6

/-- A register whose eighth slice is complete is empty (R230). -/
def Dev.rowRegFree (d : Dev) (t : Nat) : Bool :=
  match d.rowReg t with
  | none => true
  | some r => !r.toBank && decide (8 ≤ r.slices) && d.rowOutsFree t

/-- The tile of a kernel's row port by index: the declared row ports in the order of the image's tile entries (R90, R328). -/
def Kernel.rowTile (k : Kernel) (port : Nat) : Option Nat :=
  ((List.range k.where.length).filterMap fun i => match k.tiles[i]? with
    | some r => if r.rowPort then k.where[i]? else none
    | none => none)[port]?

/-- The ROWMOVE that drives a tile's row port: queue, sequence number, command fields, rows moved so far. -/
def Dev.rowCommand (d : Dev) (t : Nat) : Option (Nat × Nat × Nat × Nat × Bool × Nat × Nat) :=
  d.runningCmds.findSome? fun (q, e) => match e.cmd with
    | some (.rowmove kern buf port dir first count) =>
      (match d.kernel kern.toNat with
        | some k => if !k.released && k.fret == d.shown t && k.rowTile port.toNat == some t && e.aux.getD 0 0 < count.toNat then
            some (q, e.seq, kern.toNat, buf.toNat, dir, first.toNat, e.aux.getD 0 0) else none
        | none => none)
    | _ => none

/-- The next row move at a tile's row port: one that waits there, else the next row of the ROWMOVE that drives it. -/
def Dev.rowNext (d : Dev) (t : Nat) : Option RowReq :=
  match KMap.find d.rowReqs (8 * t + d.shown t) with
  | some r => some r
  | none =>
    if d.rowPortOn t && !d.kdrive t then
      (d.rowCommand t).map fun (q, seq, _, buf, dir, first, n) => ⟨buf, first + n, dir, some (q, seq), false, 0⟩
    else none

/-- ROW_REQUEST (R229, R230): an RQ and RQDIR token request a row of the buffer bound to the port's slot; while the slot has
no row-port binding the token waits. -/
def Dev.rowRequest (d : Dev) (t : Nat) (sense : PinSense) : Dev :=
  let f := d.shown t
  let pins := d.usedPins f t .rowCtl 20
  if d.live t && d.phaseOf t == 1 && d.kdrive t && (KMap.find d.rowReqs (8 * t + d.shown t)).isNone && d.pinsReady f t .rowCtl pins then
    match d.shownKernel t with
    | none => d
    | some (_, k) => match KMap.find k.binds (d.portBits f t 1282 4) with
      | some b =>
        if b.kind == 1 then
          let (row, d) := d.senseWord f t .rowCtl 0 0 20 sense.faults
          let (dir, d) := d.senseWord f t .rowCtl 1 0 1 sense.faults
          let (v, d) := d.synced sense.unresolved 21 (row + 2 ^ 20 * dir)
          { d.pinsTake f t .rowCtl pins with
            rowReqs := KMap.put d.rowReqs (8 * t + d.shown t) ⟨b.target, v % 2 ^ 20, v.testBit 20, none, false, 0⟩ }
        else d
      | none => d
  else d

/-- A tile's row port has a move that the governor may keep waiting: not admitted and not carried yet (R275). -/
def Dev.moveWaits (d : Dev) (t : Nat) : Bool :=
  let carried := match d.rowReg t with | some g => !g.toBank && decide (g.slices < 8) | none => false
  match d.rowNext t with
  | some r => !r.admitted && !carried
  | none => false

/-- The column whose turn it is among those with waiting moves, round robin after the last one admitted (R275). -/
def Dev.moveColumn (d : Dev) : Option Nat :=
  ((List.range 64).map fun i => (d.moveTurn + 1 + i) % 64).find? fun c => (List.range 4).any fun e => d.moveWaits (tileOfCol c e)

/-- ROW_MOVE_ADMIT (R275): a move that had to wait is admitted in its column's turn, and counts. A move that ROW_MOVE carries without it did not have
to wait: which moves do is the governor's power estimate (log entry 130). -/
def Dev.rowMoveAdmit (d : Dev) (t : Nat) : Dev :=
  if !d.moveWaits t || d.moveColumn != some (colOfTile t) then d
  else match d.rowNext t with
    | some r => { d.inc STORE_MOVE_THROTTLED with
        moveTurn := colOfTile t
        rowReqs := KMap.put d.rowReqs (8 * t + d.shown t) { r with admitted := true } }
    | none => d

/-- The outcome of a row move reaches its command or the running KRUN (R231). -/
def Dev.rowFault (d : Dev) (t : Nat) (cmd : Option (Nat × Nat)) (st : Status) : Dev :=
  match cmd with
  | some (q, seq) => d.fix q seq st
  | none => match d.shownKernel t with
    | some (h, _) => d.runError h st
    | none => d

/-- A row has moved: the port's counts, and the next row of its command or its end (R90, R231). -/
def Dev.rowDone (d : Dev) (t : Nat) (r : RowReq) : Dev :=
  let d := { (d.inc (FABRIC_ROWP_STAT_ROWS t)) with rowReqs := KMap.del d.rowReqs (8 * t + d.shown t) }
  match r.cmd with
  | none => d
  | some (q, seq) =>
    let d := d.updEntry q seq fun e => { e with aux := e.aux.set 0 (e.aux.getD 0 0 + 1) }
    match d.entry q seq with
    | some e => match e.cmd with
      | some (.rowmove _ _ _ _ _ count) =>
        if e.aux.getD 0 0 == count.toNat then
          d.fix q seq (if e.aux.getD 1 0 == 1 then .busError else if e.aux.getD 1 0 == 2 then .uncorrectable else .ok)
            (.ofNat 64 (e.aux.getD 0 0))
        else d
      | _ => d
    | none => d

/-- A move that cannot take place ends: its request goes, its command or KRUN takes a status. -/
def Dev.rowAbort (d : Dev) (t : Nat) (r : RowReq) (st : Status) : Dev :=
  ({ d with rowReqs := KMap.del d.rowReqs (8 * t + d.shown t) }).rowFault t r.cmd st

/-- Pull a row into the row port's column (R90, R118, R125): none when the record makes it wait. -/
def Dev.pullIn (d : Dev) (t : Nat) (r : RowReq) (b : Buffer) : Dev :=
  let c := colOfTile t
  let place := d.nextRow d.usedRows c (prevBank (b.rows.filterMap id) c)
  match d.replayAsk 6 6 r.buf with
  | .wait => d
  | .none => d.diverge.rowAbort t r .placement
  | ask =>
    match place with
    | none => (match ask with | .take _ _ => d.diverge.passEntry | _ => d).rowAbort t r .placement
    | some x =>
      if !d.bankOn (x / 512) then d.wakeBank (x / 512)
      else
        let rows := b.rows.set r.row (some x)
        let go := fun (d : Dev) => (d.bufDecided 6 r.buf (rowsMask rows) rows).moveRow r.buf r.row x
        match ask with
        | .take w1 w2 =>
          if w1 == rowsMask rows && w2 % 2 ^ 32 == rowMapCrc rows then go d.passEntry
          else (d.diverge.passEntry).rowAbort t r .placement
        | _ => go d

/-- Write a whole row that a port has encoded (R274): an armed flip alters its word 0 (R279). -/
def Dev.putRow (d : Dev) (r : Nat) (bytes : List Byte) : Dev :=
  (List.range 16).foldl (fun d k => Dev.putWord d (16 * r + k) ((bytes.drop (32 * k)).take 32)) d

/-- The command or KRUN whose staging a row move joins (R56). -/
def Dev.moveOwner (d : Dev) (t : Nat) (r : RowReq) : Option (Nat × Entry) :=
  (match r.cmd with
    | some x => some x
    | none => (d.shownKernel t).bind fun (_, k) => k.run.map fun (y : Run) => (y.q, y.seq)).bind fun (q, seq) => (d.entry q seq).map fun e => (q, e)

/-- A row reaches the port's buffer from the fabric: staged as part of a command or KRUN, or stored (R56, R59, R91, R230); while it must wait
for staging rows, nothing. -/
def Dev.storeRow (d : Dev) (t : Nat) (r : RowReq) (b : Buffer) (x : Nat) (bytes : List Byte) : Dev :=
  let stored := fun (d : Dev) => (((d.delRowReg t).inc STORE_MOVE_MOVES).putRow x bytes).mirror (512 * x) 512
  match d.moveOwner t r with
  | none => if b.commit then ((d.delRowReg t).inc STORE_MOVE_MOVES).rowDone t r else (stored d).rowDone t r
  | some (q, e) =>
    if !b.commit then ((stored d).updEntry q e.seq fun e => { e with wrote := (r.buf, 512 * r.row, 512) :: e.wrote }).rowDone t r
    else
      let st := stageBytes r.buf (512 * r.row) bytes (List.replicate 512 true) ++ e.staged
      match d.stageFit q e.seq st e.delta with
      | .waits => d
      | .over => ((((d.delRowReg t).inc STORE_MOVE_MOVES)).rowFault t r.cmd .placement).rowDone t r
      | .fits => (((d.delRowReg t).inc STORE_MOVE_MOVES).updEntry q e.seq fun e => { e with staged := st }).rowDone t r

/-- A row as a command or KRUN reads it: the words that it has staged in part or whole with their new data (R56), the others as they stand. -/
def Dev.rowSeen (d : Dev) (t : Nat) (r : RowReq) (x : Nat) : List Byte × List Byte :=
  let staged := match d.moveOwner t r with | some (_, e) => e.staged.filter fun y => y.1 == r.buf && y.2.1 / 512 == r.row | none => []
  let words := (List.range 16).map fun k =>
    let o := 512 * r.row + 32 * k
    if staged.any fun y => y.2.1 / 32 == o / 32 then (overlayStaged staged r.buf o (d.wordData (16 * x + k)), [0, 0, 0])
    else (memGetList d.mem (512 * x + 32 * k) 32, d.wordRes (16 * x + k))
  ((words.map (·.1)).flatten, (words.map (·.2)).flatten)

/-- ROW_MOVE (R90, R230, R273 to R275): a row crosses between its bank and the row port. -/
def Dev.rowMove (d : Dev) (t : Nat) : Dev :=
  if !d.live t || !d.rowPortOn t || !d.storeOpen then d
  else match d.rowNext t with
    | none => d
    | some r => match d.buffer r.buf with
      | none => d.rowAbort t r .busError
      | some b =>
        if b.sealed then d.rowAbort t r .security
        else match b.rows.getD r.row none with
          | none => d.rowAbort t r .busError
          | some x =>
            if x / 8192 != colOfTile t then (if d.phaseOf t == 1 then d.pullIn t r b else d)
            else match d.gateRow .device b.key x with
              | .wait => d
              | .serve =>
                if r.toBank then
                  match d.rowReg t with
                  | some g =>
                    if g.toBank && g.slices == 8 then
                      d.storeRow t r b x g.bytes
                    else d
                  | none => d
                else if d.rowRegFree t && d.phaseOf t == 1 then
                  let d := { d.inc STORE_MOVE_MOVES with rowReqs := KMap.put d.rowReqs (8 * t + d.shown t) r }
                  let (bytes, res) := d.rowSeen t r x
                  d.setRowReg t ⟨false, 0, bytes, res, x⟩
                else d
              | _ => d.rowAbort t r .busError

/-- One word of a slice as the port decodes it (R231, R264): its data, the RSTAT it calls for, and the report. -/
def Dev.sliceWord (d : Dev) (t : Nat) (g : RowReg) (k : Nat) : List Byte × Nat × Dev :=
  let w := 16 * g.srow + k
  match decodeWord ((g.bytes.drop (32 * k)).take 32) ((g.res.drop (3 * k)).take 3) with
  | .good b => (b, 0, d)
  | .fixed b s => (b, 0, (d.queueWriteBack w).storeReport w 0 s)
  | .poison =>
    let (b, d) := d.freshBytes 32
    (b, 1, d.set (FABRIC_ROWP_STAT_POISON t))
  | .lost =>
    let (b, d) := d.freshBytes 32
    (b, 2, (d.storeReport w 1 63).set (FABRIC_ROWP_STAT_UNCORR t))

/-- A slice has gone out: the row takes the worst of its slices' statuses, and its command or KRUN learns of it when the row is over (R231,
R567). -/
def Dev.sliceOut (d : Dev) (t slice rstat : Nat) : Dev :=
  match KMap.find d.rowReqs (8 * t + d.shown t) with
  | none => d
  | some r =>
    let worst := if rstat == 1 || r.worst == 1 then 1 else max rstat r.worst
    let d := { d with rowReqs := KMap.put d.rowReqs (8 * t + d.shown t) { r with worst := worst } }
    if slice ≠ 7 then d
    else
      let d := if worst == 0 then d else match r.cmd with
        | some (q, seq) => d.updEntry q seq fun e => { e with aux := e.aux.set 1 (if worst == 1 || e.aux.getD 1 0 == 1 then 1 else 2) }
        | none => d.rowFault t none (if worst == 1 then .busError else .uncorrectable)
      d.rowDone t r

/-- A port takes a slice of WDATA (R230): its 64 bytes. -/
def Dev.sliceIn (d : Dev) (f t : Nat) (sense : PinSense) : List Byte × Dev :=
  let (v, d) := d.senseWord f t .rowData 0 0 512 sense.faults
  let (v, d) := d.synced sense.unresolved 512 v
  (bytesLE 64 v, d.pinsTake f t .rowData (d.usedPins f t .rowData 512))

/-- ROW_SLICE (R230, R231): the port issues the next slice of the row it holds, or takes the next one from the fabric. -/
def Dev.rowSlice (d : Dev) (t : Nat) (sense : PinSense) : Dev :=
  let f := d.shown t
  let given := d.pinsReady f t .rowData (d.usedPins f t .rowData 512)
  if !d.live t || !d.rowPortOn t then d
  else match d.rowReg t with
    | some g =>
      if g.toBank then
        if g.slices < 8 && given then
          let (bs, d) := d.sliceIn f t sense
          d.setRowReg t { g with slices := g.slices + 1, bytes := g.bytes ++ bs }
        else d
      else if g.slices < 8 && d.rowOutsFree t then
        let (b0, s0, d) := d.sliceWord t g (2 * g.slices)
        let (b1, s1, d) := d.sliceWord t g (2 * g.slices + 1)
        let rstat := if s0 == 1 || s1 == 1 then 1 else max s0 s1
        let (v, d) := d.synced sense.unresolved 512 (numLE (b0 ++ b1))
        let d := ((((d.outWord f t .rowData 0 512 v).outWord f t .rowCtl 0 3 g.slices).outWord f t .rowCtl 3 2 rstat).outBit
          f t .rowCtl 5 (g.slices == 7)).setRowReg t { g with slices := g.slices + 1 }
        d.sliceOut t g.slices rstat
      else d
    | none =>
      match d.rowNext t with
      | some r =>
        if r.toBank && d.phaseOf t == 1 && given then
          let (bs, d) := d.sliceIn f t sense
          d.setRowReg t ⟨true, 1, bs, [], 0⟩
        else d
      | none => d

/-! The control port (R233 to R235). -/

/-- Parameter register k of a fret of a tile. -/
def Dev.param (d : Dev) (t f k : Nat) : Word := KMap.get d.params (16 * (8 * t + f) + k) 0

/-- Write it. -/
def Dev.setParam (d : Dev) (t f k : Nat) (v : Word) : Dev :=
  { d with params := KMap.put d.params (16 * (8 * t + f) + k) v }.touchPlane t f

/-- PARAM_HANDSHAKE (R234): held in a quiesce. -/
def Dev.paramHandshake (d : Dev) (t : Nat) (sense : PinSense) : Dev :=
  let f := d.shown t
  let pins := (List.range 4).map fun n => (n, 0)
  if d.live t && d.phaseOf t == 1 && d.portBits f t 1536 1 == 1 && d.pinsReady f t .control pins && d.outsFree t .control 0 64 then
    let (k, d) := d.senseWord f t .control 0 0 4 sense.faults
    let (v, d) := d.synced sense.unresolved 64 (d.param t f k).toNat
    (d.pinsTake f t .control pins).outWord f t .control 0 64 v
  else d

/-- The lowest-numbered tile of the kernel that a tile shows, with the kernel (R233). -/
def Dev.controlKernel (d : Dev) (t : Nat) : Option (Nat × Kernel) :=
  match d.shownKernel t with
  | some (h, k) => if k.anchor == t && d.portBits (d.shown t) t 1537 1 == 1 then some (h, k) else none
  | none => none

/-- A cell of a tile's shown fret could begin an operation, or issue its CO ahead of its CI, now (R139, R154). -/
def Dev.cellEnabled (d : Dev) (t idx : Nat) : Bool :=
  let f := d.shown t
  let w := d.cellWord f t idx
  (d.iface f t idx).1 = .none && !d.idleCell f t idx && match d.cellInputs f t idx 0 with
    | (none, _) => false
    | (some inp, _) => (d.cellCi f t idx inp).isSome || ((cellMode w == 1 || cellMode w == 3) && !(cellTree w inp).1)

/-- A spine driver of an ensemble offers a token for SP32, which a quiesce is to discard (R194, R200). -/
def Dev.requestOffered (d : Dev) (a : Nat) : Bool :=
  match d.driverOf (d.shown a) a 32 with
  | some (t, j, c) => (d.offeredTo (d.shown a) (.out t c) (loadCode 2 t j 0)).isSome
  | none => false

/-- A tile's row port is between rows (R193): it holds no row whose slices have begun to go to the fabric. -/
def Dev.rowBetween (d : Dev) (t : Nat) : Bool :=
  match d.rowReg t with
  | some g => g.toBank || g.slices == 0 || decide (8 ≤ g.slices)
  | none => true

/-- An ensemble is at rest (R193): no token in flight on its tiles, no cell that could operate, no access in progress in their memories, no
row half way to the fabric, no request to discard (log entry 11). -/
def Dev.atRest (d : Dev) (a : Nat) : Bool :=
  match KMap.find d.ensembles a with
  | none => true
  | some e =>
    let ts := e.where a
    (d.toks.all fun (k, x) => !ts.contains (k / 16384 % 256) || (k / 16384 / 256 == 1 && x.acked.isEmpty))
      && (d.memHolds.all fun x => !ts.contains (x.1 / 32))
      && ts.all d.rowBetween && !d.requestOffered a
      && d.frames.all fun (adr, _) =>
        let t := adr / 32 % 256
        !(ts.contains t && adr / 8192 == d.shown t) || (List.range 512).all fun i => !d.cellEnabled t (512 * (adr % 32) + i)

/-- A kernel that has signalled done and has drained ends its KRUN (R94): OK with the done word, or the first error it met. -/
def Dev.finishRun (d : Dev) (h : Nat) : Dev :=
  match d.kernel h with
  | some k => match k.run with
    | some r => match r.done with
      | some v =>
        if d.atRest (d.homeOf k) then
          ((d.fix r.q r.seq (r.err.getD .ok) (if r.err.isSome then 0 else v)).updKernel h fun k => { k with run := none }).runEnded h
        else d
      | none => d
    | none => d
  | none => d

/-- KERNEL_DONE (R235): the first DONE after START ends the run; one with no run that START has begun is discarded, with its event. -/
def Dev.kernelDone (d : Dev) (t : Nat) (sense : PinSense) : Dev :=
  let f := d.shown t
  let pins := (List.range 64).map fun n => (n, 1)
  match d.controlKernel t with
  | none => d
  | some (h, k) =>
    if d.live t && d.pinsReady f t .control pins then
      let (v, d) := d.senseWord f t .control 1 0 64 sense.faults
      let (v, d) := d.synced sense.unresolved 64 v
      let d := d.pinsTake f t .control pins
      match k.run.filter (·.begun) with
      | some r =>
        if r.done.isNone then
          (d.updKernel h fun k => { k with run := some { r with done := some (.ofNat 64 v) } }).finishRun h
        else d
      | none => d.raise { cls := .slate, flag := ERR_STAT_STRAYDONE, ukind := 1, uid := t }
    else d

/-- KERNEL_EVENT_PULSE (R235). -/
def Dev.kernelPulse (d : Dev) (t slot : Nat) (sense : PinSense) : Dev :=
  let f := d.shown t
  match d.controlKernel t with
  | none => d
  | some (_, k) =>
    if d.live t && d.pinsReady f t .control [(slot, 2)] then
      let (v, d) := d.senseWord f t .control 2 slot 1 sense.faults
      let (v, d) := d.synced sense.unresolved 1 v
      let d := d.pinsTake f t .control [(slot, 2)]
      match KMap.find k.binds slot with
      | some b => if v == 1 && b.kind == 2 then d.pulse b.target else d
      | none => d
    else d

/-! Meanings. -/

/-- MIGRATION_RESUME (R128): debug accesses that waited for it are served (R219). -/
def execMigrationResume (anchor : TileId) (s : State) : Result := s.next (s.dev.migrationResume anchor.toNat).pumpDebug

/-- METERING_CLOCK_EDGE (R252). -/
def execMeteringClockEdge (edge : MeterEdge) (s : State) : Result :=
  s.next (s.dev.meteringEdge (b2n edge.dieB) edge.late edge.faults)

/-- BMEM_ACCESS (R212). -/
def execBmemAccess (tile : TileId) (mem : BitVec 4) (portB : Bool) (sense : MemSense) (s : State) : Result :=
  s.next (s.dev.bmemAccess tile.toNat mem.toNat portB sense)

/-- BMEM_WRITEBACK (R215). -/
def execBmemWriteback (tile : TileId) (mem : BitVec 4) (word : BitVec 10) (s : State) : Result :=
  s.next (s.dev.bmemWriteback tile.toNat mem.toNat word.toNat)

/-- BMEM_DEBUG_ACCESS (R219). -/
def execBmemDebugAccess (src : Src) (ltile : TileId) (mem : BitVec 4) (ofs : BitVec 13) (size : BitVec 8) (write : Bool)
    (data : Word) (s : State) : Result :=
  s.next (s.dev.bmemDebug src ltile.toNat mem.toNat ofs.toNat size.toNat write data.toNat)

/-- PORTAL_DESCRIPTOR (R223). -/
def execPortalDescriptor (tile : TileId) (take : Bool) (sense : PinSense) (send : Option (BitVec 2)) (s : State) : Result :=
  s.next (s.dev.portalDescriptor tile.toNat take sense (send.map (·.toNat)))

/-- PORTAL_INBOUND (R222). -/
def execPortalInbound (tile : TileId) (take : InTake) (s : State) : Result :=
  s.next (s.dev.portalInbound tile.toNat take.vc.toNat (take.lost.map (·.toNat)))

/-- ROW_REQUEST (R230). -/
def execRowRequest (ts : TileSense) (s : State) : Result := s.next (s.dev.rowRequest ts.tile.toNat ts.sense)

/-- ROW_MOVE_ADMIT (R275). -/
def execRowMoveAdmit (tile : TileId) (s : State) : Result := s.next (s.dev.rowMoveAdmit tile.toNat)

/-- ROW_MOVE (R274). -/
def execRowMove (tile : TileId) (s : State) : Result := s.next (s.dev.rowMove tile.toNat)

/-- ROW_SLICE (R230). -/
def execRowSlice (ts : TileSense) (s : State) : Result := s.next (s.dev.rowSlice ts.tile.toNat ts.sense)

/-- PARAM_HANDSHAKE (R234). -/
def execParamHandshake (ts : TileSense) (s : State) : Result := s.next (s.dev.paramHandshake ts.tile.toNat ts.sense)

/-- KERNEL_DONE (R235). -/
def execKernelDone (ts : TileSense) (s : State) : Result := s.next (s.dev.kernelDone ts.tile.toNat ts.sense)

/-- KERNEL_EVENT_PULSE (R235). -/
def execKernelEventPulse (ts : TileSense) (slot : BitVec 4) (s : State) : Result :=
  s.next (s.dev.kernelPulse ts.tile.toNat slot.toNat ts.sense)

end Sys2Proof.Machine
end

