-- ==== Sys2Proof/Machine/Frets.lean ====
section
/-!
DEFINITION. Fret controllers (chapter 07): triggers, quiesces and their limit, the switch step, preloads, rotations; tile
resets and the counts of metering and quiesce times.
-/
namespace Sys2Proof.Machine

/-- Nanoseconds of a stamp (R62). -/
def stampNs (s : Nat) : Nat := bitsOf s 34 30 * 1000000000 + bitsOf s 4 30

/-- A command that waits for a switch or preload completes; KSWITCH reports the ns since its start (R98). -/
def Dev.switchDone (d : Dev) (q seq : Nat) : Dev :=
  match d.entry q seq with
  | some e => d.fix q seq .ok (.ofNat 64 (stampNs d.stamp - stampNs e.started))
  | none => d

/-- A trigger's command completes: a KSWITCH (R98), a KADMIT whose ensemble has grown (R93); a KRUN goes on to its start (R94). -/
def Dev.triggerDone (d : Dev) (tr : Trigger) : Dev :=
  match tr with
  | .toFret _ (some (q, seq)) => match d.entry q seq with
    | some e => match e.cmd with
      | some (.kswitch _ _) => d.switchDone q seq
      | _ => d
    | none => d
  | .reshape h (some (q, seq)) => if d.joined h then d.admitDone q seq h else d
  | _ => d

/-- The kernel of an ensemble in a fret has a KRUN that waits to be shown. -/
def Dev.runWaits (d : Dev) (a : Nat) (e : Ensemble) (f : Nat) : Bool :=
  (d.members a e).any fun (_, k) => k.fret == f && (match k.run with | some r => !r.begun | none => false)

/-- The next fret, counted upward from the shown one and wrapping, whose kernel has a KRUN that waits to be shown (R203). -/
def Dev.waitingFret (d : Dev) (a : Nat) : Option Nat :=
  match KMap.find d.ensembles a with
  | none => none
  | some e =>
    let s := d.shown a
    ((List.range 7).map fun i => (s + 1 + i) % 8).find? (d.runWaits a e)

/-- A kernel's KRUN runs and has not completed (R115). -/
def Kernel.running (k : Kernel) : Bool := match k.run with | some r => r.begun | none => false

/-- A trigger can be taken (R115): a KRUN's, not while the shown kernel's KRUN runs, nor in a rotation, whose dwells decide (R94). -/
def Dev.triggerOpen (d : Dev) (a : Nat) (e : Ensemble) (t : Trigger) : Bool :=
  match t with
  | .run _ => !e.rotating && !(match d.ensKernel a with | some (_, k) => k.running | none => false)
  | _ => true

/-- The triggers that still wait: a KRUN's whose kernel has begun by other means, or ended, waits no longer. -/
def Dev.liveTriggers (d : Dev) (a : Nat) (e : Ensemble) : List Trigger :=
  e.waiting.filter fun t => match t with
    | .run f => d.runWaits a e f
    | _ => true

/-- The trigger an ensemble takes next, and those that go on waiting: in order of arrival, but for a KRUN's that must wait for another run to
complete (R115, R204, log entry 12). -/
def Dev.nextTrigger (d : Dev) (a : Nat) (e : Ensemble) : Option (Trigger × List Trigger) :=
  let l := d.liveTriggers a e
  (l.find? (d.triggerOpen a e)).map fun t => (t, l.erase t)

/-- The fret that a trigger has the ensemble show. -/
def Trigger.fret? : Trigger → Option Nat
  | .toFret f _ => some f
  | .run f => some f
  | _ => none

/-- SP16 rises (R194): the ensemble runs free (R254), and a token on SP32 is acknowledged and discarded. -/
def Dev.raiseSp16 (d : Dev) (a : Nat) (e : Ensemble) (tr : Trigger) : Dev :=
  let d := (d.updEns a fun e => { e with phase := 2, cur := some tr }).runFree (e.where a)
  if (d.tok (tokKey 4 a 32)).isSome then d.takeRequest a else d

/-- QUIESCE (R194, R204): the fret controller takes a trigger and raises SP16; one that shows the fret already shown
completes with no quiesce. -/
def Dev.quiesce (d : Dev) (a : Nat) : Dev :=
  match KMap.find d.ensembles a with
  | none => d
  | some e =>
    let gate := if e.both then d.gateServes 11 && d.gateServes 12 else d.gateServes (if a < 128 then 11 else 12)
    if e.phase ≠ 1 || !d.settling || !gate || d.dieResets.contains 2 then d
    else match d.nextTrigger a e with
      | none => d
      | some (tr, rest) =>
        let d := d.updEns a fun e => { e with waiting := rest }
        if tr.fret? == some (d.shown a) then (d.triggerDone tr).resume a else d.raiseSp16 a e tr

/-- Discard the tokens in flight on an ensemble's tiles (R196): hold elements keep their values and occupancy. -/
def Dev.dropTokens (d : Dev) (ts : List Nat) : Dev :=
  { d with toks := d.toks.filter fun x => !ts.contains (x.1 / 16384 % 256) }

/-- Block-memory accesses in progress on some tiles complete (R194). -/
def Dev.endAccesses (d : Dev) (ts : List Nat) : Dev :=
  (d.memHolds.filter fun x => ts.contains (x.1 / 32)).foldl (fun d x => Dev.memFinish d (x.1 / 32) (x.1 / 2 % 16) (x.1 % 2 == 1)) d

/-- DETAIL of the events of frets (R450). -/
def fretDetail (t f h : Nat) : Nat := 8192 * f + 32 * t + 2 ^ 32 * h

/-- QUIESCE_LIMIT (R196): before rest, tokens in flight are discarded, the event is counted, and the switch proceeds; the
kernel's values are undefined until it is started from a known state. -/
def Dev.quiesceLimit (d : Dev) (a : Nat) : Dev :=
  match KMap.find d.ensembles a with
  | none => d
  | some e =>
    if e.phase ≠ 2 || d.atRest a then d
    else
      let f := d.shown a
      let h := match d.ensKernel a with | some (h, _) => h | none => 0
      let d := ((d.endAccesses (e.where a)).dropTokens (e.where a)).updEns a fun e => { e with phase := 3 }
      let d := if h == 0 then d else { d with undef := KMap.put d.undef h 2 }
      ((d.incSat (FRET_COUNT_STRANDS a)).wr (FRET_ERR_EFRET a) f).raise
        { cls := .ochre, flag := FRET_ERR_STRAND a, ukind := 1, uid := a, detail := fretDetail a f h }

/-- A fret's state is set as at image commit (R183); its parameter registers too when asked (R198). -/
def Dev.initState (d : Dev) (t f : Nat) (params : Bool) : Dev :=
  let tf := 8 * t + f
  { d with
    holds := d.holds.filter fun x => decide (x.1 / 16384 ≠ tf)
    params := if params then d.params.filter fun x => decide (x.1 / 16 ≠ tf) else d.params
    paramHeld := d.paramHeld.filter fun x => decide (x / 16 ≠ tf)
    parks := KMap.del d.parks tf
    rowRegs := KMap.del d.rowRegs tf
    planeCrcs := KMap.del d.planeCrcs tf
    badPlanes := d.badPlanes.filter (· != tf) }

/-- An incoming state plane fails its CRC (R198), in whichever member tile: the incoming kernel's running KRUN ends. -/
def Dev.stateBad (d : Dev) (a t f : Nat) : Dev :=
  let h := match KMap.find d.ensembles a with
    | some e => ((d.members a e).findSome? fun (h, k) => if k.fret == f then some h else none).getD 0
    | none => 0
  let d := (d.initState t f true).endRun h .uncorrectable
  (d.wr (FRET_ERR_EFRET t) f).raiseCounted
    { cls := .crimson, flag := FRET_ERR_STATEBAD t, ukind := 1, uid := t, detail := fretDetail t f h } .tile t

/-- The park beat of a tile (R197, R200): queued responses of the outgoing fret move to its park area, the parameter
handshake that waits is marked, and the state plane is written with a fresh CRC. -/
def Dev.parkTile (d : Dev) (t : Nat) : Dev :=
  let f := d.shown t
  let x := d.portal t
  let mine := x.inq.filter (x.responseFor f)
  let d := if mine.isEmpty then d else
    (d.setPortal t { x with
      inq := x.inq.filter fun p => !mine.contains p
      outst := x.outst.filter fun r => !(mine.any fun p => r.answeredBy p) }).setPark t f (d.park t f ++ mine)
  let pins := (List.range 4).map fun n => (n, 0)
  let held := d.portBits f t 1536 1 == 1 && d.pinsReady f t .control pins
  { d with
    paramHeld := if held then d.paramHeld ++ [16 * (8 * t + f) + d.pinsValue f t .control 0 0 4] else d.paramHeld
    badPlanes := d.badPlanes.filter (· != 8 * t + f) }.writePlane t f

/-- The restore beat of a tile of an ensemble (R197, R198). -/
def Dev.restoreTile (d : Dev) (a f : Nat) (bad : List Nat) (t : Nat) : Dev :=
  let d := if bad.contains t || d.planeFails t f then d.stateBad a t f else d
  { d with paramHeld := d.paramHeld.filter fun x => decide (x / 16 ≠ 8 * t + f) }

/-- KSWITCH commands that only preload, for an ensemble's fret or for any of its frets. -/
def Dev.preloaders (d : Dev) (a : Nat) (f : Option Nat) : List (Nat × Nat) :=
  d.runningCmds.filterMap fun (q, e) => match e.cmd with
    | some (.kswitch kern true) => match d.kernel kern.toNat with
      | some k => if d.homeOf k == a && (match f with | some x => k.fret == x | none => true) then some (q, e.seq) else none
      | none => none
    | _ => none

/-- PRELOAD_COMPLETE (R185): the next plane holds the whole fret; the KSWITCHes that asked for it complete. -/
def Dev.preloadComplete (d : Dev) (a : Nat) : Dev :=
  match KMap.find d.ensembles a with
  | none => d
  | some e => match e.preload with
    | none => d
    | some f =>
      let d := d.updEns a fun e => { e with preload := none }
      let d := (e.where a).foldl (fun d t => (Dev.wr d (FRET_STAT_NEXT t) f).set (FRET_STAT_NEXTV t)) d
      (d.preloaders a none).foldl (fun d (q, seq) => Dev.switchDone d q seq) d

/-- The ensemble shows a fret (R197, R205): counts, the outgoing fret in the next plane, the rotation's position and its next
commands that waited for a preload. -/
def Dev.showAll (d : Dev) (a : Nat) (e : Ensemble) (f : Nat) : Dev :=
  let s := d.shown a
  let pre := !d.planeReady a f
  let d := (e.where a).foldl (fun d t =>
    let d := Dev.inc d (FRET_COUNT_SWITCHES t)
    let d := if pre then d.inc (FRET_COUNT_PREFETCHES t) else d
    ((d.showFret t f).wr (FRET_STAT_NEXT t) s).set (FRET_STAT_NEXTV t)) d
  let pos := (e.rot.findIdx? fun r => match d.kernel r.kern.toNat with | some k => k.fret == f | none => false).getD e.rotPos
  let d := d.updEns a fun e => { e with rotPos := pos, preload := none }
  (d.preloaders a none).foldl (fun d (q, seq) => Dev.switchDone d q seq) d

/-- Store QTIME (R199). -/
def Dev.quiesceTime (d : Dev) (a qtime : Nat) : Dev :=
  let d := d.wr (FRET_QTIME_LAST a) qtime
  d.wr (FRET_QTIME_MAX a) (max (d.rd (FRET_QTIME_MAX a)) qtime)

/-- A fret that an ensemble no longer shows and no kernel holds is released (R184, R339). -/
def Dev.dropFret (d : Dev) (f t : Nat) : Dev := if d.shown t != f && (d.kernelAt t f).isNone then (d.clearFret t f).clr (fretKern t f) else d

/-- The parked ensemble shows a fret and resumes (R197); in a rotation the next entry's preload begins (R205). -/
def Dev.switchTo (d : Dev) (a : Nat) (e : Ensemble) (f : Nat) (bad : List Nat) (tr : Trigger) : Dev :=
  let ts := e.where a
  let old := d.shown a
  let d := ts.foldl (Dev.restoreTile · a f bad) d
  (ts.foldl (Dev.dropFret · old) (((d.showAll a e f).triggerDone tr).resume a)).preloadNext a

/-- FRET_SWITCH (R197, R198, R200): at rest, or after the quiesce limit, every member parks and restores; a switch to the
fret whose preload is in progress waits for it (R186). bad names the tiles whose incoming state plane fails its CRC. -/
def Dev.fretSwitch (d : Dev) (a qtime : Nat) (bad : List Nat) : Dev :=
  match KMap.find d.ensembles a with
  | none => d
  | some e => match e.cur with
    | none => d
    | some tr =>
      let ready := e.phase == 3 || (e.phase == 2 && d.atRest a)
      let loading := tr.fret?.isSome && tr.fret? == e.preload
      if !ready || loading || tr == .park && e.phase == 3 then d
      else
        let ts := e.where a
        let d := d.quiesceTime a qtime
        let d := ts.foldl Dev.parkTile d
        let d := d.dropTokens ts
        match tr with
        | .migrate =>
          let d := d.updEns a fun e => { e with phase := 4 }
          match KMap.find d.migrations a with
          | some m => { d with migrations := KMap.put d.migrations a { m with stage := max 1 m.stage } }
          | none => d.resume a
        | .park => d.updEns a fun e => { e with phase := 3 }
        | .reshape h cmd =>
          let d := d.updEns a fun e => { e with phase := 3 }
          let d := d.reshape a ((d.kernel h).filter fun k => !k.released)
          match ts.findSome? fun t => (d.ensembleOf t).map (·.1) with
          | some b => (d.triggerDone (.reshape h cmd)).resume b
          | none => d
        | .toFret f _ => d.switchTo a e f bad tr
        | .run f => d.switchTo a e f bad tr
        | .refresh reset =>
          let f := d.shown a
          let d := ts.foldl (fun d t => Dev.clr d (FRET_STAT_NEXTV t)) d
          let d := if reset then
              let d := ts.foldl (fun d t => Dev.initState d t f false) d
              match d.ensKernel a with
              | some (h, _) => (d.endRun h .uncorrectable)
              | none => d
            else ts.foldl (Dev.restoreTile · a f bad) d
          (d.showAll a e f).resume a

/-- FRET_REQUEST (R203): the fret controller takes the token on SP32; in a quiesce it discards it (R194). -/
def Dev.fretRequest (d : Dev) (a : Nat) : Dev :=
  match KMap.find d.ensembles a, d.tok (tokKey 4 a 32) with
  | some e, some x =>
    if e.phase == 2 then d.takeRequest a
    else if e.phase ≠ 1 then d
    else
      let d := d.takeRequest a
      match x.vals.head? with
      | some true =>
        if e.rotating then d.dwellEnd a
        else match d.waitingFret a with
          | some f => d.trigger a (.toFret f none)
          | none => d
      | _ => d
  | _, _ => d

/-- TILE_RESET (R553): a tile whose ensemble switches or migrates is reset when it has resumed. -/
def Dev.resetTile (d : Dev) (w : RegWr) : Dev :=
  if !w.one RESET_TILE_GO then d
  else
    let l := w.ones RESET_TILE_TILE
    let t := d.phys l
    match d.ensembleOf t with
    | some (_, e) => if e.phase == 1 || e.phase == 2 then d.tileReset t else { d with tileResets := d.tileResets ++ [l] }
    | none => d.tileReset t

/-- CFG_METER_STAT_CLR (R253): a late capture in the same access counts after the clear. -/
def Dev.meterStatWrite (d : Dev) (w : RegWr) (lateA lateB : Bool) : Dev :=
  let d := if w.one CFG_METER_STAT_CLRA then d.clr CFG_METER_STAT_LATE_A else d
  let d := if w.one CFG_METER_STAT_CLRB then d.clr CFG_METER_STAT_LATE_B else d
  let d := if lateA && d.meter.testBit 0 then d.lateCapture 0 else d
  if lateB && d.meter.testBit 1 then d.lateCapture 128 else d

/-- A write of FRET_QTIME. -/
def Dev.qtimeWrite (d : Dev) (t : Nat) (w : RegWr) : Dev := if w.one (FRET_QTIME_CLR t) then d.clr (FRET_QTIME_MAX t) else d

/-! Meanings. -/

/-- QUIESCE (R194). -/
def execQuiesce (anchor : TileId) (s : State) : Result := s.next (s.dev.quiesce anchor.toNat)

/-- FRET_SWITCH (R197). -/
def execFretSwitch (anchor : TileId) (qtime : BitVec 20) (badTiles : List TileId) (s : State) : Result :=
  s.next (s.dev.fretSwitch anchor.toNat qtime.toNat (badTiles.map (·.toNat)))

/-- QUIESCE_LIMIT (R196). -/
def execQuiesceLimit (anchor : TileId) (s : State) : Result := s.next (s.dev.quiesceLimit anchor.toNat)

/-- PRELOAD_COMPLETE (R185). -/
def execPreloadComplete (anchor : TileId) (s : State) : Result := s.next (s.dev.preloadComplete anchor.toNat)

/-- FRET_REQUEST (R203). -/
def execFretRequest (anchor : TileId) (s : State) : Result := s.next (s.dev.fretRequest anchor.toNat)

/-- DWELL_END (R205). -/
def execDwellEnd (anchor : TileId) (s : State) : Result := s.next (s.dev.dwellEnd anchor.toNat)

/-- TILE_RESET (R553). -/
def execTileReset (w : RegWr) (s : State) : Result := s.next (s.dev.onWrite (.tileReset w) w.src 0x20018 fun d => d.resetTile w)

/-- CFG_METER_STAT_CLR (R253). -/
def execCfgMeterStatClr (w : RegWr) (lateA lateB : Bool) (s : State) : Result :=
  s.next (s.dev.onWrite (.cfgMeterStatClr w lateA lateB) w.src 0x380088 fun d => d.meterStatWrite w lateA lateB)

/-- FRET_QTIME_CLR (R199). -/
def execFretQtimeClr (tile : TileId) (w : RegWr) (s : State) : Result :=
  s.next (s.dev.onWrite (.fretQtimeClr tile w) w.src (0x300020 + 0x400 * tile.toNat) fun d => d.qtimeWrite tile.toNat w)

end Sys2Proof.Machine
end

