-- ==== Sys2Proof/Machine/Tally.lean ====
section
/-!
DEFINITION. Tally engines and tables (chapter 11): descriptors, entries, inserts, deltas and
their merge, set-up, clearing, draining and release of tables.
-/
namespace Sys2Proof.Machine

/-! Entries (R286). -/

/-- The four entries of a protected word. -/
def entriesOf (bytes : List Byte) : List Nat := (List.range 4).map fun i => numLE ((bytes.drop (8 * i)).take 8)

/-- Whether an entry is in use with a tag. -/
def entryIs (e tag : Nat) : Bool := e.testBit 60 && bitsOf e 0 40 == tag % 2 ^ 40

/-- An update of an entry (R290). -/
def entryAdd (e inc uf : Nat) : Nat :=
  let c := min (bitsOf e 40 20 + inc) 1048575
  let sat := bitsOf e 61 1 ||| (if c == 1048575 then 1 else 0)
  bitsOf e 0 40 + 2 ^ 40 * c + 2 ^ 60 + 2 ^ 61 * sat + 2 ^ 62 * (bitsOf e 62 2 ||| uf)

/-- The result of an INSERT whose entry reads e (R282): count, flags, SPILL. -/
def insertResult (e : Nat) (spill : Bool) : Nat := bitsOf e 40 20 + 2 ^ 20 * bitsOf e 60 4 + 2 ^ 24 * b2n spill

/-- Try to update or fill one protected word: the new entries and the entry after. -/
def tryWord (es : List Nat) (tag inc uf : Nat) : Option (List Nat × Nat) :=
  match es.findIdx? fun e => entryIs e tag with
  | some i => let e := entryAdd (es.getD i 0) inc uf; some (es.set i e, e)
  | none => match es.findIdx? fun e => !e.testBit 60 with
    | some i => let e := entryAdd (tag % 2 ^ 40) inc uf; some (es.set i e, e)
    | none => none

/-! Engines. -/

/-- The engine of a table's column, and every bank that holds rows of the table there, are in service (R458). -/
def Dev.columnWorks (d : Dev) (x : TableSt) (c : Nat) : Bool :=
  !d.isRetired .tally c && !x.cols.any fun y => y.1 == c && y.2.any fun r => d.isRetired .bank (r / 512)

/-- Bring a waking bank On before an engine's access: the access waits for it (R272). -/
def Dev.awaitBank (d : Dev) (n : Nat) : Dev := if d.rd (BANK_OWN_PSTATE n) ≥ 2 then d.bankWakeComplete n else d

/-- Where a word of a table stands in it: its column, and its number among the words of the column's rows. -/
def TableSt.wordAt (x : TableSt) (w : Nat) : Nat × Nat :=
  (x.cols.findSome? fun c => (c.2.idxOf? (w / 16)).map fun i => (c.1, 16 * i + w % 16)).getD (0, 0)

/-- Store a protected word for an engine, mirrored when the table is (R293): the record names its place in the table. -/
def Dev.tablePut (d : Dev) (t w : Nat) (es : List Nat) : Dev :=
  let data := wordBytes es
  let d := d.putWord w data
  if d.telling && (d.on (TALLY_TBL_CFG_MIRROR t) || d.on (TALLY_TBL_CFG_COMMIT t)) then
    let (c, j) := match d.table t with
      | some x => x.wordAt w
      | none => (0, 0)
    d.capoSend 0x14 ([2, t, 2 ^ 32 * c + j] ++ data.map (·.toNat))
  else d

/-- A key is lost (R290). -/
def Dev.keyLost (d : Dev) (t : Nat) : Dev := (d.incSat (TALLY_TBL_LOST_COUNT t)).set (TALLY_TBL_LOST_OVERFLOW_LOST t)

/-- An insert that reaches a table is noted for every drain that has read it and is to clear it (R295). -/
def Dev.logInsert (d : Dev) (t key inc uf : Nat) : Dev :=
  if d.drains.isEmpty then d
  else { d with drains := d.drains.map fun x => if x.table == t then { x with log := (t, 0, key, inc + 2 ^ 20 * uf) :: x.log } else x }

/-- INSERT into a table's store words (R290): the outcome, the result, and the device. -/
def Dev.insertNow (d : Dev) (t : Nat) (x : TableSt) (key inc uf : Nat) : Outc × Nat × Dev :=
  let s := d.tallySpot t x (tallyHash (d.kbits t) key)
  if !d.columnWorks x s.col then (.busError, 0, d)
  else
    let d := d.awaitBank (s.bucket / 2 ^ 13)
    let (b, o, d) := d.readWord s.bucket
    if o ≠ .ok then (o, 0, d)
    else match tryWord (entriesOf b) s.tag inc uf with
      | some (es, e) => (.ok, insertResult e false, (d.tablePut t s.bucket es).logInsert t key inc uf)
      | none =>
        let d := d.awaitBank (s.spill / 2 ^ 13)
        let (b, o, d) := d.readWord s.spill
        if o ≠ .ok then (o, 0, d)
        else match tryWord (entriesOf b) s.stag inc uf with
          | some (es, e) => (.ok, insertResult e true, (d.tablePut t s.spill es).logInsert t key inc uf)
          | none => (.ok, 2 ^ 25, (d.keyLost t).logInsert t key inc uf)

/-- The entry of a key as the table holds it: the entry and whether it is in a spill set. -/
def Dev.tallyFind (d : Dev) (t : Nat) (x : TableSt) (key : Nat) : Option (Nat × Bool) :=
  let s := d.tallySpot t x (tallyHash (d.kbits t) key)
  let at_ := fun w tag => (entriesOf (d.wordData w)).find? fun e => entryIs e tag
  match at_ s.bucket s.tag with
  | some e => some (e, false)
  | none => (at_ s.spill s.stag).map fun e => (e, true)

/-- What a key's entry reads when the table and a delta are added up (R292). -/
def Dev.deltaSum (d : Dev) (t : Nat) (x : TableSt) (delta : List (Nat × Nat × Nat × Nat)) (key : Nat) : Nat :=
  delta.reverse.foldl (fun e (t2, op, k, v) =>
    if t2 == t && op == 0 && k == key then entryAdd e (v % 2 ^ 20) (v / 2 ^ 20) else e)
    (match d.tallyFind t x key with | some (e, _) => e | none => 2 ^ 60)

/-- The result of an INSERT that goes to a delta, its newest update: what it would be with the delta merged (R292). A key with no place there is
not lost: its result is the sum, as of a spill entry. -/
def Dev.deltaResult (d : Dev) (t : Nat) (x : TableSt) (delta : List (Nat × Nat × Nat × Nat)) (key : Nat) : Nat :=
  let (_, res, _) := delta.reverse.foldl (fun (acc : Outc × Nat × Dev) (t2, op, k, v) =>
    if t2 == t && op == 0 then acc.2.2.insertNow t x k (v % 2 ^ 20) (v / 2 ^ 20) else acc) (Outc.ok, 0, d)
  if res < 2 ^ 25 then res else insertResult (d.deltaSum t x delta key) true

/-- Merge a command's delta into its tables at its completion point (R292). The commit record tells the
twin of them, not write records (R422). An update whose word cannot be read, or whose column has retired meanwhile, is a lost key: the spec does not
say (DESIGN CHOICE, log entry 129). -/
def Dev.mergeDelta (d : Dev) (delta : List (Nat × Nat × Nat × Nat)) : Dev :=
  { delta.reverse.foldl (fun d (t, op, k, v) =>
    if op ≠ 0 then d
    else match Dev.table d t with
      | some x =>
        let (o, _, d) := d.insertNow t x k (v % 2 ^ 20) (v / 2 ^ 20)
        if o = .ok then d else d.keyLost t
      | none => d) d with
    capo := d.capo
    out := d.out }

/-- A descriptor uses a reserved field, a reserved OP, or an operand out of range (R281, R284). -/
def badDesc (w0 w1 : Nat) : Bool :=
  let op := bitsOf w0 0 4
  decide (8 ≤ op) || bitsOf w0 9 7 != 0
    || (decide (op < 7) && bitsOf w0 6 3 != 0)
    || (decide (op < 6) && w0.testBit 4 && bitsOf w1 32 32 != 0)
    || (op == 6 && !w0.testBit 4)
    || (op == 7 && bitsOf w1 22 42 != 0)
    || (decide (op < 7) && bitsOf w0 16 48 % (if w0.testBit 4 then 4 else 8) != 0)
    || (op == 7 && bitsOf w1 0 20 == 0)

/-- The new value of a word under ops 0 to 6 and the result (R282). -/
def tallyOp (op width old w1 : Nat) : Nat × Nat :=
  let m := 2 ^ width
  let v := w1 % m
  match op with
  | 0 => ((old + v) % m, old)
  | 1 => (min (old + v) (m - 1), old)
  | 2 => (old ||| v, old)
  | 3 => (old &&& v, old)
  | 4 => (min old v, old)
  | 5 => (max old v, old)
  | _ => if old == w1 % 2 ^ 32 then (bitsOf w1 32 32, old + 2 ^ 32) else (old, old)

/-- A command notes what it writes outside committed buffers (R45). -/
def Dev.noteCmd (d : Dev) (cmd : Option (Nat × Nat)) (h ofs n : Nat) : Dev :=
  match cmd with
  | some (q, seq) => d.updEntry q seq fun e => { e with wrote := (h, ofs, n) :: e.wrote }
  | none => d

/-- The store address of a key's entry, where the table holds one. -/
def Dev.entryAddr (d : Dev) (t : Nat) (x : TableSt) (key : Nat) : Option Nat :=
  let s := d.tallySpot t x (tallyHash (d.kbits t) key)
  let at_ := fun w tag => ((entriesOf (d.wordData w)).findIdx? fun e => entryIs e tag).map fun i => 32 * w + 8 * i
  (at_ s.bucket s.tag).or (at_ s.spill s.stag)

/-- An INSERT of a command into a table's own words, which notes the key whose entry it writes. -/
def Dev.insertFor (d : Dev) (cmd : Option (Nat × Nat)) (t : Nat) (x : TableSt) (key inc uf : Nat) : Outc × Nat × Dev :=
  let (o, r, d) := d.insertNow t x key inc uf
  (o, r, d.noteCmd cmd (2 ^ 24 + 1 + t) key 8)

/-- The outcome of reading the word of a committed table that a key falls on: its column works and the word decodes (R284); with the report of R264. -/
def Dev.deltaCheck (d : Dev) (t : Nat) (x : TableSt) (key : Nat) : Outc × Dev :=
  let s := d.tallySpot t x (tallyHash (d.kbits t) key)
  if !d.columnWorks x s.col then (.busError, d)
  else
    let d := d.awaitBank (s.bucket / 2 ^ 13)
    let (b, o, d) := d.readWord s.bucket
    if o ≠ .ok || (entriesOf b).any (entryIs · s.tag) then (o, d)
    else
      let d := d.awaitBank (s.spill / 2 ^ 13)
      let (_, o, d) := d.readWord s.spill
      (o, d)

/-- The updates of a committed table that a packet's descriptors would add to its KRUN's delta. -/
def Dev.deltaOf (d : Dev) (xs : List TDesc) : List (Nat × Nat × Nat × Nat) :=
  xs.filterMap fun x =>
    let t := bitsOf x.w0.toNat 6 3
    if bitsOf x.w0.toNat 0 4 == 7 && d.on (TALLY_TBL_CFG_COMMIT t) && (d.table t).isSome then
      some (t, 0, bitsOf x.w0.toNat 16 48, bitsOf x.w1.toNat 0 22) else none

/-- Perform one descriptor (R282, R284, R290 to R292): for whom, at which engine, under which key, and for which command's
delta. -/
def Dev.tallyDo (d : Dev) (id : Ident) (key c : Nat) (cmd : Option (Nat × Nat)) (x : TDesc) : Outc × Nat × Dev :=
  let w0 := x.w0.toNat
  let w1 := x.w1.toNat
  if badDesc w0 w1 || d.isRetired .tally c then (.busError, 0, d)
  else if bitsOf w0 0 4 == 7 then
    let t := bitsOf w0 6 3
    let k := bitsOf w0 16 48
    match d.table t with
    | none => (.busError, 0, d)
    | some tb =>
      if 2 ^ d.kbits t ≤ k then (.busError, 0, d)
      else
        let v := bitsOf w1 0 22
        match (if d.on (TALLY_TBL_CFG_COMMIT t) then cmd.bind fun (q, seq) => (d.entry q seq).map fun e => (q, e) else none) with
        | some (q, e) =>
          let (o, d) := d.deltaCheck t tb k
          if o ≠ .ok then (o, 0, d)
          else
            let delta := (t, 0, k, v) :: e.delta
            if 4096 < stagingRows e.staged delta then
              (.ok, 0, match e.cmd with
                | some (.krun kern) => d.runError kern.toNat .placement
                | _ => d)
            else
              let d := d.updEntry q e.seq fun e => { e with delta := delta }
              (.ok, d.deltaResult t tb delta k, d)
        | none => d.insertFor cmd t tb k (v % 2 ^ 20) (v / 2 ^ 20)
  else
    let a := bitsOf w0 16 48
    let w := a / 32
    if a / 2 ^ 22 ≠ c then (.busError, 0, d)
    else
      let d := d.awaitBank (a / 2 ^ 18)
      if d.isSealed (a / 512) then (.busError, 0, d)
      else match d.gateRow id key (a / 512) with
        | .keyDeny => (.busError, 0, d.keyMismatch a)
        | .serve =>
          let (b, o, d) := d.readWord w
          if o ≠ .ok then (o, 0, d)
          else
            let n := if w0.testBit 4 then 4 else 8
            let lo := a % 32
            let old := numLE ((b.drop lo).take n)
            let (new, res) := tallyOp (bitsOf w0 0 4) (8 * n) old w1
            let data := b.take lo ++ bytesLE n new ++ b.drop (lo + n)
            (.ok, res, ((d.putWord w data).mirror (32 * w) 32).noteCmd cmd (2 ^ 24) a n)
        | _ => (.busError, 0, d)

/-- Perform descriptors in order until one fails (R284, R285): how many were performed, the outcome, and the results of those
with RET set. -/
def Dev.tallyRun (d : Dev) (id : Ident) (key c : Nat) (cmd : Option (Nat × Nat)) :
    List TDesc → Nat → List Nat → Nat × Outc × List Nat × Dev
  | [], n, rs => (n, .ok, rs, d)
  | x :: rest, n, rs =>
    let (o, r, d) := d.tallyDo id key c cmd x
    if o ≠ .ok then (n, o, rs ++ ((x :: rest).filter fun y => y.w0.getLsbD 5).map fun _ => 0, d)
    else Dev.tallyRun d id key c cmd rest (n + 1) (if x.w0.getLsbD 5 then rs ++ [r] else rs)

/-- A posted descriptor fails (R284). -/
def Dev.tallyPostFail (d : Dev) (c : Nat) : Dev :=
  ((d.wr TALLY_STAT_PCOL c).incSat TALLY_STAT_PCOUNT).raise { cls := .ochre, flag := TALLY_STAT_PERR, ukind := 10, uid := c }

/-- The descriptors of a run of bytes. -/
def descsOf (data : List Byte) : List TDesc :=
  (List.range (data.length / 16)).map fun i =>
    ⟨.ofNat 64 (numLE ((data.drop (16 * i)).take 8)), .ofNat 64 (numLE ((data.drop (16 * i + 8)).take 8))⟩

/-- The kernel behind a packet from a portal, and the KRUN whose delta and staging its operations join (R56). -/
def Dev.sender (d : Dev) (p : Packet) : Option (Nat × Option (Nat × Nat)) :=
  if p.sep.toNat < 4 then
    let t := tileOfCol p.scol.toNat p.sep.toNat
    let hk := match (d.portal t).sent.find? fun x => x.pkt == p with
      | some x => (d.kernel x.kern).map fun k => (x.kern, k)
      | none => d.shownKernel t
    hk.map fun (h, k) => (h, k.run.map fun r => (r.q, r.seq))
  else none

/-- The bound buffer and the offset that a portal's packet is for (R224). -/
def Dev.sentBuf (d : Dev) (p : Packet) : Option (Nat × Nat) :=
  if p.sep.toNat < 4 then
    ((d.portal (tileOfCol p.scol.toNat p.sep.toNat)).sent.find? fun x => x.pkt == p).bind (·.buf)
  else none

/-- A portal's packet has reached its destination. -/
def Dev.forgetSent (d : Dev) (p : Packet) : Dev :=
  if p.sep.toNat < 4 then
    let t := tileOfCol p.scol.toNat p.sep.toNat
    let x := d.portal t
    match x.sent.find? fun y => y.pkt == p with
    | some y => d.setPortal t { x with sent := x.sent.erase y }
    | none => d
  else d

/-- The identity behind a packet (R267): a portal's kernel (0, which owns nothing, once it is gone), a PCIe port, or the device. -/
def Dev.packetIdent (d : Dev) (p : Packet) : Ident :=
  match d.sender p with
  | some (h, _) => .kern h
  | none => if p.sep.toNat < 4 then .kern 0 else if p.sep == 10 then (if p.scol.toNat == 31 then .port .a else .port .b) else .device

/-- A packet of tally descriptors at the engine of column c (R283 to R285). -/
def Dev.tallyPacket (d : Dev) (p : Packet) : Dev :=
  let c := p.dcol.toNat
  let cmd := (d.sender p).bind (·.2)
  let (n, o, rs, d) := d.tallyRun (d.packetIdent p) p.key.toNat c cmd (descsOf p.data) 0 []
  if p.vc == 0 then
    let sum := n % 64 + (if o ≠ .ok then 64 else 0)
    let bytes := wordBytes (sum :: rs)
    let pad := (32 - bytes.length % 32) % 32
    d.emit (.packet { response p .ok (bytes ++ List.replicate pad 0) with rstat := BitVec.ofNat 2 o.rstat })
  else if o ≠ .ok then d.tallyPostFail c else d

/-- A block whose gate does not serve refuses a packet (R502). -/
def Dev.gateRefuse (d : Dev) (p : Packet) : Dev :=
  (d.answerPacket p .busError []).report { cls := .ochre, bare := true }

/-- A KRUN notes a write to the store outside committed buffers (R45). -/
def Dev.noteWrote (d : Dev) (who : Option (Nat × Option (Nat × Nat))) (h ofs n : Nat) : Dev := d.noteCmd (who.bind (·.2)) h ofs n

/-- The KRUN behind a packet whose staging a write into a buffer joins (R56). -/
def Dev.stager (d : Dev) (p : Packet) (b : Buffer) : Option (Nat × Entry) :=
  match (d.sender p).bind (·.2) with
  | some (q, seq) => if b.commit then (d.entry q seq).map fun e => (q, e) else none
  | none => none

/-- A portal's access to a buffer bound to its slot (R224, R56, R268), as the device and under the buffer's key: a running
KRUN reads what it has staged, and its writes into a committed buffer are staged. -/
def Dev.portalBuffer (d : Dev) (p : Packet) (h ofs : Nat) : Dev :=
  let who := d.sender p
  match d.buffer h with
  | none => d.answerPacket p .busError []
  | some b =>
    let n := if p.cmd == 1 then p.rlen.toNat else p.data.length
    let rows := (bufPieces b ofs n).filterMap (·.1)
    let entry := d.stager p b
    let d := if p.cmd != 1 && entry.isNone then d.noteWrote who h ofs n else d
    if b.key != p.key.toNat then (d.keyMismatch (512 * rows.headD 0)).answerPacket p .busError []
    else if entry.isNone && rows.length == 1 && (bufPieces b ofs n).length == 1 then
      d.storeRequest ⟨.device, b.key, p.cmd != 1, 512 * rows.headD 0 + ofs % 512, n, p.data, p.enables, .packet p⟩
    else
      let d := (banksOf rows).foldl Dev.awaitBank d
      if p.cmd == 1 then
        let (bs, o, d) := d.bufRead h ofs n
        d.answerPacket p o (match entry with | some (_, e) => overlayStaged e.staged h ofs bs | none => bs)
      else match entry with
        | some (q, e) =>
          let (o, d) := d.stageCheck e.staged h ofs p.enables
          if o ≠ .ok then d.answerPacket p o []
          else
            let st := stageBytes h ofs p.data p.enables ++ e.staged
            if 4096 < stagingRows st e.delta then
              (match who with | some (k, _) => d.endRun k .placement | none => d).answerPacket p .busError []
            else (d.updEntry q e.seq fun e => { e with staged := st }).answerPacket p .ok []
        | none =>
          let (o, d) := d.bufWrite h ofs p.data p.enables
          d.answerPacket p o []

/-- RD, WR and WRP at the bank controller of a column (R267, R268, R304, R305). -/
def Dev.bankPacket (d : Dev) (p : Packet) : Dev :=
  let a := p.operand.toNat
  let n := if p.cmd == 1 then p.rlen.toNat else p.data.length
  let d := match d.sentBuf p with
    | some (h, ofs) => d.portalBuffer p h ofs
    | none =>
      if a < 2 ^ 28 ∧ a / 2 ^ 22 = p.dcol.toNat ∧ (a + max n 1 - 1) / 2 ^ 22 = p.dcol.toNat then
        (if p.cmd == 1 then d else d.noteWrote (d.sender p) (2 ^ 24) a n).storeRequest ⟨d.packetIdent p, p.key.toNat, p.cmd != 1, a, n, p.data, p.enables, .packet p⟩
      else d.answerPacket p .busError []
  d.forgetSent p

/-- An operation's word or table is mirrored, and the records to the twin have no room (R293, R425). inCmd: a command's insert into a committed
table goes to its delta. -/
def Dev.mirrorHeld (d : Dev) (inCmd : Bool) (x : TDesc) : Bool :=
  let t := bitsOf x.w0.toNat 6 3
  d.mirrorFull && (if bitsOf x.w0.toNat 0 4 == 7 then
      (if d.on (TALLY_TBL_CFG_COMMIT t) then !inCmd else d.on (TALLY_TBL_CFG_MIRROR t))
    else d.mirrored (bitsOf x.w0.toNat 16 48 / 512))

/-- Descriptors must wait: their inserts have no staging rows yet (R59), or what they update cannot be mirrored yet. -/
def Dev.descsHeld (d : Dev) (cmd : Option (Nat × Nat)) (xs : List TDesc) : Bool :=
  xs.any (d.mirrorHeld cmd.isSome) || (match cmd.bind fun (q, seq) => (d.entry q seq).map fun e => (q, e) with
    | some (q, e) =>
      let new := d.deltaOf xs
      !new.isEmpty && d.stageFit q e.seq e.staged (new.reverse ++ e.delta) == .waits
    | none => false)

/-- A write into a bound buffer must wait, for staging rows (R59) or for room among the records to the twin (R425). -/
def Dev.bufHeld (d : Dev) (p : Packet) (h ofs : Nat) : Bool :=
  p.cmd != 1 && (match d.buffer h with
    | none => false
    | some b => match d.stager p b with
      | some (q, e) => d.stageFit q e.seq (stageBytes h ofs p.data p.enables ++ e.staged) e.delta == .waits
      | none => (b.mirror || b.commit) && d.mirrorFull)

/-- A packet's writes are held (R59, R425), or an earlier packet of its source waits already. -/
def Dev.packetHeld (d : Dev) (p : Packet) : Bool :=
  (d.stageWait.any fun x => x.scol == p.scol && x.sep == p.sep)
    || (if p.cmd == 0x10 then d.descsHeld ((d.sender p).bind (·.2)) (descsOf p.data)
      else match d.sentBuf p with
        | some (h, ofs) => d.bufHeld p h ofs
        | none => false)

/-- A packet reaches the store die: during its reset it waits at the routers (R276); without room for them its writes are held (R59, R425). -/
def Dev.storePacket (d : Dev) (p : Packet) : Dev :=
  if !d.storeOpen then { d with topWait := d.topWait ++ [p] }
  else if d.packetHeld p then { d with stageWait := d.stageWait ++ [p] }
  else if p.cmd == 0x10 then (d.tallyPacket p).forgetSent p else d.bankPacket p

/-- The packets whose writes are held go on, once there is room. -/
def Dev.pumpStage (d : Dev) : Dev :=
  let all := d.stageWait
  all.foldl Dev.storePacket { d with stageWait := [] }

/-- The store die's reset ends: the packets that waited are served (R276). -/
def Dev.storeResetDone (d : Dev) : Dev :=
  if d.storeOpen then d
  else
    let all := d.topWait
    let d := { d.storeResetEnd with topWait := [] }
    all.foldl Dev.storePacket d

/-- A write into an operation window (R283, R304): a posted packet of descriptors from the port behind it, under its key, which the control registers
forward. -/
def Dev.opwinWrite (d : Dev) (p : Port) (key c ofs : Nat) (data : List Byte) : Outc × Dev :=
  if data.isEmpty || data.length % 16 != 0 || ofs % 16 != 0 || decide (512 < ofs + data.length) then (.busError, d)
  else
    let pkt : Packet := { dcol := .ofNat 6 c, dep := 5, scol := .ofNat 6 (portCol p), sep := 10, cmd := 0x10, key := .ofNat 6 key, tag := 0, epoch := 0
                          pri := false, vc := 3, rstat := 0, operand := 0, rlen := 0, data := data, enables := List.replicate data.length true }
    (.ok, if d.linked controlCol c then d.storePacket pkt else d.noRoute controlCol c 5 0)

/-- TALLY_OPWIN_WRITE (R283). -/
def Dev.opwin (d : Dev) (i : Instr) (src : Src) (c ofs : Nat) (data : List Byte) : Dev :=
  d.onWrite i src (0x281000 + 0x200 * c + ofs) fun d =>
    let (o, d) := d.opwinWrite (writePort src) 0 c ofs data
    if o = .ok then d else d.refuseWrite src (0x281000 + 0x200 * c + ofs) .busError

/-- TALLY_FORWARD (R291): the engine that holds the key's column performs a forwarded INSERT; its result goes back to the
engine of column c. -/
def Dev.tallyForward (d : Dev) (c : Nat) (x : TDesc) (kern : Nat) : Dev :=
  match d.table (bitsOf x.w0.toNat 6 3) with
  | none => d
  | some tb =>
    let t := bitsOf x.w0.toNat 6 3
    let s := d.tallySpot t tb (tallyHash (d.kbits t) (bitsOf x.w0.toNat 16 48))
    if bitsOf x.w0.toNat 0 4 ≠ 7 || s.col == c || !d.gateServes 10 || !d.storeOpen || !d.running then d
    else
      let cmd := (d.kernel kern).bind fun k => k.run.map fun r => (r.q, r.seq)
      if d.descsHeld cmd [x] then d else
      let (o, r, d) := d.tallyDo (.kern kern) 0 s.col cmd x
      d.emit (.packet { dcol := .ofNat 6 c, dep := 5, scol := .ofNat 6 s.col, sep := 5, cmd := 0x81, key := 0, tag := 0
                        epoch := 0, pri := false, vc := 1, rstat := .ofNat 2 o.rstat, operand := 0, rlen := 0
                        data := bytesLE 32 r, enables := List.replicate 32 true })

/-! Set-up, clearing, draining, release. -/

/-- Words of a table in a column: the primary rows, then the spill rows. -/
def tableWords (rows : List Nat) : List Nat := (rows.map fun r => (List.range 16).map (16 * r + ·)).flatten

/-- Write empty entries with valid check symbols (R289). -/
def Dev.emptyWords (d : Dev) (ws : List Nat) : Dev := ws.foldl (fun d w => Dev.putWord d w (List.replicate 32 0)) d

/-- The entries of a column as drain records in key order (R295, R296): (key, entry, spill); and the outcome of the scan. -/
def Dev.columnEntries (d : Dev) (t : Nat) (x : TableSt) (i : Nat) : Outc × List (Nat × Nat × Bool) × Dev :=
  let (c, rows) := x.cols.getD i (0, [])
  let n := x.cols.length
  let p := log2 n
  let E := d.tblE t
  let prim := primaryRows E n
  if d.isRetired .tally c || rows.any (fun r => d.isRetired .bank (r / 512)) then (.busError, [], d)
  else
    let (o, es, d) := (List.range (16 * rows.length)).foldl (fun (o, es, d) j =>
      let w := 16 * rows.getD (j / 16) 0 + j % 16
      let (b, o2, d) := Dev.readWord d w
      let spill := decide (16 * prim ≤ j)
      let found := (entriesOf b).filterMap fun e =>
        if e.testBit 60 then
          let h := if spill then i + 2 ^ p * (j - 16 * prim) + 2 ^ 14 * bitsOf e 0 40 else i + 2 ^ p * j + 2 ^ (E - 2) * bitsOf e 0 40
          some (tallyKey (d.kbits t) h, e, spill)
        else none
      (o.join o2, es ++ found, d)) (Outc.ok, ([] : List (Nat × Nat × Bool)), d)
    (o, es.mergeSort fun a b => decide (a.1 ≤ b.1), d)

/-- A drain record (R296). -/
def drainRecord (col key e : Nat) (spill : Bool) : List Byte :=
  wordBytes [key % 2 ^ 48 + 2 ^ 48 * bitsOf e 60 4 + 2 ^ 52 * b2n spill + 2 ^ 53 * col, bitsOf e 40 20]

/-- Entries in use in a table: primary, spill, and those with SAT set (TALLY_TBLt_USED). -/
def Dev.tableUsed (d : Dev) (t : Nat) : Nat × Nat × Nat :=
  match d.table t with
  | none => (0, 0, 0)
  | some x =>
    let prim := primaryRows (d.tblE t) x.cols.length
    let all := fun (rows : List Nat) => ((tableWords rows).map fun w => (entriesOf (d.wordData w)).filter fun e => e.testBit 60).flatten
    let ps := (x.cols.map fun c => all (c.2.take prim)).flatten
    let ss := (x.cols.map fun c => all (c.2.drop prim)).flatten
    (ps.length, ss.length, ((ps ++ ss).filter fun e => e.testBit 61).length)

/-- TCLEAR's effect (R294). -/
def Dev.tableClear (d : Dev) (t : Nat) : Dev :=
  match d.table t with
  | none => d
  | some x =>
    let d := (x.cols.map fun c => tableWords c.2).flatten |> d.emptyWords
    let d := { d with drains := d.drains.map fun (y : DrainLog) => if y.table == t then { y with log := [] } else y }
    (d.clr (TALLY_TBL_LOST_COUNT t)).clr (TALLY_TBL_LOST_OVERFLOW_LOST t)

/-- A drained table is cleared as of the drain's reading (R295): it keeps the inserts that have come since, counted from empty entries, and the
twin's takes them as the commit's delta. -/
def Dev.clearDrained (d : Dev) (q seq t : Nat) : Dev :=
  let log := match d.drains.find? fun x => x.q == q && x.seq == seq with | some x => x.log | none => []
  let rest := d.drains.filter fun x => x.q != q || x.seq != seq
  { (d.tableClear t).mergeDelta log with drains := rest }.updEntry q seq fun e => { e with delta := log }

/-- Entries not yet set up (TALLY_FREE, R104). -/
def Dev.tallyFree (d : Dev) : Nat := 16777216 - (d.tables.map fun (t, _) => 2 ^ d.tblE t).foldl (· + ·) 0

/-- The rows of a new table in each of its columns (R104, R289), or none. -/
def Dev.tableRowsFor (d : Dev) (E : Nat) (cols : List Nat) : Option (List (Nat × List Nat)) :=
  let n := cols.length
  let per := primaryRows E n + 1024 / n
  (cols.foldl (fun (acc : Option (List (Nat × List Nat) × List Nat)) c => match acc with
    | none => none
    | some (l, used) => (d.rowMapAux [c] per 0 used []).map fun rows => (l ++ [(c, rows)], rows ++ used))
    (some ([], d.usedRows))).map (·.1)

/-- The columns of a table when COLS is 0 (R104): the smallest power of two of columns that fits, most free rows first. -/
def Dev.chooseCols (d : Dev) (E : Nat) : Option (List Nat) :=
  let free := d.freeRows d.usedRows
  (List.range 7).findSome? fun p =>
    let n := 2 ^ p
    let cols := mostFree free n (List.range 64)
    if 16 * n ≤ 2 ^ (E - 2) && cols.all (fun c => decide (primaryRows E n + 1024 / n ≤ free c)) then
      some ((List.range 64).filter cols.contains)
    else none

/-- Set up a table over placed rows (R104, R289): its banks wake, its words are empty. -/
def Dev.tableSetup (d : Dev) (t kb E : Nat) (commit mirror : Bool) (rows : List (Nat × List Nat)) : Dev :=
  let all := (rows.map (·.2)).flatten
  let d := { d with tables := KMap.put d.tables t ⟨rows, false⟩ }
  let d := (banksOf all).foldl (fun d n => (Dev.wakeBank d n).awaitBank n) d
  let d := (((((d.set (TALLY_TBL_CFG_VALID t)).wr (TALLY_TBL_CFG_KBITS t) kb).wr (TALLY_TBL_CFG_E t) E).wr
    (TALLY_TBL_CFG_COMMIT t) (b2n commit)).wr (TALLY_TBL_CFG_MIRROR t) (b2n mirror)).wr (TALLY_TBL_COLS_MASK t) (maskOf (rows.map (·.1)))
  d.emptyWords (tableWords all)

/-- Free a table's rows (R297). -/
def Dev.tableFree (d : Dev) (t : Nat) : Dev :=
  match d.table t with
  | none => d
  | some x =>
    let d := { d with tables := KMap.del d.tables t }
    let d := d.freeRowList (x.cols.map (·.2)).flatten
    [TALLY_TBL_CFG_VALID t, TALLY_TBL_CFG_KBITS t, TALLY_TBL_CFG_E t, TALLY_TBL_CFG_COMMIT t, TALLY_TBL_CFG_MIRROR t,
     TALLY_TBL_COLS_MASK t, TALLY_TBL_LOST_COUNT t, TALLY_TBL_LOST_OVERFLOW_LOST t].foldl Dev.clr d

/-- A running command names a table. -/
def Dev.namesTable (d : Dev) (t : Nat) : Bool :=
  d.openCmds.any fun (_, e) => match e.cmd with | some c => c.tables.contains t | none => false

/-- Releases that waited take place once no running command names the table (R297). -/
def Dev.settleReleases (d : Dev) : Dev :=
  d.tables.foldl (fun d (t, x) => if x.releasing && !d.namesTable t then Dev.tableFree d t else d) d

/-- TALLY_RELEASE (R297). -/
def Dev.tallyRelease (d : Dev) (t : Nat) (w : RegWr) : Dev :=
  if w.one (TALLY_TBL_CFG_RELEASE t) then
    let d := d.tellReg (0x280000 + 0x40 * t) w
    { d with tables := d.tables.map fun x : Nat × TableSt => if x.1 = t then (x.1, { x.2 with releasing := true }) else x }.settleReleases
  else d

/-- The store row that TALLY_MAP_Q names (R289). -/
def Dev.tallyMap (d : Dev) : Option Nat :=
  let t := d.rd TALLY_MAP_Q_TBL
  (d.table t).bind fun x => (x.cols.find? fun c => c.1 == d.rd TALLY_MAP_Q_COL).bind fun c =>
    let prim := primaryRows (d.tblE t) x.cols.length
    let r := d.rd TALLY_MAP_Q_ROW
    if d.on TALLY_MAP_Q_SPILLR then (c.2.drop prim)[r]? else (c.2.take prim)[r]?

/-- A write of TALLY_MAP_Q. -/
def Dev.tallyMapWrite (d : Dev) (w : RegWr) : Dev :=
  [TALLY_MAP_Q_TBL, TALLY_MAP_Q_COL, TALLY_MAP_Q_SPILLR, TALLY_MAP_Q_ROW].foldl (fun d f => Dev.take d w f) d

/-! Meanings. -/

/-- TALLY_OPWIN_WRITE (R283). -/
def execTallyOpwinWrite (src : Src) (col : Fin 64) (ofs : BitVec 9) (data : List Byte) (s : State) : Result :=
  s.next (s.dev.opwin (.tallyOpwinWrite src col ofs data) src col.val ofs.toNat data)

/-- TALLY_FORWARD (R291). -/
def execTallyForward (col : Fin 64) (d : TDesc) (fromKernel : BitVec 16) (s : State) : Result :=
  s.next (s.dev.tallyForward col.val d fromKernel.toNat)

/-- TALLY_RELEASE (R297). -/
def execTallyRelease (tbl : Fin 8) (w : RegWr) (s : State) : Result :=
  s.next (s.dev.onWrite (.tallyRelease tbl w) w.src (0x280000 + 0x40 * tbl.val) fun d => d.tallyRelease tbl.val w)

/-- TALLY_MAP_Q_WRITE (R289). -/
def execTallyMapQWrite (w : RegWr) (s : State) : Result := s.next (s.dev.onWrite (.tallyMapQWrite w) w.src 0x280200 fun d => d.tallyMapWrite w)

/-- STORE_DIE_RESET_END (R276). -/
def execStoreDieResetEnd (s : State) : Result := s.next s.dev.storeResetDone.pumpHosts

end Sys2Proof.Machine
end

