-- ==== Sys2Proof/Machine/Images.lean ====
section
/-!
DEFINITION. Images and the frame loader (chapter 13): header and descriptor checks, the image commands, the checks of a whole
image, its commit, the power-up load step, host loads and the daisy chain.
-/
namespace Sys2Proof
open Sys2Proof.Machine

/-- An image command's first word (R332). -/
def ImgCmd.word : ImgCmd → Nat
  | .noop => 0
  | .faddr a => 1 + 2 ^ 16 * a.toNat
  | .fwrite z n _ => 2 + 2 ^ 16 * b2n z + 2 ^ 32 * n.toNat
  | .fcommit => 3
  | .wcfg a _ => 4 + 2 ^ 16 * a.toNat
  | .sync => 5
  | .mwrite m t _ _ => 6 + 2 ^ 16 * (m.toNat + 16 * t.toNat)
  | .endImage => 0x0F
  | .other op => op.toNat

/-- An image command's bytes (R332, R334, R335). -/
def ImgCmd.bytes (c : ImgCmd) : List Byte :=
  bytesLE 8 c.word ++ match c with
    | .fwrite _ _ rs => (rs.map fun r => bytesLE 3392 r.1.toNat ++ bytesLE 4 r.2.toNat ++ bytesLE 4 0).flatten
    | .wcfg _ v => bytesLE 8 v.toNat
    | .mwrite _ _ ws crc => (ws.map fun w => bytesLE 6 w.toNat).flatten ++ bytesLE 4 crc.toNat ++ bytesLE 4 0
    | _ => []

/-- The class of a descriptor (R326). -/
def Desc.cls : Desc → Nat | .full .. => 0 | .part _ => 1 | .kernel .. => 2

/-- The tiles of a region entry (R328). -/
def Region.tiles (r : Region) : List Nat := rectTiles r.anchor.toNat (r.w.toNat + 1) (r.h.toNat + 1) r.both

/-- A region entry keeps the ranges of R328. -/
def Region.ok (r : Region) : Bool :=
  decide (0x1000 ≤ r.handle.toNat ∧ r.handle.toNat ≤ 0x1FFF) && decide (1 ≤ r.drain.toNat)
    && rectFits r.anchor.toNat (r.w.toNat + 1) (r.h.toNat + 1) r.both

/-- A descriptor keeps every rule of R328. -/
def Desc.ok : Desc → Bool
  | .full _ rs =>
    decide (rs.length ≤ 32) && rs.all Region.ok && decide ((rs.map (·.handle)).Nodup)
      && decide ((rs.map Region.tiles).flatten.Nodup)
  | .part r => r.ok
  | .kernel w h both fixed metered n drain _ anchor frames tiles =>
    decide (1 ≤ drain.toNat ∧ drain.toNat ≤ 4095)
      && (if metered then decide (4 ≤ n.toNat ∧ n.toNat ≤ 64) else n == 0)
      && tiles.length == (w.toNat + 1) * (h.toNat + 1) * (if both then 2 else 1)
      && frames.toNat == 32 * tiles.length
      && (fixed == tiles.any fun t => t.io != 0)
      && (if fixed then rectFits anchor.toNat (w.toNat + 1) (h.toNat + 1) both else anchor == 0)

/-- The physical frame address of an address as the image gives it (R333); none: outside the image's region (R338). -/
def Desc.target (x : Desc) (fret anchor a : Nat) : Option Nat :=
  match x with
  | .full f _ => if a / 8192 == f.toNat && decide (a < 65536) then some a else none
  | .part r => if decide (a < 8192) && r.tiles.contains (a / 32) then some (8192 * fret + a) else none
  | .kernel w h both _ _ _ _ _ _ _ _ =>
    let i := a / 256 % 16
    let j := a / 32 % 8
    let die := a / 4096
    if decide (a < 8192 ∧ i ≤ w.toNat ∧ j ≤ h.toNat) && (die == 0 || both) then
      some (8192 * fret + 32 * tileAt (if both then die else anchor / 128) (tileX anchor + i) (tileY anchor + j) + a % 32)
    else none

/-- Every frame address the image must write, rising, as the image gives it (R338). -/
def Desc.needed (x : Desc) (fret anchor : Nat) : List Nat :=
  let base := match x with | .full f _ => 8192 * f.toNat | _ => 0
  ((List.range 8192).map (base + ·)).filter fun a => (x.target fret anchor a).isSome

/-- The region that a tile lies in (R179). -/
def Desc.regionOf (x : Desc) (anchor t : Nat) : List Nat :=
  match x with
  | .full _ rs => ((rs.map Region.tiles).find? fun ts => ts.contains t).getD []
  | .part r => r.tiles
  | .kernel w h both _ _ _ _ _ _ _ _ => rectTiles anchor (w.toNat + 1) (h.toNat + 1) both

/-- The tiles an image's fret covers. -/
def Desc.covers (x : Desc) (anchor : Nat) : List Nat :=
  match x with
  | .full .. => List.range 256
  | _ => x.regionOf anchor anchor

/-- The one anchor a FIXED image allows (R112). -/
def Desc.onlyAnchor : Desc → Option Nat
  | .kernel _ _ _ fixed _ _ _ _ anchor _ _ => if fixed then some anchor.toNat else none
  | _ => none

/-- An image belongs to a chain position (R326, R351). -/
def forPosition (pos : Nat) (i : Image) : Bool := i.chain.toNat == 255 || i.chain.toNat == pos

/-- A copy is valid (R325): no chain position receives two full entries. -/
def Manifest.ok (m : Manifest) : Bool :=
  m.valid && (List.range 16).all fun pos =>
    decide ((m.entries.filter fun e => e.image.desc.cls == 0 && forPosition pos e.image).length ≤ 1)

end Sys2Proof

namespace Sys2Proof.Machine

/-! Checks of a frame (R179, R209, R236, R338). -/

/-- A reserved bit of the port settings (R236). -/
def portReserved (b : Nat) : Bool :=
  if b < 1024 then decide (9 ≤ b % 64)
  else if b < 1664 then !(b == 1024 || decide (1280 ≤ b ∧ b ≤ 1285) || b == 1536 || b == 1537)
  else if b < 1792 then decide (21 ≤ b % 32)
  else if b < 1920 then decide (3 ≤ b % 8)
  else true

/-- The cluster where a head's wire ends, whatever the gates: (tile, cluster); none beyond the die (R165, R172, R173). -/
def plainTail (t cl h : Nat) : Option (Nat × Nat) :=
  if h < 8 then stepCluster t cl (h % 4) (if h < 4 then 1 else 4) else some (partner t, cl)

/-- The tile of the head that feeds IN pin n < 12; none: no head. -/
def plainFeeder (t cl n : Nat) : Option Nat :=
  if n < 8 then (stepCluster t cl (n % 4) (if n < 4 then -1 else -4)).map (·.1) else some (partner t)

/-- An IN pin whose head lies outside a region (R179). -/
def inOutside (reg : List Nat) (t cl n : Nat) : Bool :=
  decide (n < 12) && match plainFeeder t cl n with
    | some t2 => !reg.contains t2
    | none => false

/-- A TIE field of a cell word takes the routed input (R136). -/
def tieRouted (w p : Nat) : Bool := if p < 4 then bitsOf w (2 * p + 1) 1 == 1 else bitsOf w (4 + p) 1 == 1

/-- What one cluster breaks of R179: heads and routed crossbar selections that leave the region. The device's frames are
those of the load. -/
def Dev.clusterBad (d : Dev) (reg : List Nat) (f t cl : Nat) : Bool :=
  (List.range 12).any (fun h =>
    let c := d.headCode f t cl h % 8
    c != 0 && ((match plainTail t cl h with | some (t2, _) => !reg.contains t2 | none => true)
      || (match headSelect h c with | (true, _) => false | (false, n) => inOutside reg t cl n)))
  || (List.range 16).any fun i => (List.range 6).any fun p =>
      let x := d.xbar f t (16 * cl + i) p
      tieRouted (d.cellWord f t (16 * cl + i)) p && decide (x < 16) && inOutside reg t cl x

/-- What the port part of frame u breaks: reserved bits, SHAPE (R209, R236), spine drivers (R179). -/
def Dev.portPartBad (d : Dev) (reg : List Nat) (f t u : Nat) : Bool :=
  (List.range 512).any (fun i => portReserved (512 * u + i) && d.portBits f t (512 * u + i) 1 == 1)
  || (decide (u < 2) && (List.range 8).any fun k =>
      let m := 8 * u + k
      let s := d.memShape f t m
      (d.portBits f t (64 * m) 1 == 1 && decide (13 ≤ s))
        || (s == 12 && !(d.memUse f t m false == 2 && d.memUse f t m true == 1)))
  || (u == 3 && (List.range 4).any fun j =>
      let (en, s, _) := d.spineDriver f t j
      en && (s == 0 || s == 16 || s == 48 || (reg.map fun t2 => ((List.range 4).filter fun j2 =>
        let (en2, s2, _) := d.spineDriver f t2 j2
        en2 && s2 == s).length).foldl (· + ·) 0 != 1))

/-- A frame breaks a rule that it alone shows (R338, ECODE 7). -/
def Dev.frameBad (d : Dev) (reg : List Nat) (f t u : Nat) : Bool :=
  (List.range 32).any (fun v => d.clusterBad reg f t (32 * u + v)) || d.portPartBad reg f t u

/-- What only the whole image shows of a frame (R207, R338): port cells that are not idle or whose pins leave the region,
spine taps without a driver. -/
def Dev.wholeBad (d : Dev) (reg : List Nat) (f t u : Nat) : Bool :=
  (List.range 512).any (fun i =>
    let idx := 512 * u + i
    (d.iface f t idx).1 != .none && (d.cellWord f t idx != 0 || (List.range 4).any fun p =>
      let x := d.xbar f t idx p
      d.routed f t idx p && decide (x < 16) && inOutside reg t (idx / 16) x))
  || (List.range 32).any fun v => (List.range 4).any fun m =>
      let c := d.tapCode f t (32 * u + v) m
      c != 0 && !(reg.any fun t2 => (List.range 4).any fun j =>
        let (en, s, _) := d.spineDriver f t2 j
        en && s == 16 * m + c)

/-- A view of a load's own frames. -/
def Load.view (l : Load) (d : Dev) : Dev := { d with frames := l.frames }

/-! Image commands. -/

/-- A load is refused (R338, R339). -/
def Load.refuse (l : Load) (code addr : Nat) : Load := if l.ecode = 0 then { l with ecode := code, eaddr := addr } else l

/-- One frame (R333, R334, R338). crcOk: its CRC matches. -/
def Load.frame (d : Dev) (l : Load) (x : BitVec 27136) (crcOk : Bool) : Load :=
  if l.ecode ≠ 0 then l
  else
    let a := l.addr
    let l2 := { l with addr := a + 1 }
    if !crcOk then l2.refuse 5 a
    else match l.desc.target l.fret l.anchor a with
      | none => l2.refuse 6 a
      | some p =>
        let t := p / 32 % 256
        let reg := l.desc.regionOf l.anchor t
        if reg.isEmpty && x != 0 then l2.refuse 6 a
        else if !reg.isEmpty && (match d.kernelAt t l.fret with | some (h, _) => h != l.handle | none => false) then l2.refuse 7 a
        else if (KMap.find l.frames p).isSome then l2.refuse 8 a
        else
          let l2 := { l2 with frames := KMap.put l2.frames p x }
          if x != 0 && (l2.view d).frameBad reg (p / 8192) t (p % 32) then l2.refuse 7 a else l2

/-- The physical tile of an MWRITE (R333). -/
def Load.memTile (l : Load) (t : Nat) : Option Nat :=
  let base := match l.desc with | .full f _ => 8192 * f.toNat | _ => 0
  ((l.desc.target l.fret l.anchor (base + 32 * t)).map fun p => p / 32 % 256).filter fun x => !(l.desc.regionOf l.anchor x).isEmpty

/-- A memory's enabling frame is written and does not enable it (R335). -/
def Load.memOff (d : Dev) (l : Load) (t m : Nat) : Bool := (l.view d).portBits l.fret t (64 * m) 1 == 0

/-- CFG_METER's value is one that R256 accepts. -/
def meterOk (v : Nat) : Bool :=
  (!v.testBit 0 || decide (4 ≤ bitsOf v 2 7 ∧ bitsOf v 2 7 ≤ 64)) && (!v.testBit 1 || decide (4 ≤ bitsOf v 9 7 ∧ bitsOf v 9 7 ≤ 64))

/-- The checks of FCOMMIT (R338, R339): missing frames, what only the whole image shows, the tag. -/
def Load.check (d : Dev) (l : Load) : Load :=
  match (l.desc.needed l.fret l.anchor).find? fun a =>
      match l.desc.target l.fret l.anchor a with
      | some p => (KMap.find l.frames p).isNone
      | none => false with
  | some a => l.refuse 8 a
  | none =>
    let v := l.view d
    match (l.desc.needed l.fret l.anchor).find? fun a =>
        match l.desc.target l.fret l.anchor a with
        | some p => (KMap.get l.frames p 0) != 0 && v.wholeBad (l.desc.regionOf l.anchor (p / 32 % 256)) (p / 8192) (p / 32 % 256) (p % 32)
        | none => false with
    | some a => l.refuse 7 a
    | none =>
      if l.mems.any fun (k, _) => l.memOff d (k / 16) (k % 16) then l.refuse 6 0xFFFF
      else if !l.tagOk then l.refuse 4 0xFFFF else l

/-- One image command in a load not yet refused (R332 to R338). -/
def Load.step (d : Dev) (l : Load) (c : ImgCmd) : Load :=
  let before := l.crc
  let l := { l with crc := crcRun l.crc c.bytes }
  match c with
  | .noop => l
  | .sync => l
  | .faddr a => { l with addr := a.toNat }
  | .fwrite z n rs =>
    if n.toNat == 0 || decide (8192 < n.toNat) || (!z && rs.length != n.toNat) then l.refuse 9 0xFFFF
    else if z then (List.range n.toNat).foldl (fun l _ => Load.frame d l 0 true) l
    else rs.foldl (fun l r => Load.frame d l r.1 (crc32 (bytesLE 3392 r.1.toNat) == r.2.toNat)) l
  | .fcommit => l.check d
  | .wcfg a v =>
    if a == 6 then
      let found := before ^^^ 0xFFFFFFFF
      let l := { l with crc := 0xFFFFFFFF, lastCrc := some found }
      if found == v.toNat then l else l.refuse 11 0xFFFF
    else if a == 0x10 && l.desc.cls == 0 && meterOk v.toNat then { l with meter := some (v.toNat % 2 ^ 16) }
    else l.refuse 10 0xFFFF
  | .mwrite m t ws crc =>
    if crc32 ((ws.map fun w => bytesLE 6 w.toNat).flatten) != crc.toNat then l.refuse 5 0xFFFF
    else match l.memTile t.toNat with
      | none => l.refuse 6 0xFFFF
      | some p =>
        if (KMap.find l.frames (8192 * l.fret + 32 * p + m.toNat / 8)).isSome && l.memOff d p m.toNat then l.refuse 6 0xFFFF
        else { l with mems := KMap.put l.mems (16 * p + m.toNat) ws }
  | .endImage => l.refuse 9 0xFFFF
  | .other _ => l.refuse 9 0xFFFF

/-! Frets that take an image (R183, R218, R339). -/

/-- Write one tile's fret: its 32 frames, its state plane as at commit, the memories it enables. -/
def Dev.commitTile (d : Dev) (l : Load) (t : Nat) : Dev :=
  let f := l.fret
  let d := d.clearFret t f
  let mine := l.frames.filter fun x => x.1 / 32 == 256 * f + t && x.2 != 0
  let d := { d with frames := mine.foldl (fun m x => KMap.put m x.1 x.2) d.frames }
  let d := if d.rd (FRET_STAT_NEXT t) == f then d.clr (FRET_STAT_NEXTV t) else d
  (List.range 16).foldl (fun d m =>
    if Dev.portBits d f t (64 * m) 1 == 1 then
      let ws := KMap.get l.mems (16 * t + m) []
      (List.range 1024).foldl (fun d p =>
        let v := (ws.getD p 0).toNat
        Dev.setBmem d t m p (if Dev.memShape d f t m == 0 then eccWord v else v)) d
    else d) d

/-- What a tile's port settings use (R328), for a kernel whose image lists no tile entries. -/
def Dev.tileUse (d : Dev) (f t : Nat) : TileReq :=
  { mems := .ofNat 16 ((List.range 16).foldl (fun n m => n + 2 ^ m * d.portBits f t (64 * m) 1) 0)
    rowPort := d.portBits f t 1280 1 == 1
    portal := d.portBits f t 1024 1 == 1
    control := d.portBits f t 1536 2 != 0
    io := 0 }

/-- A static kernel of a region entry (R339). -/
def Dev.staticKernel (d : Dev) (f : Nat) (src : ImgSrc) (r : Region) : Kernel :=
  { ready := true, static := true, released := false, sole := true, nomigrate := true
    dies := if r.both then 3 else if r.anchor.toNat < 128 then 1 else 2
    anchor := r.anchor.toNat, w := r.w.toNat + 1, h := r.h.toNat + 1, both := r.both, fret := f
    drain := r.drain.toNat, power := r.power.toNat, fixed := false, metered := false, meterN := 0
    tiles := r.tiles.map fun t => d.tileUse f t
    src := src, binds := [], lanes := [], run := none }

/-- The registers that a successful load sets (R353). -/
def Dev.loadedRegs (d : Dev) (f h : Nat) : Dev := ((d.wr CFG_FRET_FRET f).set CFG_FRET_V).wr CFG_FRET_HANDLE h

/-- The last running CRC compared (R337). -/
def Dev.noteCrc (d : Dev) (l : Load) : Dev := match l.lastCrc with | some c => d.wr CFG_CRC_LAST c | none => d

/-- A kernel's admission record goes to the twin (R93, R417). -/
def Dev.sendImage (d : Dev) (h word0 hcrc : Nat) : Dev := if d.telling then d.capoSend 0x16 [h, word0, hcrc] else d

/-- A load serves a KADMIT, at whose completion point its kernel becomes admitted (R71, R93). -/
def Load.byCommand (l : Load) : Bool := match l.who with | .kadmit _ _ => true | _ => false

/-- A kernel is admitted at the completion point of its KADMIT (R71, R93). -/
def Dev.commitAdmit (d : Dev) (h : Nat) : Dev := d.updKernel h fun k => { k with ready := true }

/-- A load commits (R339). -/
def Dev.commitLoad (d : Dev) (l : Load) : Dev :=
  let d := d.noteCrc l
  match l.desc, l.proto with
  | .full f rs, _ =>
    let d := (List.range 256).foldl (fun d t => (Dev.commitTile d l t).showFret t f.toNat) d
    let d := match l.meter with
      | some v => (((d.wr CFG_METER_METER_A v).wr CFG_METER_METER_B (v / 2)).wr CFG_METER_NA (v / 4)).wr CFG_METER_NB (v / 512)
      | none => d
    let d := { d with meter := d.rd CFG_METER_METER_A + 2 * d.rd CFG_METER_METER_B + 4 * d.rd CFG_METER_NA + 512 * d.rd CFG_METER_NB }
    let d := rs.foldl (fun d r => Dev.settleKernel d r.handle.toNat (Dev.staticKernel d f.toNat l.src r) none r.anchor.toNat f.toNat none) d
    d.loadedRegs f.toNat 0
  | .part r, some k =>
    let old := k.fret
    let d := r.tiles.foldl (fun d t => ((Dev.commitTile d l t).clr (fretKern t old)).wr (fretKern t l.fret) l.handle) d
    let d := d.updKernel l.handle fun k => { k with fret := l.fret, drain := r.drain.toNat, power := r.power.toNat, src := l.src
                                                    tiles := r.tiles.map fun t => d.tileUse l.fret t }
    ((match d.ensembleOf r.anchor.toNat with
      | some (a, _) => d.trigger a (.toFret l.fret none)
      | none => d)).loadedRegs l.fret l.handle
  | _, some k =>
    let d := Dev.settleKernel d l.handle { k with ready := !l.byCommand } l.ens l.anchor l.fret
      (match l.who with | .kadmit q seq => some (q, seq) | _ => none)
    let d := (l.desc.covers l.anchor).foldl (fun d t => Dev.commitTile d l t) d
    (d.sendImage l.handle l.word0 l.headerCrc).loadedRegs l.fret l.handle
  | _, none => d

/-- Free every fret of every tile (R345, R184): kernels, ensembles and their state are gone. -/
def Dev.clearAll (d : Dev) : Dev :=
  let d := d.kernels.foldl (fun d (h, k) => if k.released then d else Dev.endRun d h .placement) d
  let d := d.groups.foldl (fun d (g, _) => if 128 ≤ g then d else Dev.unbindGroup d g 0) d
  let d := (List.range 256).foldl (fun d t => (List.range 8).foldl (fun d f => Dev.clr d (fretKern t f)) ((Dev.clr d (FRET_STAT_PHASE t)).clr (FRET_STAT_NEXTV t))) d
  { d with
    kernels := []
    ensembles := []
    migrations := []
    frames := []
    badFrames := []
    badPlanes := []
    holds := []
    toks := []
    params := []
    paramHeld := []
    parks := []
    rowRegs := []
    rowReqs := []
    bmem := []
    bmemBack := []
    undef := []
    tileResets := []
    planeCrcs := []
    memHolds := []
    lateArrivals := []
    portals := d.portals.map fun x : Nat × PortalSt => (x.1, (List.range 8).foldl PortalSt.forget x.2) }

/-- Every user lane is Muted and every user I/O pin high-Z (R342, R365). -/
def Dev.hushPins (d : Dev) : Dev :=
  { (List.range 128).foldl (fun d L => Dev.laneTo d L 0) d with
    io := d.io.map fun x : Nat × IoSt => (x.1, { x.2 with drive := false }) }

/-! The end of a load. -/

/-- An image refused with ECODE 4 raises its event (R490). -/
def Dev.imageAuth (d : Dev) (code keyslot : Nat) : Dev :=
  if code == 4 then
    (d.incSat SEC_STAT_COUNT).raise { cls := .ochre, flag := SEC_STAT_IMGAUTH, ukind := 11, uid := if keyslot == 0xFF then 0 else keyslot }
  else d

/-- A boot entry is skipped (R344). -/
def Dev.skipBoot (d : Dev) (e code : Nat) : Dev :=
  if e < 32 then d.raise { cls := .ochre, flag := CFG_STAT_SKIP, bit := e, uid := e, detail := code } else d

/-- The refusal code and address of a boot or host operation (R353). -/
def Dev.loadRefused (d : Dev) (code addr : Nat) : Dev := (d.wr CFG_STAT_ECODE code).wr CFG_STAT_EADDR addr

/-- No full image is loaded (R343). -/
def Dev.bootFails (d : Dev) : Dev := d.clearAll.hushPins.set CFG_STAT_ERR

/-- The status and result of a KADMIT that the loader refuses (R347). -/
def admitStatus (code : Nat) (read : Outc) : Status :=
  if code == 4 then .security else if code == 12 then read.status else .invalid

/-- A refusal ends a load (R339, R343 to R347). -/
def Dev.refuseLoad (d : Dev) (who : Loader) (cls keyslot : Nat) (read : Outc) (code addr : Nat) : Dev :=
  let d := (({ d with load := none }).imageAuth code keyslot)
  match who with
  | .bootFull => d.loadRefused code addr
  | .entry e => d.skipBoot e code
  | .host =>
    let d := (d.loadRefused code addr).clr CFG_STAT_BUSY
    if cls == 0 then d.bootFails else d.set CFG_STAT_PABORT
  | .kadmit q seq => d.fix q seq (admitStatus code read) (.ofNat 64 (code + 2 ^ 16 * addr))
  | .twin => d

/-- A load in progress is refused: its target fret is cleared and stays free (R339). -/
def Dev.abortLoad (d : Dev) (l : Load) : Dev :=
  let d := (l.desc.covers l.anchor).foldl (fun d t => Dev.clearFret d t l.fret) (d.noteCrc l)
  d.refuseLoad l.who l.desc.cls l.keyslot l.read l.ecode l.eaddr

/-- What its commit does for the one a load serves (R93, R343, R345). -/
def Dev.finishLoad (d : Dev) (l : Load) : Dev :=
  match l.who with
  | .host => (if l.desc.cls == 0 then d.clr CFG_STAT_ERR else d).clr CFG_STAT_BUSY
  | .kadmit q seq => if d.joined l.handle then d.admitDone q seq l.handle else d
  | _ => d

/-- One image command reaches the loader; next is the command known to follow it (R332). A command after FCOMMIT other than
END is refused, and what was committed stands (log entry 14). -/
def Dev.imageCmd (d : Dev) (c : ImgCmd) (next : Option ImgCmd) : Dev :=
  match d.load with
  | none => d
  | some l =>
    if l.committed then
      if c = .endImage then { d with load := none } else d.refuseLoad .bootFull l.desc.cls l.keyslot l.read 9 0xFFFF
    else
      let l2 := l.step d c
      let l2 := match c, next with
        | .fcommit, some x => if x = .endImage then l2 else l2.refuse 9 0xFFFF
        | _, _ => l2
      if l2.ecode ≠ 0 then d.abortLoad l2
      else if c = .fcommit then
        { (d.commitLoad l2).finishLoad l2 with load := some { l2 with committed := true, frames := [], mems := [] } }
      else { d with load := some l2 }

/-- The command known to follow FCOMMIT: END that something follows counts as no END (R332). -/
def followed : List ImgCmd → Option ImgCmd
  | .endImage :: _ :: _ => some (.other 0xFF)
  | rest => rest.head?

/-- The image commands of a body in order. -/
def Dev.runBody (d : Dev) : List ImgCmd → Dev
  | [] => d
  | c :: rest => Dev.runBody (d.imageCmd c (followed rest)) rest

/-! Headers (R326 to R330). -/

/-- The refusal code of a header, or 0: the source read, the form, the part, the class, the signature's slot. -/
def Dev.headerCode (d : Dev) (i : Image) (admits : Nat → Bool) : Nat :=
  if i.read ≠ .ok then 12
  else if !(i.formOk && i.desc.ok && decide (i.keyslot.toNat < 64 ∨ i.keyslot.toNat = 255) && decide (i.chain.toNat < 16 ∨ i.chain.toNat = 255)) then 1
  else if i.part.toNat != d.rd CFG_IDCODE_PART || !i.revmask.toNat.testBit (d.rd CFG_IDCODE_REV) then 2
  else if !admits i.desc.cls then 3
  else if i.keyslot.toNat == 255 then (if d.lc == 0 then 0 else 4)
  else if d.bit SEC_SLOTS_FILLED i.keyslot.toNat then 0 else 4

/-- The least and greatest tile of a load's region (R353). -/
def Dev.regionRegs (d : Dev) (ts : List Nat) : Dev :=
  (d.wr CFG_REGION_LO_TILE (ts.foldl min 255)).wr CFG_REGION_HI_TILE (ts.foldl max 0)

/-- Begin a load whose header is right, and take the commands of its body that the source has given. -/
def Dev.startLoad (d : Dev) (who : Loader) (i : Image) (handle word0 : Nat) (proto : Option Kernel) (ens : Option Nat)
    (anchor fret : Nat) (src : ImgSrc := ⟨false, 0, 0, 255⟩) : Dev :=
  let from_ := if who = .host then ⟨true, 64 * d.rd CFG_SRC_ADDR, 0, 0⟩ else src
  let l : Load :=
    { who := who, desc := i.desc, handle := handle, proto := proto, ens := ens, anchor := anchor, fret := fret
      keyslot := i.keyslot.toNat, tagOk := i.keyslot.toNat == 255 || i.tagOk, read := i.read, headerCrc := i.headerCrc.toNat
      word0 := word0, addr := 0, frames := [], mems := [], crc := 0xFFFFFFFF, lastCrc := none, meter := none
      ecode := 0, eaddr := 0xFFFF, committed := false
      src := { from_ with keyslot := i.keyslot.toNat } }
  ({ (d.regionRegs (i.desc.covers anchor)) with load := some l }).runBody i.body

/-- A boot's body must end at END (R332): a load left open there is refused with ECODE 9. -/
def Dev.closeBody (d : Dev) : Dev :=
  match d.load with
  | none => d
  | some l => if l.committed then { d with load := none } else d.abortLoad (l.refuse 9 0xFFFF)

/-! Admission of a kernel image (R93, R111 to R125). -/

/-- What KADMIT word 0 gives beside the handle (R93). -/
structure Admission where
  dies : Nat
  sole : Bool
  nomigrate : Bool
  hint : Option Nat
  src : ImgSrc
  word0 : Nat
  deriving DecidableEq, Repr

/-- The kernel an image describes, not yet placed. -/
def Admission.kernel (a : Admission) (x : Desc) : Option Kernel :=
  match x with
  | .kernel w h both fixed metered n drain power _ _ tiles =>
    some { ready := true, static := false, released := false, sole := a.sole, nomigrate := a.nomigrate || fixed, dies := a.dies
           anchor := 0, w := w.toNat + 1, h := h.toNat + 1, both := both, fret := 0, drain := drain.toNat
           power := power.toNat, fixed := fixed, metered := metered, meterN := n.toNat, tiles := tiles, src := a.src
           binds := [], lanes := [], run := none }
  | _ => none

/-- DIES of a rectangle's record (R123). -/
def diesOf (anchor : Nat) (both : Bool) : Nat := if both then 3 else if anchor < 128 then 1 else 2

/-- The word of an admission in the record: the ensemble after it, and the fret. -/
def Dev.admitWord (d : Dev) (k : Kernel) (ens : Option Nat) (a f : Nat) : Nat :=
  match ens.bind fun ea => (KMap.find d.ensembles ea).map fun e => boxOver ea e { k with anchor := a } a with
  | some (ba, bw, bh, bb) => placeWord ba (bw - 1) (bh - 1) (diesOf ba bb) f
  | none => placeWord a (k.w - 1) (k.h - 1) (diesOf a k.both) f

/-- The place a record's word 1 gives a kernel (R125): the candidate whose admission would write that word; where several would, the
cheapest, as it was when the record was made (R119, R126). -/
def Dev.pickRecorded (d : Dev) (h : Nat) (k : Kernel) (only : Option Nat) (temps : List ColTemp) (w1 : Nat) : Option (Option Nat × Nat × Nat) :=
  let f := bitsOf w1 17 3
  let fits := fun ens a => d.admitWord k ens a f == w1 % 2 ^ 20
  match (List.range 256).find? fun a => fits none a && d.newFits k only a f with
  | some a => some (none, a, f)
  | none => if k.sole || k.fixed then none else
      (cheapest ((d.ensembles.map fun (ea, e) => candidates ea (fun a g => g == f && fits (some ea) a && d.shareFits k only ea e a f)
        fun a => d.placeCost temps h k a (boxTiles ea e k a)).flatten)).map fun x => (some x.2.2, x.1, f)

/-- Luthier's answer to an admission: a place, no place, or the record makes the request wait. -/
inductive Placed where
  | at_ (ens : Option Nat) (a f : Nat) | exhausted | wait
  deriving DecidableEq, Repr

/-- Luthier places an admission (R119 to R125). free: in Free mode, whatever PLACE_CTL says, and unrecorded (R341). -/
def Dev.placeKernel (d : Dev) (h : Nat) (k : Kernel) (x : Desc) (hcrc : Nat) (hint : Option Nat) (free : Bool)
    (temps : List ColTemp) : Placed × Dev :=
  let only := x.onlyAnchor
  let note := fun (d : Dev) ens a f =>
    if free then d.lastDecision 1 0 h a f else d.decided 1 0 h (d.admitWord k ens a f) hcrc a f
  if d.rootLost then (.exhausted, d)
  else if free then match d.pickFree h k only temps with
    | some (ens, a, f) => (.at_ ens a f, note d ens a f)
    | none => (.exhausted, d)
  else match d.replayAsk 1 0 h with
    | .wait => (.wait, d)
    | .none => (.exhausted, d.diverge)
    | .take w1 w2 =>
      (match (if w2 % 2 ^ 32 == hcrc then d.pickRecorded h k only temps w1 else none) with
      | some (ens, a, f) => (.at_ ens a f, note d.passEntry ens a f)
      | none => (.exhausted, d.diverge.skipEntry))
    | .free =>
      match d.pickHinted h k only hint temps with
      | (some (ens, a, f), d) => (.at_ ens a f, note d ens a f)
      | (none, d) => (.exhausted, d)

/-- Admit a kernel image for a KADMIT, a boot entry or a twin: header, place, load. It waits while another load is in
progress (R340) or while the record makes it wait (R125). -/
def Dev.admitImage (d : Dev) (who : Loader) (h : Nat) (a : Admission) (i : Image) (free : Bool) (p : List ColTemp) : Dev :=
  if d.load.isSome then d
  else
    let code := d.headerCode i (· == 2)
    if code ≠ 0 then d.refuseLoad who 2 i.keyslot.toNat i.read code 0xFFFF
    else match a.kernel i.desc with
      | none => d
      | some k => match d.placeKernel h k i.desc i.headerCrc.toNat a.hint free p with
        | (.wait, d) => d
        | (.exhausted, d) => (match who with
          | .kadmit q seq => d.fix q seq .placement
          | .entry e => d.skipBoot e 0
          | _ => d)
        | (.at_ ens anchor f, d) => d.startLoad who i h a.word0 (some k) ens anchor f

/-! Partial images. -/

/-- The lowest fret of a static kernel's tiles that no kernel holds and none of them shows. -/
def Dev.freeFret (d : Dev) (k : Kernel) : Option Nat :=
  (List.range 8).find? fun f => k.where.all fun t => d.shown t != f && (d.kernelAt t f).isNone

/-- Load a partial image into a static kernel (R341, R345): refused with ECODE 14 when the kernel or its place is not right. -/
def Dev.loadPartial (d : Dev) (who : Loader) (h : Nat) (i : Image) (admits : Nat → Bool)
    (src : ImgSrc := ⟨false, 0, 0, 255⟩) : Dev :=
  let code := d.headerCode i admits
  if code ≠ 0 then d.refuseLoad who 1 i.keyslot.toNat i.read code 0xFFFF
  else match i.desc, d.kernel h with
    | .part r, some k =>
      if k.static && !k.released && r.handle.toNat == h && r.tiles == k.where && k.run.isNone then
        match d.freeFret k with
        | some f => d.startLoad who i h 0 (some k) none r.anchor.toNat f src
        | none => d.refuseLoad who 1 i.keyslot.toNat i.read 14 0xFFFF
      else d.refuseLoad who 1 i.keyslot.toNat i.read 14 0xFFFF
    | _, _ => d.refuseLoad who 1 i.keyslot.toNat i.read 14 0xFFFF

/-! Boot (R325, R341 to R344). -/

/-- Whether serial number a is later than b, modulo 2^32 (R325). -/
def seqAfter (a b : Nat) : Bool := let x := (a + 2 ^ 32 - b) % 2 ^ 32; x != 0 && decide (x < 2 ^ 31)

/-- The valid copies in the order the loader tries them, as (number, copy). -/
def bootCopies (m0 m1 : Manifest) : List (Nat × Manifest) :=
  match m0.ok, m1.ok with
  | true, true => if seqAfter m1.seq.toNat m0.seq.toNat then [(1, m1), (0, m0)] else [(0, m0), (1, m1)]
  | true, false => [(0, m0)]
  | false, true => [(1, m1)]
  | false, false => []

/-- A body as far as it is read: what stands before END, and whether something stands after END, which is refused (R332). -/
def bodyOf (b : List ImgCmd) : List ImgCmd :=
  let c := b.takeWhile (· != .endImage)
  if b.length ≤ c.length + 1 then c else c ++ [.other 0xFF]

/-- Load a full image (R341 step 2): the device, and whether it loaded. What stands before the body's END decides. -/
def Dev.loadFull (d : Dev) (who : Loader) (i : Image) (src : ImgSrc := ⟨false, 0, 0, 255⟩) : Dev × Bool :=
  let code := d.headerCode i (· == 0)
  if code ≠ 0 then (d.refuseLoad who 0 i.keyslot.toNat i.read code 0xFFFF, false)
  else
    let f := match i.desc with | .full f _ => f.toNat | _ => 0
    let d := d.startLoad who { i with body := bodyOf i.body } 0 0 none none 0 f src
    match d.load with
    | none => (d, false)
    | some l =>
      if l.committed then (d.closeBody, true)
      else if who = .host ∧ !i.body.contains .endImage then (d, false) else (d.closeBody, false)

/-- The blocks that a manifest's entry names, as the source of what is loaded from them (R466). -/
def entrySource (e : MEntry) : ImgSrc := ⟨false, e.block.toNat, e.bytes.toNat, e.image.keyslot.toNat⟩

/-- The admission that a boot entry's PARAM gives (R324, R341). -/
def bootAdmission (param : Nat) (e : MEntry) : Admission :=
  { dies := bitsOf param 16 2, sole := param.testBit 18, nomigrate := param.testBit 19
    hint := if param.testBit 20 then some (bitsOf param 24 8) else none
    src := entrySource e, word0 := param % 2 ^ 32 }

/-- One partial or kernel entry of a boot (R341 steps 3 and 4). -/
def Dev.bootEntry (d : Dev) (e : Nat) (x : MEntry) (p : List ColTemp) : Dev :=
  let param := x.param.toNat
  let h := param % 2 ^ 16
  if x.image.desc.cls == 1 then (d.loadPartial (.entry e) h x.image (· == 1) (entrySource x)).closeBody
  else if x.image.desc.cls == 2 then
    if !kernelHandle h || (d.kernel h).isSome then d.skipBoot e 0
    else (d.admitImage (.entry e) h (bootAdmission param x) x.image true p).closeBody
  else d.skipBoot e 3

/-- The entries of a position after its full image, with the temperatures that weigh its kernels. -/
def Dev.bootRest (d : Dev) (pos : Nat) (temps : List ColTemp) (es : List (Nat × MEntry)) : Dev :=
  let mine := es.filter fun x => forPosition pos x.2.image && x.2.image.desc.cls != 0
  let parts := mine.filter fun x => x.2.image.desc.cls == 1
  let kerns := mine.filter fun x => x.2.image.desc.cls == 2
  let d := parts.foldl (fun d x => Dev.bootEntry d x.1 x.2 []) d
  ((List.range kerns.length).foldl (fun d i => match kerns[i]? with
    | some x => Dev.bootEntry d x.1 x.2 temps
    | none => d) d)

/-- Try the copies' full images in turn (R343): the device and the copy that loaded. -/
def Dev.bootTry (d : Dev) (pos : Nat) : List (Nat × Manifest) → Dev × Option (Nat × Manifest)
  | [] => (d, none)
  | (n, m) :: rest =>
    let d := d.wr CFG_STAT_MANIFEST n
    match m.entries.find? fun e => e.image.desc.cls == 0 && forPosition pos e.image with
    | none => Dev.bootTry (d.loadRefused 9 0xFFFF) pos rest
    | some e =>
      let (d, ok) := d.loadFull .bootFull e.image (entrySource e)
      if ok then (d, some (n, m)) else Dev.bootTry d pos rest

/-- A chain frame sent on (R350, R351): kind 1 POS, 2 IMAGE, 3 MEND. -/
def Dev.chainSend (d : Dev) (kind : Nat) (ws : List Nat) : Dev := d.emit (.chain kind ws)

/-- An IMAGE frame as it is sent on: its PARAM, chain position, class and header CRC. -/
def chainWords (param : Nat) (i : Image) : List Nat := [param, i.chain.toNat, i.desc.cls, i.headerCrc.toNat]

/-- The load step is complete (R341, R343): DONE, and a re-run is no longer busy. -/
def Dev.bootDone (d : Dev) : Dev :=
  let d := if d.rd RESET_STAT_PHASE == 6 then d.wr RESET_STAT_PHASE 7 else d
  ((d.set CFG_STAT_DONE).clr CFG_STAT_BUSY).capoStart

/-- Load from the device's own image store (R341, R343, R351). -/
def Dev.bootOwn (d : Dev) (m0 m1 : Manifest) (temps : List ColTemp) : Dev :=
  let copies := bootCopies (d.manifestAt 0 m0) (d.manifestAt 1 m1)
  let d := (d.clr CFG_STAT_CHAIN).clr CFG_STAT_POS
  let d := d.wr CFG_STAT_SKIP 0
  if copies.isEmpty then ((d.loadRefused 9 0xFFFF).bootFails).bootDone
  else
    let (d, won) := d.bootTry 0 copies
    match won with
    | none => d.bootFails.bootDone
    | some (_, m) =>
      let es := (List.range m.entries.length).zip m.entries
      let d := (d.clr CFG_STAT_ERR).bootRest 0 temps es
      let d := d.chainSend 1 [0]
      let d := (es.filter fun x => x.2.image.chain.toNat != 0).foldl
        (fun d x => Dev.chainSend d 2 (chainWords x.2.param.toNat x.2.image)) d
      (d.chainSend 3 []).bootDone

/-- The device boots from the chain (R349). -/
def Dev.chainBoot (d : Dev) : Bool := d.rd PIN_STRAP_BOOT_SRC == 1 || d.rd PIN_STRAP_BOOT_SRC == 2

/-- A boot is in progress: the load step of start-up, or a re-run. -/
def Dev.booting (d : Dev) : Bool :=
  d.rd RESET_STAT_PHASE == 6 || match d.hostOp with | some o => o.op == 4 | none => false

/-- LOAD_STEP (R341): the load step of a device that boots from its own store. -/
def Dev.loadStep (d : Dev) (m0 m1 : Manifest) (temps : List ColTemp) : Dev :=
  if d.rd RESET_STAT_PHASE == 6 && !d.chainBoot then d.bootOwn m0 m1 temps else d

/-! The daisy chain (R349 to R351). -/

/-- A chain boot fails with ECODE 15 (R349, R350). -/
def Dev.chainFails (d : Dev) : Dev :=
  let d := { d with chainPos := false, chainTaken := 0, hostOp := none }
  ((d.loadRefused 15 0xFFFF).bootFails).bootDone

/-- The chain is listened to: a boot by the chain is in progress and has not ended. -/
def Dev.chainOpen (d : Dev) : Bool := d.booting && d.chainBoot && !d.on CFG_STAT_ERR

/-- POS. -/
def Dev.chainPosition (d : Dev) (pos : Nat) (crcOk : Bool) : Dev :=
  if !(d.booting && d.chainBoot) || d.chainPos then d
  else if !crcOk then d.chainFails
  else
    let own := (pos + 1) % 16
    let d := { (d.set CFG_STAT_CHAIN).wr CFG_STAT_POS own with chainPos := true, chainTaken := 0 }
    d.chainSend 1 [own]

/-- IMAGE: forwarded unless it is for this position alone, taken when it is for this position; the first taken is the full
image. Entries count in arrival order. -/
def Dev.chainImage (d : Dev) (param : Nat) (i : Image) (crcOk : Bool) (p : List ColTemp) : Dev :=
  if !(d.booting && d.chainPos) then d
  else if !crcOk then d.chainFails
  else
    let own := d.rd CFG_STAT_POS
    let d := if i.chain.toNat != own then d.chainSend 2 (chainWords param i) else d
    if !forPosition own i || (d.chainTaken ≠ 0 && d.on CFG_STAT_ERR) then d
    else
      let e := d.chainTaken
      let d := { d with chainTaken := e + 1 }
      if e = 0 then
        let (d, ok) := d.loadFull .bootFull i
        if ok then d.clr CFG_STAT_ERR else d.bootFails
      else d.bootEntry e ⟨0, 0, .ofNat 64 param, i⟩ p

/-- MEND. -/
def Dev.chainEnd (d : Dev) (crcOk : Bool) : Dev :=
  if !(d.booting && d.chainPos) then d
  else if !crcOk || d.chainTaken = 0 then d.chainFails
  else { (d.chainSend 3 []).bootDone with chainPos := false, chainTaken := 0, hostOp := none }

/-- CHAIN_TIMEOUT (R349): with BOOT_SRC 2 and no POS frame, the device's own store serves. -/
def Dev.chainTimeout (d : Dev) (m0 m1 : Manifest) (temps : List ColTemp) : Dev :=
  if !(d.booting && d.chainBoot) then d
  else if !d.chainPos && d.rd PIN_STRAP_BOOT_SRC == 2 then { d.bootOwn m0 m1 temps with hostOp := none }
  else d.chainFails

/-! Host operations (R345, R346). -/

/-- A write of CFG_CTL: ARG and LEN take it, unless an operation is in progress; then OP starts one. -/
def Dev.cfgCtl (d : Dev) (w : RegWr) (go : Dev → Dev) : Dev :=
  if d.on CFG_STAT_BUSY || d.load.isSome then (if w.touches CFG_CTL_OP then d.set CFG_STAT_REFUSED else d)
  else go ((d.take w CFG_CTL_ARG).take w CFG_CTL_LEN)

/-- A host operation is refused with ECODE 14. -/
def Dev.refuseHost (d : Dev) (full : Bool) : Dev :=
  let d := d.loadRefused 14 0xFFFF
  if full then d else d.set CFG_STAT_PABORT

/-- A full load or a boot re-run may start (R345). -/
def Dev.mayFullLoad (d : Dev) : Bool := d.empty || d.on CFG_STAT_ERR

/-- What an image source gives from the device address in CFG_SRC (R25, R345): only the store and host memory can be read; o is how
the read ends where it can. -/
def Dev.srcRead (d : Dev) (o : Outc) : Outc :=
  match addrSpace (64 * d.rd CFG_SRC_ADDR) with
  | .store _ => o
  | .host p _ => if d.portUp p then o else .busError
  | _ => .busError

/-- The image at CFG_SRC (R326, R345). -/
def Dev.srcImage (d : Dev) (given : Image) : Image × Dev :=
  let (i, d) := d.imageAt (64 * d.rd CFG_SRC_ADDR) none given
  ({ i with read := d.srcRead i.read }, d)

/-- CFG_FULL_LOAD: OP 1. -/
def Dev.hostFull (d : Dev) (img : Image) : Dev :=
  if !d.mayFullLoad then d.refuseHost true
  else
    let (img, d) := d.srcImage img
    (((d.clearAll.hushPins).set CFG_STAT_BUSY).loadFull .host img).1

/-- CFG_PARTIAL_LOAD: OP 2. -/
def Dev.hostPartial (d : Dev) (img : Image) : Dev :=
  let (img, d) := d.srcImage img
  (d.set CFG_STAT_BUSY).loadPartial .host (d.rd CFG_CTL_ARG) img (· == 1)

/-- CFG_NV_PROGRAM: OP 3 (R323). -/
def Dev.nvProgram (d : Dev) : Dev :=
  let b := d.rd CFG_CTL_ARG
  if b < 4 || decide (2047 < b) then (d.loadRefused 13 0xFFFF).set CFG_STAT_PABORT
  else { d.set CFG_STAT_BUSY with hostOp := some ⟨3, b, 64 * d.rd CFG_SRC_ADDR⟩ }

/-- The 65,536 bytes that a program operation reads from its source (R323): from the store as they stand, from host memory as they came;
bytes that did not come are undefined (R10). -/
def Dev.nvData (d : Dev) (data : List Byte) : List Byte × Outc × Dev :=
  match addrSpace (64 * d.rd CFG_SRC_ADDR) with
  | .store a => d.storeBytes a 65536
  | _ =>
    let (fill, d) := d.freshBytes (65536 - data.length)
    (data.take 65536 ++ fill, .ok, d)

/-- NV_PROGRAM_DONE (R323, R346): the block holds what the source gave. -/
def Dev.nvDone (d : Dev) (o : Outc) (data : List Byte) : Dev :=
  match d.hostOp with
  | some x =>
    if x.op ≠ 3 then d
    else
      let d := { d.clr CFG_STAT_BUSY with hostOp := none }
      let (bs, o2, d) := if d.srcRead o = .ok then d.nvData data else ([], d.srcRead o, d)
      if o2 ≠ .ok then (d.loadRefused 12 0xFFFF).set CFG_STAT_PABORT
      else
        let n := KMap.get d.nvWear x.arg 0 + 1
        let d := { d with nvWear := KMap.put d.nvWear x.arg n, nvBlocks := KMap.put d.nvBlocks x.arg bs }
        (d.wr CFG_NVSTAT_WEAR (min n 16383)).wr CFG_NVSTAT_WORN (b2n (decide (10000 < n)))
  | none => d

/-- CFG_BOOT_RERUN: OP 4. -/
def Dev.bootRerun (d : Dev) (m0 m1 : Manifest) (temps : List ColTemp) : Dev :=
  if !d.mayFullLoad then d.refuseHost true
  else
    let d := (d.clearAll.hushPins).set CFG_STAT_BUSY
    if d.chainBoot then { d with hostOp := some ⟨4, 0, 0⟩, chainPos := false, chainTaken := 0 }
    else d.bootOwn m0 m1 temps

/-- CFG_DDDATA_READ (R246, R322): the 8 bytes of the device-data area at OFS, which advances by one. -/
def Dev.ddRead (d : Dev) : Nat × Dev := (d.deviceWord (8 * d.rd CFG_DDADDR_OFS), d.inc CFG_DDADDR_OFS)

/-! Meanings. -/

/-- LOAD_STEP (R341). -/
def execLoadStep (m0 m1 : Manifest) (temps : List ColTemp) (s : State) : Result := s.next (s.dev.loadStep m0 m1 temps)

/-- NOOP (R332). -/
def execNoop (s : State) : Result := s.next (s.dev.imageCmd .noop none)

/-- FADDR (R333). -/
def execFaddr (addr : BitVec 16) (s : State) : Result := s.next (s.dev.imageCmd (.faddr addr) none)

/-- FWRITE (R334). -/
def execFwrite (zero : Bool) (n : BitVec 32) (records : List (BitVec 27136 × BitVec 32)) (s : State) : Result :=
  s.next (s.dev.imageCmd (.fwrite zero n records) none)

/-- FCOMMIT (R338, R339). -/
def execFcommit (s : State) : Result := s.next (s.dev.imageCmd .fcommit none)

/-- WCFG (R336, R337). -/
def execWcfg (addr : BitVec 16) (value : Word) (s : State) : Result := s.next (s.dev.imageCmd (.wcfg addr value) none)

/-- SYNC (R332). -/
def execSync (s : State) : Result := s.next (s.dev.imageCmd .sync none)

/-- MWRITE (R335). -/
def execMwrite (mem : BitVec 4) (tile : BitVec 8) (words : List (BitVec 48)) (crc : BitVec 32) (s : State) : Result :=
  s.next (s.dev.imageCmd (.mwrite mem tile words crc) none)

/-- END (R332). -/
def execEndImage (s : State) : Result := s.next (s.dev.imageCmd .endImage none)

/-- CFG_FULL_LOAD (R345): a write of CFG_CTL with OP 1. -/
def execCfgFullLoad (w : RegWr) (img : Image) (s : State) : Result :=
  s.next (s.dev.onWrite (.cfgFullLoad w img) w.src 0x380008 fun d => d.cfgCtl w fun d => d.hostFull img)

/-- CFG_PARTIAL_LOAD (R345): a write of CFG_CTL with OP 2. -/
def execCfgPartialLoad (w : RegWr) (img : Image) (s : State) : Result :=
  s.next (s.dev.onWrite (.cfgPartialLoad w img) w.src 0x380008 fun d => d.cfgCtl w fun d => d.hostPartial img)

/-- CFG_NV_PROGRAM (R345): a write of CFG_CTL with OP 3. -/
def execCfgNvProgram (w : RegWr) (s : State) : Result :=
  s.next (s.dev.onWrite (.cfgNvProgram w) w.src 0x380008 fun d => d.cfgCtl w fun d => d.nvProgram)

/-- CFG_BOOT_RERUN (R345): a write of CFG_CTL with OP 4. -/
def execCfgBootRerun (w : RegWr) (m0 m1 : Manifest) (temps : List ColTemp) (s : State) : Result :=
  s.next (s.dev.onWrite (.cfgBootRerun w m0 m1 temps) w.src 0x380008 fun d => d.cfgCtl w fun d => d.bootRerun m0 m1 temps)

/-- NV_PROGRAM_DONE (R323). -/
def execNvProgramDone (got : SrcRead) (s : State) : Result := s.next (s.dev.nvDone got.o got.data)

/-- CFG_DDDATA_READ (R322). -/
def execCfgDddataRead (src : Src) (half : Half) (s : State) : Result :=
  s.next (s.dev.onRead (.cfgDddataRead src half) src 0x380050 fun d => (half.part d.ddRead.1, d.ddRead.2))

/-- POS (R351). -/
def execPos (pos : BitVec 8) (crcOk : Bool) (s : State) : Result := s.next (s.dev.chainPosition pos.toNat crcOk)

/-- IMAGE (R351). -/
def execImage (param : Word) (img : Image) (crcOk : Bool) (temps : List ColTemp) (s : State) : Result :=
  s.next (s.dev.chainImage param.toNat img crcOk temps)

/-- MEND (R351). -/
def execMend (crcOk : Bool) (s : State) : Result := s.next (s.dev.chainEnd crcOk)

/-- CHAIN_TIMEOUT (R349). -/
def execChainTimeout (m0 m1 : Manifest) (temps : List ColTemp) (s : State) : Result :=
  s.next (s.dev.chainTimeout m0 m1 temps)

end Sys2Proof.Machine
end

