-- ==== Sys2Proof/Machine/Lanes.lean ====
section
/-!
DEFINITION. Lanes, groups and the Lane Link Protocol (chapter 14): power states, bring-up and retraining, frames with their
acknowledgement and replay, and the bridges between frames and packets. The group of the Capo lanes begins at lane 128 or 136 (R418); LLP does not run on it.
-/
namespace Sys2Proof.Machine

/-! Lanes. -/

/-- A lane's quad runs: the device runs and the quad's gate serves it (R502). -/
def Dev.laneRuns (d : Dev) (L : Nat) : Bool :=
  d.running && (d.gateLane (L / 4) || d.bit CLK_GATE_PEND_PEND (20 + L / 4))

/-- LANE_WAKE_COMPLETE (R364). -/
def Dev.laneAwake (d : Dev) (L : Nat) : Dev :=
  if d.rd (LANE_STAT_PSTATE L) == 3 && d.laneRuns L then d.laneTo L 2 else d

/-- LANE_SYNC (R358, R363): four K28.5 at one bit position; a lane that carries a PRBS has no sync (R380). -/
def Dev.laneSync (d : Dev) (L : Nat) (inverted : Bool) : Dev :=
  if d.rd (LANE_STAT_PSTATE L) == 2 && !d.on (LANE_PRBS_RUN L) && d.laneRuns L then
    (d.set (LANE_STAT_SYNC L)).wr (LANE_STAT_RXINV L) (b2n inverted)
  else d

/-- PRBS_LOCK (R380). -/
def Dev.prbsLock (d : Dev) (L : Nat) : Dev :=
  if d.on (LANE_PRBS_RUN L) && d.rd (LANE_STAT_PSTATE L) == 2 then d.set (LANE_PRBS_LOCK L) else d

/-- LANE_CODE_ERROR (R357, R358, R381): it counts for the lane and raises an Ochre event. -/
def Dev.laneError (d : Dev) (L : Nat) (kind : LaneErr) : Dev :=
  if d.rd (LANE_STAT_PSTATE L) ≠ 2 || !d.laneRuns L then d
  else
    let flag := match kind with
      | .code => LANE_ERR_CODE L | .disparity => LANE_ERR_DISP L | .syncLost => LANE_ERR_SYNCLOST L
    let d := if kind = .syncLost then d.clr (LANE_STAT_SYNC L) else d
    (d.incSat (LANE_ERR_COUNT L)).raiseCounted { cls := .ochre, flag := flag, ukind := 3, uid := L } .lane L

/-! Groups. -/

/-- Every lane of a group is Active. -/
def Dev.groupActive (d : Dev) (g : Nat) : Bool :=
  (d.lanesOf g).all fun L => d.rd (LANE_STAT_PSTATE L) == 2 && d.laneRuns L

/-- Every lane of a group is Active and in sync. -/
def Dev.groupSync (d : Dev) (g : Nat) : Bool := d.groupActive g && (d.lanesOf g).all fun L => d.on (LANE_STAT_SYNC L)

/-- A group carries frames. -/
def Dev.groupUp (d : Dev) (g : Nat) : Bool :=
  match d.group g with
  | some x => decide (g < 128) && x.phase == 5 && d.groupActive g
  | none => false

/-- A retrain restarts the exchange and keeps the sequence state (R361, R371). -/
def Dev.retrain (d : Dev) (g : Nat) : Dev := d.beginTraining g 3

/-! LLP frames (R369 to R378). -/

/-- A frame leaves on a group (R369). Kinds: 0 INIT, 1 DATA, 2 ACK, 3 NAK. -/
def Dev.sendFrame (d : Dev) (g kind : Nat) (fr : LlpFrame) : Dev :=
  match d.group g with
  | some x => (d.emit (.lane g kind fr)).lineUnit g (2 ^ x.width) x.rate (frameSymbols (2 ^ x.width) (frameBytes kind fr))
  | none => d.emit (.lane g kind fr)

/-- A frame without payload: its sequence number and window. -/
def bareFrame (seq win : Nat) : LlpFrame := ⟨false, 0, .ofNat 16 seq, 0, .ofNat 8 win, []⟩

/-- Free receive slots of a group (R372). -/
def GroupSt.win (x : GroupSt) : Nat := 64 - x.rx.length

/-- Send an ACK of the last frame received in order (R372). -/
def Dev.sendAck (d : Dev) (g : Nat) : Dev :=
  match d.group g with
  | some x =>
    (d.updGroup g fun x => { x with acksDue := 0 }).sendFrame g 2 (bareFrame ((d.rd (LLP_GRP_STAT_RXSEQ g) + 65535) % 65536) x.win)
  | none => d

/-- Send a NAK with the expected sequence, once (R372). -/
def Dev.sendNak (d : Dev) (g : Nat) : Dev :=
  match d.group g with
  | some x => if x.nakOut then d
    else (d.updGroup g fun x => { x with nakOut := true }).sendFrame g 3 (bareFrame (d.rd (LLP_GRP_STAT_RXSEQ g)) x.win)
  | none => d

/-- The fields of a lane frame's OPERAND (R377). -/
def frameOperand (fr : LlpFrame) : Nat :=
  fr.channel.toNat + 2 ^ 8 * b2n fr.last + 2 ^ 9 * fr.payload.length + 2 ^ 19 * fr.run.toNat

/-- The DATA frame of an LFR packet; none when its descriptor is bad (R377). -/
def frameOf (p : Packet) : Option LlpFrame :=
  let o := p.operand.toNat
  let n := bitsOf o 9 10
  let len := p.data.length / 32
  if decide (512 < n ∨ 32 * len < n) || (decide (0 < len) && decide (n ≤ 32 * (len - 1))) || bitsOf o 27 37 != 0 then none
  else some ⟨o.testBit 8, .ofNat 8 o, 0, p.epoch, .ofNat 8 (o / 2 ^ 19), p.data.take n⟩

/-- The transmit side may send another new frame (R373). -/
def Dev.mayFrame (d : Dev) (g : Nat) : Bool :=
  match d.group g with
  | some x => d.groupUp g && x.gotInit && decide (x.tx.length < min 64 x.peerWin) && !x.unbind
  | none => false

/-- Send the packets that wait at a group's bridge while the window lasts (R366, R373, R377). -/
def Dev.pumpAux (g : Nat) : (fuel : Nat) → Dev → Dev
  | 0, d => d
  | n + 1, d => match d.group g with
    | none => d
    | some x => match x.waiting with
      | [] => d
      | p :: rest =>
        if !d.mayFrame g then d
        else
          let d := d.updGroup g fun x => { x with waiting := rest }
          let d := match frameOf p with
            | none => d.llpEvent g (LLP_GRP_ERR_BADDESC g)
            | some fr =>
              let fr := { fr with seq := .ofNat 16 (d.rd (LLP_GRP_STAT_TXSEQ g)) }
              let d := d.updGroup g fun x => { x with tx := x.tx ++ [(fr, 0)] }
              ((d.inc (LLP_GRP_STAT_TXSEQ g)).inc (LLP_GRP_CNT_TXFRAMES g)).sendFrame g 1 fr
          Dev.pumpAux g n d

/-- Send what waits. -/
def Dev.pump (d : Dev) (g : Nat) : Dev :=
  match d.group g with
  | some x => Dev.pumpAux g x.waiting.length d
  | none => d

/-- The tile whose portal takes a channel's frames (R378). -/
def Dev.channelTile (d : Dev) (h c : Nat) : Option Nat :=
  match d.kernel h with
  | none => none
  | some k =>
    let ps := ((k.where.map d.logical).mergeSort (fun a b => decide (a ≤ b))).filter fun l => d.portalOn (d.phys l)
    if ps.isEmpty then none else (ps[c % ps.length]?).map d.phys

/-- Packets of accepted frames enter the network while their portal's landing buffer has room (R313, R378). -/
def Dev.drainAux (g : Nat) : (fuel : Nat) → Dev → Dev
  | 0, d => d
  | n + 1, d => match d.group g with
    | none => d
    | some x => match x.rx with
      | [] => d
      | p :: rest =>
        if decide (4 ≤ ((d.portal (tileOfCol p.dcol.toNat p.dep.toNat)).landing.filter fun q => q.vc == 3).length) then d
        else Dev.drainAux g n ((d.updGroup g fun x => { x with rx := rest }).emit (.packet p))

/-- Free the receive slots that can be freed. -/
def Dev.drainRx (d : Dev) (g : Nat) : Dev :=
  match d.group g with
  | some x => Dev.drainAux g x.rx.length d
  | none => d

/-- An accepted frame becomes a packet (R378). -/
def Dev.acceptFrame (d : Dev) (g : Nat) (x : GroupSt) (fr : LlpFrame) : Dev :=
  match d.channelTile x.kern fr.channel.toNat with
  | none => d.llpCount g (LLP_GRP_ERR_DROPPED g)
  | some t =>
    let n := fr.payload.length
    let pad := (32 - n % 32) % 32
    let p : Packet :=
      { dcol := .ofNat 6 (colOfTile t), dep := .ofNat 4 (epOfTile t), scol := .ofNat 6 (bridgeOf g).1, sep := .ofNat 4 (bridgeOf g).2
        cmd := 0x30, key := 0, tag := 0, epoch := fr.epoch, pri := false, vc := 3, rstat := 0
        operand := .ofNat 64 (frameOperand fr), rlen := 0, data := fr.payload ++ List.replicate pad 0
        enables := List.replicate (n + pad) true }
    (d.updGroup g fun x => { x with rx := x.rx ++ [p] }).drainRx g

/-- DATA (R372): the four CRC bytes that came with it are those of its header and payload, or the frame is bad (R369). -/
def Dev.dataFrame (d : Dev) (g : Nat) (fr : LlpFrame) (crc : Nat) : Dev :=
  match d.group g with
  | none => d
  | some _ =>
    if !d.groupUp g then d
    else
      let d := d.drainRx g
      if crc ≠ frameCrc 1 fr || decide (512 < fr.payload.length) then (d.llpEvent g (LLP_GRP_ERR_CRC g)).sendNak g
      else
        let want := d.rd (LLP_GRP_STAT_RXSEQ g)
        let ahead := (fr.seq.toNat + 65536 - want) % 65536
        if ahead == 0 then match d.group g with
          | some x =>
            if 64 ≤ x.rx.length then d
            else
              let d := (d.inc (LLP_GRP_STAT_RXSEQ g)).inc (LLP_GRP_CNT_RXFRAMES g)
              let d := d.updGroup g fun x => { x with nakOut := false, acksDue := x.acksDue + 1 }
              let d := d.acceptFrame g x fr
              match d.group g with
              | some x => if 16 ≤ x.acksDue then d.sendAck g else d
              | none => d
          | none => d
        else if ahead < 32768 then d.sendNak g
        else d.sendAck g

/-- How many of the oldest unacknowledged frames a sequence number covers (R373). -/
def GroupSt.covers (x : GroupSt) (seq : Nat) : Nat :=
  match x.tx with
  | [] => 0
  | (f, _) :: _ =>
    let n := (seq + 65536 - f.seq.toNat) % 65536 + 1
    if n ≤ x.tx.length then n else 0

/-- The binding's removal takes effect when every frame is acknowledged (R376). -/
def Dev.tryUnbind (d : Dev) (g : Nat) : Dev :=
  match d.group g with
  | some x => if x.unbind && x.tx.isEmpty then d.unbindGroup g 0 else d
  | none => d

/-- ACK (R372, R373). -/
def Dev.ackFrame (d : Dev) (g seq win : Nat) : Dev :=
  match d.group g with
  | none => d
  | some x =>
    if !d.groupUp g then d
    else
      let n := x.covers seq
      let left := x.tx.drop n
      let d := d.updGroup g fun x => { x with tx := if n == 0 then x.tx else left.map fun e => (e.1, 0), peerWin := win }
      (d.tryUnbind g).pump g

/-- Send again every frame from the i-th unacknowledged one (R373): after four replays of one frame the group retrains. -/
def Dev.replayFrom (d : Dev) (g i : Nat) : Dev :=
  match d.group g with
  | none => d
  | some x =>
    match x.tx[i]? with
    | none => d
    | some (_, n) =>
      if 4 ≤ n then
        (d.updGroup g fun x => { x with tx := x.tx.map fun e => (e.1, 0) }).llpCount g (LLP_GRP_ERR_RETRAIN g) |>.retrain g
      else
        let d := d.updGroup g fun x => { x with tx := x.tx.take i ++ (x.tx.drop i).map fun e => (e.1, e.2 + 1) }
        let d := (x.tx.drop i).foldl (fun d e => Dev.sendFrame d g 1 e.1) d
        d.llpEvent g (LLP_GRP_ERR_REPLAY g)

/-- NAK (R372, R373). -/
def Dev.nakFrame (d : Dev) (g seq win : Nat) : Dev :=
  if !d.groupUp g then d
  else
    let d := (d.updGroup g fun x => { x with peerWin := win }).llpEvent g (LLP_GRP_ERR_NAKRX g)
    match d.group g with
    | none => d
    | some x => d.replayFrom g ((x.tx.findIdx? fun e => e.1.seq.toNat == seq).getD x.tx.length)

/-- REPLAY_TIMEOUT (R373). -/
def Dev.replayTimeout (d : Dev) (g : Nat) : Dev := if d.groupUp g then d.replayFrom g 0 else d

/-- INIT (R371): the group's DATA frames begin at the sequence it gives; a later one changes nothing. -/
def Dev.initFrame (d : Dev) (g seq : Nat) : Dev :=
  match d.group g with
  | some x =>
    if d.groupUp g && !x.gotInit then
      ((d.updGroup g fun x => { x with gotInit := true }).wr (LLP_GRP_STAT_RXSEQ g) seq).pump g
    else d
  | none => d

/-- INIT_RESEND (R371). -/
def Dev.initResend (d : Dev) (g : Nat) : Dev :=
  match d.group g with
  | some x => if d.groupUp g && !x.gotInit then d.sendFrame g 0 (bareFrame 0 0) else d
  | none => d

/-- ACK_TIMER (R372). -/
def Dev.ackTimer (d : Dev) (g : Nat) : Dev :=
  match d.group g with
  | some x => if d.groupUp g && x.gotInit then (d.drainRx g).sendAck g else d
  | none => d

/-- UNBIND_TIMEOUT (R376): frames not acknowledged are discarded. -/
def Dev.unbindTimeout (d : Dev) (g : Nat) : Dev :=
  match d.group g with
  | some x => if x.unbind then d.unbindGroup g 0 else d
  | none => d

/-- Begin to remove a binding (R376): it goes at once when no frame is unacknowledged. -/
def Dev.beginUnbind (d : Dev) (g : Nat) : Dev := (d.updGroup g fun x => { x with unbind := true }).tryUnbind g

/-! Bring-up (R361, R362). -/

/-- Open a session of this direction (R420): a fresh session key, counters from 1, the HELLO with this device's role and state. -/
def Dev.sendHello (d : Dev) : Dev :=
  let (key, d) := d.freshBytes 32
  ({ d with capo := { d.capo with keyOut := true, txKey := key, txCtr := 0, replay := [], queue := [], syncTo := 0 } }).capoOut 0 0
    [d.rd TWIN_STAT_ROLE, d.rd TWIN_STAT_STATE]

/-- The Capo link is up: only at 16.0 Gbaud does it serve a pair (R418); a session that stands goes on. -/
def Dev.capoTrained (d : Dev) (g rate : Nat) : Dev :=
  if rate ≠ 5 then d.beginTraining g 1
  else
    let d := d.set TWIN_STAT_CAPOUP
    if d.capo.keyOut then d else d.sendHello

/-- A group's binding stands: at the completion point of its LBIND (R71, R101). -/
def Dev.commitBind (d : Dev) (g : Nat) : Dev :=
  match d.group g with
  | some x =>
    (d.updGroup g fun x => { x with bound := true }).updKernel x.kern fun k => { k with lanes := KMap.put k.lanes x.slot (g, x.width) }
  | none => d

/-- A group is up at its present rate: its command completes, its binding stands, INIT goes out (R101, R371). -/
def Dev.trained (d : Dev) (g : Nat) : Dev :=
  match d.group g with
  | none => d
  | some x =>
    let d := d.updGroup g fun x => { x with phase := 5, cmd := none, bound := x.bound || decide (128 ≤ g) }
    let d := d.wr (LLP_GRP_STAT_STATE g) 2
    if 128 ≤ g then d.capoTrained g x.rate
    else
      let d := if x.cmd.isNone then d.commitBind g else d
      let d := match x.cmd with
        | some (q, seq) => d.fix q seq .ok (.ofNat 64 x.rate)
        | none => d
      (if x.gotInit then d else d.sendFrame g 0 (bareFrame 0 0)).pump g

/-- Step to the next higher rate of the common set, or be up (R361 step 4). -/
def Dev.stepRate (d : Dev) (g : Nat) : Dev :=
  match d.group g with
  | none => d
  | some x =>
    match (List.range 6).find? fun r => decide (x.rate < r) && x.common.testBit r with
    | none => d.trained g
    | some r =>
      ((d.sendTraining g 2 r).groupRate g r).updGroup g fun x => { x with phase := 3, mine := none, far := none }

/-- Return to the last rate that passed and be up there (R361, R362). A retrain that failed so ends its LCTL as Bus error (R102). -/
def Dev.stepBack (d : Dev) (g : Nat) : Dev :=
  match d.group g with
  | some x =>
    let d := match x.bound, x.cmd with
      | true, some (q, seq) => (d.fix q seq .busError).updGroup g fun x => { x with cmd := none }
      | _, _ => d
    (if x.rate == x.passed then d else d.groupRate g x.passed).trained g
  | none => d

/-- TS1 (R360, R361 step 3). -/
def Dev.trainSet1 (d : Dev) (g : Nat) (ts : TrainSet) : Dev :=
  match d.group g with
  | none => d
  | some x =>
    if x.phase ≠ 0 || !d.groupSync g then d
    else if !(ts.lanesOk && ts.width.toNat == x.width) then d.updGroup g fun x => { x with ts1 := 0 }
    else
      let n := x.ts1 + 1
      let d := d.updGroup g fun x => { x with ts1 := n, farRates := ts.rates.toNat }
      if n < 8 then d
      else
        let d := if 128 ≤ g && d.rd TWIN_STAT_STATE == 0 then d.wr TWIN_STAT_STATE 1 else d
        (d.updGroup g fun x => { x with phase := 1, ts2 := 0 }).sendTraining g 2 0

/-- TS2 (R361 step 3): after eight, the common set is taken and the steps begin. -/
def Dev.trainSet2 (d : Dev) (g : Nat) (ts : TrainSet) : Dev :=
  match d.group g with
  | none => d
  | some x =>
    if x.phase ≠ 1 || !d.groupSync g then d
    else if !(ts.lanesOk && ts.width.toNat == x.width) then d.updGroup g fun x => { x with ts2 := 0 }
    else
      let n := x.ts2 + 1
      let d := d.updGroup g fun x => { x with ts2 := n }
      if n < 8 then d
      else (d.updGroup g fun x => { x with common := (x.farRates &&& 63) % 2 ^ (x.maxRate + 1), passed := 0 }).stepRate g

/-- Both ends have reported a dwell (R361 step 6). -/
def Dev.judge (d : Dev) (g : Nat) : Dev :=
  match d.group g with
  | some x => match x.mine, x.far with
    | some true, some true => (d.updGroup g fun x => { x with passed := x.rate }).stepRate g
    | some false, _ => d.stepBack g
    | some true, some false => d.stepBack g
    | _, _ => d
  | none => d

/-- TRAINING_DWELL_END (R361 steps 5 and 6): the errors of each lane in the dwell decide the report. -/
def Dev.dwellReport (d : Dev) (g : Nat) (errs : List Nat) : Dev :=
  match d.group g with
  | none => d
  | some x =>
    if x.phase ≠ 3 || !d.groupActive g then d
    else
      let ls := groupLanes g x.width
      let d := (List.range ls.length).foldl (fun d i =>
        (Dev.wr d (LANE_PRBS_PATTERN (g + i)) 3).incSat (LANE_PRBS_ERRORS (g + i)) (errs.getD i 0)) d
      let ok := (List.range ls.length).all fun i => decide (errs.getD i 0 ≤ d.rd (LLP_GRP_CFG_DWELL_ERR g))
      ((d.updGroup g fun x => { x with phase := 4, mine := some ok, errs := errs }).sendTraining g (if ok then 3 else 4) 0).judge g

/-- PASS and FAIL (R361 step 6). -/
def Dev.farReport (d : Dev) (g : Nat) (ts : TrainSet) (ok : Bool) : Dev :=
  match d.group g with
  | some x =>
    if (x.phase == 3 || x.phase == 4) && ts.lanesOk then (d.updGroup g fun x => { x with far := some ok }).judge g else d
  | none => d

/-- RESYNC_TIMEOUT (R361 step 6): a lane does not regain sync at the new rate. -/
def Dev.resyncTimeout (d : Dev) (g : Nat) : Dev :=
  match d.group g with
  | some x => if x.phase == 3 || x.phase == 4 then d.stepBack g else d
  | none => d

/-- BRINGUP_TIMEOUT (R362, R374, R101): the exchange has not completed, or a later step ends where it is. A bound group whose exchange fails
goes down, a retrain among them (DEDUCED, log entry 124). -/
def Dev.bringupTimeout (d : Dev) (g : Nat) : Dev :=
  match d.group g with
  | none => d
  | some x =>
    if x.phase == 5 then d
    else if 3 ≤ x.phase then d.stepBack g
    else if 128 ≤ g then (if d.rd TWIN_STAT_STATE == 1 then d.clr TWIN_STAT_STATE else d).beginTraining g 1
    else if x.bound then d.groupDown g
    else (match x.cmd with
      | some (q, seq) => d.fix q seq .busError
      | none => d).unbindGroup g 0

/-! The outbound bridge (R377). -/

/-- The group an LFR packet is for: its sender's lane slot, which a KIND 3 packet's TAG carries (log entry 15). -/
def Dev.lfrGroup (d : Dev) (p : Packet) : Option Nat :=
  match d.sender p with
  | some (h, _) => match d.kernel h with
    | some k => (KMap.find k.lanes (p.tag.toNat % 16)).map (·.1)
    | none => none
  | none => none

/-- An LFR packet reaches a lane bridge: a group that the governor made Idle returns to Active (R509). -/
def Dev.bridgeLfr (d : Dev) (p : Packet) : Dev :=
  match d.lfrGroup p with
  | none => d
  | some g =>
    if bridgeOf g != (p.dcol.toNat, p.dep.toNat) then d
    else if (frameOf p).isNone then d.llpEvent g (LLP_GRP_ERR_BADDESC g)
    else
      let idle := (d.lanesOf g).filter fun L => (KMap.find d.lanesHeld (768 + L)).isSome
      let d := idle.foldl (fun d L => Dev.laneWake { d with lanesHeld := KMap.del d.lanesHeld (768 + L) } L) d
      (d.updGroup g fun x => { x with waiting := x.waiting ++ [p] }).pump g

/-! Time on the lanes. -/

/-- The Active lanes that carry a PRBS, with their patterns (R361 step 5, R380). -/
def Dev.prbsLanes (d : Dev) : List (Nat × Nat) :=
  let started := (d.prbs.map (·.1)).filterMap fun L =>
    if d.on (LANE_PRBS_RUN L) then some (L, d.rd (LANE_PRBS_PATTERN L)) else none
  let dwells := (d.groups.filter fun x : Nat × GroupSt => x.2.phase == 3).flatMap fun x => (d.lanesOf x.1).map fun L => (L, 3)
  (started ++ dwells.filter fun x => !d.on (LANE_PRBS_RUN x.1)).filter fun x => d.rd (LANE_STAT_PSTATE x.1) == 2 && d.laneRuns x.1

/-- A nanosecond passes for the groups whose lanes carry symbols: their transmitters fill it (R358, R359). A lane that carries a PRBS sends no
code groups (R380), and a dwell is one (R361 step 5). -/
def Dev.linesTick (d : Dev) : Dev :=
  if !d.running then d
  else
    let d := d.prbsLanes.foldl (fun d (L, p) => Dev.prbsRun d L p) d
    d.groups.foldl (fun d (g, x) =>
    if x.phase != 3 && Dev.groupActive d g && (Dev.lanesOf d g).all (fun L => !Dev.on d (LANE_PRBS_RUN L)) then
      Dev.lineRest d g (2 ^ x.width) x.rate
    else d) d

/-! Meanings. -/

/-- TS1 (R361). -/
def execTs1 (group : LaneId) (ts : TrainSet) (s : State) : Result := s.next (s.dev.trainSet1 group.val ts)

/-- TS2 (R361). -/
def execTs2 (group : LaneId) (ts : TrainSet) (s : State) : Result := s.next (s.dev.trainSet2 group.val ts)

/-- PASS (R361). -/
def execPassSet (group : LaneId) (ts : TrainSet) (s : State) : Result := s.next (s.dev.farReport group.val ts true)

/-- FAIL (R361). -/
def execFailSet (group : LaneId) (ts : TrainSet) (s : State) : Result := s.next (s.dev.farReport group.val ts false)

/-- TRAINING_DWELL_END (R361). -/
def execTrainingDwellEnd (group : LaneId) (errs : List (BitVec 16)) (s : State) : Result :=
  s.next (s.dev.dwellReport group.val (errs.map (·.toNat)))

/-- BRINGUP_TIMEOUT (R362). -/
def execBringupTimeout (group : LaneId) (s : State) : Result := s.next (s.dev.bringupTimeout group.val)

/-- RESYNC_TIMEOUT (R361). -/
def execResyncTimeout (group : LaneId) (s : State) : Result := s.next (s.dev.resyncTimeout group.val)

/-- LANE_CODE_ERROR (R381). -/
def execLaneCodeError (lane : LaneId) (kind : LaneErr) (s : State) : Result := s.next (s.dev.laneError lane.val kind)

/-- LANE_WAKE_COMPLETE (R364). -/
def execLaneWakeComplete (lane : LaneId) (s : State) : Result := s.next (s.dev.laneAwake lane.val)

/-- LANE_SYNC (R358). -/
def execLaneSync (lane : LaneId) (inverted : Bool) (s : State) : Result := s.next (s.dev.laneSync lane.val inverted)

/-- PRBS_LOCK (R380). -/
def execPrbsLock (lane : LaneId) (s : State) : Result := s.next (s.dev.prbsLock lane.val)

/-- INIT (R371). -/
def execInitFrame (group : LaneId) (seq : BitVec 16) (s : State) : Result := s.next (s.dev.initFrame group.val seq.toNat)

/-- DATA (R372). -/
def execDataFrame (group : LaneId) (fr : LlpFrame) (crc : BitVec 32) (s : State) : Result :=
  s.next (s.dev.dataFrame group.val fr crc.toNat)

/-- ACK (R373). -/
def execAck (group : LaneId) (seq : BitVec 16) (win : BitVec 8) (s : State) : Result :=
  s.next (s.dev.ackFrame group.val seq.toNat win.toNat)

/-- NAK (R373). -/
def execNak (group : LaneId) (seq : BitVec 16) (win : BitVec 8) (s : State) : Result :=
  s.next (s.dev.nakFrame group.val seq.toNat win.toNat)

/-- ABORTED_FRAME (R375): discarded without NAK, its sequence number not consumed. -/
def execAbortedFrame (_group : LaneId) (s : State) : Result := s.next s.dev

/-- INIT_RESEND (R371). -/
def execInitResend (group : LaneId) (s : State) : Result := s.next (s.dev.initResend group.val)

/-- ACK_TIMER (R372). -/
def execAckTimer (group : LaneId) (s : State) : Result := s.next (s.dev.ackTimer group.val)

/-- REPLAY_TIMEOUT (R373). -/
def execReplayTimeout (group : LaneId) (s : State) : Result := s.next (s.dev.replayTimeout group.val)

/-- UNBIND_TIMEOUT (R376). -/
def execUnbindTimeout (group : LaneId) (s : State) : Result := s.next (s.dev.unbindTimeout group.val)

end Sys2Proof.Machine
end

