-- ==== Sys2Proof/Machine/Pegs.lean ====
section
/-!
DEFINITION. Pegs (chapter 15): takes, gives, orphan releases, and the PEGTAKEs that wait (R399 to R404).
-/
namespace Sys2Proof.Machine

/-- A port holds a peg. -/
def Dev.holdsPeg (d : Dev) (n : Nat) (p : Port) : Bool := d.on (PEG_STAT_HELD n) && d.rd (PEG_STAT_HOLDER n) == p.num

/-- A take (R399): whether it succeeds, and what it leaves. -/
def Dev.takePeg (d : Dev) (n : Nat) (p : Port) : Bool × Dev :=
  if d.on (PEG_STAT_HELD n) then (false, d)
  else (true, ((d.set (PEG_STAT_HELD n)).wr (PEG_STAT_HOLDER n) p.num).inc (PEG_STAT_TAKES n))

/-- PEGTAKEs that wait for a peg, by port and then by queue (R401). -/
def Dev.pegWaiters (d : Dev) (n : Nat) : List (Nat × Nat × Port) :=
  let all := d.runningCmds.filterMap fun (q, e) => match e.cmd with
    | some (.pegtake g true) => if g.toNat == n then some (q, e.seq, d.queuePort q) else none
    | _ => none
  all.filter (·.2.2 == .a) ++ all.filter (·.2.2 == .b)

/-- A free peg goes to the first PEGTAKE that waits for it, which completes (R401, R106). -/
def Dev.settlePeg (d : Dev) (n : Nat) : Dev :=
  if d.on (PEG_STAT_HELD n) then d
  else match d.pegWaiters n with
    | [] => d
    | (q, seq, p) :: _ => (d.takePeg n p).2.close q seq .ok

/-- A give (R400): whether the port held the peg, and what it leaves. -/
def Dev.givePeg (d : Dev) (n : Nat) (p : Port) : Bool × Dev :=
  if d.holdsPeg n p then (true, (d.clr (PEG_STAT_HELD n)).settlePeg n)
  else (false, d.raise { cls := .slate, flag := PEG_STAT_BADGIVE n })

/-- A peg is released as an orphan (R402). -/
def Dev.orphanPeg (d : Dev) (n : Nat) : Dev :=
  (((d.clr (PEG_STAT_HELD n)).set (PEG_STAT_ORPHAN n)).wr (PEG_STAT_OPORT n) (d.rd (PEG_STAT_HOLDER n))).settlePeg n

/-- A port reset releases the pegs that the port holds (R402). -/
def Dev.releasePegs (d : Dev) (p : Port) : Dev :=
  (List.range 64).foldl (fun d n => if Dev.holdsPeg d n p then d.orphanPeg n else d) d

/-- A host's read of PEGn_TAKE (R399, R404). -/
def Dev.pegTakeRead (d : Dev) (i : Instr) (n : Nat) (src : Src) : Dev :=
  match src with
  | .host p => d.onRead i src (0x40000 + 0x20 * n) fun d => let (ok, d) := d.takePeg n p; (b2n !ok, d)
  | _ => d

/-- A host's write of PEGn_GIVE (R400, R404). -/
def Dev.pegGiveWrite (d : Dev) (i : Instr) (n : Nat) (w : RegWr) : Dev :=
  d.onHostWrite i w.src (0x40008 + 0x20 * n) fun p d => if w.one (PEG_GIVE_GIVE n) then (d.givePeg n p).2 else d

/-- PEG_TAKE_READ (R399). -/
def execPegTakeRead (peg : Fin 64) (src : Src) (s : State) : Result := s.next (s.dev.pegTakeRead (.pegTakeRead peg src) peg.val src)

/-- PEG_GIVE_WRITE (R400). -/
def execPegGiveWrite (peg : Fin 64) (w : RegWr) (s : State) : Result := s.next (s.dev.pegGiveWrite (.pegGiveWrite peg w) peg.val w)

end Sys2Proof.Machine
end

