-- ==== Sys2Proof/Machine/Dma.lean ====
section
/-!
DEFINITION. DMA channels (chapter 16): the active and shadow sets, starts and hand-overs, circular addressing and chunks, the
end of a transfer and its failure (R405 to R413).
-/
namespace Sys2Proof.Machine

/-- A channel is busy (R405). -/
def Dev.dmaBusy (d : Dev) (ch : Nat) : Bool := d.on (DMA_CH_CTL_GO ch)

/-- The transfer of a channel. -/
def Dev.xfer (d : Dev) (ch : Nat) : Option Xfer := KMap.find d.xfers ch

/-- A wrap exponent is in range, or its wrap bit is 0 (R409). -/
def wrapOk (wrap : Bool) (k : Nat) : Bool := !wrap || decide (6 ≤ k ∧ k ≤ 28)

/-- The address of byte i of a side (R409). -/
def wrapAddr (wrap : Bool) (k base i : Nat) : Nat :=
  if wrap then base - base % 2 ^ k + (base % 2 ^ k + i) % 2 ^ k else base + i

/-- Bytes from an address to the next place where a chunk must end on that side (R406). -/
def sideRoom (wrap : Bool) (k a : Nat) : Nat :=
  min (512 - a % 512) (if wrap then 2 ^ k - a % 2 ^ k else 512)

/-- The source and destination addresses of byte i of a channel's transfer. -/
def Dev.dmaSrc (d : Dev) (ch : Nat) (x : Xfer) (i : Nat) : Nat :=
  wrapAddr (d.on (DMA_CH_CTL_SRC_WRAP ch)) (d.rd (DMA_CH_CTL_SRC_K ch)) x.src i
def Dev.dmaDst (d : Dev) (ch : Nat) (x : Xfer) (i : Nat) : Nat :=
  wrapAddr (d.on (DMA_CH_CTL_DST_WRAP ch)) (d.rd (DMA_CH_CTL_DST_K ch)) x.dst i

/-- The length of the chunk that begins at byte i (R406). -/
def Dev.chunkLen (d : Dev) (ch : Nat) (x : Xfer) (i : Nat) : Nat :=
  min (x.total - i) (min (sideRoom (d.on (DMA_CH_CTL_SRC_WRAP ch)) (d.rd (DMA_CH_CTL_SRC_K ch)) (d.dmaSrc ch x i))
    (sideRoom (d.on (DMA_CH_CTL_DST_WRAP ch)) (d.rd (DMA_CH_CTL_DST_K ch)) (d.dmaDst ch x i)))

/-- The range of R24 an address lies in. -/
def rangeOf (a : Nat) : Nat :=
  match addrSpace a with
  | .store _ => 0 | .window .. => 1 | .debug _ => 2 | .control _ => 3 | .host .a _ => 4 | .host .b _ => 5 | .none => 6

/-- A chunk's address lies in the range of its side's first byte (R409). -/
def inRange (first a : Nat) : Bool := rangeOf a != 6 && rangeOf a == rangeOf first

/-- Bytes of the chunks written, all together. -/
def Xfer.doneBytes (x : Xfer) : Nat := (x.written.map (·.2)).foldl (· + ·) 0

/-- The first byte of the first chunk not written yet. -/
def firstGap (written : List (Nat × Nat)) : (fuel i : Nat) → Nat
  | 0, i => i
  | n + 1, i => match written.find? fun w => w.1 == i with
    | some w => if w.2 = 0 then i else firstGap written n (i + w.2)
    | none => i

/-- The registers of a busy channel show how far its transfer has come. -/
def Dev.dmaShow (d : Dev) (ch : Nat) : Dev :=
  match d.xfer ch with
  | none => d
  | some x =>
    ((d.wr (DMA_CH_SRC_ADDR ch) (d.dmaSrc ch x x.issued)).wr (DMA_CH_DST_ADDR ch)
      (d.dmaDst ch x (firstGap x.written x.written.length 0))).wr (DMA_CH_CNT_CNT ch) (x.total - x.doneBytes)

/-- A transfer starts from the active set (R405, R407). -/
def Dev.dmaStart (d : Dev) (ch : Nat) (p : Port) (epoch : Nat) (cmd : Option (Nat × Nat)) : Dev :=
  let x : Xfer := ⟨p, epoch, d.rd (DMA_CH_SRC_ADDR ch), d.rd (DMA_CH_DST_ADDR ch), d.rd (DMA_CH_CNT_CNT ch), 0, [], [], [], [], cmd⟩
  { d.set (DMA_CH_CTL_GO ch) with xfers := KMap.put d.xfers ch x }

/-- The fields of CTL [27:1] with those of SCTL. -/
def dmaCtl (ch : Nat) : List (Field × Field) :=
  [(DMA_CH_CTL_EVENT ch, DMA_CH_SCTL_EVENT ch), (DMA_CH_CTL_EV ch, DMA_CH_SCTL_EV ch),
   (DMA_CH_CTL_SRC_WRAP ch, DMA_CH_SCTL_SRC_WRAP ch), (DMA_CH_CTL_SRC_K ch, DMA_CH_SCTL_SRC_K ch),
   (DMA_CH_CTL_DST_WRAP ch, DMA_CH_SCTL_DST_WRAP ch), (DMA_CH_CTL_DST_K ch, DMA_CH_SCTL_DST_K ch),
   (DMA_CH_CTL_KEY ch, DMA_CH_SCTL_KEY ch)]

/-- A hand-over (R412): the shadow set becomes the active one, and its transfer starts under who armed it (R407). -/
def Dev.handOverSets (d : Dev) (ch : Nat) : Dev :=
  let d := ((d.wr (DMA_CH_SRC_ADDR ch) (d.rd (DMA_CH_SSRC_ADDR ch))).wr (DMA_CH_DST_ADDR ch) (d.rd (DMA_CH_SDST_ADDR ch))).wr
    (DMA_CH_CNT_CNT ch) (d.rd (DMA_CH_SCNT_CNT ch))
  let d := (dmaCtl ch).foldl (fun d (f, s) => d.wr f (d.rd s)) d
  let d := (d.clr (DMA_CH_SCTL_ARM ch)).inc (DMA_STAT_HANDOVERS ch)
  match KMap.find d.armers ch with
  | some a => ({ d with armers := KMap.del d.armers ch }).dmaStart ch a.port a.epoch a.cmd
  | none => d.dmaStart ch .a 0 none

/-- The shadow set is armed; on an idle channel the hand-over takes place at once (R412). -/
def Dev.armSet (d : Dev) (ch : Nat) (a : Armer) : Dev :=
  let d := { d.set (DMA_CH_SCTL_ARM ch) with armers := KMap.put d.armers ch a }
  if d.dmaBusy ch then d else d.handOverSets ch

/-- Load the operands of a DMAGO (R103): into the active set, whose transfer starts, or into the shadow set, which is armed. -/
def Dev.dmaLoad (d : Dev) (r : DmaRec) (arm : Bool) : Dev :=
  match r.cmd with
  | .dmago _ _ key src dst n ev evEn sw sk dw dk =>
    let ch := r.ch
    let pick := fun (x : Field × Field) => if arm then x.2 else x.1
    let d := ((d.wr (pick (DMA_CH_SRC_ADDR ch, DMA_CH_SSRC_ADDR ch)) src.toNat).wr
      (pick (DMA_CH_DST_ADDR ch, DMA_CH_SDST_ADDR ch)) dst.toNat).wr (pick (DMA_CH_CNT_CNT ch, DMA_CH_SCNT_CNT ch)) n.toNat
    let d := ((dmaCtl ch).zip [b2n evEn, ev.toNat, b2n sw, sk.toNat, b2n dw, dk.toNat, key.toNat]).foldl
      (fun d (x, v) => d.wr (pick x) v) d
    if arm then d.armSet ch ⟨r.port, r.epoch, some (r.q, r.seq)⟩ else d.dmaStart ch r.port r.epoch (some (r.q, r.seq))
  | _ => d

/-- A channel takes the next transfer that a replay starts again, into its active or its shadow set (R436). -/
def Dev.dmaAgain (d : Dev) (ch : Nat) : Dev :=
  match d.dmaRedo.find? fun r => r.ch == ch with
  | none => d
  | some r =>
    if d.dmaBusy ch && d.on (DMA_CH_SCTL_ARM ch) then d
    else ({ d with dmaRedo := d.dmaRedo.erase r }).dmaLoad r (d.dmaBusy ch)

/-- The transfer of a channel is over. -/
def Dev.dmaStop (d : Dev) (ch : Nat) : Dev :=
  { d.clr (DMA_CH_CTL_GO ch) with xfers := KMap.del d.xfers ch }

/-- DMA_TRANSFER_END (R410, R412): every chunk has been written; the pulse, and the hand-over of an armed shadow set. -/
def Dev.dmaEnd (d : Dev) (ch : Nat) : Dev :=
  match d.xfer ch with
  | none => d
  | some x =>
    if d.dmaBusy ch && x.doneBytes == x.total && x.arrived.isEmpty then
      let ev := d.rd (DMA_CH_CTL_EV ch)
      let pulses := d.on (DMA_CH_CTL_EVENT ch)
      let d := d.dmaStop ch
      let d := if d.telling then d.capoSend 0x18 [ev, b2n pulses, ch] else d
      let d := { d with dmaLog := match x.cmd with
        | some (q, seq) => d.dmaLog.filter fun l => l.ch != ch || l.q != q || l.seq != seq
        | none => d.dmaLog }
      let d := if pulses then d.pulseHere ev else d
      (if d.on (DMA_CH_SCTL_ARM ch) then d.handOverSets ch else d).dmaAgain ch
    else d

/-- The requests of a failing transfer that are not answered yet stay with the engines (R411): reads hold their slots, and every one its tag. -/
def Dev.dmaStray (d : Dev) (ch : Nat) : Dev :=
  match d.xfer ch with
  | some x => { d with dma := { d.dma with
      strays := d.dma.strays ++ x.reads.map (fun r => (ch, r.1, true)) ++ x.writes.map fun r => (ch, r.1, false) } }
  | none => d

/-- A chunk fails and its transfer ends at once (R411): kind 1 bus error, 2 uncorrectable data, 3 key refusal; side 1 for a
write. -/
def Dev.dmaFail (d : Dev) (ch kind : Nat) (side : Bool) (a : Nat) : Dev :=
  if d.dmaBusy ch then
    let d := (d.dmaStray ch).dmaStop ch |>.clr (DMA_CH_SCTL_ARM ch)
    let d := ((({ d with armers := KMap.del d.armers ch }).wr (DMA_STAT_EKIND ch) kind).wr (DMA_STAT_SIDE ch) (b2n side)).wr
      (DMA_EADDR_ADDR ch) a
    (d.raise { cls := .ochre, flag := DMA_STAT_ERR ch, ukind := 8, uid := ch, detail := a }).dmaAgain ch
  else d

/-- The wrap fields of a set as a write leaves them are good, and its count is not 0 (R413). -/
def Dev.setGood (d : Dev) (cnt sw sk dw dk : Field) : Bool :=
  d.rd cnt != 0 && wrapOk (d.on sw) (d.rd sk) && wrapOk (d.on dw) (d.rd dk)

/-- A write of DMA_CHn_CTL (R413). -/
def Dev.dmaCtlWrite (d : Dev) (ch : Nat) (w : RegWr) : Dev :=
  if d.dmaBusy ch then d.set (DMA_STAT_CFGERR ch)
  else
    let d := (dmaCtl ch).foldl (fun d x => d.take w x.1) d
    if !w.one (DMA_CH_CTL_GO ch) then d
    else if d.setGood (DMA_CH_CNT_CNT ch) (DMA_CH_CTL_SRC_WRAP ch) (DMA_CH_CTL_SRC_K ch) (DMA_CH_CTL_DST_WRAP ch) (DMA_CH_CTL_DST_K ch)
      then d.dmaStart ch (writePort w.src) 0 none
    else d.set (DMA_STAT_CFGERR ch)

/-- A write of DMA_CHn_SCTL (R413). -/
def Dev.dmaSctlWrite (d : Dev) (ch : Nat) (w : RegWr) : Dev :=
  if !w.touches (DMA_CH_SCTL_ARM ch) then d
  else
    let arm := w.one (DMA_CH_SCTL_ARM ch)
    if d.on (DMA_CH_SCTL_ARM ch) && arm then d.set (DMA_STAT_CFGERR ch)
    else
      let d := (dmaCtl ch).foldl (fun d x => d.take w x.2) d
      if !arm then { d.clr (DMA_CH_SCTL_ARM ch) with armers := KMap.del d.armers ch }
      else if d.setGood (DMA_CH_SCNT_CNT ch) (DMA_CH_SCTL_SRC_WRAP ch) (DMA_CH_SCTL_SRC_K ch) (DMA_CH_SCTL_DST_WRAP ch) (DMA_CH_SCTL_DST_K ch)
        then d.armSet ch ⟨writePort w.src, 0, none⟩
      else d.set (DMA_STAT_CFGERR ch)

/-- A write of SRC, DST or CNT, or of their shadows (R413). -/
def Dev.dmaSetWrite (d : Dev) (ch : Nat) (f : Field) (shadow : Bool) (w : RegWr) : Dev :=
  if (if shadow then d.on (DMA_CH_SCTL_ARM ch) else d.dmaBusy ch) then d.set (DMA_STAT_CFGERR ch) else d.take w f

/-- DMA_GO_WRITE (R413). -/
def execDmaGoWrite (ch : Fin 64) (w : RegWr) (s : State) : Result :=
  s.next (s.dev.onWrite (.dmaGoWrite ch w) w.src (0x80018 + 0x40 * ch.val) fun d => d.dmaCtlWrite ch.val w)

/-- DMA_ARM_WRITE (R412). -/
def execDmaArmWrite (ch : Fin 64) (w : RegWr) (s : State) : Result :=
  s.next (s.dev.onWrite (.dmaArmWrite ch w) w.src (0x80038 + 0x40 * ch.val) fun d => d.dmaSctlWrite ch.val w)

/-- DMA_TRANSFER_END (R410). -/
def execDmaTransferEnd (ch : Fin 64) (s : State) : Result := s.next (s.dev.dmaEnd ch.val)

/-- DMA_CHUNK_FAIL (R411). -/
def execDmaChunkFail (ch : Fin 64) (kind : BitVec 2) (side : Bool) (addr : BitVec 48) (s : State) : Result :=
  s.next (s.dev.dmaFail ch.val kind.toNat side addr.toNat)

end Sys2Proof.Machine
end

