-- ==== Sys2Proof/Machine/Operands.lean ====
section
/-!
DEFINITION. What the operands of commands name: sequencer registers and the condition of a BRANCH (R36, R84, R85), places in
a ring or a called list (R28, R37, R86), handles (R48, R74), and times (R83).
-/
namespace Sys2Proof.Machine

/-! Sequencer registers. -/

/-- The value of a sequencer register. -/
def Dev.sreg (d : Dev) (q n : Nat) : Nat := d.rd (QU_S_VALUE q n)

/-- Set a sequencer register, modulo 2^64. -/
def Dev.setSreg (d : Dev) (q n v : Nat) : Dev := d.wr (QU_S_VALUE q n) v

/-- A 64-bit value as a signed number. -/
def asSigned (v : Nat) : Int := if v < 2 ^ 63 then v else (v : Int) - 2 ^ 64

/-- The condition of a BRANCH (the COND table under R85's command). -/
def branchTaken (cond a b : Nat) : Bool :=
  match cond with
  | 0 => true
  | 1 => a == b
  | 2 => a != b
  | 3 => decide (a < b)
  | 4 => decide (b ≤ a)
  | 5 => decide (asSigned a < asSigned b)
  | 6 => decide (asSigned b ≤ asSigned a)
  | _ => a == 0

/-- A signed 32-bit addend as a number modulo 2^64 (ADDS). -/
def addend (imm : BitVec 32) : Nat := (imm.signExtend 64).toNat

/-! Places. -/

/-- The place n words after a place (R28). -/
def Place.plus (p : Place) (n : Nat) : Place :=
  match p with
  | .ring i => .ring ((i + n) % 2 ^ 32)
  | .list b a => .list b (a + 8 * n)

/-- The place n words before a place, in the same ring or list; none before the list's first word. -/
def Place.minus (p : Place) (n : Nat) : Option Place :=
  match p with
  | .ring i => some (.ring ((i + 2 ^ 32 - n) % 2 ^ 32))
  | .list b a => if b + 8 * n ≤ a then some (.list b (a - 8 * n)) else none

/-- The n places from a place on. -/
def placesFrom (p : Place) (n : Nat) : List Place := (List.range n).map p.plus

/-- The words of a queue's ring (R27). -/
def Dev.ringSize (d : Dev) (q : Nat) : Nat := 2 ^ (6 + d.rd (QU_RING_SIZE q))

/-- The device address of a place (R27, R28). -/
def Dev.placeAddr (d : Dev) (q : Nat) (p : Place) : Nat :=
  match p with
  | .ring i => 64 * d.rd (QU_RING_BASE q) + 8 * (i % d.ringSize q)
  | .list _ a => a

/-- A place lies before the path's front: its word has been taken or skipped (R37, R85). -/
def Dev.seen (d : Dev) (q : Nat) (p : Place) : Bool :=
  match p with
  | .ring i => let n := ((d.queue q).ringFront + 2 ^ 32 - i) % 2 ^ 32; n != 0 && decide (n ≤ 2 ^ 31)
  | .list _ a => decide (a < (d.queue q).front)

/-- n words from a place on are rung, when it lies in the ring (R32). -/
def Dev.rung (d : Dev) (q : Nat) (p : Place) (n : Nat) : Bool :=
  match p with
  | .ring i => let k := (d.rd (QU_DOORBELL_TAIL q) + 2 ^ 32 - i) % 2 ^ 32; decide (n ≤ k ∧ k < 2 ^ 31)
  | .list _ _ => true

/-- The word the loop window holds for a place. -/
def QueueSt.word (x : QueueSt) (p : Place) : Option Word := (x.window.reverse.find? fun w => w.place == p).map (·.word)

/-- A place is that of one of the last 256 accepted words (R37). -/
def QueueSt.inWindow (x : QueueSt) (p : Place) : Bool := (x.window.drop (x.window.length - 256)).any fun w => w.place == p

/-- How far a later place of the same ring or list lies ahead, in words. -/
def Place.ahead (p r : Place) : Option Nat :=
  match p, r with
  | .ring i, .ring j => let n := (j + 2 ^ 32 - i) % 2 ^ 32; if n < 2 ^ 31 then some n else none
  | .list b a, .list c e => if b = c ∧ a ≤ e then some ((e - a) / 8) else none
  | _, _ => none

/-- Words from a place to the front of its ring or list. -/
def Dev.toFront (d : Dev) (q : Nat) (p : Place) : Nat :=
  match p with
  | .ring i => ((d.queue q).ringFront + 2 ^ 32 - i) % 2 ^ 32
  | .list _ a => ((d.queue q).front - a) / 8

/-- The place the path goes on at from a place: a word before the front that the window does not hold is passed over, since it is
never fetched again (R37, log entry 36). -/
def Dev.nextPlace (d : Dev) (q : Nat) (p : Place) : Place :=
  let x := d.queue q
  if d.seen q p && (x.word p).isNone then
    p.plus ((x.window.filterMap fun w => p.ahead w.place).foldl min (d.toFront q p))
  else p

/-- The places of the next n words of the path from a place on. -/
def Dev.pathPlaces (d : Dev) (q : Nat) : (n : Nat) → Place → List Place
  | 0, _ => []
  | n + 1, p => d.nextPlace q p :: d.pathPlaces q n ((d.nextPlace q p).plus 1)

/-- What is at hand for a place of the path: its word, a read that failed, or nothing yet. -/
inductive WordAt where
  | word (w : Word) | failed | missing
  deriving DecidableEq, Repr

/-- The word of a place: from the loop window before the front (R37), else as it was fetched; a ring word that is not rung counts
as missing (R32). -/
def Dev.wordAt (d : Dev) (q : Nat) (p : Place) : WordAt :=
  let x := d.queue q
  if d.seen q p then match x.word p with
    | some w => .word w
    | none => .missing
  else if !d.rung q p 1 then .missing
  else match x.ahead.find? fun e => e.1 == p with
    | some (_, some w) => .word w
    | some (_, none) => .failed
    | none => .missing

/-! Handles (R48, R74). -/

/-- Commands in progress other than one. -/
def Dev.others (d : Dev) (q seq : Nat) : List Cmd :=
  d.openCmds.filterMap fun (q2, e) => if q2 = q ∧ e.seq = seq then none else e.cmd

/-- Whether the handles of a command are allocated: all, not yet usable because an allocating command runs, or not all. -/
inductive Handles where
  | ok | wait | gone
  deriving DecidableEq, Repr

/-- The worse of two. -/
def Handles.join : Handles → Handles → Handles
  | .gone, _ => .gone
  | _, .gone => .gone
  | .wait, _ => .wait
  | _, .wait => .wait
  | _, _ => .ok

/-- A kernel handle. -/
def Dev.kernelState (d : Dev) (q seq h : Nat) : Handles :=
  match d.kernel h with
  | some k => if k.ready then .ok else .wait
  | none => if (d.others q seq).any (fun c => match c with | .kadmit k .. => k.toNat == h | _ => false) then .wait else .gone

/-- A buffer handle. -/
def Dev.bufferState (d : Dev) (q seq h : Nat) : Handles :=
  match d.buffer h with
  | some b => if b.ready then .ok else .wait
  | none => if (d.others q seq).any (fun c => match c with | .balloc b .. => b.toNat == h | _ => false) then .wait else .gone

/-- A tally table. -/
def Dev.tableState (d : Dev) (q seq t : Nat) : Handles :=
  if (d.table t).isSome then .ok
  else if (d.others q seq).any (fun c => match c with | .tsetup x .. => x.toNat == t | _ => false) then .wait else .gone

/-- The handles a command names; an allocating command's own must not be allocated. -/
def Dev.handles (d : Dev) (q seq : Nat) (c : Cmd) : Handles :=
  match c with
  | .balloc b .. => if d.bufferState q seq b.toNat = .gone then .ok else .gone
  | .kadmit k .. => if d.kernelState q seq k.toNat = .gone then .ok else .gone
  | .tsetup t .. => if d.tableState q seq t.toNat = .gone then .ok else .gone
  | c =>
    let l := c.kernels.map (d.kernelState q seq) ++ c.buffers.map (d.bufferState q seq) ++ c.tables.map (d.tableState q seq)
    l.foldl Handles.join .ok

/-! Times (R83). -/

/-- A stamp in sixteenths of a nanosecond, modulo 2^30 s. -/
def stampSix (s : Nat) : Nat := (bitsOf s 34 30 * 1000000000 + bitsOf s 4 30) * 16 + bitsOf s 0 4

/-- 2^30 s in sixteenths of a nanosecond. -/
def eraSix : Nat := 2 ^ 30 * 16000000000

/-- How far a target lies in the past: none while it counts as future. -/
def pastBy (now target : Nat) : Option Nat :=
  let n := (now + eraSix - target % eraSix) % eraSix
  if n < eraSix / 2 then some n else none

end Sys2Proof.Machine
end

