-- ==== Sys2Proof/Machine/Flags.lean ====
section
/-!
DEFINITION. The flags of commands and of queues: what F, C, I, T and W ask for (R46, R49 to R52, R62, R67, R77), the completion
record (R62, R63), and the conditions QU_STAT shows (R44, R64, R70).
-/
namespace Sys2Proof.Machine

/-! Starting (R49 to R52, R77). -/

/-- An earlier command of the queue holds a command back. -/
def Entry.holdsBack (e : Entry) (c : Entry) : Bool :=
  let done := e.stage == .completed
  !(done || e.stage == .started)
    || (!done && (match e.cmd with | some x => x.holding | none => false))
    || (!done && (c.flags.fence || (match c.cmd with | some x => x.fenced | none => false)))
    || (!done && (match e.cmd, c.cmd with | some x, some y => x.meets y | _, _ => false))
    || (c.flags.wait && !e.durable)

/-- The first accepted command of a queue that has not started, when the order of the queue lets it start. -/
def Dev.startable (d : Dev) (q : Nat) : Option Entry :=
  match (d.journal q).find? fun e => e.stage == .accepted || e.stage == .offered with
  | none => none
  | some e =>
    if e.stage == .accepted && ((d.journal q).takeWhile fun x => x.seq != e.seq).all fun x => !x.holdsBack e then some e else none

/-! Records (R62). -/

/-- A record is due (R62). -/
def Entry.recordDue (e : Entry) : Bool := e.flags.record || e.status.bad

/-- The completion record of a command. -/
def completionRecord (q : Nat) (e : Entry) (phase : Nat) : List Nat :=
  [e.seq % 2 ^ 48 + 2 ^ 48 * (q % 64) + 2 ^ 56 * (e.opcode % 256),
   e.status.code + 2 ^ 8 * (e.epoch % 256) + 2 ^ 16 * phase, e.result.toNat, e.stamp]

/-- Records a completion ring holds (R27). -/
def Dev.cqSize (d : Dev) (q : Nat) : Nat := 2 ^ (4 + d.rd (CQ_RING_SIZE q))

/-- The completion ring is full (R64). -/
def Dev.cqFull (d : Dev) (q : Nat) : Bool :=
  (d.rd (CQ_TAIL_TAIL q) + 2 ^ 32 - d.rd (CQ_HEAD_HEAD q)) % 2 ^ 32 == d.cqSize q

/-- The device address of the next record. -/
def Dev.cqSlot (d : Dev) (q : Nat) : Nat := 32 * d.rd (CQ_RING_BASE q) + 32 * (d.rd (CQ_TAIL_TAIL q) % d.cqSize q)

/-- PHASE of the next record (R63). -/
def Dev.cqPhase (d : Dev) (q : Nat) : Nat := (d.rd (CQ_TAIL_TAIL q) / d.cqSize q + 1) % 2

/-! The sequencer engines (R22, R33, R34). -/

/-- The four queues of the engine of a queue. -/
def enginePeers (q : Nat) : List Nat := (List.range 4).map fun k => 16 * k + engineOf q

/-- The round-robin weight of a queue (R34). -/
def Dev.weight (d : Dev) (q : Nat) : Nat := 2 ^ d.rd (QU_CTL_PRIO q)

/-- Weighted round robin (R34, log entry 32): a queue has its turn while it has slots left in the round, and also when no queue of its engine that
is ready has any left, since a new round then begins. -/
def Dev.hasTurn (d : Dev) (used : KMap Nat) (ready : Dev → Nat → Bool) (q : Nat) : Bool :=
  decide (KMap.get used q 0 < d.weight q) || !(enginePeers q).any fun p => ready d p && decide (KMap.get used p 0 < d.weight p)

/-- The turns of a stage once a queue has taken a slot. -/
def Dev.takeTurn (d : Dev) (used : KMap Nat) (q : Nat) : KMap Nat :=
  if KMap.get used q 0 < d.weight q then KMap.put used q (KMap.get used q 0 + 1)
  else KMap.put ((enginePeers q).foldl KMap.del used) q 1

/-! Conditions of a queue. -/

/-- QU_STAT.IDLE (R70): EN is 0 and every accepted command has been posted. -/
def Dev.queueIdle (d : Dev) (q : Nat) : Bool := !d.on (QU_CTL_EN q) && (d.journal q).isEmpty

/-- The queue's window (WINDOW; 0 means 1,024). -/
def Dev.queueWindow (d : Dev) (q : Nat) : Nat := if d.rd (QU_CTL_WINDOW q) = 0 then 1024 else d.rd (QU_CTL_WINDOW q)

/-- The queue's window and the journal have room (R44). -/
def Dev.journalRoom (d : Dev) (q : Nat) : Bool :=
  decide (d.journalUsed < 32768) && decide ((d.journal q).length < d.queueWindow q)

/-- The accept stage of a queue works (R40, R41, R66, R79, R429, R433). -/
def Dev.accepting (d : Dev) (q : Nat) : Bool :=
  d.on (QU_CTL_EN q) && !d.on (QU_STAT_ERRSTOP q) && !d.on (QU_STAT_FAULT q) && d.running && d.gateServes 5 && !d.shadowing
    && d.rd TWIN_STAT_STATE != 5 && !d.capo.swapping
    && !((d.journal q).any fun e => e.stage == .offered && e.cmd == some .halt)

/-- Queues whose acceptance waits for the journal go on once their window and the journal have room (R44). -/
def Dev.settleJwait (d : Dev) : Dev :=
  (List.range 64).foldl (fun d q => if d.on (QU_STAT_JWAIT q) && d.journalRoom q then d.clr (QU_STAT_JWAIT q) else d) d

/-- The sequence number after one (R42). -/
def seqNext (n : Nat) : Nat := if n + 1 < 2 ^ 48 then n + 1 else 1

/-- The last sequence number a queue has given. -/
def Dev.lastSeq (d : Dev) (q : Nat) : Nat :=
  match (d.journal q).getLast? with
  | some e => e.seq
  | none => d.rd (QU_ACCEPT_SEQ_SEQ q)

end Sys2Proof.Machine
end

