-- ==== Sys2Proof/Machine/Tick.lean ====
section
/-!
DEFINITION. The timebase (R517): one period of the TB PLL, and the moment a loaded or stepped time takes effect.
-/
namespace Sys2Proof.Machine

/-- A field of width w read as a signed number (two's complement). -/
def signed (w n : Nat) : Int := if n % 2 ^ w < 2 ^ (w - 1) then (n % 2 ^ w : Nat) else (n % 2 ^ w : Nat) - (2 ^ w : Nat)

/-- A signed number in w bits (two's complement). -/
def unsigned (w : Nat) (i : Int) : Nat := (i % ((2 ^ w : Nat) : Int)).toNat

/-- The timebase moved forward by a number of sixteenths of a nanosecond. -/
def TimeSt.forward (t : TimeSt) (six : Nat) : TimeSt :=
  let total := t.six + six
  let ns := t.ns + total / 16
  { t with six := total % 16, ns := ns % 1000000000, sec := (t.sec + ns / 1000000000) % 2 ^ 32 }

/-- One period of the TB PLL (R517): 1 ns, or 4 ns while coasting (R499), adjusted by TB_ADJ.PPB in a fractional
accumulator. Before TB PLL lock nothing happens. -/
def advance (d : Dev) : Dev :=
  if d.time.run then
    let step : Nat := if d.on CLK_STAT_COAST then 4 else 1
    let acc : Int := (d.time.frac : Int) + (signed 32 (d.rd TB_ADJ_PPB) + d.time.slew) * (16 * step : Nat)
    let adj : Int := acc / 1000000000
    let six : Nat := ((16 * step : Nat) + adj).toNat
    { d with time := { d.time.forward six with frac := (acc % 1000000000).toNat } }
  else d

/-- A step of the timebase (R521): it takes the given time, STEPPED is set, UNTRUE cleared, a Slate event raised. -/
def Dev.timeStep (d : Dev) (sec ns : Nat) : Dev :=
  let d := { d with time := { d.time with sec := sec % 2 ^ 32, ns := ns, six := 0, frac := 0 } }
  (d.clr TB_STAT_UNTRUE).raise { cls := .slate, flag := TB_STAT_STEPPED }

end Sys2Proof.Machine
end

