-- ==== Sys2Proof/Machine/Commands.lean ====
section
/-!
DEFINITION. What each command of chapter 03 does once it has started: its checks (R73, R74, R78), its effect, and when it
completes. A function work… answers the command's status and result, or none while it goes on waiting; COMMAND_START begins
a command and COMMAND_COMPLETE ends it; the rows of the commands themselves do both in one step. The completion point and the start stand at the end.
-/
namespace Sys2Proof.Machine

/-- What a command's work answers: its status and result once it is over, and the device. -/
abbrev Work := Option (Status × Word) × Dev

/-- The command is over. -/
def Dev.over (d : Dev) (st : Status) (res : Nat := 0) : Work := (some (st, .ofNat 64 res), d)

/-- The command waits. -/
def Dev.waiting (d : Dev) : Work := (none, d)

/-- Note where a command stands. -/
def Dev.note (d : Dev) (q seq : Nat) (aux : List Nat) : Dev := d.updEntry q seq fun e => { e with aux := aux }

/-- The rest of a command's work, once its first part leaves it in progress. -/
def Work.andThen (r : Work) (f : Dev → Work) : Work :=
  match r with
  | (none, d) => f d
  | r => r

/-! Flow. -/

/-- Queues arrive at a barrier's instance (R80, R81); the last one completes every participant's BARRIER. -/
def Dev.arrive (d : Dev) (bar mask : Nat) (qs : List Nat) : Dev :=
  let b := KMap.get d.barriers bar ⟨mask, 0⟩
  let arrived : Nat := qs.foldl (fun m q => setBit m q true) b.arrived
  if arrived &&& b.mask == b.mask then
    let last := qs.foldl max 0
    let d := { d with barriers := KMap.del d.barriers bar }
    d.runningCmds.foldl (fun d (q, e) => match e.cmd with
      | some (.barrier n _) => if n.toNat == bar && e.aux == [1] then Dev.close d q e.seq .ok (.ofNat 64 last) else d
      | _ => d) d
  else { d with barriers := KMap.put d.barriers bar ⟨b.mask, arrived⟩ }

/-- BARRIER (R80). -/
def Dev.workBarrier (d : Dev) (q seq : Nat) (aux : List Nat) (bar : Nat) (mask : Nat) : Work :=
  if aux == [1] then d.waiting
  else if !mask.testBit q then d.over .invalid
  else if (KMap.get d.barriers bar ⟨mask, 0⟩).mask != mask then d.over .invalid
  else ((d.note q seq [1]).arrive bar mask [q]).waiting

/-- WAIT (R54, R82). -/
def Dev.workWait (d : Dev) (ev : Nat) : Work := (d.settleWaits ev).waiting

/-- SIGNAL (R54): the count after its own increment is its result; WAITs test the count after it. -/
def Dev.workSignal (d : Dev) (q seq ev : Nat) : Work :=
  let d := d.eventInc ev
  ((d.close q seq .ok (.ofNat 64 (d.rd (EV_COUNT_COUNT ev)))).settleWaits ev).waiting

/-- The target of a WAITTIME, in sixteenths of a nanosecond (R83). -/
def Dev.timeTarget (d : Dev) (rel : Bool) (time : Word) : Nat :=
  if rel then (stampSix d.stamp + 16 * bitsOf time.toNat 0 40) % eraSix else stampSix time.toNat

/-- WAITTIME (R83): it is over at the first reading at or after the target. -/
def Dev.workTime (d : Dev) (q seq : Nat) (aux : List Nat) (rel : Bool) (time : Word) : Work :=
  let t := aux.getD 0 (d.timeTarget rel time)
  match pastBy (stampSix d.stamp) t with
  | some n => d.over .ok (n / 16)
  | none => (d.note q seq [t]).waiting

/-! Buffers. -/

/-- Every row a buffer holds lies in a bank that answers now (R271, R272). -/
def Dev.bufferOn (d : Dev) (b : Buffer) : Bool := d.storeOpen && (banksOf (b.rows.filterMap id)).all fun n => d.rd (BANK_OWN_PSTATE n) < 2

/-- Free a buffer: its rows are poisoned and their empty banks go Off (R88, R271). -/
def Dev.dropBuffer (d : Dev) (buf : Nat) (b : Buffer) : Dev :=
  let moving := match KMap.find d.bufMoves buf with | some m => m.target.filterMap id | none => []
  let rows := b.rows.filterMap id
  ({ d with buffers := KMap.del d.buffers buf, bufMoves := KMap.del d.bufMoves buf }).freeRowList
    (rows ++ moving.filter fun r => !rows.contains r)

/-- A new generation for a slot, when it has one left (R482). -/
def Dev.generation (d : Dev) (k : Nat) : Option Nat := if d.rd (SEC_GEN_NEXT k) = 2 ^ 32 - 1 then none else some (d.rd (SEC_GEN_NEXT k))

/-- The generation is taken: NEXT advances in the key store too (R482). -/
def Dev.takeGeneration (d : Dev) (k : Nat) : Dev :=
  let n := min (d.rd (SEC_GEN_NEXT k) + 1) (2 ^ 32 - 1)
  let d := if n = 2 ^ 32 - 1 then d.set (SEC_GEN_SPENT k) else d
  { d.wr (SEC_GEN_NEXT k) n with nvGens := KMap.put d.nvGens k n }

/-- The column mask and the rows a new buffer takes (R117, R568). -/
def Dev.placeBuffer (d : Dev) (n : Nat) : Option (Nat × List Nat) :=
  let mask := d.chooseMask d.usedRows n
  if mask = 0 then none else (d.rowMap d.usedRows mask n).map fun rows => (mask, rows)

/-- Word 2 of a decision about rows (R123). -/
def rowsWord (rows : List Nat) : Nat := rowMapCrc (rows.map some) + 2 ^ 32 * rows.length

/-- BALLOC takes its rows, which begin to wake and stay poisoned until they are written (R87, R117, R271). -/
def Dev.takeRows (d : Dev) (q seq buf : Nat) (b : Buffer) (mask : Nat) (rows : List Nat) : Dev :=
  let d := d.decided 2 0 buf mask (rowsWord rows) 0 0
  ({ d with buffers := KMap.put d.buffers buf { b with mask := mask, rows := rows.map some } }.wakeRows rows).note q seq [1]

/-- BALLOC once its banks are On. -/
def Dev.finishAlloc (d : Dev) (buf : Nat) : Work :=
  match d.buffer buf with
  | none => d.over .placement
  | some b =>
    if !d.bufferOn b then d.waiting
    else if b.sealed && (d.generation b.key).isNone then ((d.set (SEC_GEN_SPENT b.key)).dropBuffer buf b).over .security
    else
      let rows := b.rows.filterMap id
      d.over .ok (rows.length + 2 ^ 20 * (banksOf rows).length)

/-- The allocation takes effect at the completion point (R71, R482). -/
def Dev.commitAlloc (d : Dev) (buf : Nat) : Dev :=
  match d.buffer buf with
  | none => d
  | some b =>
    let (gen, d) := if b.sealed then (d.rd (SEC_GEN_NEXT b.key), d.takeGeneration b.key) else (0, d)
    d.updBuffer buf fun b => { b with ready := true, gen := gen }

/-- BALLOC begins: it finds its rows, whose banks wake (R87, R117, R125, R482, R568). -/
def Dev.beginAlloc (d : Dev) (q seq buf : Nat) (commit mirror sealed : Bool) (key size : Nat) : Work :=
  if sealed && key == 0 then d.over .invalid
  else if !d.keyOk key then d.over .security
  else if sealed && (d.generation key).isNone then (d.set (SEC_GEN_SPENT key)).over .security
  else if d.rootLost then d.over .placement
  else
    let n := (size + 511) / 512
    let b : Buffer := ⟨false, commit, mirror, sealed, key, 512 * n, 0, [], false, 0⟩
    match d.replayAsk 2 0 buf with
    | .wait => d.waiting
    | .none => d.diverge.over .placement
    | .take w1 w2 =>
      (match d.rowMap d.usedRows w1 n with
      | some rows =>
        if w2 == rowsWord rows then (d.passEntry.takeRows q seq buf b w1 rows).waiting
        else d.diverge.skipEntry.over .placement
      | none => d.diverge.skipEntry.over .placement)
    | .free => match d.placeBuffer n with
      | some (mask, rows) => (d.takeRows q seq buf b mask rows).waiting
      | none => d.over .placement

/-- BALLOC. -/
def Dev.workAlloc (d : Dev) (q seq : Nat) (aux : List Nat) (buf : Nat) (commit mirror sealed : Bool) (key size : Nat) : Work :=
  if aux == [1] then d.finishAlloc buf
  else (d.beginAlloc q seq buf commit mirror sealed key size).andThen fun d =>
    if (d.buffer buf).isSome then d.finishAlloc buf else d.waiting

/-- Some kernel has a buffer bound (R88). -/
def Dev.isBound (d : Dev) (buf : Nat) : Bool :=
  d.kernels.any fun (_, k) => k.binds.any fun (_, b) => b.kind < 2 && b.target == buf

/-- BFREE (R88). -/
def Dev.workFree (d : Dev) (q seq buf : Nat) : Work :=
  if (d.others q seq).any fun c => c.buffers.contains buf && (match c with | .bfree _ => false | _ => true) then d.waiting
  else match d.buffer buf with
    | none => d.over .invalid
    | some b => if d.isBound buf then d.over .invalid else (d.dropBuffer buf b).over .ok (b.rows.filterMap id).length

/-- A queue's engine reaches the banks of a range of a buffer over the network (R17, R22, R308). -/
def Dev.reachesBuf (d : Dev) (q : Nat) (b : Buffer) (ofs n : Nat) : Bool :=
  d.reachesRows (engineCol q) ((bufPieces b ofs n).filterMap (·.1))

/-- Rows of a buffer that a range touches. -/
def rangeRows (ofs n : Nat) : Nat := (rowsOfRange ofs n).length

/-- A command's writes to a buffer: staged when it is committed, once staging rows are free, else stored at once (R56, R59). -/
def Dev.cmdWrite (d : Dev) (q seq buf ofs : Nat) (b : Buffer) (data : List Byte) (ok : Nat) : Work :=
  let en := List.replicate data.length true
  if b.mirror && !b.commit && d.mirrorFull then d.waiting else
  if b.commit then
    match d.entry q seq with
    | none => d.waiting
    | some e =>
      if d.stageFit q seq (stageBytes buf ofs data en ++ e.staged) e.delta == .waits then d.waiting else
      let (o, d) := d.stageCheck e.staged buf ofs en
      if o ≠ .ok then d.over o.status
      else
        let st := stageBytes buf ofs data en ++ e.staged
        if d.stageFit q seq st e.delta == .over then d.over .placement
        else (d.updEntry q seq fun e => { e with staged := st }).over .ok ok
  else
    let d := d.updEntry q seq fun e => { e with wrote := (buf, ofs, data.length) :: e.wrote }
    let (o, d) := d.bufWrite buf ofs data en
    d.over o.status (if o = .ok then ok else 0)

/-- BCOPY (R89): the source is read whole before anything is written. -/
def Dev.workCopy (d : Dev) (q seq dst src sofs dofs n : Nat) : Work :=
  match d.buffer dst, d.buffer src with
  | some b, some a =>
    if a.size < sofs + n || b.size < dofs + n then d.over .invalid
    else if !d.keyOk a.key || !d.keyOk b.key then d.over .security
    else if b.commit && 4096 < rangeRows dofs n then d.over .placement
    else if !d.reachesBuf q a sofs n || !d.reachesBuf q b dofs n then d.over .busError
    else if !d.bufferOn a || !d.bufferOn b then d.waiting
    else
      let (data, o, d) := d.bufRead src sofs n
      if o ≠ .ok then d.over o.status else d.cmdWrite q seq dst dofs b data n
  | _, _ => d.over .invalid

/-- BFILL. -/
def Dev.workFill (d : Dev) (q seq buf ofs n : Nat) (pat : Word) : Work :=
  match d.buffer buf with
  | none => d.over .invalid
  | some b =>
    if b.size < ofs + n then d.over .invalid
    else if !d.keyOk b.key then d.over .security
    else if b.commit && 4096 < rangeRows ofs n then d.over .placement
    else if !d.reachesBuf q b ofs n then d.over .busError
    else if !d.bufferOn b then d.waiting
    else d.cmdWrite q seq buf ofs b ((List.replicate (n / 8) (bytesLE 8 pat.toNat)).flatten) n

/-- ROWMOVE (R90, R91): the row port's own steps move the rows and end the command. -/
def Dev.workRows (d : Dev) (q seq : Nat) (aux : List Nat) (kern buf port : Nat) (toBank : Bool) (first n : Nat) : Work :=
  if !aux.isEmpty then d.waiting
  else match d.buffer buf, d.kernel kern with
    | some b, some k =>
      if b.sealed then d.over .security
      else if k.released then d.over .placement
      else match k.rowTile port with
        | none => d.over .invalid
        | some t =>
          if b.rows.length < first + n then d.over .invalid
          else if !d.keyOk b.key then d.over .security
          else if toBank && b.commit && 4096 < n then d.over .placement
          else if !d.gate (if t < 128 then 11 else 12) then d.waiting
          else (d.note q seq [0, 0]).waiting
    | _, _ => d.over .invalid

/-! BKEY (R92, R482, R486). -/

/-- What BKEY finds in a row: data, nothing to keep, a row whose tag fails (or a plain row poisoned in part), or a codeword
that cannot be corrected. -/
inductive KeyRow where
  | data (bytes : List Byte) | empty | bad | lost
  deriving DecidableEq, Repr

/-- Read and verify a row under its present setting. -/
def Dev.keyRow (d : Dev) (sealed : Bool) (r : Nat) : KeyRow × Dev :=
  if sealed then
    match KMap.find d.sealedRows r with
    | none => (.empty, d)
    | some s =>
      if s.ctr == burntCtr then (.empty, d)
      else
        let (o, _, d) := d.verifyRow r
        match o with
        | .ok => (.data (memGetList d.mem (512 * r) 512), d)
        | .busError => (.bad, d)
        | .uncorrectable => (.lost, d)
  else
    let ws := (List.range 16).map fun k => d.findWord (16 * r + k)
    if ws.all (· == .poison) then (.empty, d)
    else if ws.any (· == .lost) then (.lost, (d.readRow r 0 512).2.2)
    else if ws.any (· == .poison) then (.bad, d)
    else
      let (b, _, d) := d.readRow r 0 512
      (.data b, d)

/-- A row that BKEY gives up is fresh (R486). -/
def Dev.freshRow (d : Dev) (r : Nat) : Dev := { d.poisonRow r with sealedRows := KMap.del d.sealedRows r }

/-- Write a row again under a setting (R92). -/
def Dev.rekeyRow (d : Dev) (sealed : Bool) (r : Nat) (bytes : List Byte) : Dev :=
  let d := d.freshRow r
  if sealed then d.sealRow r 1 bytes
  else (List.range 16).foldl (fun d k => Dev.putWord d (16 * r + k) ((bytes.drop (32 * k)).take 32)) d

/-- Read every row; a row whose tag fails becomes fresh, with the event of R485 (R92, R486). -/
def Dev.keyRows (d : Dev) (b : Buffer) : List (Nat × KeyRow) × Dev :=
  (b.rows.filterMap id).foldl (fun (l, d) r =>
    let (x, d) := Dev.keyRow d b.sealed r
    let d := if x = .bad then (if b.sealed then d.freshRow r else (d.tagFail r).freshRow r) else d
    (l ++ [(r, x)], d)) (([] : List (Nat × KeyRow)), d)

/-- BKEY (R92, R482): all rows are read and verified, then written again under the new setting. A row whose tag fails is left fresh and
the command ends as Security, the others and the setting being new (log entry 60). -/
def Dev.workKey (d : Dev) (buf key : Nat) (sealed : Bool) : Work :=
  match d.buffer buf with
  | none => d.over .invalid
  | some b =>
    let newSeal := sealed && (!b.sealed || key != b.key)
    if sealed && key == 0 then d.over .invalid
    else if !d.keyOk key then d.over .security
    else if !newSeal && sealed == b.sealed then (d.updBuffer buf fun b => { b with key := key }).over .ok
    else if b.sealed && !d.keyOk b.key then d.over .security
    else if newSeal && (d.generation key).isNone then (d.set (SEC_GEN_SPENT key)).over .security
    else if !d.bufferOn b then d.waiting
    else
      let (rows, d) := d.keyRows b
      if rows.any fun x => x.2 == .lost then d.over .uncorrectable
      else
        let (gen, d) := if newSeal then (d.rd (SEC_GEN_NEXT key), d.takeGeneration key) else (0, d)
        let d := d.updBuffer buf fun b => { b with key := key, sealed := sealed, gen := gen }
        let d := rows.foldl (fun d (r, x) => match x with
          | .data bytes => Dev.rekeyRow d sealed r bytes
          | _ => d.freshRow r) d
        if rows.any fun x => x.2 == .bad then d.over .security
        else d.over .ok (rows.filter fun x => match x.2 with | .data _ => true | _ => false).length

/-! BHINT (R120, R121, R572). -/

/-- The mask a hint's column part asks for: SPREAD takes the steps of R568 as if the buffer's own rows were free. -/
def Dev.hintMask (d : Dev) (b : Buffer) (col : Nat) (spread : Bool) : Nat :=
  if spread then d.chooseMask (d.usedRows.filter fun r => !b.rows.contains (some r)) b.rows.length else 2 ^ col

/-- Begin the moves that a hint asks for: they are recorded under reason 0 (R572). -/
def Dev.hintMove (d : Dev) (q seq buf mask : Nat) (rows : List (Option Nat)) : Work :=
  let d := { d with bufMoves := KMap.put d.bufMoves buf ⟨mask, 0, rows⟩ }
  (((d.wakeRows (rows.filterMap id)).bufDecided 0 buf mask rows).note q seq [1, mask]).waiting

/-- BHINT judges its column part outside Replay mode, and in Replay mode when no entry is to take it: what it notes is 1 and the mask
while rows move to it, 3 and the mask when they lie there already, 4 when the part is missed. -/
def Dev.hintPlan (d : Dev) (q seq buf : Nat) (b : Buffer) (mask : Nat) (moves : Bool) : Work :=
  match d.planMove b mask with
  | none => ((d.set PLACE_STAT_HINT_MISSED).note q seq [4]).waiting
  | some rows =>
    if rows == b.rows then (d.note q seq [3, mask]).waiting
    else if moves then d.hintMove q seq buf mask rows
    else ((d.diverge.set PLACE_STAT_HINT_MISSED).note q seq [4]).waiting

/-- BHINT begins (R120, R121, R572): it notes 2 in Free mode, 3 when it has no column part. In Replay mode its entry is found by kind,
handle and OCC, and the rows move as it states (R125); a COLV whose rows lie in its column already moved none when it was recorded
either, and so has no entry. -/
def Dev.beginHint (d : Dev) (q seq buf col : Nat) (colv spread : Bool) : Work :=
  match d.buffer buf with
  | none => d.over .invalid
  | some b =>
    if (KMap.find d.bufMoves buf).isSome then d.waiting
    else if d.rd PLACE_CTL_MODE = 0 then (d.note q seq [2]).waiting
    else if !colv && !spread then (d.note q seq [3]).waiting
    else
      let mask := d.hintMask b col spread
      match d.replayAsk 6 0 buf with
      | .free => d.hintPlan q seq buf b mask true
      | .none => d.hintPlan q seq buf b mask false
      | .wait => if !spread && d.planMove b mask == some b.rows then (d.note q seq [3, mask]).waiting else d.waiting
      | .take w1 w2 =>
        match d.planMove b w1 with
        | some rows =>
          if w2 == rowMapCrc rows + 2 ^ 32 * rows.length then d.passEntry.hintMove q seq buf w1 rows
          else ((d.diverge.skipEntry.set PLACE_STAT_HINT_MISSED).note q seq [4]).waiting
        | none => ((d.diverge.skipEntry.set PLACE_STAT_HINT_MISSED).note q seq [4]).waiting

/-- BHINT is over once the rows it moves have moved: 1 when every part was honoured. -/
def Dev.finishHint (d : Dev) (buf : Nat) (aux : List Nat) : Work :=
  match d.buffer buf, aux with
  | none, _ => d.over .invalid
  | some b, 1 :: mask :: _ =>
    if (KMap.find d.bufMoves buf).isSome then d.waiting
    else if b.rows.all fun r => match r with | some x => mask.testBit (x / 8192) | none => true then d.over .ok 1
    else (d.set PLACE_STAT_HINT_MISSED).over .ok 0
  | some _, 3 :: _ => d.over .ok 1
  | some _, [] => d.waiting
  | some _, _ => d.over .ok 0

/-- What a command has noted. -/
def Dev.noted (d : Dev) (q seq : Nat) : List Nat := match d.entry q seq with | some e => e.aux | none => []

/-- BHINT. -/
def Dev.workHint (d : Dev) (q seq : Nat) (aux : List Nat) (buf col : Nat) (colv spread : Bool) : Work :=
  (if aux.isEmpty then d.beginHint q seq buf col colv spread else d.waiting).andThen fun d => d.finishHint buf (d.noted q seq)

/-- The parts of a hint that no row had to move for take effect at the completion point (R71, R121): PIN, and the mask of rows that lie
in it already. -/
def Dev.commitHint (d : Dev) (buf : Nat) (pin : Bool) (aux : List Nat) : Dev :=
  if aux.head? == some 2 then d
  else d.updBuffer buf fun b => { b with pin := b.pin || pin, mask := if aux.head? == some 3 then aux.getD 1 b.mask else b.mask }

/-! Kernels. -/

/-- The gates of the dies that tiles lie on are open (R502). -/
def Dev.diesOpen (d : Dev) (ts : List Nat) : Bool := ts.all fun t => d.gate (if t < 128 then 11 else 12)

/-- A kernel's ensemble is migrating (R131). -/
def Dev.onTheMove (d : Dev) (k : Kernel) : Bool := (KMap.find d.migrations (d.homeOf k)).isSome

/-- KADMIT (R93): the image is read, placed and loaded; the loader's own steps end the command. -/
def Dev.workAdmit (d : Dev) (q seq : Nat) (kern dies : Nat) (sole nomigrate anchor : Bool) (tile image bytes word0 : Nat)
    (env : CmdEnv) : Work :=
  let mine : Bool := match d.load with | some l => l.who == .kadmit q seq | none => false
  if mine then d.waiting
  else match env with
    | .image i p =>
      let adm : Admission := ⟨dies, sole, nomigrate, if anchor then some tile else none, ⟨true, image, bytes, i.keyslot.toNat⟩, word0⟩
      (match addrSpace image with
      | .store a =>
        if d.load.isSome || !d.storeReady .device 0 a bytes then d.waiting
        else
          let (i, d) := d.imageAt image (some bytes) i
          (d.admitImage (.kadmit q seq) kern { adm with src := ⟨true, image, bytes, i.keyslot.toNat⟩ } i false p).waiting
      | .host x _ =>
        if d.portUp x then (d.admitImage (.kadmit q seq) kern adm i false p).waiting else (d.deviceFail x image).over .busError
      | _ => d.over .busError)
    | _ => d.waiting

/-- KRUN (R94, R115): the kernel's run begins once no other runs it; it starts when its fret is shown. -/
def Dev.workRun (d : Dev) (q seq kern : Nat) : Work :=
  match d.kernel kern with
  | none => d.over .invalid
  | some k =>
    if k.released then d.over .placement
    else match k.run with
      | some r => if r.q = q ∧ r.seq = seq then (d.finishRun kern).waiting else d.waiting
      | none =>
        if !d.diesOpen k.where then d.waiting
        else
          let d := d.updKernel kern fun k => { k with run := some ⟨q, seq, false, none, none⟩ }
          let a := d.homeOf k
          let up := match KMap.find d.ensembles a with | some e => e.phase == 1 | none => false
          (if up && d.shown k.anchor == k.fret && (KMap.find d.migrations a).isNone then d.startKernel kern
            else (d.trigger a (.run k.fret)).preloadNext a).waiting

/-- The ROWMOVEs of a kernel end (R91). -/
def Dev.stopMoves (d : Dev) (kern : Nat) : Dev :=
  d.runningCmds.foldl (fun d (q, e) => match e.cmd with
    | some (.rowmove k ..) => if k.toNat == kern then d.fix q e.seq .stopped else d
    | _ => d) d

/-- The ensemble that KSTOP held quiesced goes on, unless a gate or Rest holds it. -/
def Dev.letGo (d : Dev) (a : Nat) : Dev :=
  match KMap.find d.ensembles a with
  | some e => if e.phase == 3 && d.diesOpen (e.where a) && d.running then d.resume a else { d with
      ensembles := KMap.put d.ensembles a { e with waiting := e.waiting.erase .park } }
  | none => d

/-- KSTOP (R95, R131): a kernel that runs and is shown is quiesced first. -/
def Dev.workStop (d : Dev) (q seq : Nat) (aux : List Nat) (kern : Nat) : Work :=
  match d.kernel kern with
  | none => d.over .invalid
  | some k =>
    let a := d.homeOf k
    let runs := match k.run with | some r => r.begun | none => false
    if d.onTheMove k then d.waiting
    else if !runs then ((if aux == [1] then d.letGo a else d).stopMoves kern).over .ok 0
    else if d.shown k.anchor != k.fret || k.released then ((d.endRun kern .stopped).stopMoves kern).over .ok 1
    else if aux != [1] then ((d.trigger a .park).note q seq [1]).waiting
    else
      let quiet := match KMap.find d.ensembles a with | some e => e.phase == 3 | none => true
      if quiet then (((d.endRun kern .stopped).stopMoves kern).letGo a).over .ok 1 else d.waiting

/-- Banks a kernel owns return to the device (R269). -/
def Dev.returnBanks (d : Dev) (kern : Nat) : Dev :=
  (List.range 1024).foldl (fun d n =>
    if Dev.owner d n == kern && !d.isRetired .bank n then
      let d := (d.bankOff n).wr (BANK_OWN_OWNER n) 3
      if d.isPool n then d.wakeBank n else d
    else d) d

/-- The lane groups of a kernel. -/
def Dev.kernelGroups (d : Dev) (kern : Nat) : List Nat := (d.groups.filter fun (_, x) => x.kern == kern).map (·.1)

/-- KRETIRE (R96, R184, R269, R376). -/
def Dev.workRetire (d : Dev) (q seq : Nat) (aux : List Nat) (kern : Nat) : Work :=
  if (d.others q seq).any fun c => c.kernels.contains kern && (match c with | .kretire _ => false | _ => true) then d.waiting
  else match d.kernel kern with
    | none => d.over .invalid
    | some k =>
      let d := if aux == [1] then d else (d.kernelGroups kern).foldl Dev.beginUnbind (d.note q seq [1])
      if !(d.kernelGroups kern).isEmpty then d.waiting
      else
        let d := (if k.released then d else d.evict kern k).returnBanks kern
        ({ d with kernels := KMap.del d.kernels kern, undef := KMap.del d.undef kern }).over .ok (if k.released then 0 else k.where.length)

/-- KBIND (R97, R236). -/
def Dev.workBind (d : Dev) (kern slot kind target : Nat) : Work :=
  match d.kernel kern with
  | none => d.over .invalid
  | some k =>
    let y := d.slotType k slot
    if k.released || y == 0 || (kind != 3 && y != kind + 1) then d.over .invalid
    else if (match k.run with | some r => r.begun | none => false) then d.waiting
    else (d.updKernel kern fun k =>
      { k with binds := if kind == 3 then KMap.del k.binds slot else KMap.put k.binds slot ⟨kind, target⟩ }).over .ok

/-- KSWITCH (R98, R131, R185). -/
def Dev.workSwitch (d : Dev) (q seq : Nat) (aux : List Nat) (kern : Nat) (pre : Bool) : Work :=
  match d.kernel kern with
  | none => d.over .invalid
  | some k =>
    let a := d.homeOf k
    if k.released then d.over .placement
    else if !aux.isEmpty || d.onTheMove k || !d.diesOpen k.where then d.waiting
    else
      let d := d.note q seq [1]
      if pre then
        if d.planeReady a k.fret then (d.switchDone q seq).waiting
        else (d.preload a k.fret).waiting
      else
        let now := match KMap.find d.ensembles a with
          | some e => e.phase == 1 && (d.liveTriggers a e).isEmpty && d.shown a == k.fret
          | none => false
        if now then (d.switchDone q seq).waiting else (d.trigger a (.toFret k.fret (some (q, seq)))).waiting

/-- KPARAM (R99, R234): with LIVE at 1 the value reaches the kernel's tiles one at a time, the first at the start; what it notes is how many. -/
def Dev.workParam (d : Dev) (q seq : Nat) (aux : List Nat) (kern preg : Nat) (live : Bool) (value : Word) : Work :=
  match d.kernel kern with
  | none => d.over .invalid
  | some k =>
    let ts := if k.released then [] else k.where
    if !live then
      if (match k.run with | some r => r.begun | none => false) then d.waiting
      else (ts.foldl (fun d t => Dev.setParam d t k.fret preg value) d).over .ok
    else
      let n := aux.headD 0
      match ts[n]? with
      | none => d.over .ok
      | some t =>
        let d := d.setParam t k.fret preg value
        if ts.length ≤ n + 1 then d.over .ok else (d.note q seq [n + 1]).waiting

/-! KROTATE (R100, R192, R205). -/

/-- The kernels of a rotation in one ensemble begin to rotate. -/
def Dev.beginRotation (d : Dev) (a : Nat) (es : List RotEntry) : Dev :=
  let first := es.findIdx? fun r => match d.kernel r.kern.toNat with | some k => k.run.isSome | none => false
  let d := d.updEns a fun e => { e with rot := es, rotPos := first.getD 0, rotating := true }
  match first with
  | some i => match (es[i]?).bind fun r => d.kernel r.kern.toNat with
    | some k => if d.shown a == k.fret then d.preloadNext a else d.trigger a (.toFret k.fret none)
    | none => d
  | none => d

/-- The requests that a kernel's portal has outstanding go with it from tile t, fret f to tile u, fret g, and so do their responses (R201). -/
def moveRequests (m : KMap PortalSt) (t f u g : Nat) : KMap PortalSt :=
  match KMap.find m t with
  | none => m
  | some x =>
    let mine := x.outst.filter fun r => r.fret == f
    if mine.isEmpty then m
    else
      let ps := (x.inq ++ x.landing).filter (x.responseFor f)
      let m := KMap.put m t { x with
        outst := x.outst.filter fun r => r.fret != f
        inq := x.inq.filter fun p => !x.responseFor f p
        landing := x.landing.filter fun p => !x.responseFor f p }
      let y := KMap.get m u {}
      KMap.put m u { y with outst := y.outst ++ mine.map fun r => { r with fret := g }, landing := ps ++ y.landing }

/-- Copy a kernel's planes and memories from its tiles and fret to other ones (R100). -/
def Dev.copyKernel (d : Dev) (k : Kernel) (a f : Nat) : Dev :=
  let goal := rectTiles a k.w k.h k.both
  (List.range k.where.length).foldl (fun d i =>
    let t := k.where.getD i 0
    let u := goal.getD i 0
    let x := 8 * t + k.fret
    let y := 8 * u + f
    let mems := k.memsAt t
    { d with
      frames := moveKeys d.frames fun n => if n / 32 = 256 * k.fret + t then some (32 * (256 * f + u) + n % 32) else none
      badFrames := d.badFrames ++ d.badFrames.filterMap fun n => if n / 32 = 256 * k.fret + t then some (32 * (256 * f + u) + n % 32) else none
      badPlanes := d.badPlanes ++ d.badPlanes.filterMap fun n => if n = x then some y else none
      holds := moveKeys d.holds fun n => if n / 16384 = x then some (16384 * y + n % 16384) else none
      params := moveKeys d.params fun n => if n / 16 = x then some (16 * y + n % 16) else none
      paramHeld := d.paramHeld ++ d.paramHeld.filterMap fun n => if n / 16 = x then some (16 * y + n % 16) else none
      parks := moveKeys d.parks fun n => if n = x then some y else none
      rowRegs := moveKeys d.rowRegs fun n => if n = x then some y else none
      planeCrcs := moveKeys d.planeCrcs fun n => if n = x then some y else none
      portals := moveRequests d.portals t k.fret u f
      bmem := moveKeys d.bmem fun n =>
        if n / 16384 = t && mems.testBit (n / 1024 % 16) then some (16384 * u + n % 16384) else none }) d

/-- Where a kernel can join an ensemble: the cheapest place (R119); in Replay the one the record's word 1 gives. -/
def Dev.joinPlace (d : Dev) (h : Nat) (k : Kernel) (ea : Nat) (e : Ensemble) (temps : List ColTemp) (w1 : Option Nat) : Option (Nat × Nat) :=
  let ok := fun a f => !d.rootLost && d.shareFits k none ea e a f
  match w1 with
  | none => (cheapest (candidates () ok fun a => d.placeCost temps h k a (boxTiles ea e k a))).map fun x => (x.1, x.2.1)
  | some w =>
    let f := bitsOf w 17 3
    ((List.range 256).find? fun a => ok a f && d.admitWord k (some ea) a f == w % 2 ^ 20).map fun a => (a, f)

/-- Take a kernel from its parked ensemble into another one (R100). -/
def Dev.joinKernel (d : Dev) (h : Nat) (k : Kernel) (ea a f : Nat) : Dev :=
  let home := d.homeOf k
  let d := d.decided 4 0 h (d.admitWord k (some ea) a f) 0 a f
  let d := d.copyKernel k a f
  let d := k.where.foldl (fun d t => (Dev.clearFret d t k.fret).clr (fretKern t k.fret)) d
  let d := { d with kernels := KMap.del d.kernels h }
  let d := d.settleKernel h k (some ea) a f none
  (d.leaveRotation home h).shrink home

/-- The listed kernels that are not in the first one's ensemble. -/
def Dev.outsiders (d : Dev) (es : List RotEntry) : List (Nat × Kernel) :=
  match (es.head?).bind fun r => d.kernel r.kern.toNat with
  | none => []
  | some k0 =>
    let a := d.homeOf k0
    ((es.map fun r => r.kern.toNat).eraseDups).filterMap fun h => (d.kernel h).bind fun k => if d.homeOf k == a then none else some (h, k)

/-- Bring the outsiders in one after another: some false when one finds no place; none while the record makes it wait, those before it
having joined. -/
def Dev.joinAll (first : Nat) (temps : List ColTemp) : List (Nat × Kernel) → Dev → Option Bool × Dev
  | [], d => (some true, d)
  | (h, k) :: rest, d =>
    match (d.kernel first).map d.homeOf with
    | none => (some false, d)
    | some ea =>
      match KMap.find d.ensembles ea with
      | none => (some false, d)
      | some e =>
        let join := fun (d : Dev) (x : Nat × Nat) => Dev.joinAll first temps rest (d.joinKernel h k ea x.1 x.2)
        match d.replayAsk 4 0 h with
        | .free => (match d.joinPlace h k ea e temps none with
          | some x => join d x
          | none => (some false, d))
        | .take w1 _ => (match d.joinPlace h k ea e temps (some w1) with
          | some x => join d.passEntry x
          | none => (some false, d.diverge.skipEntry))
        | .wait => (none, d)
        | .none => (some false, d.diverge)

/-- The kernels of a rotation's entries. -/
def Dev.rotKernels (d : Dev) (es : List RotEntry) : List Kernel := es.filterMap fun r => d.kernel r.kern.toNat

/-- The ensembles that a KROTATE quiesces: those whose kernels it brings into the first one's, and that one, which grows (R171). -/
def Dev.rotHomes (d : Dev) (es : List RotEntry) : List Nat :=
  match (d.rotKernels es).head? with
  | none => []
  | some k0 => if (d.outsiders es).isEmpty then []
    else d.homeOf k0 :: (((d.outsiders es).map fun x => d.homeOf x.2).eraseDups).filter (· != d.homeOf k0)

/-- KROTATE begins (R100, R171, R192): its kernels are judged, and the ensembles that change park. -/
def Dev.beginRotate (d : Dev) (q seq : Nat) (stop : Bool) (es : List RotEntry) : Work :=
  let ks := d.rotKernels es
  if ks.any fun k => k.sole || k.fixed then d.over .invalid
  else if ks.any d.onTheMove || !(ks.all fun k => d.diesOpen k.where) then d.waiting
  else if stop then (d.note q seq [1]).waiting
  else if ks.any fun k => k.released then d.over .placement
  else ((d.rotHomes es).foldl (fun d h => Dev.trigger d h .park) (d.note q seq (1 :: d.rotHomes es))).waiting

/-- KROTATE brings its kernels together, out of the ensembles that parked for it; its schedule belongs to the commit. -/
def Dev.finishRotate (d : Dev) (stop : Bool) (es : List RotEntry) (homes : List Nat) (env : CmdEnv) : Work :=
  match es.head?, (d.rotKernels es).head? with
  | some r0, some k0 =>
    if stop then d.over .ok (d.logical (d.homeOf k0))
    else if (d.rotKernels es).any fun k => k.released then d.over .placement
    else if homes.any fun h => match KMap.find d.ensembles h with | some e => e.phase != 3 | none => false then d.waiting
    else
      let temps := match env with | .merge temps => temps | _ => []
      let free := fun (d : Dev) => if homes.isEmpty then d else ((d.rotKernels es).foldl (fun d k => d.letGo (d.homeOf k)) (homes.foldl (fun d h => Dev.letGo d h) d))
      match Dev.joinAll r0.kern.toNat temps (d.outsiders es) d with
      | (none, d) => d.waiting
      | (some false, d) => (free d).over .placement
      | (some true, d) => match d.kernel r0.kern.toNat with
        | some k => (free d).over .ok ((free d).logical ((free d).homeOf k))
        | none => d.over .invalid
  | _, _ => d.over .invalid

/-- KROTATE. -/
def Dev.workRotate (d : Dev) (q seq : Nat) (aux : List Nat) (stop : Bool) (es : List RotEntry) (env : CmdEnv) : Work :=
  (if aux.isEmpty then d.beginRotate q seq stop es else d.waiting).andThen fun d => match d.noted q seq with
    | 1 :: homes => d.finishRotate stop es homes env
    | _ => d.waiting

/-- The schedule takes effect at the completion point (R71, R100): the rotation begins, or with STOP ends. -/
def Dev.commitRotate (d : Dev) (stop : Bool) (es : List RotEntry) : Dev :=
  match es.head?, (d.rotKernels es).head? with
  | some r0, some k0 =>
    let a := d.homeOf k0
    if !stop then d.beginRotation a es
    else match KMap.find d.ensembles a with
      | some e => if e.rot.any fun r => r.kern == r0.kern then
          d.updEns a fun e => { e with rot := [], rotating := false, rotPos := 0 } else d
      | none => d
  | _, _ => d

/-! Lanes. -/

/-- The gates of the quads of some lanes are open (R502). -/
def Dev.quadsOpen (d : Dev) (ls : List Nat) : Bool := ls.all fun L => d.gateLane (L / 4)

/-- LBIND (R101, R361, R368, R376). -/
def Dev.workLbind (d : Dev) (q seq : Nat) (aux : List Nat) (kern slot : Nat) (unbind : Bool) (first w rate : Nat) : Work :=
  match d.kernel kern with
  | none => d.over .invalid
  | some k =>
    let held := d.groups.find? fun (_, x) => x.kern == kern && x.slot == slot
    if k.released || !d.laneSlot k slot then d.over .invalid
    else if unbind then
      match held with
      | none => d.over .ok
      | some (g, _) =>
        if !d.quadsOpen (d.lanesOf g) then d.waiting
        else
          let d := if aux == [1] then d else (d.note q seq [1]).beginUnbind g
          if (d.group g).isSome then d.waiting else d.over .ok
    else if aux == [1] then d.waiting
    else
      let ls := groupLanes first w
      if held.isSome || 128 < first + 2 ^ w || ls.any (fun L => (d.groupOf L).isSome || d.on (LANE_STAT_RETIRED L)) then d.over .invalid
      else if !d.quadsOpen ls then d.waiting
      else ((d.formGroup first w { kern := kern, slot := slot, maxRate := rate, cmd := some (q, seq) }).note q seq [1]).waiting

/-- The largest of the PRBS counts of some lanes, with its lane (LCTL action 6). -/
def Dev.prbsWorst (d : Dev) (ls : List Nat) : Nat × Nat :=
  ls.foldl (fun (n, L) x => if n < d.rd (LANE_PRBS_ERRORS x) then (d.rd (LANE_PRBS_ERRORS x), x) else (n, L)) (0, ls.headD 0)

/-- The actions of LCTL that need no training (R102, R364, R380). -/
def Dev.laneAction (d : Dev) (act arg first : Nat) (ls : List Nat) : Work :=
  match act with
  | 0 =>
    let d := ls.foldl Dev.laneWake d
    if ls.all fun L => d.rd (LANE_STAT_PSTATE L) == 2 then d.over .ok else d.waiting
  | 1 => (ls.foldl (fun d L => Dev.laneSleep d L 1) d).over .ok
  | 2 => (ls.foldl (fun d L => Dev.laneSleep d L 0) d).over .ok
  | 5 => (ls.foldl (fun d L =>
      ((({ Dev.set d (LANE_PRBS_RUN L) with prbs := KMap.put d.prbs L {} }).wr (LANE_PRBS_PATTERN L) arg).clr (LANE_PRBS_LOCK L)).clr (LANE_STAT_SYNC L)) d).over .ok
  | 6 =>
    let (n, L) := d.prbsWorst ls
    (ls.foldl (fun d L => Dev.clr d (LANE_PRBS_ERRORS L)) d).over .ok (n + 2 ^ 32 * L)
  | 7 => (ls.foldl (fun d L => (Dev.clr d (LANE_PRBS_RUN L)).clr (LANE_PRBS_LOCK L)) d).over .ok
  | _ =>
    let d := d.emit (.training first 5 0)
    ({ d with prbs := d.prbs.map fun y : Nat × PrbsSt => if y.1 == first then (y.1, { y.2 with flip := true }) else y }).over .ok

/-- LCTL (R102, R368). -/
def Dev.workLctl (d : Dev) (q seq : Nat) (aux : List Nat) (first w act arg : Nat) : Work :=
  let ls := groupLanes first w
  if 128 < first + 2 ^ w || ls.any fun L => d.on (LANE_STAT_RETIRED L) then d.over .invalid
  else
    let gs := (ls.filterMap fun L => (d.groupOf L).map (·.1)).eraseDups
    let same := gs == [first] && (match d.group first with | some x => x.width == w | none => false)
    let bound := gs.any fun g => match d.group g with | some x => x.bound | none => false
    if aux == [1] then d.waiting
    else if gs.any fun g => match d.group g with | some x => !x.bound || x.cmd.isSome | none => false then d.waiting
    else if (bound && !same) || (bound && 5 ≤ act) || ((act == 3 || act == 4) && gs.isEmpty) then d.over .invalid
    else if !d.quadsOpen ls then d.waiting
    else if act == 3 || act == 4 then
      let d := d.updGroup first fun x => { x with cmd := some (q, seq), maxRate := if act == 4 then arg else x.maxRate }
      ((d.note q seq [1]).retrain first).waiting
    else d.laneAction act arg first ls

/-! DMA. -/

/-- DMAGO (R103, R405, R407, R412): the channel's state is judged when the set is loaded. -/
def Dev.workDma (d : Dev) (q : Nat) (e : Entry) (c : Cmd) (ch : Nat) (arm : Bool) (key : Nat) : Work :=
  if !d.keyOk key then d.over .security
  else if !d.gate 6 then d.waiting
  else if (if arm then d.on (DMA_CH_SCTL_ARM ch) else d.dmaBusy ch) then d.over .invalid
  else
    let r : DmaRec := ⟨ch, q, e.seq, e.epoch, e.ident, c⟩
    ({ d with dmaLog := d.dmaLog ++ [r] }.dmaLoad r arm).over .ok

/-! Tally tables. -/

/-- TSETUP (R104, R289). -/
def Dev.workTsetup (d : Dev) (t kb : Nat) (commit mirror : Bool) (E cols : Nat) : Work :=
  if !d.gate 10 || !d.storeOpen then d.waiting
  else if d.rootLost || decide (d.tallyFree < 2 ^ E) then d.over .placement
  else
    let rowsFor := fun (cs : List Nat) => d.tableRowsFor E cs
    let setUp := fun (d : Dev) (rows : List (Nat × List Nat)) =>
      let all := (rows.map (·.2)).flatten
      let mask := maskOf (rows.map (·.1))
      ((d.decided 3 0 t mask (rowsWord all) 0 0).tableSetup t kb E commit mirror rows).over .ok mask
    match d.replayAsk 3 0 t with
    | .wait => d.waiting
    | .none => d.diverge.over .placement
    | .take w1 w2 =>
      (match (if cols == 0 || cols == w1 then rowsFor (maskList w1) else none) with
      | some rows => if w2 == rowsWord (rows.map (·.2)).flatten then setUp d.passEntry rows else d.diverge.skipEntry.over .placement
      | none => d.diverge.skipEntry.over .placement)
    | .free =>
      match (if cols == 0 then d.chooseCols E else some (maskList cols)).bind rowsFor with
      | some rows => setUp d rows
      | none => d.over .placement

/-- TCLEAR (R294). -/
def Dev.workTclear (d : Dev) (t : Nat) : Work :=
  if !d.gate 10 || !d.storeOpen then d.waiting
  else
    let (p, s, _) := d.tableUsed t
    (d.tableClear t).over .ok (p + s)

/-- The drain records of a table, column by column (R295, R296). -/
def Dev.drainAll (d : Dev) (t : Nat) (x : TableSt) : Outc × List Byte × Dev :=
  (List.range x.cols.length).foldl (fun (o, bs, d) i =>
    let (o2, es, d) := Dev.columnEntries d t x i
    let c := (x.cols.getD i (0, [])).1
    (o.join o2, bs ++ (es.map fun e => drainRecord c e.1 e.2.1 e.2.2).flatten, d)) (Outc.ok, ([] : List Byte), d)

/-- TDRAIN begins (R105): it takes the number of entries in use and checks what their records need. -/
def Dev.beginDrain (d : Dev) (q seq t buf ofs : Nat) : Work :=
  match d.table t, d.buffer buf with
  | some _, some b =>
    let (p, s, _) := d.tableUsed t
    if b.size < ofs + 16 * (p + s) then d.over .invalid
    else if b.commit && 131072 < p + s then d.over .placement
    else if !d.keyOk b.key then d.over .security
    else (d.note q seq [1]).waiting
  | _, _ => d.over .invalid

/-- TDRAIN drains (R105, R295): entries made since its start are drained too, and may run past the buffer's end or need more rows than a
command may stage. Its clearing belongs to the commit. -/
def Dev.finishDrain (d : Dev) (q seq t : Nat) (clear : Bool) (buf ofs : Nat) : Work :=
  match d.table t, d.buffer buf with
  | some x, some b =>
    let (p, s, _) := d.tableUsed t
    if !d.gate 10 || !d.bufferOn b then d.waiting
    else if !d.reachesBuf q b ofs (16 * (p + s)) || !(x.cols.all fun c => d.linked (engineCol q) c.1) then d.over .busError
    else
      let (o, bs, d) := d.drainAll t x
      let room := (b.size - ofs) / 16
      if o ≠ .ok then d.over o.status
      else if bs.length / 16 ≤ room then
        match (if bs.isEmpty then d.over .ok else d.cmdWrite q seq buf ofs b bs (bs.length / 16)) with
        | (some (.ok, n), d) => (some (.ok, n), if clear then { d with drains := d.drains ++ [⟨q, seq, t, []⟩] } else d)
        | r => r
      else match (if room = 0 then d.over .ok else d.cmdWrite q seq buf ofs b (bs.take (16 * room)) 0) with
        | (some (.ok, _), d) => d.over .invalid
        | r => r
  | _, _ => d.over .invalid

/-- TDRAIN. -/
def Dev.workTdrain (d : Dev) (q seq : Nat) (aux : List Nat) (t : Nat) (clear : Bool) (buf ofs : Nat) : Work :=
  (if aux == [1] then d.waiting else d.beginDrain q seq t buf ofs).andThen fun d => d.finishDrain q seq t clear buf ofs

/-! Pegs and commit control. -/

/-- PEGTAKE (R106, R399, R401). -/
def Dev.workTake (d : Dev) (port : Port) (peg : Nat) (wait : Bool) : Work :=
  if wait then (d.settlePeg peg).waiting
  else
    let (ok, d) := d.takePeg peg port
    d.over (if ok then .ok else .pegBusy)

/-- PEGGIVE (R400). -/
def Dev.workGive (d : Dev) (port : Port) (peg : Nat) : Work :=
  let (ok, d) := d.givePeg peg port
  d.over (if ok then .ok else .invalid)

/-- A frame to the twin carries a write to a buffer (R422): a write record of it, or a commit with bytes of it. -/
def frameWrites (buf : Nat) (ws : List Nat) : Bool :=
  match ws with
  | 0x14 :: 1 :: h :: _ => h == buf
  | 0x12 :: rest =>
    let n := rest.getD 7 0
    (List.range n).any fun i => rest.getD (8 + 3 * i) 0 == buf
  | _ => false

/-- The frames to the twin that carry writes to a buffer and are not acknowledged. -/
def Dev.bufFrames (d : Dev) (buf : Nat) : List Nat := (d.capo.frames.filter fun x => frameWrites buf x.words).map (·.ticket)

/-- COMMIT begins (R107): what it waits for is what its start finds not acknowledged. -/
def Dev.beginCommit (d : Dev) (q seq buf : Nat) : Work := (d.note q seq (1 :: d.bufFrames buf)).waiting

/-- COMMIT (R107): the writes to its buffer before its start are durable. -/
def Dev.workCommit (d : Dev) (q seq : Nat) (aux : List Nat) (buf : Nat) : Work :=
  (if aux.isEmpty then d.beginCommit q seq buf else d.waiting).andThen fun d =>
    let need := if aux.isEmpty then d.bufFrames buf else aux.drop 1
    if d.pairedLead && d.capo.frames.any fun x => need.contains x.ticket then d.waiting else d.over .ok

/-- EPOCH (R61). -/
def Dev.workEpoch (d : Dev) (q : Nat) : Work :=
  let d := d.inc (QU_EPOCH_EPOCH q)
  d.over .ok (d.rd (QU_EPOCH_EPOCH q))

/-! All commands. -/

/-- The work of a started command. -/
def Dev.work (d : Dev) (q : Nat) (e : Entry) (c : Cmd) : Work :=
  let s := e.seq
  match c with
  | .nop => d.over .ok
  | .halt => d.over .ok
  | .fence => d.over .ok
  | .barrier b m => d.workBarrier q s e.aux b.toNat m.toNat
  | .wait ev => d.workWait ev.toNat
  | .signal ev => d.workSignal q s ev.toNat
  | .mark tag => d.over .ok tag.toNat
  | .waittime rel t => d.workTime q s e.aux rel t
  | .sets .. => d.over .ok
  | .adds .. => d.over .ok
  | .loop .. => d.over .ok
  | .branch .. => d.over .ok
  | .call _ => d.over .ok
  | .ret => d.over .ok
  | .balloc b co mi se k n => d.workAlloc q s e.aux b.toNat co mi se k.toNat n.toNat
  | .bfree b => d.workFree q s b.toNat
  | .bcopy x y so dof n => d.workCopy q s x.toNat y.toNat so.toNat dof.toNat n.toNat
  | .bfill b o n p => d.workFill q s b.toNat o.toNat n.toNat p
  | .rowmove k b p dir f n => d.workRows q s e.aux k.toNat b.toNat p.toNat dir f.toNat n.toNat
  | .bkey b k se => d.workKey b.toNat k.toNat se
  | .bhint b col cv _ sp => d.workHint q s e.aux b.toNat col.toNat cv sp
  | .kadmit k dies so nm an t i n => d.workAdmit q s k.toNat dies.toNat so nm an t.toNat i.toNat n.toNat
      (bitsOf (e.words.getD 0 0).toNat 0 32) e.env
  | .krun k => d.workRun q s k.toNat
  | .kstop k => d.workStop q s e.aux k.toNat
  | .kretire k => d.workRetire q s e.aux k.toNat
  | .kbind k sl ki t => d.workBind k.toNat sl.toNat ki.toNat t.toNat
  | .kswitch k p => d.workSwitch q s e.aux k.toNat p
  | .kparam k p srcS live _ v => d.workParam q s e.aux k.toNat p.toNat live (if srcS then e.sval + v else v)
  | .krotate st es => d.workRotate q s e.aux st es e.env
  | .lbind k sl u f w r => d.workLbind q s e.aux k.toNat sl.toNat u f.toNat w.toNat r.toNat
  | .lctl f w a g => d.workLctl q s e.aux f.toNat w.toNat a.toNat g.toNat
  | .dmago ch arm k .. => d.workDma q e c ch.toNat arm k.toNat
  | .tsetup t kb co mi E cols => d.workTsetup t.toNat kb.toNat co mi E.toNat cols.toNat
  | .tclear t => d.workTclear t.toNat
  | .tdrain t cl b o => d.workTdrain q s e.aux t.toNat cl b.toNat o.toNat
  | .pegtake p w => d.workTake e.ident p.toNat w
  | .peggive p => d.workGive e.ident p.toNat
  | .commit b => d.workCommit q s e.aux b.toNat
  | .epoch => d.workEpoch q

/-! Completion and start. -/

/-- The effects of a command's own that take effect at its completion point (R71, R75). -/
def Dev.commitOwn (d : Dev) (q seq : Nat) (c : Cmd) (aux : List Nat) : Dev :=
  match c with
  | .balloc b .. => d.commitAlloc b.toNat
  | .bhint b _ _ pin _ => d.commitHint b.toNat pin aux
  | .kadmit k .. => d.commitAdmit k.toNat
  | .krotate st es => d.commitRotate st es
  | .lbind _ _ false f .. => d.commitBind f.toNat
  | .tdrain t true _ _ => d.clearDrained q seq t.toNat
  | _ => d

/-- A protected word of a location that a failed command wrote holds undefined values (R10, R45), where it holds any. -/
def Dev.spoilWord (d : Dev) (w lo n : Nat) : Dev :=
  match d.findWord w with
  | .good b =>
    let (bs, d) := d.freshBytes n
    d.setWord w (b.take lo ++ bs ++ b.drop (lo + n)) [0, 0, 0]
  | _ => d

/-- A range of a buffer (of the store itself, as buffer 2^24; the entry of key ofs in table t, as 2^24 + 1 + t) that a failed command wrote
holds undefined values (R10, R45). -/
def Dev.spoilRange (d : Dev) (h ofs n : Nat) : Dev :=
  let inStore := fun a => (rowPieces a n).map fun (r, lo, len) => (some r, lo, len)
  let pieces := if h = 2 ^ 24 then inStore ofs
    else if 2 ^ 24 < h then (match (d.table (h - 2 ^ 24 - 1)).bind fun x => d.entryAddr (h - 2 ^ 24 - 1) x ofs with
      | some a => inStore a
      | none => [])
    else match d.buffer h with
      | some b => bufPieces b ofs n
      | none => []
  pieces.foldl (fun d (r, lo, len) => match r with
    | none => d
    | some r => (List.range 16).foldl (fun d k =>
        let from_ := max lo (32 * k)
        let to_ := min (lo + len) (32 * k + 32)
        if from_ < to_ then Dev.spoilWord d (16 * r + k) (from_ - 32 * k) (to_ - from_) else d) d) d

/-- The completion point of a command whose outcome is fixed (R45, R56 to R58, R75): with status OK its staged data, its delta and its own
committed effects become real; with any other, what it wrote outside committed buffers is undefined. -/
def Dev.complete (d : Dev) (q seq : Nat) : Dev :=
  match d.entry q seq with
  | none => d
  | some e => match e.fin with
    | none => d
    | some (st, res) =>
      if e.stage ≠ .started then d
      else
        let d := if st = .ok then
            let d := (d.applyStaged e.staged).mergeDelta e.delta
            match e.cmd with | some c => d.commitOwn q seq c e.aux | none => d
          else e.wrote.foldl (fun d (h, o, n) => Dev.spoilRange d h o n) d
        (d.close q seq st res).settleReleases.pumpStage

/-- A started command's work is done, or its outcome was fixed by the way: it completes. -/
def Dev.settle (d : Dev) (q seq : Nat) (r : Option (Status × Word)) : Dev :=
  (match r with
    | some (st, res) => d.fix q seq st res
    | none => d).complete q seq

/-- A command that allocates its own handle (R74). -/
def allocates : Cmd → Bool
  | .balloc .. => true | .kadmit .. => true | .tsetup .. => true
  | _ => false

/-- A started command goes on: it works, and completes once its outcome is fixed. It waits while a handle it names belongs
to an allocating command in progress; when that one fails, it ends with status Invalid. -/
def Dev.runCmd (d : Dev) (q seq : Nat) : Dev :=
  match d.entry q seq with
  | none => d
  | some e =>
    if e.stage ≠ .started then d
    else if e.fin.isSome then d.complete q seq
    else match e.cmd with
      | none => d.settle q seq (some (.invalid, 0))
      | some c =>
        match (if allocates c then .ok else d.handles q seq c : Handles) with
        | .wait => d
        | .gone => d.settle q seq (some (.invalid, 0))
        | .ok =>
          let (r, d) := d.work q e c
          d.settle q seq r

/-- A KADMIT does not start before the image it reads is at hand (log entry 13). -/
def lacksImage (c : Cmd) (env : CmdEnv) : Bool :=
  match c, env with
  | .kadmit .., .image _ _ => false
  | .kadmit .., _ => true
  | _, _ => false

/-- The commands whose whole effect is part of their completion point, or comes right at it (R56): nothing of them is done
before it. -/
def atCompletion : Cmd → Bool
  | .nop | .fence | .signal _ | .mark _ | .bfree _ | .bkey .. | .kretire _ | .kbind .. | .tsetup .. | .tclear _ | .pegtake _ false
  | .peggive _ | .epoch => true
  | .kparam _ _ _ live _ _ => !live
  | _ => false

/-- The commands that complete by themselves once they have started: HALT at once (R79), and those that wait for something outside them,
when it comes (R80, R82, R83, R401). -/
def holdsOn : Cmd → Bool
  | .halt | .barrier .. | .wait _ | .waittime .. | .pegtake _ true => true
  | _ => false

/-- What a command does as it starts: the first part of one whose work has two, else its work. -/
def Dev.beginWork (d : Dev) (q : Nat) (e : Entry) (c : Cmd) : Work :=
  match c with
  | .balloc b co mi se k n => d.beginAlloc q e.seq b.toNat co mi se k.toNat n.toNat
  | .krotate st es => d.beginRotate q e.seq st es
  | .tdrain t _ b o => d.beginDrain q e.seq t.toNat b.toNat o.toNat
  | .commit b => d.beginCommit q e.seq b.toNat
  | .bhint b col cv _ sp => d.beginHint q e.seq b.toNat col.toNat cv sp
  | c => d.work q e c

/-- A command that has just started begins: one whose effect is its completion's does nothing yet; one that works while it is
in progress does its work, and only its outcome is fixed; one that waits outside is over when what it waits for is there. -/
def Dev.beginCmd (d : Dev) (q : Nat) (e : Entry) (c : Cmd) : Dev :=
  if atCompletion c then d
  else if holdsOn c then d.runCmd q e.seq
  else match (if allocates c then .ok else d.handles q e.seq c : Handles) with
    | .ok =>
      let (r, d) := d.beginWork q e c
      (match r with
      | some (st, res) => d.fix q e.seq st res
      | none => d)
    | _ => d

/-- Start a command (R45, R61, R73, R74): its checks, then `go`, what it does from here on. -/
def Dev.startCmd (d : Dev) (q : Nat) (e : Entry) (env : CmdEnv) (go : Dev → Entry → Cmd → Dev) : Dev :=
  let bad := match e.cmd with
    | none => true
    | some c => !c.inRange || d.handles q e.seq c = .gone
  let lacks := match e.cmd with | some c => lacksImage c env | none => false
  if !bad && lacks then d
  else
    let d := d.updEntry q e.seq fun e =>
      { e with stage := .started, started := d.stamp, epoch := d.rd (QU_EPOCH_EPOCH q), env := env }
    if bad then d.settle q e.seq (some (.invalid, 0))
    else match d.entry q e.seq, e.cmd with
      | some e, some c => go d e c
      | _, _ => d

/-- Start the next command of a queue that may start (R34, R49 to R52). -/
def Dev.startNext (d : Dev) (q : Nat) (env : CmdEnv) (go : Dev → Entry → Cmd → Dev) : Dev :=
  if !d.running || !d.gateServes 5 || d.shadowing || d.rd TWIN_STAT_STATE == 5 then d
  else match d.startable q with
    | some e => d.startCmd q e env go
    | none => d

/-- Start the next command and let it run as far as it gets. -/
def Dev.startRun (d : Dev) (q : Nat) (env : CmdEnv) : Dev := d.startNext q env fun d e _ => d.runCmd q e.seq

/-- WAITTIMEs whose target the timebase has reached complete (R83). -/
def Dev.settleTimes (d : Dev) : Dev :=
  d.runningCmds.foldl (fun d (q, e) => match e.cmd with
    | some (.waittime _ _) => Dev.runCmd d q e.seq
    | _ => d) d

/-- A period of the timebase passes (R517): packets and symbols move (R316, R358), and WAITTIMEs whose target it reaches complete at that
reading (R83). -/
def tick (d : Dev) : Dev := (advance d).nocTick.linesTick.settleTimes

/-- The issue stage takes a queue whose turn it is (R34), and its next command begins. -/
def Dev.issueNext (d : Dev) (q : Nat) (env : CmdEnv) : Dev :=
  if !d.hasTurn d.issueTurns (fun d q => (Dev.startable d q).isSome) q then d
  else
    let t := d.startNext q env fun d e c => d.beginCmd q e c
    if d.startable q == t.startable q then t else { t with issueTurns := d.takeTurn d.issueTurns q }

/-! Meanings. -/

/-- COMMAND_START (R49 to R52, R74): the command is in progress; COMMAND_COMPLETE ends it. -/
def execCommandStart (q : QId) (env : CmdEnv) (s : State) : Result :=
  s.next (s.dev.issueNext q.val env)

/-- COMMAND_COMPLETE (R45). -/
def execCommandComplete (q : QId) (seq : BitVec 48) (s : State) : Result :=
  s.next (if s.dev.running then s.dev.runCmd q.val seq.toNat else s.dev)

end Sys2Proof.Machine
end

