-- ==== Sys2Proof/Machine/Queue.lean ====
section
/-!
DEFINITION. Queues (chapter 02): the accept stage with its path, its loop window and its call stack (R27 to R43, R84 to R86),
the twin's acknowledgement of acceptance (R423), posting (R62 to R69), and the queue's registers (R29, R30, R54, R64, R70).
-/
namespace Sys2Proof.Machine

/-! The path (R28, R36 to R38, R84 to R86). -/

/-- A later ring index of two, as serial numbers. -/
def laterIdx (a b : Nat) : Nat := if (b + 2 ^ 32 - a) % 2 ^ 32 < 2 ^ 31 then b else a

/-- The path goes on at a place; a place not seen before becomes the front, and ring words before it are fetched no more. -/
def Dev.goTo (d : Dev) (q : Nat) (p : Place) : Dev :=
  let x := d.queue q
  match p with
  | .ring i =>
    let front := laterIdx x.ringFront i
    (d.setQueue q { x with pos := p, ringFront := front, ahead := x.ahead.filter fun e => ((Place.ring front).ahead e.1).isSome }).wr
      (QU_HEAD_FETCH q) (laterIdx (d.rd (QU_HEAD_FETCH q)) front)
  | .list _ a => d.setQueue q { x with pos := p, front := max x.front a }

/-- The path of a queue as it stands. -/
def Dev.pathOf (d : Dev) (q : Nat) : Snap :=
  let x := d.queue q
  ⟨x.pos, x.ringFront, x.front, x.stack, x.window, (List.range 16).map (d.sreg q)⟩

/-- Put a queue on a path. -/
def Dev.withPath (d : Dev) (q : Nat) (p : Snap) : Dev :=
  (List.range 16).foldl (fun d n => Dev.setSreg d q n (p.sregs.getD n 0)) (d.setQueue q { d.queue q with
    pos := p.pos, ringFront := p.ringFront, front := p.front, stack := p.stack, window := p.window })

/-- The device as the accept stage sees a queue: behind the last command offered to the twin (R36, R423). -/
def Dev.atPath (d : Dev) (q : Nat) : Dev :=
  match (d.queue q).snaps.getLast? with
  | some p => d.withPath q p
  | none => d

/-- A backward jump to a word of the loop window (R37), or none. -/
def Dev.jumpBack (d : Dev) (q : Nat) (own : Place) (n : Nat) (win : QueueSt) : Option Dev :=
  (own.minus n).bind fun p => if win.inWindow p then some (d.setQueue q { d.queue q with pos := p }) else none

/-- LOOP (R84). win is the window before the LOOP's own word. -/
def Dev.seqLoop (d : Dev) (q : Nat) (own : Place) (win : QueueSt) (a back : Nat) : Status × Dev :=
  let v := (d.sreg q a + 2 ^ 64 - 1) % 2 ^ 64
  if v = 0 then (.ok, d.setSreg q a 0)
  else match d.jumpBack q own back win with
    | some d => (.ok, d.setSreg q a v)
    | none => (.invalid, d)

/-- BRANCH (R85). -/
def Dev.seqBranch (d : Dev) (q : Nat) (own : Place) (win : QueueSt) (a b cond : Nat) (ofs : Int) : Status × Dev :=
  let far := match own with
    | .ring _ => decide ((d.ringSize q : Int) ≤ ofs)
    | .list _ _ => false
  if far then (.invalid, d)
  else if !branchTaken cond (d.sreg q a) (d.sreg q b) then (.ok, d)
  else if 0 < ofs then (.ok, d.goTo q (own.plus ofs.toNat))
  else match d.jumpBack q own (-ofs).toNat win with
    | some d => (.ok, d)
    | none => (.invalid, d)

/-- An address lies in the queue's command ring. -/
def Dev.inRing (d : Dev) (q a : Nat) : Bool :=
  let b := 64 * d.rd (QU_RING_BASE q)
  decide (b ≤ a ∧ a < b + 8 * d.ringSize q)

/-- CALL (R38, R86). -/
def Dev.seqCall (d : Dev) (q list : Nat) : Status × Dev :=
  let x := d.queue q
  let a := 8 * list
  if d.inRing q a || 8 ≤ x.stack.length then (.invalid, d)
  else (.ok, d.setQueue q { x with stack := x.stack ++ [(x.pos, x.front)], pos := .list a a, front := a })

/-- RET (R38). -/
def Dev.seqRet (d : Dev) (q : Nat) : Status × Dev :=
  let x := d.queue q
  match x.stack.getLast? with
  | none => (.invalid, d)
  | some (p, f) => (.ok, d.setQueue q { x with stack := x.stack.dropLast, pos := p, front := f })

/-- A sequencer command's effect at acceptance (R36): its place, the window before it; the path already stands after it. -/
def Dev.seqEffect (d : Dev) (q : Nat) (own : Place) (win : QueueSt) (c : Cmd) : Status × Dev :=
  if !c.inRange then (.invalid, d)
  else match c with
    | .sets a v => (.ok, d.setSreg q a.toNat v.toNat)
    | .adds a b reg imm =>
      (.ok, d.setSreg q a.toNat (d.sreg q a.toNat + addend imm + if reg then d.sreg q b.toNat else 0))
    | .loop a back => d.seqLoop q own win a.toNat back.toNat
    | .branch a b cond ofs => d.seqBranch q own win a.toNat b.toNat cond.toNat (branchOfs ofs)
    | .call l => d.seqCall q l.toNat
    | .ret => d.seqRet q
    | _ => (.ok, d)

/-- The opcode of a command that the accept stage carries out (R71). -/
def seqOpcode (op : Nat) : Bool := decide (0x10 ≤ op ∧ op ≤ 0x15)

/-! Acceptance (R40 to R44, R423). -/

/-- What acceptance shows: ACCEPT_INDEX when ring words were taken, the sequence number, HALT's clear of EN (R43, R79). -/
def Dev.showAccept (d : Dev) (q seq : Nat) (idx : Option Nat) (halt : Bool) : Dev :=
  let d := match idx with
    | some i => d.wr (ACCEPT_INDEX_INDEX q) (laterIdx (d.rd (ACCEPT_INDEX_INDEX q)) i)
    | none => d
  let d := d.wr (QU_ACCEPT_SEQ_SEQ q) seq
  if halt then d.clr (QU_CTL_EN q) else d

/-- The path takes the words of its next command: it moves on behind them, and a sequencer command has its effect. Answers the
command's outcome when the path gives it one, and the ring index behind its last word. -/
def Dev.follow (d : Dev) (q : Nat) (ws : List Word) : Option (Status × Word) × Option Nat × Dev :=
  let x := d.queue q
  let own := d.nextPlace q x.pos
  let ps := d.pathPlaces q ws.length x.pos
  let last := (ps.getLast?.getD own).plus 1
  let idx := match last with
    | .ring i => some i
    | .list _ _ => none
  let all := x.window ++ ps.zipWith WinWord.mk ws
  let d := (d.setQueue q { x with window := all.drop (all.length - 264) }).goTo q last
  if seqOpcode (opcodeOf (ws.getD 0 0)) then
    match decodeCmd ws with
    | some c => let (st, d) := d.seqEffect q own x c; (some (st, 0), idx, d)
    | none => (some (.invalid, 0), idx, d)
  else (none, idx, d)

/-- The journal entry of a command whose words are taken. -/
def Dev.newEntry (d : Dev) (q seq epoch : Nat) (ws : List Word) : Entry :=
  let cmd := decodeCmd ws
  let sval := match cmd with
    | some (.kparam _ _ true _ sr _) => BitVec.ofNat 64 (d.sreg q sr.toNat)
    | _ => 0
  { seq := seq, words := ws, cmd := cmd, opcode := opcodeOf (ws.getD 0 0), flags := flagsOf (ws.getD 0 0), sval := sval
    stage := .accepted, status := .ok, result := 0, stamp := 0, started := 0, epoch := epoch, ident := d.queuePort q
    durable := false, replay := false, fin := none, aux := [], staged := [], delta := [], wrote := [], mute := false, env := .none }

/-- Take the words of the next command of a queue's path into the journal. On a Paired Lead it is offered to the Shadow first, and
what it does to the path and to the S registers waits for its acceptance (R36, R423). -/
def Dev.takeWords (d : Dev) (q : Nat) (ws : List Word) : Dev :=
  let epoch := d.rd (QU_EPOCH_EPOCH q)
  let paired := d.pairedLead
  let b := d.atPath q
  let e := b.newEntry q (seqNext (d.lastSeq q)) epoch ws
  let (fin, idx, t) := b.follow q ws
  let e := { e with stage := if paired then .offered else .accepted, fin := fin, aux := if paired then idx.toList else [] }
  let d := if paired then
      let x := d.queue q
      (d.setQueue q { x with journal := x.journal ++ [e], snaps := x.snaps ++ [t.pathOf q], ahead := (t.queue q).ahead }).wr
        (QU_HEAD_FETCH q) (t.rd (QU_HEAD_FETCH q))
    else t.setQueue q { t.queue q with journal := (t.queue q).journal ++ [e] }
  let d := if d.telling then d.capoSend 0x11 ([q, e.seq, epoch] ++ ws.map (·.toNat)) else d
  if paired then d
  else
    let d := d.showAccept q e.seq idx (e.cmd == some .halt)
    match fin with
    | some (st, res) => d.close q e.seq st res
    | none => d

/-- Words agree with the places they are said to stand at: what the window holds there, what was fetched there, and for a ring
word not fetched yet that it is rung (R32, R37, R40). -/
def Dev.agrees (d : Dev) (q : Nat) (ws : List Word) : Bool :=
  ((d.pathPlaces q ws.length (d.queue q).pos).zip ws).all fun (p, w) => match d.wordAt q p with
    | .word v => v == w
    | .failed => false
    | .missing => !d.seen q p && d.rung q p 1

/-- A command reaches the accept stage with its words: it is accepted when the stage works, its words are rung and agree with
what the queue holds of them, and the journal has room (R40, R44). -/
def Dev.acceptWords (d : Dev) (q : Nat) (ws : List Word) : Dev :=
  if !d.accepting q || !(d.atPath q).agrees q ws || ws.isEmpty then d
  else if !d.journalRoom q then d.set (QU_STAT_JWAIT q)
  else (d.clr (QU_STAT_JWAIT q)).takeWords q ws

/-- A command of the table: its words reach the accept stage of a queue and, when the order of the queue lets it start, it
starts. -/
def Dev.submit (d : Dev) (q : Nat) (c : Cmd) (f : CmdFlags) (env : CmdEnv) : Dev :=
  let seq := seqNext (d.lastSeq q)
  let d2 := d.acceptWords q (encodeCmd c f)
  match d2.startable q with
  | some e => if e.seq == seq && d2.lastSeq q == seq then d2.startRun q env else d2
  | none => d2

/-! Fetching (R35, R41, R569). -/

/-- The words of a queue's engine read n words of the store from an address, one protected word after another: none for a word that
cannot be read. -/
def Dev.readWords (d : Dev) (id : Ident) : (fuel : Nat) → (a n : Nat) → List (Option Word) × Dev
  | 0, _, _ => ([], d)
  | k + 1, a, n =>
    if n = 0 then ([], d)
    else
      let m := min n ((32 - a % 32) / 8)
      let (bs, o, d) := d.storeRead id 0 a (8 * m)
      let ws := (List.range m).map fun i => if o = .ok then some (BitVec.ofNat 64 (numLE ((bs.drop (8 * i)).take 8))) else none
      let (rest, d) := Dev.readWords d id k (a + 8 * m) (n - m)
      (ws ++ rest, d)

/-- Fetch the words of consecutive places of one ring or list (R35, R569): from the store, or from host memory, whose words come
with the command, o saying how the first that is missing there failed. Answers the words kept, or none while the access waits for a
waking bank or for a port in reset (R398). -/
def Dev.fetchPlaces (d : Dev) (q : Nat) (ps : List Place) (fetched : List Word) (o : Outc) : Option (List (Place × Option Word)) × Dev :=
  let a := match ps.head? with | some p => d.placeAddr q p | none => 0
  let id := Ident.port (d.queuePort q)
  match addrSpace a with
  | .store s =>
    if !d.linked (engineCol q) (s / 2 ^ 22) then
      (some (ps.map fun p => (p, none)), d.noRoute (engineCol q) (s / 2 ^ 22) 4 s)
    else if !d.storeReady id 0 s (8 * ps.length) then (none, d)
    else
      let (ws, d) := d.readWords id ps.length s ps.length
      (some (ps.zip ws), d)
  | .host p _ =>
    if !d.portUp p then (none, d)
    else
      let got := (ps.zip fetched).map fun (x, w) => (x, some w)
      if o = .ok || ps.length ≤ fetched.length then (some got, d)
      else (some (got ++ ((ps.drop fetched.length).map fun x => (x, none))), d.deviceFail p (a + 8 * fetched.length))
  | _ => (some (ps.map fun p => (p, none)), d)

/-- The ring words of the next fetch: the rung words from FETCH to the end of its block of 64 bytes (R35). -/
def Dev.nextBlock (d : Dev) (q : Nat) : List Place :=
  let f := d.rd (QU_HEAD_FETCH q)
  (placesFrom (.ring f) (8 - f % 8)).filter fun p => d.rung q p 1

/-- Fetch the next block of the ring. -/
def Dev.fetchBlock (d : Dev) (q : Nat) (fetched : List Word) (o : Outc) : Dev :=
  let ps := d.nextBlock q
  if ps.isEmpty then d
  else match d.fetchPlaces q ps fetched o with
    | (none, d) => d
    | (some ws, d) =>
      let x := d.queue q
      (d.setQueue q { x with ahead := x.ahead ++ ws }).wr (QU_HEAD_FETCH q) ((d.rd (QU_HEAD_FETCH q) + ws.length) % 2 ^ 32)

/-- What the accept stage has of its next command. -/
inductive Got where
  | words (ws : List Word) | failed (p : Place) | missing
  deriving DecidableEq, Repr

/-- Put together the words of places until one is not at hand. -/
def Dev.collect (d : Dev) (q : Nat) : List Place → List Word → Got
  | [], ws => .words ws
  | p :: t, ws => match d.wordAt q p with
    | .word w => d.collect q t (ws ++ [w])
    | .failed => .failed p
    | .missing => .missing

/-- The next command of a queue's path, as far as its words are at hand (R32, R46). -/
def Dev.gather (d : Dev) (q : Nat) : Got :=
  let x := d.queue q
  match d.wordAt q (d.nextPlace q x.pos) with
  | .word w => d.collect q (d.pathPlaces q (wordsOf w) x.pos) []
  | .failed => .failed (d.nextPlace q x.pos)
  | .missing => .missing

/-- The words of a called list that the next command lacks (R86): its first word, and once that is read the others. -/
def Dev.listPlaces (d : Dev) (q : Nat) : List Place :=
  let x := d.queue q
  match d.wordAt q (d.nextPlace q x.pos) with
  | .word w => (d.pathPlaces q (wordsOf w) x.pos).filter fun p => d.wordAt q p == .missing
  | _ => [d.nextPlace q x.pos]

/-- Read words of a called list directly (R86). -/
def Dev.fetchList (d : Dev) (q : Nat) (fetched : List Word) (o : Outc) : Dev :=
  match d.fetchPlaces q ((d.atPath q).listPlaces q) fetched o with
  | (none, d) => d
  | (some ws, d) => d.setQueue q { d.queue q with ahead := (d.queue q).ahead ++ ws }

/-- Fetch what the next command lacks: at most two blocks of the ring, or the list's words. -/
def Dev.fetchMore (d : Dev) (q : Nat) (fetched : List Word) (o : Outc) : Dev :=
  let inRing := fun (d : Dev) => match (Dev.atPath d q).nextPlace q ((Dev.atPath d q).queue q).pos with | .ring _ => true | .list _ _ => false
  let more := fun (d : Dev) (ws : List Word) =>
    if (Dev.atPath d q).gather q ≠ .missing then d
    else if inRing d then d.fetchBlock q ws o else d.fetchList q ws o
  let n := if inRing d then (d.nextBlock q).length else 1
  more (more d fetched) (if (d.atPath q).gather q ≠ .missing then fetched else fetched.drop n)

/-- The queue's fetch fails at a place (R41, R450). -/
def Dev.fetchFault (d : Dev) (q : Nat) (p : Place) : Dev :=
  d.raise { cls := .ochre, flag := QU_STAT_FAULT q, ukind := 6, uid := q
            detail := match p with | .ring i => i | .list _ a => a + 2 ^ 63 }

/-- Words of called lists are not kept beyond the command that needs them. -/
def Dev.dropListWords (d : Dev) (q : Nat) : Dev :=
  let x := d.queue q
  d.setQueue q { x with ahead := x.ahead.filter fun e => match e.1 with | .ring _ => true | .list _ _ => false }

/-- A queue is ready for the accept stage (R34): rung words, room in its window and in the journal. -/
def Dev.acceptReady (d : Dev) (q : Nat) : Bool :=
  let b := d.atPath q
  let p := b.nextPlace q (b.queue q).pos
  d.accepting q && d.journalRoom q && (b.seen q p || b.rung q p 1)

/-- COMMAND_ACCEPT: the accept stage takes the next command of the path: from the loop window (R37), from the ring words it has
fetched, from the store, or from host memory, whose words come with the command. -/
def Dev.acceptNext (d : Dev) (q : Nat) (fetched : List Word) (o : Outc) : Dev :=
  if !d.accepting q || !d.hasTurn d.acceptTurns Dev.acceptReady q then d
  else
    let d := d.fetchMore q fetched o
    let d := match (d.atPath q).gather q with
      | .missing => d
      | .failed p => d.fetchFault q p
      | .words ws =>
        let t := d.acceptWords q ws
        if t.lastSeq q = d.lastSeq q then t else { t with acceptTurns := d.takeTurn d.acceptTurns q }
    d.dropListWords q

/-! The twin's answer (R423). -/

/-- The Shadow has the journal record of the oldest command offered: it is accepted, and its part of the path with it; a queue
halted by R66 meanwhile ends it as Stopped, unless the path had fixed its outcome (log entry 71). -/
def Dev.acceptOffered (d : Dev) (q seq : Nat) : Dev :=
  match (d.journal q).find? fun e => e.stage == .offered with
  | none => d
  | some e =>
    if e.seq ≠ seq then d
    else
      let d := d.updEntry q seq fun e => { e with stage := .accepted, aux := [] }
      let x := d.queue q
      let d := match x.snaps with
        | p :: rest => (d.withPath q p).setQueue q { (d.withPath q p).queue q with snaps := rest }
        | [] => d
      let d := d.showAccept q seq e.aux.head? (e.cmd == some .halt)
      match e.fin with
      | some (st, res) => d.close q seq st res
      | none => if d.on (QU_STAT_ERRSTOP q) then d.closeOne q e .stopped 0 else d

/-- Words fetched and not taken are fetched again, from the accepted path's front on (R41, R43). -/
def Dev.refetch (d : Dev) (q : Nat) : Dev :=
  let x := d.queue q
  (d.setQueue q { x with ahead := [] }).wr (QU_HEAD_FETCH q) (((d.atPath q).queue q).ringFront)

/-- Commands offered and not accepted leave the queue as it stood before them (R423). -/
def Dev.dropOffered (d : Dev) (q : Nat) : Dev :=
  let x := d.queue q
  if x.snaps.isEmpty then d
  else (d.setQueue q { x with snaps := [], journal := x.journal.filter fun e => e.stage != .offered }).refetch q

/-! Posting (R62 to R69, R569, R570). -/

/-- The record of a queue cannot be written (R570). -/
def Dev.recordFails (d : Dev) (q : Nat) : Dev :=
  d.raise { cls := .ochre, flag := QU_STAT_CQERR q, ukind := 6, uid := q, detail := d.cqSlot q }

/-- The head of a queue's journal is posted: its number is done, the twin is told, the interrupt goes out (R67). -/
def Dev.posted (d : Dev) (q : Nat) (e : Entry) (slot : Nat) : Dev :=
  let x := d.queue q
  let d := (d.setQueue q { x with journal := x.journal.drop 1 }).wr (QU_DONE_SEQ_SEQ q) e.seq
  let d := d.settleJwait
  let d := if d.telling then d.capoSend 0x13 [q, e.seq, slot, b2n e.recordDue] else d
  if e.flags.irq then d.msix (d.queuePort q) (d.rd (QU_CTL_VEC q)) else d

/-- The post record of a slot's previous occupant is not acknowledged yet (R435). -/
def Dev.slotHeld (d : Dev) (q slot : Nat) : Bool :=
  d.capo.frames.any fun x => match x.words with
    | [0x13, q2, _, s, 1] => q2 == q && s % d.cqSize q == slot % d.cqSize q
    | _ => false

/-- COMPLETION_POST: the oldest command of a queue is posted once it has completed and its commit is durable. -/
def Dev.post (d : Dev) (q : Nat) : Dev :=
  match (d.journal q).head? with
  | none => d
  | some e =>
    if e.stage ≠ .completed || !e.durable || d.on (QU_STAT_CQERR q) || !d.running then d
    else if !e.recordDue then d.posted q e (d.rd (CQ_TAIL_TAIL q))
    else if d.cqFull q then d.set (QU_STAT_CQFULL q)
    else
      let d := d.clr (QU_STAT_CQFULL q)
      let a := d.cqSlot q
      let id := Ident.port (d.queuePort q)
      let slot := d.rd (CQ_TAIL_TAIL q)
      let waits := d.slotHeld q slot || match addrSpace a with
        | .host p _ => !d.portUp p
        | _ => false
      if waits then d
      else
        match d.writeRecord id (engineCol q) a (wordBytes (completionRecord q e (d.cqPhase q))) with
        | (d, none) => d
        | (d, some .ok) => (d.inc (CQ_TAIL_TAIL q)).posted q e slot
        | (d, some _) => d.recordFails q

/-- A swap exchanges the roles once every accepted command has been posted (R442): the groups of this device become standby
groups. -/
def Dev.trySwap (d : Dev) : Dev :=
  if d.capo.swapping && d.pairedLead && d.queues.all fun x => x.2.journal.isEmpty then
    let d := d.capoSend 0x1B []
    { d.wr TWIN_STAT_ROLE 1 with
      capo := { d.capo with swapping := false, standby := (d.groups.filter fun x => decide (x.1 < 128)).map (·.1) } }
  else d

/-- COMPLETION_RECORD_WRITE_FAIL (R570): the write of the next record to host memory ends in error. -/
def Dev.recordWriteFail (d : Dev) (q : Nat) : Dev :=
  match (d.journal q).head?, addrSpace (d.cqSlot q) with
  | some e, .host p _ =>
    if e.stage ≠ .completed || !e.durable || d.on (QU_STAT_CQERR q) || !e.recordDue || d.cqFull q || !d.portUp p || !d.running then d
    else (d.deviceFail p (d.cqSlot q)).recordFails q
  | _, _ => d

/-! Registers. -/

/-- QU_DOORBELL (R30): after the present TAIL and at most one ring past ACCEPT_INDEX. -/
def Dev.doorbell (d : Dev) (q : Nat) (w : RegWr) : Dev :=
  let tail := d.wval w (QU_DOORBELL_TAIL q)
  let n := (tail + 2 ^ 32 - d.rd (ACCEPT_INDEX_INDEX q)) % 2 ^ 32
  let now := (d.rd (QU_DOORBELL_TAIL q) + 2 ^ 32 - d.rd (ACCEPT_INDEX_INDEX q)) % 2 ^ 32
  if !w.touches (QU_DOORBELL_TAIL q) then d
  else if now ≤ n ∧ n ≤ d.ringSize q then (d.wr (QU_DOORBELL_TAIL q) tail).tellReg (0x50008 + 0x100 * q) w
  else d.raise { cls := .slate, flag := QU_STAT_DBERR q, ukind := 6, uid := q }

/-- A write that R70 does not allow, or of an invalid SIZE. -/
def Dev.cfgErr (d : Dev) (q : Nat) : Dev := d.set (QU_STAT_CFGERR q)

/-- QU_RING (R70): the path begins again at ring word 0. -/
def Dev.ringWrite (d : Dev) (q : Nat) (w : RegWr) : Dev :=
  if !d.queueIdle q || 10 < d.wval w (QU_RING_SIZE q) then d.cfgErr q
  else
    let x := d.queue q
    let d := ((d.take w (QU_RING_BASE q)).take w (QU_RING_SIZE q)).setQueue q
      { x with pos := .ring 0, ringFront := 0, front := 0, stack := [], window := [], ahead := [] }
    (((d.clr (QU_DOORBELL_TAIL q)).clr (QU_HEAD_FETCH q)).clr (ACCEPT_INDEX_INDEX q)).tellReg (0x50000 + 0x100 * q) w

/-- CQ_RING (R70). -/
def Dev.cqRingWrite (d : Dev) (q : Nat) (w : RegWr) : Dev :=
  if !d.queueIdle q || 12 < d.wval w (CQ_RING_SIZE q) then d.cfgErr q
  else
    let d := (d.take w (CQ_RING_BASE q)).take w (CQ_RING_SIZE q)
    ((d.clr (CQ_HEAD_HEAD q)).clr (CQ_TAIL_TAIL q)).tellReg (0x50048 + 0x100 * q) w

/-- QU_Sn (R70). -/
def Dev.sregWrite (d : Dev) (q n : Nat) (w : RegWr) : Dev :=
  if !d.queueIdle q then d.cfgErr q else (d.take w (QU_S_VALUE q n)).tellReg (0x50080 + 0x100 * q + 8 * n) w

/-- QU_CTL (R41, R66, R570). -/
def Dev.queueCtl (d : Dev) (q : Nat) (w : RegWr) : Dev :=
  let d := [QU_CTL_EN q, QU_CTL_STOP_ON_ERR q, QU_CTL_PRIO q, QU_CTL_WINDOW q, QU_CTL_VEC q].foldl (fun d f => Dev.take d w f) d
  let d := if w.one (QU_CTL_RESUME q) then
      let d := if d.on (QU_STAT_FAULT q) then d.refetch q else d
      ((d.clr (QU_STAT_ERRSTOP q)).clr (QU_STAT_FAULT q)).clr (QU_STAT_CQERR q)
    else d
  let d := d.settleJwait
  d.tellReg (0x50030 + 0x100 * q) w

/-- CQ_HEAD (R64). -/
def Dev.cqHeadWrite (d : Dev) (q : Nat) (w : RegWr) : Dev :=
  let h := d.wval w (CQ_HEAD_HEAD q)
  if !w.touches (CQ_HEAD_HEAD q) then d
  else if (d.rd (CQ_TAIL_TAIL q) + 2 ^ 32 - h) % 2 ^ 32 ≤ d.cqSize q then
    let d := d.wr (CQ_HEAD_HEAD q) h
    (if d.cqFull q then d else d.clr (QU_STAT_CQFULL q)).tellReg (0x50050 + 0x100 * q) w
  else (d.raise { cls := .slate, flag := QU_STAT_CFGERR q, ukind := 6, uid := q })

/-- EV_COUNTn (R54): the WAITs that the written count completes follow it. -/
def Dev.evCountWrite (d : Dev) (n : Nat) (w : RegWr) : Dev :=
  (((d.take w (EV_COUNT_COUNT n)).takeW1c w (EV_COUNT_OVF n)).tellReg (0x56000 + 8 * n) w).settleWaits n

/-! Meanings. -/

/-- QU_DOORBELL_WRITE (R30). -/
def execQuDoorbellWrite (q : QId) (w : RegWr) (s : State) : Result :=
  s.next (s.dev.onQueueWrite (.quDoorbellWrite q w) q.val w.src (0x50008 + 0x100 * q.val) fun d => d.doorbell q.val w)

/-- COMMAND_ACCEPT (R40). -/
def execCommandAccept (q : QId) (fetched : List Word) (o : Outc) (s : State) : Result :=
  s.next (s.dev.acceptNext q.val fetched o)

/-- COMPLETION_POST (R62). -/
def execCompletionPost (q : QId) (s : State) : Result := s.next (s.dev.post q.val).trySwap

/-- COMPLETION_RECORD_WRITE_FAIL (R570). -/
def execCompletionRecordWriteFail (q : QId) (s : State) : Result := s.next (s.dev.recordWriteFail q.val)

/-- QU_RING_WRITE (R70). -/
def execQuRingWrite (q : QId) (w : RegWr) (s : State) : Result :=
  s.next (s.dev.onQueueWrite (.quRingWrite q w) q.val w.src (0x50000 + 0x100 * q.val) fun d => d.ringWrite q.val w)

/-- CQ_RING_WRITE (R70). -/
def execCqRingWrite (q : QId) (w : RegWr) (s : State) : Result :=
  s.next (s.dev.onQueueWrite (.cqRingWrite q w) q.val w.src (0x50048 + 0x100 * q.val) fun d => d.cqRingWrite q.val w)

/-- QU_SN_WRITE (R70). -/
def execQuSnWrite (q : QId) (n : Fin 16) (w : RegWr) (s : State) : Result :=
  s.next (s.dev.onQueueWrite (.quSnWrite q n w) q.val w.src (0x50080 + 0x100 * q.val + 8 * n.val) fun d => d.sregWrite q.val n.val w)

/-- QU_CTL_RESUME (R66): a write of QU_CTL. -/
def execQuCtlResume (q : QId) (w : RegWr) (s : State) : Result :=
  s.next (s.dev.onQueueWrite (.quCtlResume q w) q.val w.src (0x50030 + 0x100 * q.val) fun d => d.queueCtl q.val w)

/-- CQ_HEAD_WRITE (R64). -/
def execCqHeadWrite (q : QId) (w : RegWr) (s : State) : Result :=
  s.next (s.dev.onQueueWrite (.cqHeadWrite q w) q.val w.src (0x50050 + 0x100 * q.val) fun d => d.cqHeadWrite q.val w)

/-- EV_COUNT_WRITE (R54). -/
def execEvCountWrite (n : Fin 256) (w : RegWr) (s : State) : Result :=
  s.next (s.dev.onWrite (.evCountWrite n w) w.src (0x56000 + 8 * n.val) fun d => d.evCountWrite n.val w)

end Sys2Proof.Machine
end

