-- ==== Sys2Proof/Machine/HostPort.lean ====
section
/-!
DEFINITION. What hosts send through the ports' windows and configuration spaces, MSI-X, port resets, and moves of queues
between ports (chapter 15, R385 to R398, and R514, R549, R556 where they say what a port answers).
-/
namespace Sys2Proof.Machine

/-- A port takes memory requests: its link is up, it is in no reset, and the first READY has been reached (R398, R556). -/
def Dev.portHears (d : Dev) (p : Port) : Bool :=
  d.on (PORT_STAT_LINKUP p.num) && !d.on (PORT_STAT_INRESET p.num) && decide (9 ≤ d.rd RESET_STAT_PHASE)

/-- An unsupported request: the host is told, unless it was posted (R386, R391). -/
def Dev.unsupported (d : Dev) (p : Port) (posted : Bool) (a : Nat) : Dev :=
  (if posted then d else d.emit (.reply p .unsupported)).portEvent p (PORT_ERR_UR p.num) a

/-- A request through BAR2 or BAR4 (R386 to R391, R429, R433, R514, R549): a port in D3hot refuses it, a poisoned write is
discarded, a device that is a Shadow, held, resetting or resting answers Completer Abort, and otherwise the request takes its
turn. -/
def Dev.hostWindow (d : Dev) (p : Port) (r : HostReq) (ep : Bool) : Dev :=
  if !d.portHears p then d
  else if d.rd (PORT_STAT_DSTATE p.num) == 3 then d.unsupported p r.write r.addr
  else if r.write && ep then d.portEvent p (PORT_ERR_EPRX p.num) r.addr
  else if d.shadowing && !d.held then
    let d := d.shadowRefuses
    if r.write then d else d.answerHost p r.addr false .busError []
  else if !d.running then d.answerHost p r.addr r.write .busError []
  else d.hostRequest p r

/-- HOST_STORE_ACCESS (R388, BAR2). -/
def Dev.hostStore (d : Dev) (p : Port) (write : Bool) (ofs len : Nat) (data : List Byte) (en : List Bool) (ep : Bool) : Dev :=
  if 2 ^ 28 < ofs + len then (if d.portHears p then d.unsupported p write ofs else d)
  else d.hostWindow p ⟨write, ofs, len, data, en, none⟩ ep

/-- HOST_PORTAL_ACCESS (R388, BAR4). -/
def Dev.hostPortal (d : Dev) (p : Port) (write : Bool) (ofs len : Nat) (data : List Byte) (ep : Bool) : Dev :=
  if 2 ^ 32 < ofs + len then (if d.portHears p then d.unsupported p write (2 ^ 32 + ofs) else d)
  else d.hostWindow p ⟨write, 2 ^ 32 + ofs, len, data, List.replicate data.length true, none⟩ ep

/-! MSI-X (R394). -/

/-- Send the pending messages that are no longer masked. -/
def Dev.msixFlush (d : Dev) (p : Port) : Dev :=
  (List.range 64).foldl (fun d v =>
    let st := Dev.port d p
    if st.pend.testBit v && !st.funcMask && !(KMap.get st.msix v (0, 0, true)).2.2 then
      (d.setPort p { st with pend := setBit st.pend v false }).msix p v
    else d) d

/-- A write of the port's MSI-X table (R387, R394): entry v holds address, data and the vector's mask. word: 0 the address, 1
data and control. -/
def Dev.msixWrite (d : Dev) (p : Port) (off : Nat) (half : Half) (data : Nat) : Dev :=
  let v := off / 16
  if 64 ≤ v then d
  else
    let st := d.port p
    let (a, x, m) := KMap.get st.msix v (0, 0, true)
    let put := fun old => match half with
      | .all => data
      | .lo => old / 2 ^ 32 * 2 ^ 32 + data % 2 ^ 32
      | .hi => old % 2 ^ 32 + data / 2 ^ 32 * 2 ^ 32
    let e := if off / 8 % 2 == 0 then (put a, x, m)
      else let w := put (x + 2 ^ 32 * b2n m); (a, w % 2 ^ 32, w.testBit 32)
    (d.setPort p { st with msix := KMap.put st.msix v e }).msixFlush p

/-- A read of the port's MSI-X table or pending bits. -/
def Dev.msixRead (d : Dev) (p : Port) (off : Nat) : Nat :=
  let st := d.port p
  if off = 0x1000 then st.pend
  else if 1024 ≤ off then 0
  else
    let (a, x, m) := KMap.get st.msix (off / 16) (0, 0, true)
    if off / 8 % 2 == 0 then a else x + 2 ^ 32 * b2n m

/-- CONFIG_REQUEST (R385, R393, R394, R556). -/
def Dev.configRequest (d : Dev) (p : Port) (c : CfgReq) : Dev :=
  if !d.on (PORT_STAT_LINKUP p.num) || d.on (PORT_STAT_INRESET p.num) then d
  else if d.rd RESET_STAT_PHASE < 9 then d.emit (.reply p .retry)
  else
    let d := match c with
      | .read => d
      | .busMaster en => d.wr (PORT_STAT_BME p.num) (b2n en)
      | .powerState hot => d.wr (PORT_STAT_DSTATE p.num) (if hot then 3 else 0)
      | .functionMask m => (d.setPort p { d.port p with funcMask := m }).msixFlush p
    d.emit (.reply p (.ok []))

/-! Port reset (R398). -/

/-- A device read through a port in reset ends with a bus error (R393). -/
def Dev.failReads (d : Dev) (p : Port) : Dev :=
  let x := d.port p
  let all := x.dev.map (·.2) ++ x.devWait
  all.foldl (fun d k => (Dev.deviceFail d p k.operand.toNat).answerPacket k .busError [])
    (d.setPort p { x with dev := [], devWait := [] })

/-- A store request whose answer nobody awaits. -/
def noReply (p : Port) (q : StoreReq) : StoreReq := if !q.write && q.reply == .host p then { q with reply := .none } else q

/-- The queues that a port owns. -/
def Dev.queuesOf (d : Dev) (p : Port) : List Nat := (List.range 64).filter fun q => d.queuePort q == p

/-- The queues of a reset port count as arrived at the instances in progress (R81). -/
def Dev.arriveAll (d : Dev) (p : Port) : Dev :=
  d.barriers.foldl (fun d (n, b) =>
    let qs := (Dev.queuesOf d p).filter fun q => b.mask.testBit q && !b.arrived.testBit q
    if qs.isEmpty then d else d.arrive n b.mask qs) d

/-- A port reset begins (R398). -/
def Dev.portReset (d : Dev) (p : Port) (cause : ResetCause) : Dev :=
  let d := (d.failReads p).set (PORT_STAT_INRESET p.num)
  let d := if cause = .flr then d else ((d.clr (PORT_STAT_LINKUP p.num)).clr (PORT_STAT_SPEED p.num)).clr (PORT_STAT_WIDTH p.num)
  let d := (d.clr (PORT_STAT_BME p.num)).clr (PORT_STAT_DSTATE p.num)
  let x := d.port p
  let d := d.setPort p { x with
    held := x.held.filter (·.write)
    reads := []
    late := x.late ++ readTags x.reads
    msix := []
    pend := 0
    funcMask := false
    perst := x.perst || cause == .perst }
  let d := { d with bankWait := d.bankWait.map (noReply p), resetWait := d.resetWait.map (noReply p) }
  let d := (d.queuesOf p).foldl (fun d q => Dev.clr d (QU_CTL_EN q)) d
  ((d.arriveAll p).releasePegs p).pumpHost p

/-- The clock monitor is armed and the device is not in power-on hold (R556). -/
def Dev.armed (d : Dev) : Bool := decide (2 ≤ d.rd RESET_STAT_PHASE) && d.rd RESET_STAT_PHASE != 3

/-- PORT_RESET_END (R398, R556): the link is up again. -/
def Dev.portUpAgain (d : Dev) (p : Port) (speed width : Nat) (bme : Bool) : Dev :=
  if !d.on (PORT_STAT_INRESET p.num) || (d.port p).perst || !d.armed || !(d.gateServes (18 + p.num)) then d
  else
    (((((d.clr (PORT_STAT_INRESET p.num)).set (PORT_STAT_LINKUP p.num)).wr (PORT_STAT_SPEED p.num) speed).wr
      (PORT_STAT_WIDTH p.num) width).wr (PORT_STAT_BME p.num) (b2n bme))

/-! Moving a queue (R396, R397). -/

/-- A move is refused. -/
def Dev.refuseMove (d : Dev) (q reason : Nat) : Dev :=
  ((d.set QU_XFER_REJ).wr QU_XFER_REASON reason).wr QU_XFER_RQUEUE q

/-- A write of QU_XFER by a port. -/
def Dev.xferWrite (d : Dev) (p : Port) (w : RegWr) : Dev :=
  let d := d.takeW1c w QU_XFER_REJ
  if !w.one QU_XFER_GO then d
  else
    let q := w.ones QU_XFER_QUEUE
    let goal := w.ones QU_XFER_TO
    let own := d.queuePort q
    let entitled := own = p || !d.on (PORT_STAT_LINKUP own.num) || d.on (PORT_STAT_INRESET own.num)
    if goal = own.num then d
    else if !entitled then d.refuseMove q 0
    else if !d.queueIdle q then d.refuseMove q 1
    else d.wr (QU_CTL_OWNER q) goal

/-! Meanings. -/

/-- HOST_STORE_ACCESS (R388). -/
def execHostStoreAccess (p : Port) (write : Bool) (ofs : BitVec 28) (len : BitVec 13) (data : List Byte) (enables : List Bool)
    (ep : Bool) (s : State) : Result :=
  s.next (s.dev.hostStore p write ofs.toNat len.toNat data enables ep)

/-- HOST_PORTAL_ACCESS (R388). -/
def execHostPortalAccess (p : Port) (write : Bool) (ofs : BitVec 32) (len : BitVec 13) (data : List Byte) (ep : Bool)
    (s : State) : Result :=
  s.next (s.dev.hostPortal p write ofs.toNat len.toNat data ep)

/-- HOST_UNSUPPORTED_REQUEST (R391). -/
def execHostUnsupportedRequest (p : Port) (posted : Bool) (addr : BitVec 48) (s : State) : Result :=
  s.next (if s.dev.portHears p then s.dev.unsupported p posted addr.toNat else s.dev)

/-- HOST_READ_TIMEOUT (R392). -/
def execHostReadTimeout (p : Port) (tag : BitVec 10) (s : State) : Result := s.next (s.dev.hostReadTimeout p tag.toNat)

/-- HOST_COMPLETION (R393). -/
def execHostCompletion (p : Port) (tag : BitVec 10) (o : Outc) (data : List Byte) (s : State) : Result :=
  s.next (s.dev.hostCompletion p tag.toNat o data)

/-- CONFIG_REQUEST (R556). -/
def execConfigRequest (p : Port) (cfg : CfgReq) (s : State) : Result := s.next (s.dev.configRequest p cfg)

/-- PORT_RESET (R398). -/
def execPortReset (p : Port) (cause : ResetCause) (s : State) : Result := s.next (s.dev.portReset p cause)

/-- PORT_RESET_END (R398). -/
def execPortResetEnd (p : Port) (speed : BitVec 2) (width : BitVec 4) (bme : Bool) (s : State) : Result :=
  s.next (s.dev.portUpAgain p speed.toNat width.toNat bme)

/-- PCIE_PERST_RELEASE (R556): the port may train. -/
def execPciePerstRelease (p : Port) (s : State) : Result :=
  s.next (s.dev.setPort p { s.dev.port p with perst := false })

/-- QU_XFER_WRITE (R396). -/
def execQuXferWrite (w : RegWr) (s : State) : Result := s.next (s.dev.onHostWrite (.quXferWrite w) w.src 0x41200 fun p d => d.xferWrite p w)

end Sys2Proof.Machine
end

