-- ==== Sys2Proof/Machine/RegTable.lean ====
section
/-!
DEFINITION. The control range as a list of registers (chapter 23, R558): each register's block offset, the index ranges it
repeats over, and its fields with their types (R7). Generated from the register tables of spec/ beside Fields.lean.
-/
set_option linter.unusedVariables false
namespace Sys2Proof.Machine

/-- The type of a register field (R7); take is PEG_TAKE's reading that takes. -/
inductive FType where | ro | rw | w1c | w1s | wo | take
  deriving DecidableEq, Repr

/-- The registers of the control range that have a heading of their own. -/
inductive Reg where
  | QU_RING | QU_DOORBELL | QU_HEAD | ACCEPT_INDEX | QU_ACCEPT_SEQ | QU_DONE_SEQ
  | QU_CTL | QU_STAT | QU_EPOCH | CQ_RING | CQ_HEAD | CQ_TAIL
  | QU_S | QU_STACK | EV_COUNT | JOURNAL_STAT | PLACE_CTL | PLACE_STAT
  | PLACE_REC_BASE | PLACE_REC_SIZE | PLACE_REC_PTR | PLACE_CAP0 | PLACE_CAP1 | PLACE_LAST
  | PLACE_WEIGHT | PLACE_SLOW | PLACE_REMAP | FRET_STAT | FRET_KERN0 | FRET_KERN1
  | FRET_COUNT | FRET_QTIME | FRET_DRAIN | FRET_ERR | FABRIC_TILE_SPEED | FABRIC_BMEM_OWN
  | FABRIC_BMEM_CTL | FABRIC_BMEM_ERR | FABRIC_PORTAL_STAT | FABRIC_PORTAL_ERR | FABRIC_ROWP_STAT | FABRIC_PARAM
  | CFG_METER | CFG_METER_STAT | STORE_CTL | STORE_STAT | STORE_ERR_ADDR | BANK_OWN_ERR
  | STORE_MOVE | STORE_FLIP_CTL | STORE_FLIPMASK | BANK_OWN | TALLY_TBL_CFG | TALLY_TBL_COLS
  | TALLY_TBL_USED | TALLY_TBL_LOST | TALLY_MAP_Q | TALLY_MAP_R | TALLY_STAT | NOC_CTL
  | NOC_STAT | NOC_LINK | CFG_IDCODE | CFG_CTL | CFG_FRET | CFG_REGION_LO
  | CFG_REGION_HI | CFG_STAT | CFG_CRC | CFG_SRC | CFG_NVSTAT | CFG_DDADDR
  | CFG_DDDATA | LANE_CTL | LANE_STAT | LANE_ERR | LANE_PRBS | LLP_GRP_CFG
  | LLP_GRP_STAT | LLP_GRP_CNT | LLP_GRP_ERR | PEG_TAKE | PEG_GIVE | PEG_STAT
  | PORT_CTL | PORT_STAT | PORT_ERR | PORT_EADDR | QU_XFER | DMA_CH_SRC
  | DMA_CH_DST | DMA_CH_CNT | DMA_CH_CTL | DMA_CH_SSRC | DMA_CH_SDST | DMA_CH_SCNT
  | DMA_CH_SCTL | DMA_STAT | DMA_EADDR | DMA_ENG | TWIN_CTL | TWIN_STAT
  | TWIN_ERR | TWIN_LAG | TWIN_TAKEOVER | TWIN_TBOFS | TWIN_CTR | TWIN_BANKMIR
  | ERR_CTL | ERR_RING | ERR_HEAD | ERR_TAIL | ERR_STAT | ERR_ALARM
  | ERR_DROP | ERR_BKT_CFG | ERR_BKT_Q | ERR_BKT_R | ERR_RETIRE | SCRUB_CTL
  | SCRUB_STAT | BOND_STAT | SEC_LC | SEC_LC_REQ | SEC_LC_NONCE | SEC_SLOTS
  | SEC_KEYCTL | SEC_KEYDATA | SEC_STAT | SEC_TAGADDR | SEC_TAGBUF | SEC_GEN
  | CLK_STAT | CLK_GATE0 | CLK_GATE1 | CLK_GATE_PEND | CLK_OP | CLK_PMBUS
  | CLK_FABV | CLK_IOPLL | CLK_IOCLK | GOV_CTL | GOV_STAT | CLK_REST
  | TB_CTL | TB_STAT | TB_NOW | TB_SECHI | TB_SET | TB_ADJ
  | TB_PPSCAP | TB_WAKE | PIN_FUNC | PIN_STAT | GPIO_OUT | GPIO_OE
  | GPIO_IN | GPIO_WAKE | SVC_CFG | SVC_PERCFG | SVC_XFER | SVC_XDATA
  | SVC_EVCFG | ADC_CH | IOCELL | IOBANK | PIN_STRAP | RESET_CTL
  | RESET_STAT | RESET_DIE | RESET_TILE | RESET_TIME | GLB_ID | GLB_SERIAL
  | GLB_CAPS | GLB_STAT | GLB_SCRATCH
  deriving DecidableEq, Repr

/-- A register: its name, its first offset, how often it repeats and at which strides, and its fields at an index. -/
structure RegInfo where
  reg : Reg
  base : Nat
  dims : List (Nat × Nat)
  fields : List Nat → List (FType × Field)

/-- The registers of block SEQ. -/
def regsSeq : List RegInfo := [
  ⟨.QU_RING, 0x50000, [(64, 0x100)], fun l => let x := fun i => l.getD i 0; [(.rw, QU_RING_BASE (x 0)), (.rw, QU_RING_SIZE (x 0))]⟩,
  ⟨.QU_DOORBELL, 0x50008, [(64, 0x100)], fun l => let x := fun i => l.getD i 0; [(.rw, QU_DOORBELL_TAIL (x 0))]⟩,
  ⟨.QU_HEAD, 0x50010, [(64, 0x100)], fun l => let x := fun i => l.getD i 0; [(.ro, QU_HEAD_FETCH (x 0))]⟩,
  ⟨.ACCEPT_INDEX, 0x50018, [(64, 0x100)], fun l => let x := fun i => l.getD i 0; [(.ro, ACCEPT_INDEX_INDEX (x 0))]⟩,
  ⟨.QU_ACCEPT_SEQ, 0x50020, [(64, 0x100)], fun l => let x := fun i => l.getD i 0; [(.ro, QU_ACCEPT_SEQ_SEQ (x 0))]⟩,
  ⟨.QU_DONE_SEQ, 0x50028, [(64, 0x100)], fun l => let x := fun i => l.getD i 0; [(.ro, QU_DONE_SEQ_SEQ (x 0))]⟩,
  ⟨.QU_CTL, 0x50030, [(64, 0x100)], fun l => let x := fun i => l.getD i 0; [(.rw, QU_CTL_EN (x 0)), (.rw, QU_CTL_STOP_ON_ERR (x 0)), (.wo, QU_CTL_RESUME (x 0)), (.rw, QU_CTL_PRIO (x 0)), (.rw, QU_CTL_WINDOW (x 0)), (.rw, QU_CTL_VEC (x 0)), (.ro, QU_CTL_OWNER (x 0))]⟩,
  ⟨.QU_STAT, 0x50038, [(64, 0x100)], fun l => let x := fun i => l.getD i 0; [(.ro, QU_STAT_IDLE (x 0)), (.ro, QU_STAT_ERRSTOP (x 0)), (.ro, QU_STAT_FAULT (x 0)), (.w1c, QU_STAT_DBERR (x 0)), (.w1c, QU_STAT_NOTOWN (x 0)), (.w1c, QU_STAT_CFGERR (x 0)), (.ro, QU_STAT_CQFULL (x 0)), (.ro, QU_STAT_JWAIT (x 0)), (.ro, QU_STAT_CQERR (x 0))]⟩,
  ⟨.QU_EPOCH, 0x50040, [(64, 0x100)], fun l => let x := fun i => l.getD i 0; [(.ro, QU_EPOCH_EPOCH (x 0))]⟩,
  ⟨.CQ_RING, 0x50048, [(64, 0x100)], fun l => let x := fun i => l.getD i 0; [(.rw, CQ_RING_BASE (x 0)), (.rw, CQ_RING_SIZE (x 0))]⟩,
  ⟨.CQ_HEAD, 0x50050, [(64, 0x100)], fun l => let x := fun i => l.getD i 0; [(.rw, CQ_HEAD_HEAD (x 0))]⟩,
  ⟨.CQ_TAIL, 0x50058, [(64, 0x100)], fun l => let x := fun i => l.getD i 0; [(.ro, CQ_TAIL_TAIL (x 0))]⟩,
  ⟨.QU_S, 0x50080, [(64, 0x100), (16, 0x8)], fun l => let x := fun i => l.getD i 0; [(.rw, QU_S_VALUE (x 0) (x 1))]⟩,
  ⟨.QU_STACK, 0x54000, [(64, 0x40), (8, 0x8)], fun l => let x := fun i => l.getD i 0; [(.ro, QU_STACK_RETURN (x 0) (x 1)), (.ro, QU_STACK_VALID (x 0) (x 1))]⟩,
  ⟨.EV_COUNT, 0x56000, [(256, 0x8)], fun l => let x := fun i => l.getD i 0; [(.rw, EV_COUNT_COUNT (x 0)), (.w1c, EV_COUNT_OVF (x 0))]⟩,
  ⟨.JOURNAL_STAT, 0x57000, [], fun _ => [(.ro, JOURNAL_STAT_USED), (.ro, JOURNAL_STAT_FULL)]⟩]

/-- The registers of block PLACE. -/
def regsPlace : List RegInfo := [
  ⟨.PLACE_CTL, 0xA0000, [], fun _ => [(.rw, PLACE_CTL_MODE), (.rw, PLACE_CTL_AUTOMIG), (.rw, PLACE_CTL_TIMESHARE), (.rw, PLACE_CTL_HYST), (.rw, PLACE_CTL_TEMP_LIM), (.rw, PLACE_CTL_MIGBW), (.rw, PLACE_CTL_TMO)]⟩,
  ⟨.PLACE_STAT, 0xA0008, [], fun _ => [(.ro, PLACE_STAT_EMPTY), (.w1c, PLACE_STAT_RECFULL), (.w1c, PLACE_STAT_DIVERGED), (.w1c, PLACE_STAT_CFGERR), (.w1c, PLACE_STAT_HINT_MISSED), (.ro, PLACE_STAT_MIGRATING), (.w1c, PLACE_STAT_RECERR)]⟩,
  ⟨.PLACE_REC_BASE, 0xA0010, [], fun _ => [(.rw, PLACE_REC_BASE_BASE)]⟩,
  ⟨.PLACE_REC_SIZE, 0xA0018, [], fun _ => [(.rw, PLACE_REC_SIZE_SIZE)]⟩,
  ⟨.PLACE_REC_PTR, 0xA0020, [], fun _ => [(.ro, PLACE_REC_PTR_PTR)]⟩,
  ⟨.PLACE_CAP0, 0xA0028, [], fun _ => [(.ro, PLACE_CAP0_TILES_OK), (.ro, PLACE_CAP0_TILES_FREE), (.ro, PLACE_CAP0_BANKS_OK), (.ro, PLACE_CAP0_BANKS_FREE), (.ro, PLACE_CAP0_FRETS_FREE), (.ro, PLACE_CAP0_ROWPORTS_OK)]⟩,
  ⟨.PLACE_CAP1, 0xA0030, [], fun _ => [(.ro, PLACE_CAP1_ROWS_FREE), (.ro, PLACE_CAP1_TALLY_FREE), (.ro, PLACE_CAP1_VPAIRS_OK)]⟩,
  ⟨.PLACE_LAST, 0xA0038, [], fun _ => [(.ro, PLACE_LAST_KIND), (.ro, PLACE_LAST_HANDLE), (.ro, PLACE_LAST_TILE), (.ro, PLACE_LAST_FRET), (.ro, PLACE_LAST_REASON)]⟩,
  ⟨.PLACE_WEIGHT, 0xA0040, [], fun _ => [(.rw, PLACE_WEIGHT_HOP), (.rw, PLACE_WEIGHT_SPEED), (.rw, PLACE_WEIGHT_VIA), (.rw, PLACE_WEIGHT_POWER), (.rw, PLACE_WEIGHT_TEMP)]⟩,
  ⟨.PLACE_SLOW, 0xA0100, [(4, 0x8)], fun l => let x := fun i => l.getD i 0; [(.ro, PLACE_SLOW_SLOW (x 0))]⟩,
  ⟨.PLACE_REMAP, 0xA0200, [(32, 0x8)], fun l => let x := fun i => l.getD i 0; [(.ro, PLACE_REMAP_PHYS (x 0))]⟩]

/-- The registers of block FABRIC. -/
def regsFabric : List RegInfo := [
  ⟨.FRET_STAT, 0x300000, [(256, 0x400)], fun l => let x := fun i => l.getD i 0; [(.ro, FRET_STAT_SHOWN (x 0)), (.ro, FRET_STAT_NEXT (x 0)), (.ro, FRET_STAT_NEXTV (x 0)), (.ro, FRET_STAT_PHASE (x 0)), (.ro, FRET_STAT_ANCHOR (x 0)), (.ro, FRET_STAT_W (x 0)), (.ro, FRET_STAT_H (x 0)), (.ro, FRET_STAT_BOTH (x 0)), (.ro, FRET_STAT_ROTPOS (x 0)), (.ro, FRET_STAT_ROTV (x 0))]⟩,
  ⟨.FRET_KERN0, 0x300008, [(256, 0x400)], fun l => let x := fun i => l.getD i 0; [(.ro, FRET_KERN0_F0 (x 0)), (.ro, FRET_KERN0_F1 (x 0)), (.ro, FRET_KERN0_F2 (x 0)), (.ro, FRET_KERN0_F3 (x 0))]⟩,
  ⟨.FRET_KERN1, 0x300010, [(256, 0x400)], fun l => let x := fun i => l.getD i 0; [(.ro, FRET_KERN1_F4 (x 0)), (.ro, FRET_KERN1_F5 (x 0)), (.ro, FRET_KERN1_F6 (x 0)), (.ro, FRET_KERN1_F7 (x 0))]⟩,
  ⟨.FRET_COUNT, 0x300018, [(256, 0x400)], fun l => let x := fun i => l.getD i 0; [(.ro, FRET_COUNT_SWITCHES (x 0)), (.ro, FRET_COUNT_PREFETCHES (x 0)), (.ro, FRET_COUNT_STRANDS (x 0))]⟩,
  ⟨.FRET_QTIME, 0x300020, [(256, 0x400)], fun l => let x := fun i => l.getD i 0; [(.ro, FRET_QTIME_LAST (x 0)), (.ro, FRET_QTIME_MAX (x 0)), (.wo, FRET_QTIME_CLR (x 0))]⟩,
  ⟨.FRET_DRAIN, 0x300028, [(256, 0x400)], fun l => let x := fun i => l.getD i 0; [(.ro, FRET_DRAIN_DEPTH (x 0)), (.ro, FRET_DRAIN_LIMIT (x 0))]⟩,
  ⟨.FRET_ERR, 0x300030, [(256, 0x400)], fun l => let x := fun i => l.getD i 0; [(.w1c, FRET_ERR_STRAND (x 0)), (.w1c, FRET_ERR_STATEBAD (x 0)), (.ro, FRET_ERR_EFRET (x 0))]⟩,
  ⟨.FABRIC_TILE_SPEED, 0x300038, [(256, 0x400)], fun l => let x := fun i => l.getD i 0; [(.ro, FABRIC_TILE_SPEED_RATE (x 0)), (.ro, FABRIC_TILE_SPEED_PCT (x 0)), (.ro, FABRIC_TILE_SPEED_SLOW (x 0))]⟩,
  ⟨.FABRIC_BMEM_OWN, 0x300040, [(256, 0x400)], fun l => let x := fun i => l.getD i 0; [(.ro, FABRIC_BMEM_OWN_OWN (x 0) 0), (.ro, FABRIC_BMEM_OWN_OWN (x 0) 1), (.ro, FABRIC_BMEM_OWN_OWN (x 0) 2), (.ro, FABRIC_BMEM_OWN_OWN (x 0) 3), (.ro, FABRIC_BMEM_OWN_OWN (x 0) 4), (.ro, FABRIC_BMEM_OWN_OWN (x 0) 5), (.ro, FABRIC_BMEM_OWN_OWN (x 0) 6), (.ro, FABRIC_BMEM_OWN_OWN (x 0) 7), (.ro, FABRIC_BMEM_OWN_OWN (x 0) 8), (.ro, FABRIC_BMEM_OWN_OWN (x 0) 9), (.ro, FABRIC_BMEM_OWN_OWN (x 0) 10), (.ro, FABRIC_BMEM_OWN_OWN (x 0) 11), (.ro, FABRIC_BMEM_OWN_OWN (x 0) 12), (.ro, FABRIC_BMEM_OWN_OWN (x 0) 13), (.ro, FABRIC_BMEM_OWN_OWN (x 0) 14), (.ro, FABRIC_BMEM_OWN_OWN (x 0) 15)]⟩,
  ⟨.FABRIC_BMEM_CTL, 0x300048, [(256, 0x400)], fun l => let x := fun i => l.getD i 0; [(.rw, FABRIC_BMEM_CTL_BYPASS (x 0)), (.rw, FABRIC_BMEM_CTL_DBG_RAW (x 0))]⟩,
  ⟨.FABRIC_BMEM_ERR, 0x300050, [(256, 0x400)], fun l => let x := fun i => l.getD i 0; [(.w1c, FABRIC_BMEM_ERR_CORR (x 0)), (.w1c, FABRIC_BMEM_ERR_UNCORR (x 0)), (.ro, FABRIC_BMEM_ERR_MEM (x 0)), (.ro, FABRIC_BMEM_ERR_WORD (x 0)), (.ro, FABRIC_BMEM_ERR_CCOUNT (x 0))]⟩,
  ⟨.FABRIC_PORTAL_STAT, 0x300058, [(256, 0x400)], fun l => let x := fun i => l.getD i 0; [(.ro, FABRIC_PORTAL_STAT_INFILL (x 0)), (.ro, FABRIC_PORTAL_STAT_OUTFILL (x 0)), (.ro, FABRIC_PORTAL_STAT_OUTST (x 0)), (.ro, FABRIC_PORTAL_STAT_EN (x 0))]⟩,
  ⟨.FABRIC_PORTAL_ERR, 0x300060, [(256, 0x400)], fun l => let x := fun i => l.getD i 0; [(.w1c, FABRIC_PORTAL_ERR_DESC (x 0)), (.w1c, FABRIC_PORTAL_ERR_UNDELIV (x 0)), (.w1c, FABRIC_PORTAL_ERR_RERR (x 0)), (.ro, FABRIC_PORTAL_ERR_COUNT (x 0))]⟩,
  ⟨.FABRIC_ROWP_STAT, 0x300068, [(256, 0x400)], fun l => let x := fun i => l.getD i 0; [(.ro, FABRIC_ROWP_STAT_EN (x 0)), (.ro, FABRIC_ROWP_STAT_KDRIVE (x 0)), (.ro, FABRIC_ROWP_STAT_FULL (x 0)), (.ro, FABRIC_ROWP_STAT_DIR (x 0)), (.ro, FABRIC_ROWP_STAT_SLICE (x 0)), (.w1c, FABRIC_ROWP_STAT_POISON (x 0)), (.w1c, FABRIC_ROWP_STAT_UNCORR (x 0)), (.ro, FABRIC_ROWP_STAT_ROWS (x 0))]⟩,
  ⟨.FABRIC_PARAM, 0x300080, [(256, 0x400), (16, 0x8)], fun l => let x := fun i => l.getD i 0; [(.ro, FABRIC_PARAM_VALUE (x 0) (x 1))]⟩]

/-- The registers of block CONFIG. -/
def regsConfig : List RegInfo := [
  ⟨.CFG_METER, 0x380080, [], fun _ => [(.rw, CFG_METER_METER_A), (.rw, CFG_METER_METER_B), (.rw, CFG_METER_NA), (.rw, CFG_METER_NB)]⟩,
  ⟨.CFG_METER_STAT, 0x380088, [], fun _ => [(.ro, CFG_METER_STAT_LATE_A), (.wo, CFG_METER_STAT_CLRA), (.ro, CFG_METER_STAT_LATE_B), (.wo, CFG_METER_STAT_CLRB)]⟩,
  ⟨.CFG_IDCODE, 0x380000, [], fun _ => [(.ro, CFG_IDCODE_PART), (.ro, CFG_IDCODE_REV)]⟩,
  ⟨.CFG_CTL, 0x380008, [], fun _ => [(.wo, CFG_CTL_OP), (.rw, CFG_CTL_ARG), (.rw, CFG_CTL_LEN)]⟩,
  ⟨.CFG_FRET, 0x380010, [], fun _ => [(.ro, CFG_FRET_FRET), (.ro, CFG_FRET_V), (.ro, CFG_FRET_HANDLE)]⟩,
  ⟨.CFG_REGION_LO, 0x380018, [], fun _ => [(.ro, CFG_REGION_LO_TILE)]⟩,
  ⟨.CFG_REGION_HI, 0x380020, [], fun _ => [(.ro, CFG_REGION_HI_TILE)]⟩,
  ⟨.CFG_STAT, 0x380028, [], fun _ => [(.ro, CFG_STAT_DONE), (.ro, CFG_STAT_BUSY), (.ro, CFG_STAT_ERR), (.w1c, CFG_STAT_PABORT), (.ro, CFG_STAT_ECODE), (.ro, CFG_STAT_EADDR), (.ro, CFG_STAT_MANIFEST), (.ro, CFG_STAT_CHAIN), (.ro, CFG_STAT_POS), (.w1c, CFG_STAT_REFUSED), (.ro, CFG_STAT_SKIP)]⟩,
  ⟨.CFG_CRC, 0x380030, [], fun _ => [(.ro, CFG_CRC_LAST)]⟩,
  ⟨.CFG_SRC, 0x380038, [], fun _ => [(.rw, CFG_SRC_ADDR)]⟩,
  ⟨.CFG_NVSTAT, 0x380040, [], fun _ => [(.ro, CFG_NVSTAT_WEAR), (.ro, CFG_NVSTAT_WORN)]⟩,
  ⟨.CFG_DDADDR, 0x380048, [], fun _ => [(.rw, CFG_DDADDR_OFS)]⟩,
  ⟨.CFG_DDDATA, 0x380050, [], fun _ => [(.ro, CFG_DDDATA_DATA)]⟩]

/-- The registers of block STORE. -/
def regsStore : List RegInfo := [
  ⟨.STORE_CTL, 0x200000, [], fun _ => [(.rw, STORE_CTL_PATROL), (.rw, STORE_CTL_PATROL_INT)]⟩,
  ⟨.STORE_STAT, 0x200008, [], fun _ => [(.ro, STORE_STAT_CCOUNT), (.ro, STORE_STAT_UCOUNT), (.ro, STORE_STAT_PCOUNT), (.ro, STORE_STAT_RESETTING), (.w1c, STORE_STAT_CORR), (.w1c, STORE_STAT_UNCORR), (.w1c, STORE_STAT_POISONRD)]⟩,
  ⟨.STORE_ERR_ADDR, 0x200010, [], fun _ => [(.ro, STORE_ERR_ADDR_BANK), (.ro, STORE_ERR_ADDR_ROW), (.ro, STORE_ERR_ADDR_WORD), (.ro, STORE_ERR_ADDR_SYMBOL), (.ro, STORE_ERR_ADDR_KIND)]⟩,
  ⟨.BANK_OWN_ERR, 0x200018, [], fun _ => [(.ro, BANK_OWN_ERR_BANK), (.ro, BANK_OWN_ERR_WRITER), (.ro, BANK_OWN_ERR_CODE), (.w1c, BANK_OWN_ERR_REJ), (.ro, BANK_OWN_ERR_REASON), (.ro, BANK_OWN_ERR_COUNT)]⟩,
  ⟨.STORE_MOVE, 0x200020, [], fun _ => [(.ro, STORE_MOVE_MOVES), (.ro, STORE_MOVE_THROTTLED)]⟩,
  ⟨.STORE_FLIP_CTL, 0x200028, [], fun _ => [(.rw, STORE_FLIP_CTL_BANK), (.rw, STORE_FLIP_CTL_ARM)]⟩,
  ⟨.STORE_FLIPMASK, 0x200030, [(5, 0x8)], fun l => let x := fun i => l.getD i 0; [(.rw, STORE_FLIPMASK_MASK (x 0))]⟩,
  ⟨.BANK_OWN, 0x201000, [(1024, 0x8)], fun l => let x := fun i => l.getD i 0; [(.rw, BANK_OWN_OWNER (x 0)), (.ro, BANK_OWN_PSTATE (x 0)), (.ro, BANK_OWN_POOL (x 0))]⟩]

/-- The registers of block TALLY. -/
def regsTally : List RegInfo := [
  ⟨.TALLY_TBL_CFG, 0x280000, [(8, 0x40)], fun l => let x := fun i => l.getD i 0; [(.ro, TALLY_TBL_CFG_VALID (x 0)), (.ro, TALLY_TBL_CFG_KBITS (x 0)), (.ro, TALLY_TBL_CFG_E (x 0)), (.ro, TALLY_TBL_CFG_COMMIT (x 0)), (.ro, TALLY_TBL_CFG_MIRROR (x 0)), (.wo, TALLY_TBL_CFG_RELEASE (x 0))]⟩,
  ⟨.TALLY_TBL_COLS, 0x280008, [(8, 0x40)], fun l => let x := fun i => l.getD i 0; [(.ro, TALLY_TBL_COLS_MASK (x 0))]⟩,
  ⟨.TALLY_TBL_USED, 0x280010, [(8, 0x40)], fun l => let x := fun i => l.getD i 0; [(.ro, TALLY_TBL_USED_PRIMARY (x 0)), (.ro, TALLY_TBL_USED_SPILL (x 0)), (.ro, TALLY_TBL_USED_SATS (x 0))]⟩,
  ⟨.TALLY_TBL_LOST, 0x280018, [(8, 0x40)], fun l => let x := fun i => l.getD i 0; [(.ro, TALLY_TBL_LOST_COUNT (x 0)), (.w1c, TALLY_TBL_LOST_OVERFLOW_LOST (x 0))]⟩,
  ⟨.TALLY_MAP_Q, 0x280200, [], fun _ => [(.rw, TALLY_MAP_Q_TBL), (.rw, TALLY_MAP_Q_COL), (.rw, TALLY_MAP_Q_SPILLR), (.rw, TALLY_MAP_Q_ROW)]⟩,
  ⟨.TALLY_MAP_R, 0x280208, [], fun _ => [(.ro, TALLY_MAP_R_BANK), (.ro, TALLY_MAP_R_BROW), (.ro, TALLY_MAP_R_OK)]⟩,
  ⟨.TALLY_STAT, 0x280210, [], fun _ => [(.w1c, TALLY_STAT_PERR), (.ro, TALLY_STAT_PCOL), (.ro, TALLY_STAT_PCOUNT)]⟩]

/-- The registers of block NOC. -/
def regsNoc : List RegInfo := [
  ⟨.NOC_CTL, 0xC0000, [], fun _ => [(.rw, NOC_CTL_PRI_BURST), (.rw, NOC_CTL_HOLD)]⟩,
  ⟨.NOC_STAT, 0xC0008, [], fun _ => [(.w1c, NOC_STAT_UNREACH), (.w1c, NOC_STAT_BADDEST), (.ro, NOC_STAT_ROUTECHG), (.ro, NOC_STAT_SCOL), (.ro, NOC_STAT_DCOL), (.ro, NOC_STAT_DEP), (.ro, NOC_STAT_COUNT)]⟩,
  ⟨.NOC_LINK, 0xC0100, [(128, 0x8)], fun l => let x := fun i => l.getD i 0; [(.ro, NOC_LINK_RETIRED (x 0)), (.ro, NOC_LINK_CORR (x 0)), (.ro, NOC_LINK_RETRY (x 0))]⟩]

/-- The registers of block LANE. -/
def regsLane : List RegInfo := [
  ⟨.LANE_CTL, 0x100000, [(144, 0x1000)], fun l => let x := fun i => l.getD i 0; [(.rw, LANE_CTL_TXPOL (x 0)), (.rw, LANE_CTL_LOOP (x 0)), (.rw, LANE_CTL_SWING (x 0)), (.rw, LANE_CTL_DEEMPH (x 0))]⟩,
  ⟨.LANE_STAT, 0x100008, [(144, 0x1000)], fun l => let x := fun i => l.getD i 0; [(.ro, LANE_STAT_PSTATE (x 0)), (.ro, LANE_STAT_RATE (x 0)), (.ro, LANE_STAT_SYNC (x 0)), (.ro, LANE_STAT_RXINV (x 0)), (.ro, LANE_STAT_GROUPED (x 0)), (.ro, LANE_STAT_LANENUM (x 0)), (.ro, LANE_STAT_WIDTH (x 0)), (.ro, LANE_STAT_FIRST (x 0)), (.ro, LANE_STAT_RETIRED (x 0))]⟩,
  ⟨.LANE_ERR, 0x100010, [(144, 0x1000)], fun l => let x := fun i => l.getD i 0; [(.w1c, LANE_ERR_CODE (x 0)), (.w1c, LANE_ERR_DISP (x 0)), (.w1c, LANE_ERR_SYNCLOST (x 0)), (.ro, LANE_ERR_COUNT (x 0))]⟩,
  ⟨.LANE_PRBS, 0x100018, [(144, 0x1000)], fun l => let x := fun i => l.getD i 0; [(.ro, LANE_PRBS_ERRORS (x 0)), (.ro, LANE_PRBS_PATTERN (x 0)), (.ro, LANE_PRBS_RUN (x 0)), (.ro, LANE_PRBS_LOCK (x 0))]⟩,
  ⟨.LLP_GRP_CFG, 0x100100, [(144, 0x1000)], fun l => let x := fun i => l.getD i 0; [(.rw, LLP_GRP_CFG_RTO (x 0)), (.rw, LLP_GRP_CFG_DWELL (x 0)), (.rw, LLP_GRP_CFG_DWELL_ERR (x 0))]⟩,
  ⟨.LLP_GRP_STAT, 0x100108, [(144, 0x1000)], fun l => let x := fun i => l.getD i 0; [(.ro, LLP_GRP_STAT_STATE (x 0)), (.ro, LLP_GRP_STAT_RATE (x 0)), (.ro, LLP_GRP_STAT_WIDTH (x 0)), (.ro, LLP_GRP_STAT_KERN (x 0)), (.ro, LLP_GRP_STAT_SLOT (x 0)), (.ro, LLP_GRP_STAT_TXSEQ (x 0)), (.ro, LLP_GRP_STAT_RXSEQ (x 0))]⟩,
  ⟨.LLP_GRP_CNT, 0x100110, [(144, 0x1000)], fun l => let x := fun i => l.getD i 0; [(.ro, LLP_GRP_CNT_TXFRAMES (x 0)), (.ro, LLP_GRP_CNT_RXFRAMES (x 0))]⟩,
  ⟨.LLP_GRP_ERR, 0x100118, [(144, 0x1000)], fun l => let x := fun i => l.getD i 0; [(.w1c, LLP_GRP_ERR_CRC (x 0)), (.w1c, LLP_GRP_ERR_NAKRX (x 0)), (.w1c, LLP_GRP_ERR_REPLAY (x 0)), (.w1c, LLP_GRP_ERR_RETRAIN (x 0)), (.w1c, LLP_GRP_ERR_BADDESC (x 0)), (.w1c, LLP_GRP_ERR_DROPPED (x 0)), (.ro, LLP_GRP_ERR_COUNT (x 0))]⟩]

/-- The registers of block PEG. -/
def regsPeg : List RegInfo := [
  ⟨.PEG_TAKE, 0x40000, [(64, 0x20)], fun l => let x := fun i => l.getD i 0; [(.take, PEG_TAKE_BUSY (x 0))]⟩,
  ⟨.PEG_GIVE, 0x40008, [(64, 0x20)], fun l => let x := fun i => l.getD i 0; [(.wo, PEG_GIVE_GIVE (x 0))]⟩,
  ⟨.PEG_STAT, 0x40010, [(64, 0x20)], fun l => let x := fun i => l.getD i 0; [(.ro, PEG_STAT_HELD (x 0)), (.ro, PEG_STAT_HOLDER (x 0)), (.w1c, PEG_STAT_ORPHAN (x 0)), (.ro, PEG_STAT_OPORT (x 0)), (.w1c, PEG_STAT_BADGIVE (x 0)), (.ro, PEG_STAT_TAKES (x 0))]⟩,
  ⟨.PORT_CTL, 0x41000, [(2, 0x100)], fun l => let x := fun i => l.getD i 0; [(.rw, PORT_CTL_RDTMO (x 0))]⟩,
  ⟨.PORT_STAT, 0x41008, [(2, 0x100)], fun l => let x := fun i => l.getD i 0; [(.ro, PORT_STAT_LINKUP (x 0)), (.ro, PORT_STAT_SPEED (x 0)), (.ro, PORT_STAT_WIDTH (x 0)), (.ro, PORT_STAT_BME (x 0)), (.ro, PORT_STAT_DSTATE (x 0)), (.ro, PORT_STAT_INRESET (x 0)), (.ro, PORT_STAT_HELDREC (x 0))]⟩,
  ⟨.PORT_ERR, 0x41010, [(2, 0x100)], fun l => let x := fun i => l.getD i 0; [(.w1c, PORT_ERR_CA (x 0)), (.w1c, PORT_ERR_UR (x 0)), (.w1c, PORT_ERR_EPTX (x 0)), (.w1c, PORT_ERR_EPRX (x 0)), (.w1c, PORT_ERR_RDTMO (x 0)), (.w1c, PORT_ERR_DEVERR (x 0)), (.ro, PORT_ERR_COUNT (x 0))]⟩,
  ⟨.PORT_EADDR, 0x41018, [(2, 0x100)], fun l => let x := fun i => l.getD i 0; [(.ro, PORT_EADDR_ADDR (x 0))]⟩,
  ⟨.QU_XFER, 0x41200, [], fun _ => [(.wo, QU_XFER_QUEUE), (.wo, QU_XFER_TO), (.wo, QU_XFER_GO), (.w1c, QU_XFER_REJ), (.ro, QU_XFER_REASON), (.ro, QU_XFER_RQUEUE)]⟩]

/-- The registers of block DMA. -/
def regsDma : List RegInfo := [
  ⟨.DMA_CH_SRC, 0x80000, [(64, 0x40)], fun l => let x := fun i => l.getD i 0; [(.rw, DMA_CH_SRC_ADDR (x 0))]⟩,
  ⟨.DMA_CH_DST, 0x80008, [(64, 0x40)], fun l => let x := fun i => l.getD i 0; [(.rw, DMA_CH_DST_ADDR (x 0))]⟩,
  ⟨.DMA_CH_CNT, 0x80010, [(64, 0x40)], fun l => let x := fun i => l.getD i 0; [(.rw, DMA_CH_CNT_CNT (x 0))]⟩,
  ⟨.DMA_CH_CTL, 0x80018, [(64, 0x40)], fun l => let x := fun i => l.getD i 0; [(.w1s, DMA_CH_CTL_GO (x 0)), (.rw, DMA_CH_CTL_EVENT (x 0)), (.rw, DMA_CH_CTL_EV (x 0)), (.rw, DMA_CH_CTL_SRC_WRAP (x 0)), (.rw, DMA_CH_CTL_SRC_K (x 0)), (.rw, DMA_CH_CTL_DST_WRAP (x 0)), (.rw, DMA_CH_CTL_DST_K (x 0)), (.rw, DMA_CH_CTL_KEY (x 0))]⟩,
  ⟨.DMA_CH_SSRC, 0x80020, [(64, 0x40)], fun l => let x := fun i => l.getD i 0; [(.rw, DMA_CH_SSRC_ADDR (x 0))]⟩,
  ⟨.DMA_CH_SDST, 0x80028, [(64, 0x40)], fun l => let x := fun i => l.getD i 0; [(.rw, DMA_CH_SDST_ADDR (x 0))]⟩,
  ⟨.DMA_CH_SCNT, 0x80030, [(64, 0x40)], fun l => let x := fun i => l.getD i 0; [(.rw, DMA_CH_SCNT_CNT (x 0))]⟩,
  ⟨.DMA_CH_SCTL, 0x80038, [(64, 0x40)], fun l => let x := fun i => l.getD i 0; [(.rw, DMA_CH_SCTL_ARM (x 0)), (.rw, DMA_CH_SCTL_EVENT (x 0)), (.rw, DMA_CH_SCTL_EV (x 0)), (.rw, DMA_CH_SCTL_SRC_WRAP (x 0)), (.rw, DMA_CH_SCTL_SRC_K (x 0)), (.rw, DMA_CH_SCTL_DST_WRAP (x 0)), (.rw, DMA_CH_SCTL_DST_K (x 0)), (.rw, DMA_CH_SCTL_KEY (x 0))]⟩,
  ⟨.DMA_STAT, 0x81000, [(64, 0x10)], fun l => let x := fun i => l.getD i 0; [(.ro, DMA_STAT_BUSY (x 0)), (.ro, DMA_STAT_ARMED (x 0)), (.w1c, DMA_STAT_ERR (x 0)), (.w1c, DMA_STAT_CFGERR (x 0)), (.ro, DMA_STAT_EKIND (x 0)), (.ro, DMA_STAT_SIDE (x 0)), (.ro, DMA_STAT_HANDOVERS (x 0))]⟩,
  ⟨.DMA_EADDR, 0x81008, [(64, 0x10)], fun l => let x := fun i => l.getD i 0; [(.ro, DMA_EADDR_ADDR (x 0))]⟩,
  ⟨.DMA_ENG, 0x82000, [], fun _ => [(.ro, DMA_ENG_SLOTS), (.ro, DMA_ENG_RDOUT), (.ro, DMA_ENG_BUSYCH)]⟩]

/-- The registers of block TWIN. -/
def regsTwin : List RegInfo := [
  ⟨.TWIN_CTL, 0x400000, [], fun _ => [(.rw, TWIN_CTL_EN), (.rw, TWIN_CTL_KEYSLOT), (.rw, TWIN_CTL_AUTOJOIN), (.rw, TWIN_CTL_WARM_LIMIT), (.rw, TWIN_CTL_VEC), (.wo, TWIN_CTL_SWAP), (.wo, TWIN_CTL_FORCE), (.wo, TWIN_CTL_UNFENCE)]⟩,
  ⟨.TWIN_STAT, 0x400008, [], fun _ => [(.ro, TWIN_STAT_STRAP), (.ro, TWIN_STAT_ROLE), (.ro, TWIN_STAT_STATE), (.ro, TWIN_STAT_CAPOUP), (.ro, TWIN_STAT_HALF), (.ro, TWIN_STAT_PIN_SILENT), (.ro, TWIN_STAT_PLACEDIFF), (.ro, TWIN_STAT_COLD), (.ro, TWIN_STAT_STANDBY_DOWN), (.ro, TWIN_STAT_TBLOCK)]⟩,
  ⟨.TWIN_ERR, 0x400010, [], fun _ => [(.w1c, TWIN_ERR_ROLECONF), (.w1c, TWIN_ERR_KEYBAD), (.w1c, TWIN_ERR_TAGFAIL), (.w1c, TWIN_ERR_CTREND), (.w1c, TWIN_ERR_TAKEOVER), (.w1c, TWIN_ERR_DMALOST), (.w1c, TWIN_ERR_BADCTL), (.w1c, TWIN_ERR_SHADOWWR), (.ro, TWIN_ERR_COUNT)]⟩,
  ⟨.TWIN_LAG, 0x400018, [], fun _ => [(.ro, TWIN_LAG_JOURNAL), (.ro, TWIN_LAG_COMMITS), (.ro, TWIN_LAG_WRITES)]⟩,
  ⟨.TWIN_TAKEOVER, 0x400020, [], fun _ => [(.ro, TWIN_TAKEOVER_REPLAY), (.ro, TWIN_TAKEOVER_TOTAL), (.ro, TWIN_TAKEOVER_RERUN)]⟩,
  ⟨.TWIN_TBOFS, 0x400028, [], fun _ => [(.ro, TWIN_TBOFS_OFS)]⟩,
  ⟨.TWIN_CTR, 0x400030, [], fun _ => [(.ro, TWIN_CTR_TX), (.ro, TWIN_CTR_RX)]⟩,
  ⟨.TWIN_BANKMIR, 0x400100, [(16, 0x8)], fun l => let x := fun i => l.getD i 0; [(.rw, TWIN_BANKMIR_MIR (x 0))]⟩]

/-- The registers of block ERROR. -/
def regsError : List RegInfo := [
  ⟨.ERR_CTL, 0x3C0000, [], fun _ => [(.rw, ERR_CTL_EN), (.rw, ERR_CTL_IRQ_OCHRE), (.rw, ERR_CTL_IRQ_CRIMSON), (.rw, ERR_CTL_VEC_A), (.rw, ERR_CTL_VEC_B)]⟩,
  ⟨.ERR_RING, 0x3C0008, [], fun _ => [(.rw, ERR_RING_BASE)]⟩,
  ⟨.ERR_HEAD, 0x3C0010, [], fun _ => [(.rw, ERR_HEAD_HEAD)]⟩,
  ⟨.ERR_TAIL, 0x3C0018, [], fun _ => [(.ro, ERR_TAIL_TAIL)]⟩,
  ⟨.ERR_STAT, 0x3C0020, [], fun _ => [(.w1c, ERR_STAT_DUALRAIL), (.w1c, ERR_STAT_STRAYDONE), (.w1c, ERR_STAT_RBNEXT), (.w1c, ERR_STAT_RBACTIVE), (.w1c, ERR_STAT_PLANEFIX), (.w1c, ERR_STAT_PLANELOST), (.w1c, ERR_STAT_TRIFIX), (.w1c, ERR_STAT_TRILOST), (.w1c, ERR_STAT_SPARED), (.w1c, ERR_STAT_RESTORED), (.w1c, ERR_STAT_EXHAUSTED), (.w1c, ERR_STAT_RETIRED), (.w1c, ERR_STAT_SCRUBVOTE), (.w1c, ERR_STAT_DROPPED), (.w1c, ERR_STAT_HEADERR), (.w1c, ERR_STAT_RETERR)]⟩,
  ⟨.ERR_ALARM, 0x3C0028, [], fun _ => [(.w1c, ERR_ALARM_PEND), (.ro, ERR_ALARM_HOLD), (.ro, ERR_ALARM_CCOUNT)]⟩,
  ⟨.ERR_DROP, 0x3C0030, [], fun _ => [(.ro, ERR_DROP_SLATE), (.ro, ERR_DROP_OCHRE), (.ro, ERR_DROP_CRIMSON), (.wo, ERR_DROP_CLR)]⟩,
  ⟨.ERR_BKT_CFG, 0x3C0040, [(5, 0x8)], fun l => let x := fun i => l.getD i 0; [(.rw, ERR_BKT_CFG_THRESH (x 0)), (.rw, ERR_BKT_CFG_WINDOW (x 0))]⟩,
  ⟨.ERR_BKT_Q, 0x3C0068, [], fun _ => [(.rw, ERR_BKT_Q_KIND), (.rw, ERR_BKT_Q_UID), (.wo, ERR_BKT_Q_CLR)]⟩,
  ⟨.ERR_BKT_R, 0x3C0070, [], fun _ => [(.ro, ERR_BKT_R_COUNT), (.ro, ERR_BKT_R_RETIRED), (.ro, ERR_BKT_R_VALID), (.ro, ERR_BKT_R_SPARES), (.ro, ERR_BKT_R_EXHAUSTED)]⟩,
  ⟨.ERR_RETIRE, 0x3C0078, [], fun _ => [(.wo, ERR_RETIRE_KIND), (.wo, ERR_RETIRE_UID), (.wo, ERR_RETIRE_GO)]⟩,
  ⟨.SCRUB_CTL, 0x3C0100, [], fun _ => [(.rw, SCRUB_CTL_STORED_EN), (.rw, SCRUB_CTL_LATCH_EN), (.rw, SCRUB_CTL_BOND_EN), (.rw, SCRUB_CTL_STORED_MS), (.rw, SCRUB_CTL_LATCH_MS), (.rw, SCRUB_CTL_BOND_S)]⟩,
  ⟨.SCRUB_STAT, 0x3C0108, [], fun _ => [(.ro, SCRUB_STAT_PASSES), (.ro, SCRUB_STAT_REPAIRS), (.ro, SCRUB_STAT_MISMATCHES)]⟩,
  ⟨.BOND_STAT, 0x3C0118, [], fun _ => [(.ro, BOND_STAT_SPARED), (.ro, BOND_STAT_EXHAUSTED), (.ro, BOND_STAT_LAST)]⟩]

/-- The registers of block SECURITY. -/
def regsSecurity : List RegInfo := [
  ⟨.SEC_LC, 0x3E0000, [], fun _ => [(.ro, SEC_LC_STATE), (.ro, SEC_LC_PENDING)]⟩,
  ⟨.SEC_LC_REQ, 0x3E0008, [], fun _ => [(.wo, SEC_LC_REQ_TARGET), (.wo, SEC_LC_REQ_ARM), (.wo, SEC_LC_REQ_CONFIRM), (.wo, SEC_LC_REQ_NONCE)]⟩,
  ⟨.SEC_LC_NONCE, 0x3E0010, [], fun _ => [(.ro, SEC_LC_NONCE_NONCE), (.ro, SEC_LC_NONCE_ARMED), (.ro, SEC_LC_NONCE_APORT)]⟩,
  ⟨.SEC_SLOTS, 0x3E0018, [], fun _ => [(.ro, SEC_SLOTS_FILLED)]⟩,
  ⟨.SEC_KEYCTL, 0x3E0020, [], fun _ => [(.rw, SEC_KEYCTL_SLOT), (.rw, SEC_KEYCTL_KEK), (.wo, SEC_KEYCTL_OP)]⟩,
  ⟨.SEC_KEYDATA, 0x3E0028, [(5, 0x8)], fun l => let x := fun i => l.getD i 0; [(.rw, SEC_KEYDATA_DATA (x 0))]⟩,
  ⟨.SEC_STAT, 0x3E0050, [], fun _ => [(.ro, SEC_STAT_BUSY), (.w1c, SEC_STAT_UNWRAP), (.w1c, SEC_STAT_REFUSED), (.ro, SEC_STAT_REASON), (.w1c, SEC_STAT_TAGFAIL), (.w1c, SEC_STAT_CTREND), (.w1c, SEC_STAT_KEYMIS), (.w1c, SEC_STAT_LCCHG), (.w1c, SEC_STAT_IMGAUTH), (.ro, SEC_STAT_COUNT)]⟩,
  ⟨.SEC_TAGADDR, 0x3E0058, [], fun _ => [(.ro, SEC_TAGADDR_ADDR)]⟩,
  ⟨.SEC_TAGBUF, 0x3E0060, [], fun _ => [(.ro, SEC_TAGBUF_BUF), (.ro, SEC_TAGBUF_ROW)]⟩,
  ⟨.SEC_GEN, 0x3E0100, [(64, 0x8)], fun l => let x := fun i => l.getD i 0; [(.ro, SEC_GEN_NEXT (x 0)), (.ro, SEC_GEN_SPENT (x 0))]⟩]

/-- The registers of block CLOCK. -/
def regsClock : List RegInfo := [
  ⟨.CLK_STAT, 0x10000, [], fun _ => [(.ro, CLK_STAT_COAST), (.ro, CLK_STAT_REFGOOD), (.ro, CLK_STAT_ARMED), (.ro, CLK_STAT_REFWAIT), (.ro, CLK_STAT_LOCK), (.w1c, CLK_STAT_GATEHIT), (.w1c, CLK_STAT_CFGERR), (.w1c, CLK_STAT_PMBERR), (.ro, CLK_STAT_REFLOSS)]⟩,
  ⟨.CLK_GATE0, 0x10008, [], fun _ => [(.rw, CLK_GATE0_GATE)]⟩,
  ⟨.CLK_GATE1, 0x10010, [], fun _ => [(.rw, CLK_GATE1_GATE)]⟩,
  ⟨.CLK_GATE_PEND, 0x10018, [], fun _ => [(.ro, CLK_GATE_PEND_PEND)]⟩,
  ⟨.CLK_OP, 0x10020, [], fun _ => [(.rw, CLK_OP_TARGET), (.ro, CLK_OP_CUR), (.ro, CLK_OP_BUSY), (.w1c, CLK_OP_PGTMO)]⟩,
  ⟨.CLK_PMBUS, 0x10028, [], fun _ => [(.rw, CLK_PMBUS_EN), (.rw, CLK_PMBUS_BASE_ADDR), (.rw, CLK_PMBUS_BASE_PAGE), (.rw, CLK_PMBUS_FAB_ADDR), (.rw, CLK_PMBUS_FAB_PAGE)]⟩,
  ⟨.CLK_FABV, 0x10030, [], fun _ => [(.rw, CLK_FABV_TARGET), (.ro, CLK_FABV_EFF), (.ro, CLK_FABV_BUSY)]⟩,
  ⟨.CLK_IOPLL, 0x10038, [], fun _ => [(.rw, CLK_IOPLL_M), (.ro, CLK_IOPLL_LOCK)]⟩,
  ⟨.CLK_IOCLK, 0x10040, [(8, 0x8)], fun l => let x := fun i => l.getD i 0; [(.rw, CLK_IOCLK_EN (x 0)), (.rw, CLK_IOCLK_D (x 0))]⟩,
  ⟨.GOV_CTL, 0x10080, [], fun _ => [(.rw, GOV_CTL_CAP), (.rw, GOV_CTL_EN), (.rw, GOV_CTL_RMBUD), (.rw, GOV_CTL_RMMIN), (.rw, GOV_CTL_FABMIN), (.rw, GOV_CTL_LANES), (.rw, GOV_CTL_COLBUD)]⟩,
  ⟨.GOV_STAT, 0x10088, [], fun _ => [(.ro, GOV_STAT_EST), (.ro, GOV_STAT_STEP), (.w1c, GOV_STAT_OVERCAP), (.ro, GOV_STAT_THERM), (.ro, GOV_STAT_RMEFF), (.ro, GOV_STAT_FABLIM), (.ro, GOV_STAT_TEMP)]⟩,
  ⟨.CLK_REST, 0x100A0, [], fun _ => [(.wo, CLK_REST_ENTER), (.wo, CLK_REST_WAKE), (.ro, CLK_REST_STATE), (.w1c, CLK_REST_REJ), (.ro, CLK_REST_REASON), (.ro, CLK_REST_WAKESRC)]⟩]

/-- The registers of block TIMEBASE. -/
def regsTimebase : List RegInfo := [
  ⟨.TB_CTL, 0x420000, [], fun _ => [(.rw, TB_CTL_PPS_EN), (.rw, TB_CTL_MODE), (.wo, TB_CTL_SET)]⟩,
  ⟨.TB_STAT, 0x420008, [], fun _ => [(.ro, TB_STAT_HOLDOVER), (.w1c, TB_STAT_STEPPED), (.ro, TB_STAT_UNTRUE), (.ro, TB_STAT_LOCKED), (.ro, TB_STAT_ERR)]⟩,
  ⟨.TB_NOW, 0x420010, [], fun _ => [(.ro, TB_NOW_NOW)]⟩,
  ⟨.TB_SECHI, 0x420018, [], fun _ => [(.ro, TB_SECHI_SEC)]⟩,
  ⟨.TB_SET, 0x420020, [], fun _ => [(.rw, TB_SET_SEC), (.rw, TB_SET_NS)]⟩,
  ⟨.TB_ADJ, 0x420028, [], fun _ => [(.rw, TB_ADJ_PPB)]⟩,
  ⟨.TB_PPSCAP, 0x420030, [], fun _ => [(.ro, TB_PPSCAP_CAP)]⟩,
  ⟨.TB_WAKE, 0x420038, [], fun _ => [(.rw, TB_WAKE_SEC), (.rw, TB_WAKE_NS), (.rw, TB_WAKE_EN)]⟩]

/-- The registers of block PINS. -/
def regsPins : List RegInfo := [
  ⟨.PIN_FUNC, 0x30000, [], fun _ => [(.rw, PIN_FUNC_PMB), (.rw, PIN_FUNC_I2C1), (.rw, PIN_FUNC_SPI), (.rw, PIN_FUNC_SPI_CS23), (.rw, PIN_FUNC_UART), (.rw, PIN_FUNC_UART_FC), (.rw, PIN_FUNC_EV)]⟩,
  ⟨.PIN_STAT, 0x30008, [], fun _ => [(.ro, PIN_STAT_CONFLICT), (.w1c, PIN_STAT_CFGERR)]⟩,
  ⟨.GPIO_OUT, 0x30010, [], fun _ => [(.rw, GPIO_OUT_PINS)]⟩,
  ⟨.GPIO_OE, 0x30018, [], fun _ => [(.rw, GPIO_OE_PINS)]⟩,
  ⟨.GPIO_IN, 0x30020, [], fun _ => [(.ro, GPIO_IN_PINS)]⟩,
  ⟨.GPIO_WAKE, 0x30028, [], fun _ => [(.rw, GPIO_WAKE_PINS)]⟩,
  ⟨.SVC_CFG, 0x30100, [(48, 0x8)], fun l => let x := fun i => l.getD i 0; [(.rw, SVC_CFG_LEVEL (x 0)), (.rw, SVC_CFG_HYST (x 0)), (.rw, SVC_CFG_OD (x 0)), (.rw, SVC_CFG_DRIVE (x 0)), (.rw, SVC_CFG_PULL (x 0)), (.rw, SVC_CFG_ANALOG (x 0)), (.rw, SVC_CFG_SLEEP (x 0)), (.ro, SVC_CFG_OWNER (x 0))]⟩,
  ⟨.SVC_PERCFG, 0x30300, [], fun _ => [(.rw, SVC_PERCFG_SPI_DIV), (.rw, SVC_PERCFG_SPI_MODE), (.rw, SVC_PERCFG_UART_DIV), (.rw, SVC_PERCFG_I2C1_SPD), (.rw, SVC_PERCFG_PMB_SPD)]⟩,
  ⟨.SVC_XFER, 0x30308, [], fun _ => [(.rw, SVC_XFER_PER), (.rw, SVC_XFER_WLEN), (.rw, SVC_XFER_RLEN), (.rw, SVC_XFER_TADDR), (.wo, SVC_XFER_GO), (.ro, SVC_XFER_BUSY), (.w1c, SVC_XFER_ERR), (.ro, SVC_XFER_RCNT)]⟩,
  ⟨.SVC_XDATA, 0x30310, [(4, 0x8)], fun l => let x := fun i => l.getD i 0; [(.rw, SVC_XDATA_DATA (x 0))]⟩,
  ⟨.SVC_EVCFG, 0x30340, [(8, 0x8)], fun l => let x := fun i => l.getD i 0; [(.rw, SVC_EVCFG_DIR (x 0)), (.rw, SVC_EVCFG_EV (x 0)), (.ro, SVC_EVCFG_DROPPED (x 0))]⟩,
  ⟨.ADC_CH, 0x30380, [(8, 0x8)], fun l => let x := fun i => l.getD i 0; [(.ro, ADC_CH_VALUE (x 0)), (.ro, ADC_CH_VALID (x 0))]⟩,
  ⟨.IOCELL, 0x31000, [(384, 0x8)], fun l => let x := fun i => l.getD i 0; [(.rw, IOCELL_EN (x 0)), (.rw, IOCELL_DIR (x 0)), (.rw, IOCELL_DDR (x 0)), (.rw, IOCELL_NET (x 0)), (.rw, IOCELL_DIFF (x 0)), (.rw, IOCELL_TERM (x 0)), (.rw, IOCELL_DELAY (x 0)), (.rw, IOCELL_PULL (x 0)), (.rw, IOCELL_DRIVE (x 0)), (.rw, IOCELL_SLEEP (x 0)), (.w1c, IOCELL_UNDER (x 0)), (.w1c, IOCELL_OVER (x 0))]⟩,
  ⟨.IOBANK, 0x32000, [(12, 0x8)], fun l => let x := fun i => l.getD i 0; [(.rw, IOBANK_STD (x 0)), (.rw, IOBANK_CAL_EN (x 0)), (.ro, IOBANK_VOK (x 0))]⟩,
  ⟨.PIN_STRAP, 0x32100, [], fun _ => [(.ro, PIN_STRAP_TWIN_ROLE), (.ro, PIN_STRAP_OSC_DLY), (.ro, PIN_STRAP_BOOT_SRC), (.ro, PIN_STRAP_IOPULL)]⟩]

/-- The registers of block RESET. -/
def regsReset : List RegInfo := [
  ⟨.RESET_CTL, 0x20000, [], fun _ => [(.wo, RESET_CTL_KEY), (.wo, RESET_CTL_WARM)]⟩,
  ⟨.RESET_STAT, 0x20008, [], fun _ => [(.ro, RESET_STAT_PHASE), (.ro, RESET_STAT_LAST), (.w1c, RESET_STAT_CFGERR), (.ro, RESET_STAT_DIEBUSY), (.ro, RESET_STAT_DIE), (.ro, RESET_STAT_DWDOG), (.ro, RESET_STAT_WARMCNT)]⟩,
  ⟨.RESET_DIE, 0x20010, [], fun _ => [(.wo, RESET_DIE_DIE), (.wo, RESET_DIE_GO), (.wo, RESET_DIE_KEY)]⟩,
  ⟨.RESET_TILE, 0x20018, [], fun _ => [(.wo, RESET_TILE_TILE), (.wo, RESET_TILE_GO)]⟩,
  ⟨.RESET_TIME, 0x20020, [], fun _ => [(.ro, RESET_TIME_READY), (.ro, RESET_TIME_WARM)]⟩]

/-- The registers of block GLOBAL. -/
def regsGlobal : List RegInfo := [
  ⟨.GLB_ID, 0x0, [], fun _ => [(.ro, GLB_ID_PART), (.ro, GLB_ID_REV)]⟩,
  ⟨.GLB_SERIAL, 0x8, [], fun _ => [(.ro, GLB_SERIAL_SERIAL)]⟩,
  ⟨.GLB_CAPS, 0x10, [], fun _ => [(.ro, GLB_CAPS_TILES), (.ro, GLB_CAPS_BANKS), (.ro, GLB_CAPS_ULANES), (.ro, GLB_CAPS_CLANES), (.ro, GLB_CAPS_FRETS), (.ro, GLB_CAPS_QUEUES)]⟩,
  ⟨.GLB_STAT, 0x18, [], fun _ => [(.ro, GLB_STAT_READY), (.ro, GLB_STAT_CFGERR), (.ro, GLB_STAT_ALARM), (.ro, GLB_STAT_ROLE), (.ro, GLB_STAT_LC), (.ro, GLB_STAT_REST), (.ro, GLB_STAT_PHASE)]⟩,
  ⟨.GLB_SCRATCH, 0x20, [(2, 0x8)], fun l => let x := fun i => l.getD i 0; [(.rw, GLB_SCRATCH_VALUE (x 0))]⟩]

/-- Every register. -/
def allRegs : List RegInfo :=
  regsSeq ++ regsPlace ++ regsFabric ++ regsConfig ++ regsStore ++ regsTally ++ regsNoc ++ regsLane ++ regsPeg ++ regsDma ++ regsTwin ++ regsError ++ regsSecurity ++ regsClock ++ regsTimebase ++ regsPins ++ regsReset ++ regsGlobal

/-- The indices at which an offset lies in a register that repeats, if it does. -/
def regIndex : List (Nat × Nat) → Nat → Option (List Nat)
  | [], rem => if rem = 0 then some [] else none
  | (n, s) :: t, rem => if rem / s < n then (regIndex t (rem % s)).map (rem / s :: ·) else none

/-- A register at an offset with its indices. -/
def RegInfo.at (r : RegInfo) (off : Nat) : Option (List Nat) :=
  if off < r.base then none else regIndex r.dims (off - r.base)

/-- The register an 8-byte offset of the control range names, with its indices (R559). -/
def regAt (off : Nat) : Option (RegInfo × List Nat) :=
  allRegs.findSome? fun r => (r.at off).map fun i => (r, i)

end Sys2Proof.Machine
end

