-- ==== Sys2Proof/Machine/Twin.lean ====
section
/-!
DEFINITION. Twin operation (chapter 17): the Capo link's sessions and frames, pairing and sync, the records a Shadow applies,
heartbeats and their silence, the held state, takeover with its replay, and swaps (R416 to R446).
-/
namespace Sys2Proof.Machine

/-! Sessions (R420, R421). -/

/-- An event of the pair that the spec gives no flag. -/
def Dev.pairEvent (d : Dev) (c : EvClass) : Dev := (d.incSat TWIN_ERR_COUNT).report { cls := c, bare := true, ukind := 12 }

/-- The sessions of both directions end. -/
def Dev.sessionEnd (d : Dev) : Dev :=
  { d with capo := { d.capo with
      replay := []
      queue := []
      acksDue := 0
      partner := none
      keyIn := false
      keyOut := false
      commits := []
      syncTo := 0
      recovering := false
      swapping := false } }

/-- The link is lost: its lanes train again and a new session follows (R417). -/
def Dev.rejoin (d : Dev) : Dev := (d.sessionEnd.capoDrop 1).capoStart

/-- Send an ACK of the highest counter accepted in order. -/
def Dev.capoAck (d : Dev) : Dev :=
  ({ d with capo := { d.capo with acksDue := 0 } }).capoSend 2 [d.capo.rxCtr]

/-- A link error (R419): an Ochre event, counted for every lane in the frame. -/
def Dev.capoError (d : Dev) : Dev :=
  match d.capoGroup with
  | none => d
  | some (g, x) =>
    let d := (groupLanes g x.width).foldl (fun d L => Dev.countUp d .lane L) d
    (groupLanes g x.width).foldl (fun d L => Dev.lasting d .lane L) (d.report { cls := .ochre, bare := true, ukind := 3, uid := g })

/-- A frame of the session (R419 to R421): its CRC, its tag under the partner's session key, then its counter decide; one accepted in order has the
effect f. -/
def Dev.capoFrame (d : Dev) (type flags ctr : Nat) (payload tag : List Byte) (crc : Nat) (f : Dev → Dev) : Dev :=
  if !d.on TWIN_STAT_CAPOUP || d.held || !d.capo.keyIn then d
  else if crc ≠ capoCrc type flags ctr payload tag then d.capoError
  else if tag ≠ capoTag d.capo.rxKey type flags ctr payload then d.twinEvent .crimson TWIN_ERR_TAGFAIL
  else if ctr ≠ d.capo.rxCtr + 1 then d
  else
    let d := f { d with capo := { d.capo with rxCtr := ctr, acksDue := d.capo.acksDue + 1 } }
    if 16 ≤ d.capo.acksDue then d.capoAck else d

/-- Frames up to a counter are acknowledged; those that waited for room go out, and writes that waited for the twin go on. -/
def Dev.capoAcked (d : Dev) (ack : Nat) : Dev :=
  let d := { d with capo := { d.capo with replay := d.capo.replay.filter fun x => decide (ack < x.ctr) } }
  (Dev.capoFlush d.capo.queue.length d).serveWaiting.pumpStage

/-- CAPO_REPLAY_TIMEOUT (R421): the frames not acknowledged go again, byte for byte; a HELLO that found no answer goes again (R417). -/
def Dev.capoResend (d : Dev) : Dev :=
  if !d.on TWIN_STAT_CAPOUP || d.held || !d.capo.keyOut then d
  else if d.capo.partner.isNone then d.capoOut 0 0 [d.rd TWIN_STAT_ROLE, d.rd TWIN_STAT_STATE]
  else d.capo.replay.foldl (fun d x => Dev.capoOut d (x.words.headD 0) x.ctr x.words.tail) d

/-! The sync stream (R417). -/

/-- The contents of a register's fields, as one word. -/
def Dev.rawReg (d : Dev) (off : Nat) : Nat :=
  match regAt off with
  | some (r, l) => (r.fields l).foldl (fun n x => n + 2 ^ x.2.lo * d.rd x.2) 0
  | none => 0

/-- The registers whose writes are mirrored (R422). -/
def mirrorReg (off : Nat) : Bool :=
  decide ((0x050000 ≤ off ∧ off < 0x080000) ∨ (0x0A0000 ≤ off ∧ off < 0x0C0000) ∨ (0x201000 ≤ off ∧ off < 0x203000)
    ∨ (0x400100 ≤ off ∧ off < 0x400180))

/-- The words of a store row that hold data, as (offset, bytes). -/
def Dev.rowData (d : Dev) (r : Nat) : List (Nat × List Byte) :=
  (List.range 16).filterMap fun k => match d.findWord (16 * r + k) with
    | .good b => some (32 * k, b)
    | .fixed b _ => some (32 * k, b)
    | _ => none

/-- The write records of a row under a place's words. -/
def Dev.tellRow (d : Dev) (r : Nat) (place : Nat → List Nat) : Dev :=
  (d.rowData r).foldl (fun d (o, b) => Dev.capoSend d 0x14 (place o ++ b.map (·.toNat))) d

/-- The place of a path as words: 0 and a ring index, or 1, a base and an address. -/
def placeWords : Place → List Nat
  | .ring i => [0, 0, i]
  | .list b a => [1, b, a]

/-- What the Lead streams at the start of Syncing: kernels, buffers, tables, banks, registers, journals. -/
def Dev.syncStream (d : Dev) : Dev :=
  let entry := fun (d : Dev) kind h w1 w2 => recEntry kind 0 h (d.occOf kind h) w1 w2 d.stamp
  let d := d.kernels.foldl (fun d (h, k) =>
    if k.released then d
    else (Dev.capoSend d 0x15 (entry d 1 h (d.admitWord k (some (d.homeOf k)) k.anchor k.fret) 0)).capoSend 0x16 [h, 0, 0]) d
  let d := d.buffers.foldl (fun d (h, b) =>
    if !(b.mirror || b.commit) then d
    else
      let d := Dev.capoSend d 0x15 (entry d 2 h b.mask (rowMapCrc b.rows + 2 ^ 32 * b.rows.length))
      (List.range b.rows.length).foldl (fun d i => match b.rows.getD i none with
        | some r => Dev.tellRow d r fun o => [1, h, 512 * i + o]
        | none => d) d) d
  let d := d.tables.foldl (fun d (t, x) =>
    if !(d.on (TALLY_TBL_CFG_MIRROR t) || d.on (TALLY_TBL_CFG_COMMIT t)) then d
    else
      let d := Dev.capoSend d 0x15 (entry d 3 t (d.rd (TALLY_TBL_COLS_MASK t)) (rowsWord (x.cols.map (·.2)).flatten))
      x.cols.foldl (fun d (c, rows) => (List.range rows.length).foldl (fun d i =>
        Dev.tellRow d (rows.getD i 0) fun o => [2, t, 2 ^ 32 * c + 16 * i + o / 32]) d) d) d
  let d := (List.range 1024).foldl (fun d n =>
    if Dev.owner d n != 3 && d.bit (TWIN_BANKMIR_MIR (n / 64)) (n % 64) then
      (List.range 512).foldl (fun d i => Dev.tellRow d (512 * n + i) fun o => [0, 0, 512 * (512 * n + i) + o]) d
    else d) d
  let offs := ((d.regs.map fun x => x.1 / 64 * 8).filter mirrorReg).eraseDups
  let d := offs.foldl (fun d o => Dev.capoSend d 0x17 [o, 0, Dev.rawReg d o, 1]) d
  let d := d.queues.foldl (fun d (q, x) =>
    let d := Dev.capoSend d 0x1A ([q] ++ placeWords x.pos ++ [x.ringFront, x.front] ++ (x.stack.map fun s => placeWords s.1 ++ [s.2]).flatten
      ++ (x.window.map fun w => placeWords w.place ++ [w.word.toNat]).flatten)
    x.journal.foldl (fun d e =>
      let d := Dev.capoSend d 0x11 ([q, e.seq, e.epoch] ++ e.words.map (·.toNat))
      if e.stage = .completed then d.capoSend 0x12 (commitWords q e e.status e.result e.stamp (Dev.genOf d e.cmd) false) else d) d) d
  { d with capo := { d.capo with syncTo := d.capo.tickets } }

/-! Joining and leaving a pair. -/

/-- Offered commands of a queue are accepted, oldest first. -/
def Dev.acceptAll (d : Dev) (q : Nat) : Dev :=
  ((d.journal q).filter fun e => e.stage == .offered).foldl (fun d e => Dev.acceptOffered d q e.seq) d

/-- A Lead goes on alone (R424, R431): commands offered are accepted, pending commits are durable. -/
def Dev.leadAlone (d : Dev) : Dev :=
  let d := d.queues.foldl (fun d (q, _) => Dev.acceptAll d q) d
  { d with queues := d.queues.map fun x : Nat × QueueSt =>
      (x.1, { x.2 with journal := x.2.journal.map fun e => if e.stage = .completed then { e with durable := true } else e }) }

/-- Every standby group goes to Idle. -/
def Dev.standbyIdle (d : Dev) : Dev :=
  let d := d.capo.standby.foldl (fun d g => Dev.unbindGroup d g 0) d
  { d with capo := { d.capo with standby := [] } }

/-- A kernel leaves the device. -/
def Dev.forgetKernel (d : Dev) (h : Nat) : Dev :=
  match d.kernel h with
  | none => d
  | some k =>
    let d := (d.kernelGroups h).foldl (fun d g => Dev.unbindGroup d g 0) d
    let d := (if k.released then d else d.evict h k).returnBanks h
    { d with kernels := KMap.del d.kernels h, undef := KMap.del d.undef h, capo := { d.capo with standby := d.capo.standby.filter fun g => (d.group g).isSome } }

/-- A Shadow discards what its Lead sent it (R432); kernels that its own full image placed stay. -/
def Dev.shadowForget (d : Dev) : Dev :=
  let d := d.standbyIdle
  let d := d.kernels.foldl (fun d (h, k) => if k.static then d else Dev.forgetKernel d h) d
  let d := d.buffers.foldl (fun d (b, x) => Dev.dropBuffer d b x) d
  let d := d.tables.foldl (fun d (t, _) => Dev.tableFree d t) d
  { d with
    queues := []
    dmaLog := []
    load := match d.load with
      | some l => if l.who = .twin then none else some l
      | none => none
    capo := { d.capo with placed := [], cold := [] } }

/-- Pairing has succeeded: both enter Syncing, and the Lead streams its state. -/
def Dev.beginSync (d : Dev) : Dev :=
  let d := if d.rd TWIN_STAT_STATE == 3 && d.rd TWIN_STAT_ROLE == 0 then d.leadAlone else d
  let d := d.wr TWIN_STAT_STATE 2
  if d.rd TWIN_STAT_ROLE == 0 then d.syncStream else d.shadowForget.wr TWIN_STAT_STATE 2

/-- The new Lead's INIT on a standby group (R433 step 4). -/
def Dev.rehome (d : Dev) (g : Nat) : Dev :=
  ((d.updGroup g fun x => { x with gotInit := false, tx := [], peerWin := 64 }).clr (LLP_GRP_STAT_TXSEQ g)).sendFrame g 0 (bareFrame 0 0)

/-- The partner has exchanged roles with this Shadow (R442). -/
def Dev.swapped (d : Dev) : Dev :=
  let d := d.capo.standby.foldl (fun d g => Dev.rehome d g) (d.wr TWIN_STAT_ROLE 0)
  { d with capo := { d.capo with standby := [] } }

/-- Judge a partner's role and state (R417). -/
def Dev.meet (d : Dev) (role : Bool) (st : Nat) : Dev :=
  let own := d.rd TWIN_STAT_ROLE
  let mine := d.rd TWIN_STAT_STATE
  let runs := fun n => n == 3 || n == 4
  if mine == 3 && own == 1 && role && st == 3 then d.swapped
  else if (own == 1) != role then d.beginSync
  else if role || runs mine then d
  else if runs st then
    if d.on TWIN_CTL_AUTOJOIN then ((d.wr TWIN_STAT_ROLE 1).sendHello).beginSync else d
  else if d.capo.everPaired then d
  else (d.twinEvent .crimson TWIN_ERR_ROLECONF).clr TWIN_STAT_STATE

/-- HELLO (R417, R420). -/
def Dev.hello (d : Dev) (role : Bool) (st : Nat) (payload : List Byte) (crc : Nat) : Dev :=
  let key := d.helloKey payload
  if !d.on TWIN_STAT_CAPOUP || d.held || !d.on TWIN_CTL_EN then d
  else if crc ≠ capoCrc 0 0 0 payload (List.replicate 16 0) then d.capoError
  else if !key.2 then d.twinEvent .crimson TWIN_ERR_KEYBAD
  else
    let d := if d.capo.keyOut then d else d.sendHello
    let fresh := !(d.rd TWIN_STAT_STATE == 3 && d.rd TWIN_STAT_ROLE == 1 && role && st == 3)
    let d := { d with capo := { d.capo with
      partner := some (role, st), keyIn := true
      rxCtr := if fresh then 0 else d.capo.rxCtr
      rxKey := if fresh then key.1 else d.capo.rxKey } }
    d.meet role st

/-- SYNC_COMPLETE (R417 step 5): the stream is acknowledged; a Shadow's queues stand where it says. -/
def Dev.syncComplete (d : Dev) (paths : List QPath) : Dev :=
  let place := fun (p : PathPoint) => match p.list with
    | some b => Place.list b.toNat p.point.toNat
    | none => .ring p.point.toNat
  if d.rd TWIN_STAT_STATE ≠ 2 then d
  else if d.rd TWIN_STAT_ROLE == 0 && d.capo.frames.any (fun x => decide (x.ticket ≤ d.capo.syncTo)) then d
  else
    let d := if d.rd TWIN_STAT_ROLE == 0 then d else paths.foldl (fun d p =>
      let x := Dev.queue d p.q.val
      d.setQueue p.q.val { x with pos := place p.pos, ringFront := p.ringFront.toNat, front := p.front.toNat, ahead := []
                                  stack := p.stack.map fun s => (place s.1, s.2.toNat)
                                  window := p.window.map fun w => ⟨place w.1, w.2⟩ }) d
    { d.wr TWIN_STAT_STATE 3 with capo := { d.capo with everPaired := true } }

/-! Records at the Shadow (R422 to R428). -/

/-- JOURNAL_RECORD (R423, R433): the command enters the copy of the journal, its path is followed, and it is acknowledged. -/
def Dev.journalRecord (d : Dev) (q seq epoch : Nat) (ws : List Word) : Dev :=
  if !d.mirroring then d
  else
    let e := d.newEntry q seq epoch ws
    let (fin, idx, d) := d.follow q ws
    let x := d.queue q
    let d := d.setQueue q { x with journal := x.journal ++ [{ e with fin := fin }] }
    ((d.wr (QU_EPOCH_EPOCH q) epoch).showAccept q seq idx (e.cmd == some .halt)).capoSend 0x21 [q, seq]

/-- Bring the banks of some rows On before the records that fill them. -/
def Dev.awaitRows (d : Dev) (rows : List Nat) : Dev := (banksOf rows).foldl (fun d n => Dev.awaitBank (d.wakeBank n) n) d

/-- Do something that takes a generation as the Lead took it: NEXT ends at least one above the received value (R482). -/
def Dev.asLead (d : Dev) (key gen : Nat) (f : Dev → Dev) : Dev :=
  let own := d.rd (SEC_GEN_NEXT key)
  let d := f (d.wr (SEC_GEN_NEXT key) gen)
  let n := max own (d.rd (SEC_GEN_NEXT key))
  { d.wr (SEC_GEN_NEXT key) n with nvGens := KMap.put d.nvGens key n }

/-- The effects of a committed command beyond its data (R71, R428); gen is the generation it gave its buffer. -/
def Dev.commitEffect (d : Dev) (q : Nat) (e : Entry) (c : Cmd) (gen : Nat) : Dev :=
  match c with
  | .balloc b _ _ seals key _ =>
    let d := if seals then d.asLead key.toNat gen fun d => d.takeGeneration key.toNat else d
    d.updBuffer b.toNat fun b => { b with ready := true, gen := gen }
  | .bfree b => match d.buffer b.toNat with
    | some x => d.dropBuffer b.toNat x
    | none => d
  | .bkey b key sealed =>
    let d := match d.buffer b.toNat with
      | some x => d.awaitRows (x.rows.filterMap id)
      | none => d
    if sealed then d.asLead key.toNat gen fun d => (d.workKey b.toNat key.toNat sealed).2
    else (d.workKey b.toNat key.toNat sealed).2
  | .bhint b _ _ pin _ => if pin && d.rd PLACE_CTL_MODE != 0 then d.updBuffer b.toNat fun b => { b with pin := true } else d
  | .kretire k => d.forgetKernel k.toNat
  | .kbind k slot kind target => d.updKernel k.toNat fun k =>
    { k with binds := if kind.toNat == 3 then KMap.del k.binds slot.toNat else KMap.put k.binds slot.toNat ⟨kind.toNat, target.toNat⟩ }
  | .krotate stop es => match (es.head?).bind fun r => d.kernel r.kern.toNat with
    | some k => d.updEns (d.homeOf k) fun x =>
      { x with rot := if stop then [] else es, rotating := !stop, rotPos := 0 }
    | none => d
  | .lbind k slot unbind first w rate =>
    if unbind then match d.groups.find? fun x => x.2.kern == k.toNat && x.2.slot == slot.toNat with
      | some (g, _) => { d.unbindGroup g 0 with capo := { d.capo with standby := d.capo.standby.filter (· != g) } }
      | none => d
    else
      let g := first.toNat
      if (groupLanes g w.toNat).any fun L => (d.groupOf L).isSome || d.on (LANE_STAT_RETIRED L) then d
      else
        let d := d.formGroup g w.toNat { kern := k.toNat, slot := slot.toNat, maxRate := rate.toNat }
        { d with capo := { d.capo with standby := d.capo.standby ++ [g] } }
  | .lctl first w act arg =>
    let g := first.toNat
    if act.toNat == 3 || act.toNat == 4 then
      (d.updGroup g fun x => { x with maxRate := if act.toNat == 4 then arg.toNat else x.maxRate }).retrain g
    else if act.toNat < 3 then (d.laneAction act.toNat arg.toNat g (groupLanes g w.toNat)).2 else d
  | .dmago ch .. => { d with dmaLog := d.dmaLog ++ [⟨ch.toNat, q, e.seq, e.epoch, e.ident, c⟩] }
  | .tclear t => d.tableClear t.toNat
  | .tdrain t clear .. => if clear then d.tableClear t.toNat else d
  | .pegtake p _ => (d.takePeg p.toNat e.ident).2
  | .peggive p => (d.givePeg p.toNat e.ident).2
  | .epoch => d.inc (QU_EPOCH_EPOCH q)
  | _ => d

/-- COMMIT_RECORD (R424): the record enters the copy of the journal, its committed data and effects are applied, and it is
acknowledged; stops says that its failure halted the Lead's queue (R66). -/
def Dev.commitRecord (d : Dev) (q seq : Nat) (st : Status) (res : Word) (stamp : Nat) (writes : List (Nat × Nat × Byte))
    (params : List (Nat × Nat × Word)) (events : List (Nat × Nat)) (delta : List (Nat × Nat × Nat × Nat)) (gen : Nat) (stops : Bool) : Dev :=
  if !d.mirroring then d
  else match d.entry q seq with
    | none => d
    | some e =>
      let d := d.updEntry q seq fun e =>
        { e with stage := .completed, status := st, result := res, stamp := stamp, durable := true, fin := some (st, res) }
      let d := if st.bad then (if stops then d.set (QU_STAT_ERRSTOP q) else d)
        else
          let d := match e.cmd with
            | some c => d.commitEffect q e c gen
            | none => d
          let d := ((writes.map (·.1)).eraseDups).foldl (fun d b => match Dev.buffer d b with
            | some x => d.awaitRows (x.rows.filterMap id)
            | none => d) d
          let d := (d.applyStaged writes.reverse).mergeDelta delta.reverse
          let d := params.foldl (fun d (h, k, v) => match Dev.kernel d h with
            | some x => x.where.foldl (fun d t => Dev.setParam d t x.fret k v) d
            | none => d) d
          events.foldl (fun d (n, c) => Dev.wr d (EV_COUNT_COUNT n) c) d
      d.capoSend 0x22 [q, seq]

/-- POST_RECORD (R435): a later post stands in for the earlier ones, whose records are in place. -/
def Dev.postRecord (d : Dev) (q seq slot : Nat) : Dev :=
  if !d.mirroring then d
  else match d.entry q seq with
    | none => d
    | some e =>
      let x := d.queue q
      let x := { x with journal := x.journal.filter fun e => e.seq != seq }
      let d := d.wr (QU_DONE_SEQ_SEQ q) seq
      if e.recordDue then (d.setQueue q { x with posted := some (e, slot) }).wr (CQ_TAIL_TAIL q) (slot + 1)
      else d.setQueue q { x with posted := none }

/-- WRITE_RECORD (R425): a sealed row comes as it is stored (R487). -/
def Dev.writeRec (d : Dev) (dst : RecDst) (data : List Byte) : Dev :=
  let en := List.replicate data.length true
  if !d.mirroring then d
  else match dst with
    | .store a => (rowPieces a.toNat data.length).foldl (fun d (r, o, n) =>
        (Dev.writeRow (d.awaitRows [r]) r o ((data.drop (512 * r + o - a.toNat)).take n) (List.replicate n true)).2) d
    | .buffer b o => match d.buffer b.toNat with
      | some x =>
        let d := d.awaitRows (x.rows.filterMap id)
        if x.sealed && data.length == 560 then match x.rows.getD (o.toNat / 512) none with
          | some r => d.putStored r (data.map (·.toNat))
          | none => d
        else (d.bufWrite b.toNat o.toNat data en).2
      | none => d
    | .table t c j => match (d.table t.toNat).bind fun x => x.cols.find? fun y => y.1 == c.toNat with
      | some (_, rows) => match rows[j.toNat / 16]? with
        | some r => (d.awaitRows [r]).putWord (16 * r + j.toNat % 16) (data.take 32)
        | none => d
      | none => d

/-- A decision that this Shadow could not reproduce (R426). -/
def Dev.placeDiff (d : Dev) : Dev := d.set TWIN_STAT_PLACEDIFF

/-- The logical identifiers that a Lead's rectangle bears name the tiles of this Shadow's rectangle (R426). -/
def Dev.renumber (d : Dev) (lead own : Nat) (k : Kernel) : Dev :=
  (((rectTiles lead k.w k.h k.both).zip (rectTiles own k.w k.h k.both)).foldl (fun d (l, p) => Dev.swapRemap d (d.phys l) p) d)

/-- Load a kernel image that came from the Lead: at the place its record gives, else as in Free mode; a kernel that finds no
place stays cold (R426, R427). -/
def Dev.admitTwin (d : Dev) (h word0 : Nat) (i : Image) (w1 : Option Nat) (temps : List ColTemp) : Dev :=
  let a : Admission := ⟨bitsOf word0 16 2, word0.testBit 18, word0.testBit 19, none, ⟨true, 0, 0, i.keyslot.toNat⟩, word0⟩
  if d.load.isSome || (d.kernel h).isSome then d
  else
    let code := d.headerCode i (· == 2)
    match (if code = 0 then a.kernel i.desc else none) with
    | none => d.refuseLoad .twin 2 i.keyslot.toNat i.read code 0xFFFF
    | some k => match (w1.bind fun w => d.pickRecorded h k i.desc.onlyAnchor temps w) with
      | some (ens, x, f) => d.startLoad .twin i h word0 (some k) ens x f
      | none => match d.pickFree h k i.desc.onlyAnchor temps with
        | some (ens, x, f) =>
          let d := if w1.isSome then d.placeDiff else d
          let d := match w1, ens with
            | some w, none => d.renumber (bitsOf w 0 8) x k
            | _, _ => d
          d.startLoad .twin i h word0 (some k) ens x f
        | none =>
          ({ d with capo := { d.capo with cold := d.capo.cold ++ [(h, word0, i)] } }).raise
            { cls := .ochre, flag := TWIN_STAT_COLD, ukind := 12, uid := h }

/-- IMAGE_RECORD (R427), with what the sync stream says of the kernel. -/
def Dev.imageRecord (d : Dev) (h word0 : Nat) (i : Image) (temps : List ColTemp) (y : Option KSync) : Dev :=
  if !d.mirroring then d
  else
    let d := d.admitTwin h word0 i (KMap.find d.capo.placed h) temps
    match y, d.kernel h with
    | some y, some k =>
      let d := d.updKernel h fun k =>
        { k with binds := y.binds.foldl (fun m (s, kind, t) => KMap.put m s.toNat (⟨kind.toNat, t.toNat⟩ : Bind)) k.binds }
      let d := y.params.foldl (fun d (n, v) => k.where.foldl (fun d t => Dev.setParam d t k.fret n.toNat v) d) d
      let d := y.lanes.foldl (fun d (s, first, w, r) =>
        ({ Dev.formGroup d first.toNat w.toNat { kern := h, slot := s.toNat, maxRate := r.toNat } with
          capo := { d.capo with standby := d.capo.standby ++ [first.toNat] } })) d
      if y.rot.isEmpty then d else d.updEns (d.homeOf k) fun x => { x with rot := y.rot, rotating := true }
    | _, _ => d

/-- The command that a decision belongs to: the sync stream's, else one of the journal that has not committed. -/
def Dev.placedCmd (d : Dev) (cmd : Option Cmd) (p : Cmd → Bool) : Option Cmd :=
  match cmd with
  | some c => some c
  | none => (d.queues.map fun x => x.2.journal).flatten.findSome? fun e =>
    if e.stage = .completed then none else e.cmd.bind fun c => if p c then some c else none

/-- A kernel's ensemble moves on the Shadow (R128, R426): its kernels do not run, so it moves at once. -/
def Dev.moveTwin (d : Dev) (h w1 reason : Nat) : Dev :=
  match d.kernel h with
  | none => d
  | some k =>
    let a := d.homeOf k
    let dst := bitsOf w1 0 8
    match KMap.find d.ensembles a with
    | none => d
    | some e =>
      if k.released || !d.canMove a e dst then d.placeDiff
      else
        let ts := e.where a
        let d := ts.foldl (fun d t => (Dev.copyPlanes d t (t + dst - a)).copyMems t (t + dst - a)) d
        let d := { d with migrations := KMap.put d.migrations a ⟨h, a, dst, reason, 1, ts, ts⟩ }
        ((d.remapUpdate a).migrationResume dst).decided 5 reason h w1 0 dst k.fret

/-- A buffer takes rows on the Shadow: those the record gives, else those of Free mode. -/
def Dev.rowsTwin (d : Dev) (n w1 w2 : Nat) : Option (Nat × List Nat) × Dev :=
  match d.rowMap d.usedRows w1 n with
  | some rows => if rowsWord rows == w2 then (some (w1, rows), d) else (some (w1, rows), d.placeDiff)
  | none => (d.placeBuffer n, d.placeDiff)

/-- PLACEMENT_RECORD (R426). -/
def Dev.placementRecord (d : Dev) (w0 w1 w2 : Nat) (cmd : Option Cmd) : Dev :=
  let reason := bitsOf w0 8 8
  let h := bitsOf w0 16 24
  if !d.mirroring then d
  else match bitsOf w0 0 8 with
    | 1 => { d with capo := { d.capo with placed := KMap.put d.capo.placed h w1 } }
    | 2 => match d.placedCmd cmd fun c => match c with | .balloc b .. => b.toNat == h | _ => false with
      | some (.balloc _ commit mirror sealed key size) =>
        let n := (size.toNat + 511) / 512
        match d.rowsTwin n w1 w2 with
        | (some (mask, rows), d) =>
          let d := d.decided 2 0 h mask (rowsWord rows) 0 0
          let b : Buffer := ⟨cmd.isSome, commit, mirror, sealed, key.toNat, 512 * n, mask, rows.map some, false, 0⟩
          { d with buffers := KMap.put d.buffers h b }.wakeRows rows
        | (none, d) => d
      | _ => d
    | 3 => match d.placedCmd cmd fun c => match c with | .tsetup t .. => t.toNat == h | _ => false with
      | some (.tsetup _ kb commit mirror E _) =>
        let d2 := fun rows => let all := (rows.map (·.2) : List (List Nat)).flatten
          (d.decided 3 0 h (maskOf (rows.map (·.1))) (rowsWord all) 0 0).tableSetup h kb.toNat E.toNat commit mirror rows
        match d.tableRowsFor E.toNat (maskList w1) with
        | some rows => if rowsWord (rows.map (·.2)).flatten == w2 then d2 rows else (d2 rows).placeDiff
        | none => match (d.chooseCols E.toNat).bind fun cs => d.tableRowsFor E.toNat cs with
          | some rows => (d2 rows).placeDiff
          | none => d.placeDiff
      | _ => d
    | 4 => match d.kernel h with
      | some k => match d.ensembles.findSome? fun (ea, e) => (d.joinPlace h k ea e [] (some w1)).map fun x => (ea, x) with
        | some (ea, a, f) => d.joinKernel h k ea a f
        | none => d.placeDiff
      | none => d
    | 5 => d.moveTwin h w1 reason
    | 6 => match d.buffer h with
      | some b => match d.planMove b w1 with
        | some rows =>
          let d := if rowMapCrc rows + 2 ^ 32 * rows.length == w2 then d else d.placeDiff
          let d := (d.awaitRows (rows.filterMap id)).bufDecided reason h w1 rows
          let d := (List.range rows.length).foldl (fun d i => match rows.getD i none with
            | some r => Dev.moveRow d h i r
            | none => d) d
          d.updBuffer h fun b => { b with mask := w1 }
        | none => d.placeDiff
      | none => d
    | 7 => d.releaseKernel h
    | _ => d

/-- EVENT_RECORD (R422, R436, R437). -/
def Dev.eventRecord (d : Dev) (ev : Nat) (pulse : Bool) (ended : Option Nat) : Dev :=
  if !d.mirroring then d
  else
    let d := if pulse then d.eventInc ev else d
    match ended.bind fun ch => d.dmaLog.find? fun r => r.ch == ch with
    | some r => { d with dmaLog := d.dmaLog.erase r }
    | none => d

/-- TIME_RECORD (R443): the offset from the Lead, and the slew of at most 50 ppm that takes it away over a heartbeat period;
TBLOCK while the offset is within 20 ns. -/
def Dev.timeRecord (d : Dev) (ofs : Nat) : Dev :=
  if !d.mirroring then d
  else
    let o := signed 32 ofs
    let want := -(o * 3125)
    let d := { d with time := { d.time with slew := if 50000 < want then 50000 else if want < -50000 then -50000 else want } }
    (d.wr TWIN_TBOFS_OFS ofs).wr TWIN_STAT_TBLOCK (b2n (decide (-320 ≤ o ∧ o ≤ 320)))

/-! Acknowledgements at the Lead (R423, R424). -/

/-- JOURNAL_ACK. -/
def Dev.journalAck (d : Dev) (q seq : Nat) : Dev := if d.pairedLead then d.acceptOffered q seq else d

/-- COMMIT_ACK. -/
def Dev.commitAck (d : Dev) (q seq : Nat) : Dev :=
  if !d.telling then d
  else { d.updEntry q seq fun e => if e.stage = .completed then { e with durable := true } else e with
    capo := { d.capo with commits := d.capo.commits.filter (· != (q, seq)) } }

/-! Heartbeats (R430 to R432). -/

/-- HEARTBEAT_SEND (R430). -/
def Dev.heartbeat (d : Dev) : Dev :=
  if d.held || d.rd RESET_STAT_PHASE < 6 then d
  else
    let lvl := !d.capo.hbLevel
    let d := ({ d with capo := { d.capo with hbLevel := lvl } }).emit (.pin pinHeartbeat lvl)
    if d.on TWIN_STAT_CAPOUP && d.capo.keyOut && d.capo.keyIn then d.capoSend 3 [b2n d.warming, d.stamp] else d

/-- The Shadow fences its Lead (R433 step 1). -/
def Dev.fence (d : Dev) : Dev :=
  ({ d with capo := { d.capo with fenceOut := true, recovering := false } }).emit (.pin pinFence false)

/-- A device leaves a pair that was not yet Paired (R432). -/
def Dev.abandon (d : Dev) : Dev :=
  let d := if d.rd TWIN_STAT_ROLE == 1 then d.shadowForget else d
  (((d.pairEvent .ochre).clr TWIN_STAT_STATE).clr TWIN_STAT_TBLOCK).rejoin

/-- The pin path is silent. -/
def Dev.pinSilent (d : Dev) : Dev :=
  if d.on TWIN_STAT_PIN_SILENT then d
  else (d.incSat TWIN_ERR_COUNT).raise { cls := .ochre, flag := TWIN_STAT_PIN_SILENT, ukind := 12 }

/-- HEARTBEAT_SILENCE (R431, R432). -/
def Dev.silence (d : Dev) (capo pin : Bool) : Dev :=
  let st := d.rd TWIN_STAT_STATE
  if d.capo.fenceOut || d.held then d
  else if st == 1 || st == 2 then
    if capo then d.abandon else if pin then d.pinSilent else d
  else if st ≠ 3 then d
  else if !capo then (if pin then d.pinSilent else d)
  else if d.rd TWIN_STAT_ROLE == 0 then (d.leadAlone.wr TWIN_STAT_STATE 4).rejoin
  else if pin then d.fence
  else ((d.standbyIdle.clr TWIN_STAT_STATE).clr TWIN_STAT_TBLOCK).rejoin

/-! The held state and takeover (R433 to R442). -/

/-- FENCE_INPUT (R433): TWIN_FENCE_N is low on a device whose role is Lead. -/
def Dev.fenceInput (d : Dev) : Dev :=
  if d.rd TWIN_STAT_ROLE ≠ 0 || d.capo.fenceOut || d.held then d
  else
    let d := { d.wr TWIN_STAT_STATE 6 with
      held := true
      io := d.io.map fun x : Nat × IoSt => (x.1, { x.2 with drive := false }) }
    let d := (List.range 144).foldl (fun d L =>
      if Dev.rd d (LANE_STAT_PSTATE L) == 0 then d else (d.laneTo L 1).clr (LANE_STAT_SYNC L)) d
    (d.clr TWIN_STAT_CAPOUP).emit (.pin pinAlarm false)

/-- The commands of a queue that a replay executes again (R433 step 3): those without a commit record. -/
def redoEntry (twin : Bool) (e : Entry) : Entry :=
  if e.stage = .completed then e
  else
    { e with stage := .accepted, status := .ok, result := 0, stamp := 0, started := 0, replay := twin
             fin := if seqOpcode e.opcode then e.fin else none, aux := [], staged := [], delta := [], wrote := [], mute := false, env := .none }

/-- Replay a queue: how many commands it executes again, and the queue, its epoch advanced once when there are any. -/
def Dev.replayQueue (d : Dev) (twin : Bool) (q : Nat) : Nat × Dev :=
  let x := d.queue q
  let n := (x.journal.filter fun e => e.stage != .completed).length
  let d := d.setQueue q { x with journal := x.journal.map (redoEntry twin) }
  let d := if n = 0 then d else d.inc (QU_EPOCH_EPOCH q)
  (n, (d.wr (QU_DOORBELL_TAIL q) (d.rd (ACCEPT_INDEX_INDEX q))).refetch q)

/-- Replay every queue. -/
def Dev.replayAll (d : Dev) (twin : Bool) : Nat × Dev :=
  d.queues.foldl (fun (n, d) (q, _) => let (m, d) := Dev.replayQueue d twin q; (n + m, d)) (0, d)

/-- The last record the Shadow knows of stands in its slot to be posted again (R435). -/
def Dev.repost (d : Dev) (q : Nat) : Dev :=
  let x := d.queue q
  match x.posted with
  | none => d
  | some (e, slot) => (d.setQueue q { x with journal := e :: x.journal, posted := none }).wr (CQ_TAIL_TAIL q) slot

/-- Transfers with no record of ending well start again from their first byte, in their order (R436). -/
def Dev.redoDma (d : Dev) : Dev :=
  let d := { d with dmaRedo := d.dmaLog, xfers := [], dma := {}, armers := [] }
  (List.range 64).foldl (fun d ch => (Dev.dmaAgain d ch).dmaAgain ch) d

/-- FENCE_WAIT_END (R433 steps 2 to 4, R435 to R437): the Shadow promotes itself, replays its journal, and re-homes its groups.
hostDma: transfers that hosts had started on the old Lead are lost. -/
def Dev.promote (d : Dev) (hostDma : Bool) : Dev :=
  if !d.capo.fenceOut || d.rd TWIN_STAT_ROLE ≠ 1 then d
  else
    let d := ((d.clr TWIN_STAT_ROLE).wr TWIN_STAT_STATE 5).clr TWIN_STAT_TBLOCK
    let d := { d.sessionEnd with time := { d.time with slew := 0 } }
    let d := (List.range 64).foldl (fun d n => if Dev.on d (PEG_STAT_HELD n) then d.orphanPeg n else d) d
    let (n, d) := d.replayAll true
    let d := d.queues.foldl (fun d (q, _) => Dev.repost d q) d
    let d := (d.wr TWIN_TAKEOVER_RERUN (min n 65535)).redoDma
    let d := if hostDma then (d.incSat TWIN_ERR_COUNT).set TWIN_ERR_DMALOST else d
    let d := d.capo.standby.foldl (fun d g => Dev.rehome d g) d
    let cold := d.capo.cold
    cold.foldl (fun d (h, w, i) => Dev.admitTwin d h w i none []) { d with capo := { d.capo with cold := [] } }

/-- TAKEOVER_RESUME (R433 step 5, R438, R439). -/
def Dev.takeoverEnd (d : Dev) (replayUs totalUs : Nat) (limit : Bool) : Dev :=
  let home := d.capo.standby.all fun g => match d.group g with | some x => x.gotInit | none => true
  if d.rd TWIN_STAT_STATE ≠ 5 || !(home || limit) then d
  else
    let d := { d.wr TWIN_STAT_STATE 4 with capo := { d.capo with standby := [], placed := [] } }
    let d := (d.wr TWIN_TAKEOVER_REPLAY replayUs).wr TWIN_TAKEOVER_TOTAL totalUs
    let d := d.twinEvent .ochre TWIN_ERR_TAKEOVER
    let msg := fun (d : Dev) p => if d.on (PORT_STAT_LINKUP p.num) then d.msix p (d.rd TWIN_CTL_VEC) else d
    (msg (msg d .a) .b).capoStart

/-- WARM_LIMIT_EXPIRY (R431, R441). -/
def Dev.warmLimit (d : Dev) : Dev :=
  if d.pairedShadow && d.capo.recovering && !d.capo.fenceOut then d.fence else d

/-! TWIN_CTL. -/

/-- A SWAP or FORCE that the device's state does not allow (R442). -/
def Dev.badCtl (d : Dev) : Dev := (d.incSat TWIN_ERR_COUNT).set TWIN_ERR_BADCTL

/-- EN becomes 0: the device leaves its pair, and its Capo lanes are Muted (R416, R417). -/
def Dev.unpair (d : Dev) : Dev :=
  if d.rd TWIN_STAT_STATE == 5 || d.held then d
  else
    let d := if d.telling then d.leadAlone else if d.mirroring then d.standbyIdle else d
    (d.sessionEnd.clr TWIN_STAT_STATE).capoDrop 0

/-- A write of TWIN_CTL. -/
def Dev.twinCtlWrite (d : Dev) (w : RegWr) : Dev :=
  let was := d.on TWIN_CTL_EN
  let d := [TWIN_CTL_EN, TWIN_CTL_KEYSLOT, TWIN_CTL_AUTOJOIN, TWIN_CTL_WARM_LIMIT, TWIN_CTL_VEC].foldl (fun d f => Dev.take d w f) d
  let d := if was && !d.on TWIN_CTL_EN then d.unpair else if !was && d.on TWIN_CTL_EN then d.capoStart else d
  let d := if !w.one TWIN_CTL_SWAP then d
    else if d.pairedLead then ({ d with capo := { d.capo with swapping := true } }).trySwap else d.badCtl
  let d := if !w.one TWIN_CTL_FORCE then d
    else if d.pairedShadow && !d.capo.fenceOut then d.fence else d.badCtl
  if w.one TWIN_CTL_UNFENCE && d.capo.fenceOut && d.rd TWIN_STAT_ROLE == 0 then
    ({ d with capo := { d.capo with fenceOut := false } }).emit (.pin pinFence true)
  else d

/-! Meanings. -/

/-- HELLO (R420): a CTR and a TAG of 0, the wrapped key first in its payload. -/
def execHello (role : Bool) (state : BitVec 3) (payload : List Byte) (crc : BitVec 32) (s : State) : Result :=
  s.next (s.dev.hello role state.toNat payload crc.toNat)

/-- CAPO_DATA (R421): the payload and the TAG; its records arrive as commands of their own. -/
def execCapoData (ctr : BitVec 96) (body : List Byte) (crc : BitVec 32) (s : State) : Result :=
  s.next (s.dev.capoFrame 1 0 ctr.toNat (body.take (body.length - 16)) (body.drop (body.length - 16)) crc.toNat id)

/-- CAPO_ACK (R421): the first 12 bytes of its payload, once decrypted, are the counter it acknowledges. -/
def execCapoAck (ctr : BitVec 96) (payload : List Byte) (tag : BitVec 128) (crc : BitVec 32) (s : State) : Result :=
  s.next (s.dev.capoFrame 2 0 ctr.toNat payload (bytesLE 16 tag.toNat) crc.toNat fun d =>
    d.capoAcked (numLE ((capoCipher d.capo.rxKey ctr.toNat payload).take 12)))

/-- HB (R430): its FLAGS carry RECOVERING. -/
def execHb (ctr : BitVec 96) (recovering : Bool) (payload : List Byte) (tag : BitVec 128) (crc : BitVec 32) (s : State) : Result :=
  s.next (s.dev.capoFrame 3 (b2n recovering) ctr.toNat payload (bytesLE 16 tag.toNat) crc.toNat fun d =>
    { d with capo := { d.capo with recovering := recovering } })

/-- CAPO_REPLAY_TIMEOUT (R421). -/
def execCapoReplayTimeout (s : State) : Result := s.next s.dev.capoResend

/-- CAPO_ACK_TIMER (R421). -/
def execCapoAckTimer (s : State) : Result :=
  s.next (if s.dev.on TWIN_STAT_CAPOUP && s.dev.capo.keyIn && s.dev.capo.keyOut && !s.dev.held then s.dev.capoAck else s.dev)

/-- JOURNAL_RECORD (R423). -/
def execJournalRecord (q : QId) (seq : BitVec 48) (epoch : BitVec 8) (words : List Word) (s : State) : Result :=
  s.next (s.dev.journalRecord q.val seq.toNat epoch.toNat words)

/-- JOURNAL_ACK (R423). -/
def execJournalAck (q : QId) (seq : BitVec 48) (s : State) : Result := s.next (s.dev.journalAck q.val seq.toNat)

/-- COMMIT_RECORD (R424). -/
def execCommitRecord (q : QId) (seq : BitVec 48) (status : RecStatus) (result stamp : Word) (writes : List (BitVec 24 × BitVec 28 × Byte))
    (params : List (BitVec 16 × BitVec 4 × Word)) (events : List (BitVec 8 × BitVec 16)) (delta : List (BitVec 3 × BitVec 48 × BitVec 22))
    (gen : BitVec 32) (s : State) : Result :=
  s.next (s.dev.commitRecord q.val seq.toNat status.st result stamp.toNat (writes.map fun (b, o, x) => (b.toNat, o.toNat, x))
    (params.map fun (k, n, v) => (k.toNat, n.toNat, v)) (events.map fun (e, n) => (e.toNat, n.toNat))
    (delta.map fun (t, k, v) => (t.toNat, 0, k.toNat, v.toNat)) gen.toNat status.stops)

/-- COMMIT_ACK (R424). -/
def execCommitAck (q : QId) (seq : BitVec 48) (s : State) : Result := s.next (s.dev.commitAck q.val seq.toNat)

/-- POST_RECORD (R435). -/
def execPostRecord (q : QId) (seq : BitVec 48) (slot : BitVec 32) (s : State) : Result :=
  s.next (s.dev.postRecord q.val seq.toNat slot.toNat)

/-- WRITE_RECORD (R425). -/
def execWriteRecord (dst : RecDst) (data : List Byte) (s : State) : Result := s.next (s.dev.writeRec dst data)

/-- IMAGE_RECORD (R427). -/
def execImageRecord (kern : BitVec 16) (word0 : BitVec 32) (img : Image) (temps : List ColTemp) (stands : Option KSync)
    (s : State) : Result :=
  s.next (s.dev.imageRecord kern.toNat word0.toNat img temps stands)

/-- PLACEMENT_RECORD (R426). -/
def execPlacementRecord (w0 w1 w2 _w3 : Word) (cmd : Option Cmd) (s : State) : Result :=
  s.next (s.dev.placementRecord w0.toNat w1.toNat w2.toNat cmd)

/-- EVENT_RECORD (R422). -/
def execEventRecord (ev : BitVec 8) (pulse : Bool) (ended : Option (BitVec 6)) (s : State) : Result :=
  s.next (s.dev.eventRecord ev.toNat pulse (ended.map (·.toNat)))

/-- TIME_RECORD (R443). -/
def execTimeRecord (ofs : BitVec 32) (s : State) : Result := s.next (s.dev.timeRecord ofs.toNat)

/-- SYNC_COMPLETE (R417). -/
def execSyncComplete (paths : List QPath) (s : State) : Result := s.next (s.dev.syncComplete paths)

/-- HEARTBEAT_SEND (R430). -/
def execHeartbeatSend (s : State) : Result := s.next s.dev.heartbeat

/-- HB_PIN_EDGE (R430): the pin path is live. -/
def execHbPinEdge (s : State) : Result := s.next (s.dev.clr TWIN_STAT_PIN_SILENT)

/-- HEARTBEAT_SILENCE (R431). -/
def execHeartbeatSilence (capo pin : Bool) (s : State) : Result := s.next (s.dev.silence capo pin)

/-- FENCE_INPUT (R433). -/
def execFenceInput (s : State) : Result := s.next s.dev.fenceInput

/-- FENCE_WAIT_END (R433). -/
def execFenceWaitEnd (hostDma : Bool) (s : State) : Result := s.next (s.dev.promote hostDma)

/-- TAKEOVER_RESUME (R433). -/
def execTakeoverResume (replayUs totalUs : BitVec 16) (limit : Bool) (s : State) : Result :=
  s.next (s.dev.takeoverEnd replayUs.toNat totalUs.toNat limit)

/-- WARM_LIMIT_EXPIRY (R441). -/
def execWarmLimitExpiry (s : State) : Result := s.next s.dev.warmLimit

/-- TWIN_SWAP (R442): a write of TWIN_CTL. -/
def execTwinSwap (w : RegWr) (s : State) : Result := s.next (s.dev.onWrite (.twinSwap w) w.src 0x400000 fun d => d.twinCtlWrite w)

/-- TWIN_FORCE (R442): a write of TWIN_CTL. -/
def execTwinForce (w : RegWr) (s : State) : Result := s.next (s.dev.onWrite (.twinForce w) w.src 0x400000 fun d => d.twinCtlWrite w)

end Sys2Proof.Machine
end

