-- ==== Sys2Proof/Machine/Errors.lean ====
section
/-!
DEFINITION. Errors, scrubbing and retirement (chapter 18): the error ring and its registers, leaky buckets' falls, retirement by
a host, bond tests and spares, the scrubber's checks and repairs, and triplicated words (R448 to R474).
-/
namespace Sys2Proof.Machine

/-! The error ring (R451, R452). -/

/-- Records the ring holds. -/
def ringRecords : Nat := 1024

/-- Records written and not yet read. -/
def Dev.unreadRecords (d : Dev) : Nat := (d.rd ERR_TAIL_TAIL + 2 ^ 32 - d.rd ERR_HEAD_HEAD) % 2 ^ 32

/-- The words of a record in its slot (R449). -/
def Dev.ringWords (d : Dev) (e : ErrRec) : List Nat :=
  [e.w0 + 4 * ((d.rd ERR_TAIL_TAIL / ringRecords + 1) % 2), e.w1, e.w2, e.w3]

/-- The messages that follow a record (R452). -/
def Dev.recordMsix (d : Dev) (c : EvClass) : Dev :=
  if (d.on ERR_CTL_IRQ_OCHRE && c != .slate) || (d.on ERR_CTL_IRQ_CRIMSON && c == .crimson) then
    let msg := fun (d : Dev) (p : Port) v => if d.on (PORT_STAT_LINKUP p.num) then d.msix p v else d
    msg (msg d .a (d.rd ERR_CTL_VEC_A)) .b (d.rd ERR_CTL_VEC_B)
  else d

/-- ERROR_RECORD_WRITE_DONE (R451): the write of the oldest record ends; o is the answer of a host. A write into a bank that
wakes, or during a store-die reset, has not ended yet (R272, R276). -/
def Dev.recordDone (d : Dev) (o : Outc) : Dev :=
  match d.errq with
  | [] => d
  | e :: rest =>
    let d := { d with errq := rest }
    if !d.on ERR_CTL_EN || ringRecords ≤ d.unreadRecords then d.dropRecord e.cls
    else
      let a := 32 * d.rd ERR_RING_BASE + 32 * (d.rd ERR_TAIL_TAIL % ringRecords)
      let fails : Bool := match addrSpace a with
        | .host _ _ => o != .ok
        | _ => false
      let (d2, o) := if fails then (match addrSpace a with
          | .host p _ => d.deviceFail p a
          | _ => d, some Outc.busError)
        else d.writeRecord .device controlCol a (wordBytes (d.ringWords e))
      match o with
      | none => { d2 with errq := e :: d2.errq }
      | some .ok => (d2.inc ERR_TAIL_TAIL).recordMsix e.cls
      | some _ => d2.dropRecord e.cls

/-- A write of ERR_CTL. -/
def Dev.errCtlWrite (d : Dev) (w : RegWr) : Dev :=
  let was := d.on ERR_CTL_EN
  let d := [ERR_CTL_EN, ERR_CTL_IRQ_OCHRE, ERR_CTL_IRQ_CRIMSON, ERR_CTL_VEC_A, ERR_CTL_VEC_B].foldl (fun d f => Dev.take d w f) d
  if !was && d.on ERR_CTL_EN then (d.clr ERR_HEAD_HEAD).clr ERR_TAIL_TAIL else d

/-- A write of ERR_RING: ignored while EN is 1. -/
def Dev.errRingWrite (d : Dev) (w : RegWr) : Dev := if d.on ERR_CTL_EN then d else d.take w ERR_RING_BASE

/-- A write of ERR_HEAD. -/
def Dev.errHeadWrite (d : Dev) (w : RegWr) : Dev :=
  let h := d.wval w ERR_HEAD_HEAD
  if !w.touches ERR_HEAD_HEAD then d
  else if (d.rd ERR_TAIL_TAIL + 2 ^ 32 - h) % 2 ^ 32 ≤ ringRecords then d.wr ERR_HEAD_HEAD h else d.set ERR_STAT_HEADERR

/-- A write of ERR_DROP. -/
def Dev.errDropWrite (d : Dev) (w : RegWr) : Dev :=
  if w.one ERR_DROP_CLR then ((d.clr ERR_DROP_SLATE).clr ERR_DROP_OCHRE).clr ERR_DROP_CRIMSON else d

/-! Buckets and retirement by a host (R454 to R457). -/

/-- The kinds that ERR_BKT_CFGk and ERR_RETIRE name. -/
def kindOf : Nat → Option UnitKind
  | 0 => some .tile | 1 => some .bank | 2 => some .lane | 3 => some .link | 4 => some .string | _ => none

/-- A UID names a unit of a kind (R450). -/
def unitNamed (k : UnitKind) (u : Nat) : Bool :=
  match k with
  | .string => (stringOf u).isSome
  | k => decide (u < unitCount k)

/-- BUCKET_FALL (R454). -/
def Dev.bucketFall (d : Dev) (k : UnitKind) (u : Nat) : Dev := if d.isRetired k u then d else d.setBucket k u (d.settled k u)

/-- A write of ERR_BKT_Q (R455). -/
def Dev.bktQWrite (d : Dev) (w : RegWr) : Dev :=
  let d := (d.take w ERR_BKT_Q_KIND).take w ERR_BKT_Q_UID
  if w.one ERR_BKT_Q_CLR then match kindOf (d.rd ERR_BKT_Q_KIND) with
    | some k => d.setBucket k (d.rd ERR_BKT_Q_UID) { count := 0, last := d.nowNs }
    | none => d
  else d

/-- A write of ERR_BKT_CFGk (R455): counts are kept; a fall whose new time has already passed comes at once. -/
def Dev.bktCfgWrite (d : Dev) (n : Nat) (w : RegWr) : Dev :=
  match kindOf n with
  | none => d
  | some k =>
    let units := d.buckets.filterMap fun x => if x.1 / 2 ^ 24 = n && !d.isRetired k (x.1 % 2 ^ 24) then some (x.1 % 2 ^ 24) else none
    let d := units.foldl (fun d u => Dev.bucketFall d k u) d
    let d := (d.take w (ERR_BKT_CFG_THRESH n)).take w (ERR_BKT_CFG_WINDOW n)
    units.foldl (fun d u =>
      let b := Dev.bucket d k u
      if d.fallTime k ≤ d.nowNs - b.last then d.setBucket k u { count := b.count - 1, last := d.nowNs } else d) d

/-- A write of ERR_RETIRE (R457). -/
def Dev.retireWrite (d : Dev) (w : RegWr) : Dev :=
  if !w.one ERR_RETIRE_GO then d
  else
    let u := w.ones ERR_RETIRE_UID
    match (kindOf (w.ones ERR_RETIRE_KIND)).filter fun k => unitNamed k u && !d.isRetired k u && !(k == .string && (d.string u).exhausted) with
    | some .string => d.exhaust u
    | some k => d.retire k u 2
    | none => d.raise { cls := .slate, flag := ERR_STAT_RETERR }

/-! Strings (R460 to R464). -/

/-- A spare that carries no signal and did not fail its last test. -/
def StringSt.freeSpare (s : StringSt) : Option Nat :=
  [64, 65, 66, 67].find? fun b => !(s.spared.any fun x => x.2.1 == b) && !s.failed.contains b

/-- A signal's failed test counts (R461). -/
def Dev.signalFails (d : Dev) (uid sig : Nat) : Dev :=
  let d := d.countUp .string uid
  (d.wr BOND_STAT_LAST uid).raise
    { cls := .ochre, flag := ERR_STAT_SPARED, ukind := 5, uid := uid, detail := sig }

/-- At THRESH every signal on a spare stays there for good, and the count returns to 0 (R462). -/
def Dev.stringLasting (d : Dev) (uid : Nat) : Dev :=
  if d.thresh .string ≠ 0 && decide (d.thresh .string ≤ (d.bucket .string uid).count) then
    let s := d.string uid
    (d.setString uid { s with spared := s.spared.map fun x => (x.1, x.2.1, true) }).setBucket .string uid { count := 0, last := d.nowNs }
  else d

/-- A signal moves to a free, working spare, or the string is exhausted (R461, R463). -/
def Dev.spareSignal (d : Dev) (uid sig : Nat) : Dev :=
  let s := d.string uid
  match s.freeSpare with
  | some b => (d.setString uid { s with spared := s.spared ++ [(sig, b, false)] }).inc BOND_STAT_SPARED
  | none => d.exhaust uid

/-- A bond of a string fails its test: a signal's own bond, or a spare with or without a signal on it. -/
def Dev.bondFails (d : Dev) (uid b : Nat) : Dev :=
  let s := d.string uid
  if s.exhausted then d
  else if 64 ≤ b then
    let s2 := { s with failed := if s.failed.contains b then s.failed else s.failed ++ [b] }
    match s.spared.find? fun x => x.2.1 == b with
    | none => d.setString uid s2
    | some (sig, _, _) =>
      let d := (d.setString uid { s2 with spared := s.spared.filter fun x => x.2.1 != b }).wr BOND_STAT_SPARED (d.rd BOND_STAT_SPARED - 1)
      ((d.signalFails uid sig).spareSignal uid sig).stringLasting uid
  else match s.spared.find? fun x => x.1 == b with
    | some (_, _, true) => d
    | some _ => ((d.setString uid { s with passes := KMap.del s.passes b }).signalFails uid b).stringLasting uid
    | none => ((d.signalFails uid b).spareSignal uid b).stringLasting uid

/-- A bond of a string passes its test: a spare is usable again; a signal's own bond comes nearer to carrying it (R462). -/
def Dev.bondPasses (d : Dev) (uid b : Nat) : Dev :=
  let s := d.string uid
  if s.exhausted then d
  else if 64 ≤ b then d.setString uid { s with failed := s.failed.filter (· != b) }
  else match s.spared.find? fun x => x.1 == b with
    | some (_, _, false) =>
      let n := KMap.get s.passes b 0 + 1
      if d.thresh .string ≤ n && (d.settled .string uid).count == 0 then
        let d := d.setString uid { s with spared := s.spared.filter fun x => x.1 != b, passes := KMap.del s.passes b }
        (d.wr BOND_STAT_SPARED (d.rd BOND_STAT_SPARED - 1)).raise
          { cls := .slate, flag := ERR_STAT_RESTORED, ukind := 5, uid := uid, detail := b }
      else d.setString uid { s with passes := KMap.put s.passes b n }
    | _ => d

/-- A test of a string (R460 to R463): the bonds that fail, then those that pass. -/
def Dev.stringTest (d : Dev) (uid : Nat) (fails passes : List Nat) : Dev :=
  if (stringOf uid).isNone then d
  else passes.foldl (fun d b => Dev.bondPasses d uid b) (fails.foldl (fun d b => Dev.bondFails d uid b) d)

/-! Scrubbing (R465 to R472). -/

/-- The scrubber works: outside Rest and the held state, once DONE. -/
def Dev.scrubs (d : Dev) : Bool := d.on CFG_STAT_DONE && !d.held && d.rd CLK_REST_STATE == 0

/-- The kernel handle an event of a fret names, or 0. -/
def Dev.fretHandle (d : Dev) (t f : Nat) : Nat := match d.kernelAt t f with | some (h, _) => h | none => 0

/-- STORED_PLANE_CHECK (R465): failing frames wait for their repair; frames of a load in progress are not checked (R470). -/
def Dev.planeCheck (d : Dev) (t f : Nat) (frames : List Nat) (stateBad passEnd : Bool) : Dev :=
  if !d.on SCRUB_CTL_STORED_EN || !d.scrubs then d
  else
    let loading := match d.load with
      | some l => l.fret == f && !l.committed && (l.desc.covers l.anchor).contains t
      | none => false
    let bad := if loading then [] else (frames.map fun u => 8192 * f + 32 * t + u).filter fun a => !d.badFrames.contains a
    let d := { d with badFrames := d.badFrames ++ bad }
    let d := if stateBad && !loading && d.shown t != f then d.stateBad (((d.ensembleOf t).map (·.1)).getD t) t f else d
    if passEnd then d.inc SCRUB_STAT_PASSES else d

/-- The record of frame a in the image that kernel h was loaded from, where that image lies in the device (R466): whether its read ends well and
its contents have the CRC of the frame as it was committed. A record in the store is read there; o is how a read of the image store ends. -/
def Dev.recordAt (d : Dev) (h a : Nat) (o : Outc) : Option (Bool × Dev) :=
  match d.kernel h with
  | none => none
  | some k => (d.sourceBytes k.src).map fun bs =>
    let i := readImage d.keyBytes .ok bs
    match recordIn (fun ia => i.desc.target k.fret k.anchor ia == some a) 0 0 i.body with
    | none => (false, d)
    | some (n, x) =>
      let (o, d) := match n with
        | none => (Outc.ok, d)
        | some n => match addrSpace k.src.addr with
          | .store b => if k.src.host then ((d.storeBytes (b + fieldLE bs 6 2 + n) 3400).2) else (o, d)
          | _ => (o, d)
      (o == .ok && crc32 (bytesLE 3392 x.toNat) == crc32 (bytesLE 3392 (KMap.get d.frames a 0).toNat), d)

/-- FRAME_REPAIR (R466, R467): zeros where the frame's tile and fret hold no kernel, so that its source is zeros. The operands speak for a source
outside the device. -/
def Dev.frameRepair (d : Dev) (a : Nat) (o : Outc) (crcMatches : Bool) : Dev :=
  let t := a / 32 % 256
  let f := a / 8192
  let h := d.fretHandle t f
  let read := (d.recordAt h a o).getD (o == .ok && crcMatches, d)
  let d := if d.badFrames.contains a && h != 0 then read.2 else d
  if !d.badFrames.contains a then d
  else if h == 0 || read.1 then
    ((({ d with badFrames := d.badFrames.filter (· != a) }).incSat SCRUB_STAT_REPAIRS).raiseCounted
      { cls := .ochre, flag := ERR_STAT_PLANEFIX, ukind := 1, uid := t, detail := a + 2 ^ 32 * h } .tile t)
  else
    (d.releaseKernel h).raise { cls := .crimson, flag := ERR_STAT_PLANELOST, ukind := 1, uid := t, detail := a + 2 ^ 32 * h }

/-- The scrubber's comparison of a tile's active and next planes is interrupted by a preload or a switch: it is abandoned, and made again
afterwards (R188). -/
def Dev.readbackYields (d : Dev) (t : Nat) : Bool :=
  match d.ensembleOf t with
  | some (_, e) => e.preload.isSome || e.phase == 3
  | none => false

/-- LATCH_READBACK (R188, R468, R469). -/
def Dev.readback (d : Dev) (t : Nat) (activeBad nextBad : Bool) : Dev :=
  if !d.on SCRUB_CTL_LATCH_EN || !d.scrubs || d.readbackYields t then d
  else
    let repairs := fun (d : Dev) f => d.badFrames.any fun a => a / 32 == 256 * f + t
    let g := d.rd (FRET_STAT_NEXT t)
    let d := if nextBad && d.on (FRET_STAT_NEXTV t) && !repairs d g then
        ((d.clr (FRET_STAT_NEXTV t)).incSat SCRUB_STAT_MISMATCHES).raiseCounted
          { cls := .ochre, flag := ERR_STAT_RBNEXT, ukind := 1, uid := t, detail := fretDetail t g (d.fretHandle t g) } .tile t
      else d
    let f := d.shown t
    if !activeBad || repairs d f then d
    else
      let h := d.fretHandle t f
      let d := match d.ensembleOf t with
        | some (a, _) => d.trigger a (.refresh (h != 0))
        | none => d
      (d.incSat SCRUB_STAT_MISMATCHES).raiseCounted
        { cls := if h == 0 then .ochre else .crimson, flag := ERR_STAT_RBACTIVE, ukind := 1, uid := t, detail := fretDetail t f h } .tile t

/-- SCRUB_VOTE (R471). -/
def Dev.scrubVote (d : Dev) (allDiffer : Bool) : Dev :=
  d.raise { cls := if allDiffer then .ochre else .slate, flag := ERR_STAT_SCRUBVOTE }

/-- TRIPLICATE_SWEEP (R473, R474): a triplicated word is read; one copy differs, or all three do. -/
def Dev.sweep (d : Dev) (x : TriWord) (lost : Bool) : Dev :=
  if x = .scrubber then d.scrubVote lost
  else if !lost then d.raise { cls := .ochre, flag := ERR_STAT_TRIFIX }
  else
    let d := d.raise { cls := .crimson, flag := ERR_STAT_TRILOST }
    match x with
    | .journal q => { d.set (QU_STAT_FAULT q.val) with lostJournals := d.lostJournals ++ [q.val] }
    | .bankOwn n => d.retire .bank n.val 3
    | .placementRoot => { d with rootLost := true }
    | .lifeCycle => { d with lcLost := true }
    | .scrubber => d

/-! Meanings. -/

/-- ERROR_RECORD_WRITE_DONE (R451). -/
def execErrorRecordWriteDone (o : Outc) (s : State) : Result := s.next (s.dev.recordDone o)

/-- ERR_CTL_WRITE (R451). -/
def execErrCtlWrite (w : RegWr) (s : State) : Result := s.next (s.dev.onWrite (.errCtlWrite w) w.src 0x3C0000 fun d => d.errCtlWrite w)

/-- ERR_HEAD_WRITE (R451). -/
def execErrHeadWrite (w : RegWr) (s : State) : Result := s.next (s.dev.onWrite (.errHeadWrite w) w.src 0x3C0010 fun d => d.errHeadWrite w)

/-- ERR_RETIRE_GO (R457): a write of ERR_RETIRE. -/
def execErrRetireGo (w : RegWr) (s : State) : Result := s.next (s.dev.onWrite (.errRetireGo w) w.src 0x3C0078 fun d => d.retireWrite w)

/-- ERR_BKT_CLR (R455): a write of ERR_BKT_Q. -/
def execErrBktClr (w : RegWr) (s : State) : Result := s.next (s.dev.onWrite (.errBktClr w) w.src 0x3C0068 fun d => d.bktQWrite w)

/-- ERR_BKT_CFG_WRITE (R455). -/
def execErrBktCfgWrite (k : Fin 5) (w : RegWr) (s : State) : Result :=
  s.next (s.dev.onWrite (.errBktCfgWrite k w) w.src (0x3C0040 + 8 * k.val) fun d => d.bktCfgWrite k.val w)

/-- ERR_DROP_CLR (R451): a write of ERR_DROP. -/
def execErrDropClr (w : RegWr) (s : State) : Result := s.next (s.dev.onWrite (.errDropClr w) w.src 0x3C0030 fun d => d.errDropWrite w)

/-- BUCKET_FALL (R454). -/
def execBucketFall (kind : UnitKind) (uid : BitVec 24) (s : State) : Result := s.next (s.dev.bucketFall kind uid.toNat)

/-- BOND_TEST (R460). -/
def execBondTest (uid : BitVec 24) (fails passes : List (BitVec 7)) (s : State) : Result :=
  s.next (if s.dev.on SCRUB_CTL_BOND_EN then s.dev.stringTest uid.toNat (fails.map (·.toNat)) (passes.map (·.toNat)) else s.dev)

/-- OUT_OF_TURN_TEST (R464). -/
def execOutOfTurnTest (uid : BitVec 24) (fails passes : List (BitVec 7)) (s : State) : Result :=
  s.next (s.dev.stringTest uid.toNat (fails.map (·.toNat)) (passes.map (·.toNat)))

/-- STORED_PLANE_CHECK (R465). -/
def execStoredPlaneCheck (tile : TileId) (fret : BitVec 3) (frames : List (BitVec 5)) (stateBad passEnd : Bool) (s : State) : Result :=
  s.next (s.dev.planeCheck tile.toNat fret.toNat (frames.map (·.toNat)) stateBad passEnd)

/-- FRAME_REPAIR (R466). -/
def execFrameRepair (addr : BitVec 16) (o : Outc) (crcMatches : Bool) (s : State) : Result :=
  s.next (s.dev.frameRepair addr.toNat o crcMatches)

/-- LATCH_READBACK (R468). -/
def execLatchReadback (tile : TileId) (activeBad nextBad : Bool) (s : State) : Result :=
  s.next (s.dev.readback tile.toNat activeBad nextBad)

/-- TRIPLICATE_SWEEP (R473). -/
def execTriplicateSweep (word : TriWord) (lost : Bool) (s : State) : Result := s.next (s.dev.sweep word lost)

/-- SCRUB_VOTE (R471). -/
def execScrubVote (allDiffer : Bool) (s : State) : Result := s.next (s.dev.scrubVote allDiffer)

end Sys2Proof.Machine
end

