-- ==== Sys2Proof/Machine/Security.lean ====
section
/-!
DEFINITION. Key slots and the life cycle (R475 to R479, R488 to R491).
-/
namespace Sys2Proof.Machine

/-! Key slots. -/

/-- A slot operation or a state change is refused (R477, R489, R490): REASON 0 life cycle, 1 slot state, 2 slot in use, 3 busy. -/
def Dev.refuseKey (d : Dev) (reason uid : Nat) : Dev :=
  ((d.wr SEC_STAT_REASON reason).incSat SEC_STAT_COUNT).raise { cls := .slate, flag := SEC_STAT_REFUSED, ukind := 11, uid := uid }

/-- A key-encrypting key is there: 0 to 63 a slot, 64 the device key; the other codes are reserved (R476). -/
def Dev.kekFilled (d : Dev) (k : Nat) : Bool := if k < 64 then d.filled k else k == 64

/-- A slot is in use (R478). -/
def Dev.slotInUse (d : Dev) (k : Nat) : Bool :=
  (k != 0 && d.buffers.any fun x : Nat × Buffer => x.2.key == k)
  || (d.kernels.any fun x : Nat × Kernel => x.2.src.keyslot == k)
  || (d.rd TWIN_STAT_STATE != 0 && d.rd TWIN_CTL_KEYSLOT == k)
  || (k != 0 && d.xfers.any fun x : Nat × Xfer => d.rd (DMA_CH_CTL_KEY x.1) == k)

/-- SEC_KEYDATA is zeroed. -/
def Dev.clearKeyData (d : Dev) : Dev := { d with keyData := [], wrapShown := false }

/-- A shown wrap is cleared by the next write (R479). -/
def Dev.endWrap (d : Dev) : Dev := if d.wrapShown then d.clearKeyData else d

/-- Why an operation is refused (R477, R488); none: it is performed. -/
def Dev.keyRefusal (d : Dev) (op slot kek : Nat) : Option Nat :=
  if op = 1 then
    if d.lc == 3 || (d.lc == 2 && kek == 64) then some 0
    else if d.filled slot || !d.kekFilled kek || kek == slot then some 1
    else none
  else if op = 2 then
    if !d.filled slot then some 1 else if d.slotInUse slot then some 2 else none
  else if d.lc != 0 then some 0
  else if !d.kekFilled kek then some 1
  else none

/-- A write of SEC_KEYCTL (R477). -/
def Dev.keyCtlWrite (d : Dev) (w : RegWr) : Dev :=
  if d.on SEC_STAT_BUSY then d.refuseKey 3 (w.ones SEC_KEYCTL_SLOT)
  else
    let d := d.endWrap
    let d := (d.take w SEC_KEYCTL_SLOT).take w SEC_KEYCTL_KEK
    let slot := d.rd SEC_KEYCTL_SLOT
    let kek := d.rd SEC_KEYCTL_KEK
    let op := w.ones SEC_KEYCTL_OP
    if op = 0 then d
    else match d.keyRefusal op slot kek with
      | some r => d.refuseKey r slot
      | none =>
        { d.set SEC_STAT_BUSY with
          keyOp := some { op := op, slot := slot, kek := kek } }

/-- A write of SEC_KEYDATAk (R476, R477, R479). -/
def Dev.keyDataWrite (d : Dev) (k : Nat) (w : RegWr) : Dev :=
  if d.on SEC_STAT_BUSY then d.refuseKey 3 (d.rd SEC_KEYCTL_SLOT)
  else
    let d := d.endWrap
    let old := KMap.get d.keyData k 0
    let new : Word := match w.half with
      | .all => w.data
      | .lo => BitVec.ofNat 64 (old.toNat / 2 ^ 32 * 2 ^ 32 + w.data.toNat % 2 ^ 32)
      | .hi => BitVec.ofNat 64 (w.data.toNat / 2 ^ 32 * 2 ^ 32 + old.toNat % 2 ^ 32)
    { d with keyData := KMap.put d.keyData k new }

/-- SEC_KEYDATAk as read: 0 but for a wrap's result (R479). -/
def Dev.keyDataRead (d : Dev) (k : Nat) : Nat := if d.wrapShown then (KMap.get d.keyData k 0).toNat else 0

/-- The slots as the key store holds them, and as SEC_SLOTS shows them. -/
def Dev.setSlots (d : Dev) (m : Nat) : Dev := { d.wr SEC_SLOTS_FILLED m with nvSlots := m % 2 ^ 64 }

/-- The bytes of SEC_KEYDATA from one word on (R476). -/
def Dev.keyDataBytes (d : Dev) (n : Nat) : List Nat := ((List.range n).map fun k => (bytesLE 8 (KMap.get d.keyData k 0).toNat).map (·.toNat)).flatten

/-- A wrap ends (R479): the plain key in SEC_KEYDATA, wrapped under the KEK as RFC 3394 says, stands there. -/
def Dev.wrapDone (d : Dev) (kek : Nat) : Dev :=
  let out := keyWrap (aesSchedule (d.keyBytes kek)) (d.keyDataBytes 4)
  { d with
    keyData := (List.range 5).foldl (fun m k => KMap.put m k (BitVec.ofNat 64 (numLE (((out.drop (8 * k)).take 8).map (BitVec.ofNat 8))))) d.keyData
    wrapShown := true }

/-- The key that a load unwraps (R476). -/
def Dev.unwrapped (d : Dev) (kek : Nat) : List Byte := (keyUnwrap (aesSchedule (d.keyBytes kek)) (d.keyDataBytes 5)).1.map (BitVec.ofNat 8)

/-- The integrity check of that unwrap passes (R476, R477). -/
def Dev.unwraps (d : Dev) (kek : Nat) : Bool := (keyUnwrap (aesSchedule (d.keyBytes kek)) (d.keyDataBytes 5)).2

/-- A slot operation ends (R477, R479, R491). -/
def Dev.keyOpDone (d : Dev) : Dev :=
  match d.keyOp with
  | none => d
  | some x =>
    let d := { d.clr SEC_STAT_BUSY with keyOp := none }
    if x.op = 3 then d.wrapDone x.kek
    else
      let key := d.unwrapped x.kek
      let ok := d.unwraps x.kek
      let d := d.clearKeyData
      if x.op = 2 then { d.setSlots (setBit (d.rd SEC_SLOTS_FILLED) x.slot false) with nvKeys := KMap.del d.nvKeys x.slot }
      else if ok then { d.setSlots (setBit (d.rd SEC_SLOTS_FILLED) x.slot true) with nvKeys := KMap.put d.nvKeys x.slot key }
      else (d.incSat SEC_STAT_COUNT).raise { cls := .ochre, flag := SEC_STAT_UNWRAP, ukind := 11, uid := x.slot }

/-! The life cycle (R488, R489). -/

/-- The changes that the life-cycle state permits (R488): 0 Open, 1 Sealed, 2 Deployed, 3 Scrapped. -/
def lcPermits : Nat → List Nat
  | 0 => [1, 3]
  | 1 => [0, 2, 3]
  | 2 => [3]
  | _ => []

/-- No request is armed. -/
def Dev.lcDisarm (d : Dev) : Dev :=
  { ((d.clr SEC_LC_NONCE_NONCE).clr SEC_LC_NONCE_ARMED).clr SEC_LC_NONCE_APORT with lcArmed := none }

/-- The request is dropped (R489). The record's UID names no slot: a free value. -/
def Dev.lcDrop (d : Dev) : Dev := (d.lcDisarm.refuseKey 0 (d.peekWord.toNat % 2 ^ 24)).burn

/-- Step 1 of R489. -/
def Dev.lcArm (d : Dev) (p : Port) (target : Nat) : Dev :=
  if d.lcArmed.isSome then d.lcDrop
  else if (lcPermits d.lc).contains target
      && (target == 3 || (d.empty && (d.rd TWIN_STAT_STATE == 0 || d.rd TWIN_STAT_STATE == 4))) then
    let d := ((d.wr SEC_LC_NONCE_NONCE (Config.nonce d.free).toNat).set SEC_LC_NONCE_ARMED).wr SEC_LC_NONCE_APORT p.num
    { d.burn with lcArmed := some target }
  else d.lcDrop

/-- Steps 2 and 3 of R489. -/
def Dev.lcConfirm (d : Dev) (p : Port) (target nonce : Nat) : Dev :=
  match d.lcArmed with
  | none => d.lcDrop
  | some t =>
    if t == target && nonce == d.rd SEC_LC_NONCE_NONCE && d.rd SEC_LC_NONCE_APORT == p.num then
      { d.lcDisarm.set SEC_LC_PENDING with lcTarget := some target }
    else d.lcDrop

/-- A write of SEC_LC_REQ. -/
def Dev.lcReqWrite (d : Dev) (w : RegWr) : Dev :=
  let p := writePort w.src
  let t := w.ones SEC_LC_REQ_TARGET
  let d := if w.one SEC_LC_REQ_ARM then d.lcArm p t else d
  if w.one SEC_LC_REQ_CONFIRM then d.lcConfirm p t (w.ones SEC_LC_REQ_NONCE) else d

/-- The end of step 3 of R489: every slot is erased, the new state stands. -/
def Dev.lcChange (d : Dev) : Dev :=
  match d.lcTarget with
  | none => d
  | some t =>
    let d := (d.setSlots 0).clr SEC_LC_PENDING
    let d := { d.wr SEC_LC_STATE t with
      nvLc := t
      nvKeys := []
      lcTarget := none
      lcLost := false }
    (d.incSat SEC_STAT_COUNT).raise { cls := .crimson, flag := SEC_STAT_LCCHG, detail := t }

/-! Meanings. -/

/-- KEY_LOAD (R477): a write of SEC_KEYCTL. Whether the unwrap verifies follows from the keys and the data, so the row's own verdict is not asked. -/
def execKeyLoad (w : RegWr) (verdict : Bool) (s : State) : Result :=
  s.next (s.dev.onWrite (.keyLoad w verdict) w.src 0x3E0020 fun d => d.keyCtlWrite w)

/-- KEY_ERASE (R477): a write of SEC_KEYCTL. -/
def execKeyErase (w : RegWr) (s : State) : Result := s.next (s.dev.onWrite (.keyErase w) w.src 0x3E0020 fun d => d.keyCtlWrite w)

/-- KEY_WRAP (R479): a write of SEC_KEYCTL. -/
def execKeyWrap (w : RegWr) (s : State) : Result := s.next (s.dev.onWrite (.keyWrap w) w.src 0x3E0020 fun d => d.keyCtlWrite w)

/-- KEY_OP_COMPLETE (R491). -/
def execKeyOpComplete (s : State) : Result := s.next s.dev.keyOpDone

/-- LC_ARM (R489): a write of SEC_LC_REQ. -/
def execLcArm (w : RegWr) (s : State) : Result := s.next (s.dev.onWrite (.lcArm w) w.src 0x3E0008 fun d => d.lcReqWrite w)

/-- LC_CONFIRM (R489): a write of SEC_LC_REQ. -/
def execLcConfirm (w : RegWr) (s : State) : Result := s.next (s.dev.onWrite (.lcConfirm w) w.src 0x3E0008 fun d => d.lcReqWrite w)

/-- LC_ARM_TIMEOUT (R489): a request armed and not confirmed is dropped. -/
def execLcArmTimeout (s : State) : Result := s.next (if s.dev.lcArmed.isSome then s.dev.lcDrop else s.dev)

/-- LC_CHANGE_COMPLETE (R489). -/
def execLcChangeComplete (s : State) : Result := s.next s.dev.lcChange

end Sys2Proof.Machine
end

