-- ==== Sys2Proof/Machine/Pins.lean ====
section
/-!
DEFINITION. Pins (chapter 21, R526 to R543): owners of the service pins and their hand-over, EVENT lines, bus transfers, the ADC,
user I/O cells with their delay calibration, and the TAP.
-/
namespace Sys2Proof.Machine

/-! Control pins (R557). -/

/-- READY is driven high (R555, R557). -/
def Dev.pinReady (d : Dev) : Bool := d.rd RESET_STAT_PHASE == 9 && !d.held

/-- CFG_ERR_N is driven low (R343). -/
def Dev.cfgErrLow (d : Dev) : Bool := d.on CFG_STAT_ERR

/-- ALARM_N is driven low (R433, R448, R495). -/
def Dev.alarmLow (d : Dev) : Bool := d.on ERR_ALARM_PEND || d.on ERR_ALARM_HOLD || d.held

/-! Owners of the service pins (R528 to R531). -/

/-- The functions beside GPIO that claim a pin, highest priority first, coded as SVC_CFGn.OWNER (R529). -/
def Dev.claims (d : Dev) (n : Nat) : List Nat :=
  (if decide (32 ≤ n ∧ n < 40) && d.on (SVC_CFG_ANALOG n) then [7] else [])
  ++ (if n < 2 && d.on PIN_FUNC_PMB then [5] else [])
  ++ (if (n == 2 || n == 3) && d.on PIN_FUNC_I2C1 then [4] else [])
  ++ (if decide (4 ≤ n ∧ n ≤ 8) && d.on PIN_FUNC_SPI || (n == 11 || n == 12) && d.on PIN_FUNC_SPI_CS23 then [3] else [])
  ++ (if (n == 9 || n == 10) && d.on PIN_FUNC_UART || (n == 11 || n == 12) && d.on PIN_FUNC_UART_FC then [2] else [])
  ++ (if decide (24 ≤ n ∧ n < 32) && d.bit PIN_FUNC_EV (n - 24) then [1] else [])
  ++ (if n == 40 && d.on TB_CTL_PPS_EN then [6] else [])

/-- A pin's owner (R529). -/
def Dev.pinOwner (d : Dev) (n : Nat) : Nat := (d.claims n).headD 0

/-- More than one function claims a pin (PIN_STAT.CONFLICT). -/
def Dev.pinConflict (d : Dev) (n : Nat) : Bool := decide (1 < (d.claims n).length)

/-- Who drives a pin, with the states of R542 and the TAP: 8 sleep, 9 held, 10 the boundary register. -/
def Dev.pinDriver (d : Dev) (n : Nat) : Nat :=
  let o := d.pinOwner n
  if d.tap == 2 then 10
  else if d.held then 9
  else if d.rd CLK_REST_STATE == 2 && o != 5 && o != 6 && !(o == 0 && d.bit GPIO_WAKE_PINS n && !d.bit GPIO_OE_PINS n) then 8
  else o

/-- A function drives its pin and hears it: it is the owner, and the hand-over to it has ended (R529, R530). -/
def Dev.pinServes (d : Dev) (n o : Nat) : Bool :=
  d.pinDriver n == o && KMap.get d.owners n 0 == o && (KMap.find d.handovers n).isNone

/-- What stands at a pin: high-Z with a pull (0 none, 1 down, 2 up, 3 keeper), driven, the level it had, or what a bus or the boundary
register makes of it. -/
inductive PinState where
  | highZ (pull : Nat)
  | drive (level : Bool)
  | keep
  | outside
  deriving DecidableEq, Repr

/-- The pin states that SLEEP selects (R542). -/
def sleepState (sleep pull : Nat) : PinState :=
  match sleep with
  | 0 => .highZ pull
  | 1 => .keep
  | 2 => .drive false
  | _ => .drive true

/-- The state of a service pin (R530, R532, R535, R542): an EVENT output is low between its pulses. -/
def Dev.servicePin (d : Dev) (n : Nat) : PinState :=
  let pull := d.rd (SVC_CFG_PULL n)
  match KMap.find d.handovers n with
  | some h => .drive h.level
  | none =>
    match KMap.get d.owners n 0 with
    | 0 =>
      if !d.bit GPIO_OE_PINS n || d.on (SVC_CFG_OD n) && d.bit GPIO_OUT_PINS n then .highZ pull
      else .drive (d.bit GPIO_OUT_PINS n)
    | 1 => if d.on (SVC_EVCFG_DIR (n - 24)) then .drive false else .highZ pull
    | 7 | 9 => .highZ pull
    | 8 => sleepState (d.rd (SVC_CFG_SLEEP n)) pull
    | _ => .outside

/-- The state of a user I/O pin (R342, R433, R527, R538, R541, R542, R557): high-Z with the strapped pull wherever it is not under its
configured function; IOCELL.PULL is 0 for the strapped pull. -/
def Dev.userPin (d : Dev) (i : Nat) : PinState :=
  let strapped := d.rd PIN_STRAP_IOPULL
  let own := d.rd (IOCELL_PULL i)
  let pull := if own == 0 then strapped else own
  if d.tap == 2 then .outside
  else if d.held || d.rd RESET_STAT_PHASE < 7 || !d.on (IOBANK_VOK (i / 32)) || !d.on (IOCELL_EN i) then .highZ strapped
  else if d.rd CLK_REST_STATE == 2 then sleepState (d.rd (IOCELL_SLEEP i)) pull
  else match KMap.find d.io i with
    | some x => if x.drive then .drive x.level else .highZ pull
    | none => .highZ pull

/-- PIN_OWNER_CHANGE (R530): the pin keeps the level it had; a second change restarts the interval with the first level. The boundary
register takes a pin at once (R543). -/
def Dev.ownerChange (d : Dev) (n : Nat) (level : Bool) : Dev :=
  let o := d.pinDriver n
  if KMap.get d.owners n 0 == o then d
  else if o == 10 then { d with owners := KMap.put d.owners n o, handovers := KMap.del d.handovers n }
  else
    let h : Handover := (KMap.find d.handovers n).getD ⟨level, none, none⟩
    { d with
      owners := KMap.put d.owners n o
      handovers := KMap.put d.handovers n h }

/-- PIN_HANDOVER_END (R530): the new owner drives the pin; GPIO writes that waited take effect. -/
def Dev.handoverEnd (d : Dev) (n : Nat) : Dev :=
  match KMap.find d.handovers n with
  | none => d
  | some h =>
    let d := { d with handovers := KMap.del d.handovers n }
    let d := match h.out with | some b => d.wrBit GPIO_OUT_PINS n b | none => d
    match h.oe with | some b => d.wrBit GPIO_OE_PINS n b | none => d

/-- A write of GPIO_OUT or GPIO_OE (R530): bits of pins in hand-over wait. -/
def Dev.gpioWrite (d : Dev) (oe : Bool) (w : RegWr) : Dev :=
  let f := if oe then GPIO_OE_PINS else GPIO_OUT_PINS
  (List.range 48).foldl (fun d n =>
    if !w.half.covers n then d
    else
      let b := w.data.toNat.testBit n
      match KMap.find d.handovers n with
      | some h =>
        let h : Handover := if oe then { h with oe := some b } else { h with out := some b }
        { d with handovers := KMap.put d.handovers n h }
      | none => Dev.wrBit d f n b) d

/-- GPIO_IN as read (R534): a driven pin reads its actual level; every other level comes from outside, a free value. -/
def Dev.gpioIn (d : Dev) : Nat × Dev :=
  let (x, d) := d.freshWord
  (maskOf ((List.range 48).filter fun n =>
    match d.servicePin n with
    | .drive level => level
    | _ => x.toNat.testBit n), d)

/-- A write that the PINS block ignores. -/
def Dev.pinCfgErr (d : Dev) : Dev := d.set PIN_STAT_CFGERR

/-- A transfer's function is enabled (R537). -/
def Dev.perEnabled (d : Dev) (per : Nat) : Bool :=
  match per with
  | 0 => d.on PIN_FUNC_I2C1
  | 1 => d.on PIN_FUNC_SPI
  | 2 => d.on PIN_FUNC_UART
  | _ => false

/-- A write of PIN_FUNC (R531). -/
def Dev.pinFuncWrite (d : Dev) (w : RegWr) : Dev :=
  if d.on PIN_FUNC_PMB && d.wval w PIN_FUNC_PMB == 0 && d.on CLK_PMBUS_EN then d.pinCfgErr
  else
    let d := [PIN_FUNC_PMB, PIN_FUNC_I2C1, PIN_FUNC_SPI, PIN_FUNC_SPI_CS23, PIN_FUNC_UART, PIN_FUNC_UART_FC, PIN_FUNC_EV].foldl
      (fun d f => Dev.take d w f) d
    if d.on SVC_XFER_BUSY && !d.perEnabled (d.rd SVC_XFER_PER) then (d.clr SVC_XFER_BUSY).set SVC_XFER_ERR else d

/-- A write of SVC_CFGn (R529, R533). -/
def Dev.svcCfgWrite (d : Dev) (n : Nat) (w : RegWr) : Dev :=
  if w.one (SVC_CFG_ANALOG n) && !decide (32 ≤ n ∧ n < 40) then d.pinCfgErr
  else
    let d := [SVC_CFG_LEVEL n, SVC_CFG_HYST n, SVC_CFG_OD n, SVC_CFG_DRIVE n, SVC_CFG_PULL n, SVC_CFG_ANALOG n, SVC_CFG_SLEEP n].foldl
      (fun d f => Dev.take d w f) d
    if decide (32 ≤ n ∧ n < 40) then d.wr (ADC_CH_VALID (n - 32)) (d.rd (SVC_CFG_ANALOG n)) else d

/-! EVENT lines (R535). -/

/-- An EVENT line reaches its pin. -/
def Dev.eventPin (d : Dev) (k : Nat) : Bool := d.pinServes (24 + k) 1

/-- EVENT_INPUT (R535). -/
def Dev.eventInput (d : Dev) (k : Nat) : Dev :=
  if d.eventPin k && !d.on (SVC_EVCFG_DIR k) && decide (9 ≤ d.rd RESET_STAT_PHASE) then d.pulse (d.rd (SVC_EVCFG_EV k)) else d

/-- EVENT_OUTPUT_PULSE (R535): a waiting pulse is driven; a function that does not own its pin drives nothing (R529). -/
def Dev.eventOutput (d : Dev) (k : Nat) : Dev :=
  let n := KMap.get d.evPulses k 0
  if n == 0 then d
  else
    let d := { d with evPulses := KMap.put d.evPulses k (n - 1) }
    if d.eventPin k then (d.emit (.pin (24 + k) true)).emit (.pin (24 + k) false) else d

/-! Bus transfers (R537). -/

/-- The bytes of SVC_XDATA0 to 3. -/
def Dev.xdata (d : Dev) : List Byte := (List.range 4).flatMap fun k => bytesLE 8 (d.rd (SVC_XDATA_DATA k))

/-- Put bytes into SVC_XDATA from byte 0. -/
def Dev.setXdata (d : Dev) (bs : List Byte) : Dev :=
  let all := bs ++ d.xdata.drop bs.length
  (List.range 4).foldl (fun d k => Dev.wr d (SVC_XDATA_DATA k) (numLE ((all.drop (8 * k)).take 8))) d

/-- A write of SVC_XFER. -/
def Dev.svcXferWrite (d : Dev) (w : RegWr) : Dev :=
  let d := d.takeW1c w SVC_XFER_ERR
  let go := w.one SVC_XFER_GO
  let per := d.wval w SVC_XFER_PER
  if go && (d.on SVC_XFER_BUSY || !d.perEnabled per) then d.pinCfgErr
  else
    let d := [SVC_XFER_PER, SVC_XFER_WLEN, SVC_XFER_RLEN, SVC_XFER_TADDR].foldl (fun d f => Dev.take d w f) d
    if go then
      (d.set SVC_XFER_BUSY).emit (.service (1 + per)
        ([d.rd SVC_XFER_TADDR, d.rd SVC_XFER_RLEN] ++ (d.xdata.take (d.rd SVC_XFER_WLEN)).map (·.toNat)))
    else d

/-- SVC_TRANSFER_DONE (R537): the bytes obtained; a UART's come from its receive FIFO. -/
def Dev.svcDone (d : Dev) (err : Bool) (data : List Byte) : Dev :=
  if !d.on SVC_XFER_BUSY then d
  else
    let n := min 32 (d.rd SVC_XFER_RLEN)
    let uart := d.rd SVC_XFER_PER == 2
    let got := (if uart then d.uart else data).take n
    let d := if uart then { d with uart := d.uart.drop n } else d
    let d := ((d.setXdata got).wr SVC_XFER_RCNT got.length).clr SVC_XFER_BUSY
    if err then d.set SVC_XFER_ERR else d

/-- UART_RECEIVE (R537): a framing error or an overflow sets ERR and ends a UART transfer. -/
def Dev.uartReceive (d : Dev) (byte : Byte) (framing : Bool) : Dev :=
  if !d.on PIN_FUNC_UART || !d.pinServes 10 2 then d
  else if framing || decide (64 ≤ d.uart.length) then
    let d := d.set SVC_XFER_ERR
    if d.rd SVC_XFER_PER == 2 then d.clr SVC_XFER_BUSY else d
  else { d with uart := d.uart ++ [byte] }

/-! The ADC (R533). -/

/-- ADC_CONVERSION (R533): the code of an input in µV, within 4 codes: the difference is a free value. -/
def Dev.adc (d : Dev) (k uv : Nat) : Dev :=
  if d.pinOwner (32 + k) != 7 then d
  else if 1200000 < uv then d.wr (ADC_CH_VALUE k) 4095
  else
    let e := d.peekWord.toNat % 9
    d.burn.wr (ADC_CH_VALUE k) (min 4095 (uv * 4095 / 1200000 + e - 4))

/-! User I/O (R257 to R260, R538 to R541). -/

/-- The supply that a standard needs, coded as vddio (R538). -/
def stdSupply (std : Nat) : Nat := [1, 2, 3, 2, 3, 2, 3, 3].getD std 3

/-- VOK of a bank (R538): its supply is the standard's. -/
def Dev.vokOf (d : Dev) (b : Nat) : Bool := bitsOf d.vddio (2 * b) 2 == stdSupply (d.rd (IOBANK_STD b))

/-- A bank's VOK shows it. -/
def Dev.showVok (d : Dev) (b : Nat) : Dev := d.wr (IOBANK_VOK b) (b2n (d.vokOf b))

/-- A write of IOBANKb. -/
def Dev.ioBankWrite (d : Dev) (b : Nat) (w : RegWr) : Dev := ((d.take w (IOBANK_STD b)).take w (IOBANK_CAL_EN b)).showVok b

/-- DIFF is accepted in a bank (R538). -/
def Dev.diffOk (d : Dev) (b : Nat) : Bool := stdSupply (d.rd (IOBANK_STD b)) == 3 && bitsOf d.vddio (2 * b) 2 == 3

/-- The tap that a delay code asks for, with the replica line of 256 taps measured in ps (R259, log entry 17). -/
def tapTarget (code ps : Nat) : Nat := if ps = 0 then code else (5 * code * 256 + ps / 2) / ps

/-- A bank's measured replica line; before the first measure the nominal 1,280 ps. -/
def Dev.replica (d : Dev) (b : Nat) : Nat := KMap.get d.replicas b 1280

/-- A cell's DELAY takes effect whole (R260). -/
def Dev.setTap (d : Dev) (i : Nat) : Dev := { d with taps := KMap.put d.taps i (tapTarget (d.rd (IOCELL_DELAY i)) (d.replica (i / 32))) }

/-- A write of IOCELLi (R538, R541). A cell that is enabled drives a level nobody has set yet: a free value. -/
def Dev.ioCellWrite (d : Dev) (i : Nat) (w : RegWr) : Dev :=
  if i % 2 == 0 && w.one (IOCELL_DIFF i) && !d.diffOk (i / 32) then d.pinCfgErr
  else
    let was := d.on (IOCELL_EN i)
    let code := d.rd (IOCELL_DELAY i)
    let d := [IOCELL_EN i, IOCELL_DIR i, IOCELL_DDR i, IOCELL_NET i, IOCELL_TERM i, IOCELL_DELAY i, IOCELL_PULL i, IOCELL_DRIVE i, IOCELL_SLEEP i].foldl
      (fun d f => Dev.take d w f) d
    let d := if i % 2 == 0 then d.take w (IOCELL_DIFF i) else d
    let d := (d.takeW1c w (IOCELL_UNDER i)).takeW1c w (IOCELL_OVER i)
    let d := if d.rd (IOCELL_DELAY i) == code then d else d.setTap i
    let d := if d.on (IOCELL_EN i) then
        (if was then d else d.burn.updIo i fun x => { x with level := d.peekWord.toNat.testBit 0 })
      else { d with io := KMap.del d.io i }
    if d.on (IOCELL_EN i) then d.updIo i fun x =>
      { x with drive := if d.rd (IOCELL_DIR i) == 1 then true else if d.rd (IOCELL_DIR i) == 2 then x.drive else false }
    else d

/-- DELAY_CALIBRATION (R259, R260): a tap moves by one step at most. -/
def Dev.calibrate (d : Dev) (b ps : Nat) : Dev :=
  if !d.time.run || !d.on (IOBANK_CAL_EN b) then d
  else
    let d := { d with replicas := KMap.put d.replicas b ps }
    ((List.range 32).map fun k => 32 * b + k).foldl (fun d i =>
      let goal := tapTarget (Dev.rd d (IOCELL_DELAY i)) ps
      let now := KMap.get d.taps i (tapTarget (Dev.rd d (IOCELL_DELAY i)) 1280)
      if goal == now then d
      else { d with taps := KMap.put d.taps i (if now < goal then now + 1 else now - 1) }) d

/-- A cell is clocked: enabled, not the second pin of an LVDS pair (R538), and served (R18), its net runs from a running PLL, its bank has its supply, and the device works (R541, R557). -/
def Dev.ioRuns (d : Dev) (i : Nat) : Bool :=
  d.on (IOCELL_EN i) && !(i % 2 == 1 && d.on (IOCELL_DIFF (i - 1))) && d.ioServed i && d.on (CLK_IOCLK_EN (d.rd (IOCELL_NET i))) && d.on (IOBANK_VOK (i / 32)) && d.fabricOn

/-- An output cell. -/
def Dev.ioOut (d : Dev) (i : Nat) : Bool := d.rd (IOCELL_DIR i) == 1 || d.rd (IOCELL_DIR i) == 2

/-- Underrun (R257): the pin holds its level. -/
def Dev.underrun (d : Dev) (i : Nat) : Dev := d.set (IOCELL_UNDER i)

/-- The value of a transfer at a user I/O cell: undefined when its synchronizer was left unresolved (R250), or when a pin of it found both rails
high, which the tile reports (R160). -/
def Dev.ioValue (d : Dev) (i : Nat) (s : IoSample) (v : Bool) : Bool × Dev :=
  let d := if s.fault then d.dualRail (ioTile i).1 (portCell .control (8 * (ioTile i).2) / 16) else d
  if s.fault || s.unresolved then (d.peekWord.getLsbD 0, d.burn) else (v, d)

/-- ACTIVE_EDGE (R257, R541): the falling edge acts at double rate only. -/
def Dev.activeEdge (d : Dev) (i : Nat) (rising : Bool) (s : IoSample) : Dev :=
  if !d.ioRuns i || !(rising || d.on (IOCELL_DDR i)) then d
  else
    let d := d.pumpCell i
    let x := d.ioAt i
    let d :=
      if d.ioOut i then
        let d := match (if rising then x.tx0 else x.tx1) with
          | [] => d.underrun i
          | v :: rest =>
            let (v, d) := d.ioValue i s v
            d.updIo i fun x => if rising then { x with tx0 := rest, level := v } else { x with tx1 := rest, level := v }
        if d.rd (IOCELL_DIR i) == 2 then
          match x.oe with
          | [] => d.underrun i
          | v :: rest => d.updIo i fun x => { x with oe := rest, drive := v }
        else d
      else if 4 ≤ d.rxHeld i (!rising) then d.set (IOCELL_OVER i)
      else
        let (v, d) := d.ioValue i s s.level
        d.updIo i fun x => if rising then { x with rx0 := x.rx0 ++ [v] } else { x with rx1 := x.rx1 ++ [v] }
    d.pumpCell i

/-- IO_UNDERRUN (R257). -/
def Dev.ioUnderrun (d : Dev) (i : Nat) : Dev :=
  let x := d.ioAt i
  if d.ioRuns i && d.ioOut i && (x.tx0.isEmpty || (d.on (IOCELL_DDR i) && x.tx1.isEmpty)
      || (d.rd (IOCELL_DIR i) == 2 && x.oe.isEmpty)) then d.underrun i else d

/-- IO_OVERRUN (R257). -/
def Dev.ioOverrun (d : Dev) (i : Nat) : Dev :=
  if d.ioRuns i && !d.ioOut i && (decide (4 ≤ d.rxHeld i false) || (d.on (IOCELL_DDR i) && decide (4 ≤ d.rxHeld i true)))
  then d.set (IOCELL_OVER i) else d

/-! The TAP (R488, R543). -/

/-- TAP_INSTRUCTION: the boundary instructions drive the pins; other instructions are BYPASS once the device is Deployed. -/
def Dev.tapLoad (d : Dev) (i : TapInstr) : Dev :=
  { d with tap := match i with
      | .bypass => 0
      | .idcode => 1
      | .sample | .preload => 3
      | .extest | .extestPulse | .extestTrain => 2
      | .other _ => if d.lc < 2 then 3 else 0 }

/-! Meanings. -/

/-- EVENT_INPUT (R535). -/
def execEventInput (k : Fin 8) (s : State) : Result := s.next (s.dev.eventInput k.val)

/-- EVENT_OUTPUT_PULSE (R535). -/
def execEventOutputPulse (k : Fin 8) (s : State) : Result := s.next (s.dev.eventOutput k.val)

/-- SVC_TRANSFER (R537): a write of SVC_XFER. -/
def execSvcTransfer (w : RegWr) (s : State) : Result := s.next (s.dev.onWrite (.svcTransfer w) w.src 0x30308 fun d => d.svcXferWrite w)

/-- SVC_TRANSFER_DONE (R537). -/
def execSvcTransferDone (err : Bool) (data : List Byte) (s : State) : Result := s.next (s.dev.svcDone err data)

/-- PIN_OWNER_CHANGE (R530). -/
def execPinOwnerChange (pin : Fin 48) (level : Bool) (s : State) : Result := s.next (s.dev.ownerChange pin.val level)

/-- PIN_HANDOVER_END (R530). -/
def execPinHandoverEnd (pin : Fin 48) (s : State) : Result := s.next (s.dev.handoverEnd pin.val)

/-- ADC_CONVERSION (R533). -/
def execAdcConversion (k : Fin 8) (microvolts : BitVec 24) (s : State) : Result := s.next (s.dev.adc k.val microvolts.toNat)

/-- DELAY_CALIBRATION (R259). -/
def execDelayCalibration (bank : Fin 12) (ps : BitVec 16) (s : State) : Result := s.next (s.dev.calibrate bank.val ps.toNat)

/-- IO_UNDERRUN (R257). -/
def execIoUnderrun (cell : Fin 384) (s : State) : Result := s.next (s.dev.ioUnderrun cell.val)

/-- IO_OVERRUN (R257). -/
def execIoOverrun (cell : Fin 384) (s : State) : Result := s.next (s.dev.ioOverrun cell.val)

/-- ACTIVE_EDGE (R541). -/
def execActiveEdge (cell : Fin 384) (rising : Bool) (input : IoSample) (s : State) : Result :=
  s.next (s.dev.activeEdge cell.val rising input)

/-- UART_RECEIVE (R537). -/
def execUartReceive (byte : Byte) (framing : Bool) (s : State) : Result := s.next (s.dev.uartReceive byte framing)

/-- TAP_INSTRUCTION (R543). -/
def execTapInstruction (instr : TapInstr) (s : State) : Result := s.next (s.dev.tapLoad instr)

/-- TEST_LOGIC_RESET (R543): IDCODE is loaded, and the pins return to their owners under R530. -/
def execTestLogicReset (s : State) : Result := s.next { s.dev with tap := 1 }

end Sys2Proof.Machine
end

