-- ==== Sys2Proof/Machine/Clocks.lean ====
section
/-!
DEFINITION. Clocks, gates, operating points, fabric voltage, the governor, Rest and the timebase (chapter 20, R492 to R521).
-/
namespace Sys2Proof.Machine

/-! Lanes that the device itself takes out of service. -/

/-- A lane becomes Muted for a cause, and its state is remembered. -/
def Dev.muteLane (d : Dev) (cause L : Nat) : Dev :=
  let st := d.rd (LANE_STAT_PSTATE L)
  if st == 0 then d
  else ({ d with lanesHeld := KMap.put d.lanesHeld (256 * cause + L) (if st == 3 then 2 else st) }).laneSleep L 0

/-- Lanes muted for a cause return to the state they had; a lane that was Active waits while the PLLs coast (R500). -/
def Dev.unmute (d : Dev) (cause : Nat) : Dev :=
  let mine := d.lanesHeld.filter fun x : Nat × Nat => x.1 / 256 == cause
  let d := { d with lanesHeld := d.lanesHeld.filter fun x : Nat × Nat => x.1 / 256 != cause }
  mine.foldl (fun d x =>
    let L := x.1 % 256
    if x.2 == 2 && d.on CLK_STAT_COAST then { d with lanesHeld := KMap.put d.lanesHeld L 2 } else Dev.laneTo d L x.2) d

/-! The monitor and the PLLs (R493 to R500). -/

/-- READY_DETECT (R493). -/
def Dev.readyDetect (d : Dev) : Dev := if d.rd RESET_STAT_PHASE == 0 then d else { d with mon := { d.mon with ready := true } }

/-- START_DELAY_END (R494, R495): the monitor is armed, or the device enters power-on hold. -/
def Dev.startDelayEnd (d : Dev) : Dev :=
  if d.rd RESET_STAT_PHASE ≠ 1 then d
  else
    let d := { d with mon := { d.mon with delay := true } }
    if d.mon.ready then ((d.wr RESET_STAT_PHASE 2).set CLK_STAT_ARMED).set CLK_STAT_REFWAIT
    else { (d.wr RESET_STAT_PHASE 3).set ERR_ALARM_HOLD with mon := { d.mon with hold := true } }

/-- The PLLs begin to coast (R499). -/
def Dev.coast (d : Dev) : Dev :=
  let d := (((d.set CLK_STAT_COAST).clr CLK_STAT_LOCK).clr CLK_IOPLL_LOCK).incSat CLK_STAT_REFLOSS
  let d := (d.set TB_STAT_UNTRUE).report { cls := .crimson, flag := CLK_STAT_COAST }
  (List.range 144).foldl (fun d L =>
    if Dev.rd d (LANE_STAT_PSTATE L) == 2 || Dev.rd d (LANE_STAT_PSTATE L) == 3 then d.muteLane 0 L else Dev.laneSleep d L 0) d

/-- MONITOR_WINDOW (R496, R499): edges counted in a window, and whether two Slate periods passed without one. -/
def Dev.monitorWindow (d : Dev) (edges : Nat) (gap : Bool) : Dev :=
  if !d.on CLK_STAT_ARMED then d
  else if gap || !(decide (768 ≤ edges ∧ edges ≤ 1280)) then
    let had := d.on CLK_STAT_REFGOOD
    let d := { d.clr CLK_STAT_REFGOOD with mon := { d.mon with good := 0 } }
    if !had then d
    else if d.rd RESET_STAT_PHASE == 4 then (d.wr RESET_STAT_PHASE 2).set CLK_STAT_REFWAIT
    else if d.on CLK_STAT_COAST then d
    else d.coast
  else
    let n := min 4 (d.mon.good + 1)
    let d := { d with mon := { d.mon with good := n } }
    if n < 4 then d
    else
      let d := d.set CLK_STAT_REFGOOD
      if d.rd RESET_STAT_PHASE == 2 then (d.wr RESET_STAT_PHASE 4).clr CLK_STAT_REFWAIT else d

/-- The gates that start-up opens (R501). -/
def openedAtLock : Nat := maskOf [0, 1, 2, 3, 4, 5, 7, 8, 9, 11, 12, 13, 14, 15, 16, 17]

/-- PLL_LOCK (R498, R501, R517, R554): the base PLLs lock, start-up opens its gates, the timebase begins to count. -/
def Dev.pllLock (d : Dev) : Dev :=
  if d.rd RESET_STAT_PHASE ≠ 4 || !d.on CLK_STAT_REFGOOD then d
  else
    let d := ((d.wr CLK_STAT_LOCK 15).set CLK_IOPLL_LOCK).wr RESET_STAT_PHASE 5
    let d := d.wr CLK_GATE0_GATE (d.rd CLK_GATE0_GATE ||| openedAtLock)
    let d := d.wr CLK_GATE1_GATE (d.rd CLK_GATE1_GATE ||| maskOf [32, 33, 34, 35])
    { d with time := { d.time with run := true } }

/-- The locked PLLs: all four, or TB alone while the others are stopped (R514). -/
def Dev.showLock (d : Dev) : Dev :=
  if decide (2 ≤ d.rd CLK_REST_STATE) then (d.wr CLK_STAT_LOCK 4).clr CLK_IOPLL_LOCK else (d.wr CLK_STAT_LOCK 15).set CLK_IOPLL_LOCK

/-- PLL_RELOCK (R500). -/
def Dev.pllRelock (d : Dev) : Dev :=
  if !d.on CLK_STAT_COAST || !d.on CLK_STAT_REFGOOD then d
  else ((d.clr CLK_STAT_COAST).showLock.report { cls := .slate, bare := true }).unmute 0

/-! Gates (R501 to R504). -/

/-- Gates that may be closed (R501), by number: CLK_GATE0's bits, then 20 + the bit of CLK_GATE1. -/
def closable (i : Nat) : Bool := i == 6 || i == 10 || i == 11 || i == 12 || i == 16 || i == 18 || i == 19 || decide (20 ≤ i)

/-- The ensembles with a tile on a die. -/
def Dev.ensOn (d : Dev) (die : Nat) : List (Nat × Ensemble) := d.ensembles.filter fun x : Nat × Ensemble => x.2.both || x.1 / 128 == die

/-- Park every tile of a die into its shown fret (R504, R514). -/
def Dev.parkDie (d : Dev) (die : Nat) : Dev :=
  (d.ensOn die).foldl (fun d (a, e) =>
    if e.phase == 3 then d
    else
      let d := (e.where a).foldl Dev.parkTile d
      (d.dropTokens (e.where a)).updEns a fun e => { e with phase := 3, cur := some .park }) d

/-- Parked ensembles whose dies are open restore and resume (R198, R504). -/
def Dev.unparkAll (d : Dev) : Dev :=
  d.ensembles.foldl (fun d (a, e) =>
    if e.phase == 3 && Dev.diesOpen d (e.where a) && Dev.running d then
      let f := Dev.shown d a
      ((e.where a).foldl (fun d t => Dev.restoreTile d a f [] t) d).letGo a
    else d) d

/-- A block is idle (R501). -/
def Dev.blockIdle (d : Dev) (i : Nat) : Bool :=
  if i = 6 then d.xfers.isEmpty
  else if i = 10 then
    d.topWait.isEmpty && !(d.openCmds.any fun x : Nat × Entry => match x.2.cmd with
      | some (.tsetup ..) => true
      | some (.tclear _) => true
      | some (.tdrain ..) => true
      | _ => false)
  else if i = 11 || i = 12 then
    (d.ensOn (i - 11)).all fun (a, e) => (e.phase == 3 || d.atRest a)
      && !((d.members a e).any fun x : Nat × Kernel => x.2.run.isSome)
  else if i = 16 then d.rd TWIN_STAT_STATE == 0 || d.rd TWIN_STAT_STATE == 4
  else if i = 18 || i = 19 then
    let x := d.port (portOf (i - 18))
    x.held.isEmpty && x.writes.isEmpty && x.reads.isEmpty && x.dev.isEmpty && x.devWait.isEmpty
  else if i < 52 then
    ((List.range 4).map fun k => 4 * (i - 20) + k).all fun L => d.rd (LANE_STAT_PSTATE L) == 0 && (d.groupOf L).isNone
  else
    !d.on TWIN_CTL_EN && d.rd TWIN_STAT_STATE == 0
      && ((List.range 4).map fun k => 4 * (i - 20) + k).all fun L => d.rd (LANE_STAT_PSTATE L) == 0

/-- A gate bit by number. -/
def Dev.gateBit (d : Dev) (i : Nat) : Bool := if i < 20 then d.bit CLK_GATE0_GATE i else d.bit CLK_GATE1_GATE (i - 20)

/-- Write a gate bit. -/
def Dev.setGate (d : Dev) (i : Nat) (b : Bool) : Dev := if i < 20 then d.wrBit CLK_GATE0_GATE i b else d.wrBit CLK_GATE1_GATE (i - 20) b

/-- A write of one gate bit (R501, R503). -/
def Dev.gateWrite (d : Dev) (i : Nat) (v : Bool) : Dev :=
  if v then
    if d.gateBit i then d
    else if d.bit CLK_GATE_PEND_PEND i then (d.setGate i true).wrBit CLK_GATE_PEND_PEND i false
    else
      let d := d.setGate i true
      if i = 11 || i = 12 then d.unparkAll else d
  else if d.gateBit i && closable i then (d.setGate i false).wrBit CLK_GATE_PEND_PEND i true
  else d

/-- CLK_GATE_WRITE (R503). -/
def Dev.gatesWrite (d : Dev) (gate1 : Bool) (w : RegWr) : Dev :=
  let f := if gate1 then CLK_GATE1_GATE else CLK_GATE0_GATE
  let base := if gate1 then 20 else 0
  (List.range f.width).foldl (fun d i =>
    if w.half.covers (f.lo + i) then Dev.gateWrite d (base + i) (w.data.toNat.testBit (f.lo + i)) else d) d

/-- GATE_CLOSE_COMPLETE (R502 to R504). -/
def Dev.gateCloses (d : Dev) (i : Nat) : Dev :=
  if !d.bit CLK_GATE_PEND_PEND i || !d.blockIdle i then d
  else
    let d := d.wrBit CLK_GATE_PEND_PEND i false
    if i = 11 || i = 12 then d.parkDie (i - 11)
    else if i = 18 || i = 19 then d.portReset (portOf (i - 18)) .linkDown
    else d

/-! PMBus, operating points and the fabric's voltage (R505 to R508). -/

/-- The device controls its two rails (R506, R507). -/
def Dev.pmbusUp (d : Dev) : Bool := d.on PIN_FUNC_PMB && d.on CLK_PMBUS_EN

/-- A write to a rail through the PMBus master: the rail (0 VDD_BASE, 1 VDD_FAB), the PMBus command, the value. -/
def Dev.rail (d : Dev) (fab : Bool) (cmd value : Nat) : Dev :=
  if d.pmbusUp then
    d.emit (.service 0 (if fab then [d.rd CLK_PMBUS_FAB_ADDR, d.rd CLK_PMBUS_FAB_PAGE, cmd, value]
      else [d.rd CLK_PMBUS_BASE_ADDR, d.rd CLK_PMBUS_BASE_PAGE, cmd, value]))
  else d

/-- VOUT_COMMAND, VOUT_TRANSITION_RATE and OPERATION of the PMBus standard (log entry 16). -/
def pmbVout : Nat := 0x21
def pmbRate : Nat := 0x27
def pmbOperation : Nat := 0x01

/-- VDD_BASE of an operating point in mV (R505). -/
def opMillivolts (op : Nat) : Nat := [900, 860, 820, 780, 740, 700].getD op 700

/-- VDD_FAB of a code in mV (R508). -/
def fabMillivolts (code : Nat) : Nat := 550 + 5 * min code 60

/-- A rail answered with a NACK or an error (R507). -/
def Dev.pmbError (d : Dev) : Dev := d.raise { cls := .ochre, flag := CLK_STAT_PMBERR }

/-- Begin the next step toward TARGET, if any (R506); nack: the voltage write that begins it fails. -/
def Dev.opBegin (d : Dev) (nack : Bool) : Dev :=
  let cur := d.rd CLK_OP_CUR
  let tgt := d.rd CLK_OP_TARGET
  if tgt == cur then { d.clr CLK_OP_BUSY with opStep := none }
  else if cur < tgt then { d.set CLK_OP_BUSY with opStep := some ⟨cur + 1, true, none⟩ }
  else
    let d := d.rail false pmbVout (opMillivolts (cur - 1))
    if nack then { (d.wr CLK_OP_TARGET cur).clr CLK_OP_BUSY with opStep := none }.pmbError
    else { d.set CLK_OP_BUSY with opStep := some ⟨cur - 1, false, none⟩ }

/-- A step is over; a TARGET written meanwhile takes effect, and the next step begins. -/
def Dev.opNext (d : Dev) (s : OpStep) : Dev :=
  let d := match s.next with | some t => d.wr CLK_OP_TARGET t | none => d
  d.opBegin false

/-- A step is abandoned: the frequencies stay, TARGET becomes CUR (R506). -/
def Dev.opAbandon (d : Dev) (s : OpStep) : Dev := (d.wr CLK_OP_TARGET (d.rd CLK_OP_CUR)).opNext s

/-- A write of CLK_OP (R506). -/
def Dev.clkOpWrite (d : Dev) (w : RegWr) (nack : Bool) : Dev :=
  let d := d.takeW1c w CLK_OP_PGTMO
  if !w.touches CLK_OP_TARGET then d
  else
    let t := d.wval w CLK_OP_TARGET
    if 5 < t || (t != 0 && !d.pmbusUp) then d.set CLK_STAT_CFGERR
    else match d.opStep with
      | some s => { d with opStep := some { s with next := some t } }
      | none => (d.wr CLK_OP_TARGET t).opBegin nack

/-- POWER_GOOD_POLL (R506, R507): only after power-good the frequencies rise. -/
def Dev.powerGood (d : Dev) (good nack : Bool) : Dev :=
  match d.opStep with
  | some s =>
    if s.ramp then d
    else if nack then d.pmbError.opAbandon s
    else if good then { d with opStep := some { s with ramp := true } }
    else d
  | none => d

/-- POWER_GOOD_TIMEOUT (R506). -/
def Dev.powerTimeout (d : Dev) : Dev :=
  match d.opStep with
  | some s => if s.ramp then d else (d.raise { cls := .ochre, flag := CLK_OP_PGTMO }).opAbandon s
  | none => d

/-- OPERATING_POINT_STEP_END (R506): the ramp of a step ends; after lowering, the lower voltage is written. -/
def Dev.opStepEnd (d : Dev) (nack : Bool) : Dev :=
  match d.opStep with
  | some s =>
    if !s.ramp then d
    else
      let lower := decide (d.rd CLK_OP_CUR < s.goal)
      let d := d.wr CLK_OP_CUR s.goal
      if lower then
        let d := d.rail false pmbVout (opMillivolts s.goal)
        if nack then d.pmbError.opAbandon s else d.opNext s
      else d.opNext s
  | none => d

/-- The VDD_FAB code the device works toward: the lower of TARGET and the governor's limit (R508). -/
def Dev.fabGoal (d : Dev) : Nat := min (min (d.rd CLK_FABV_TARGET) 60) (d.rd GOV_STAT_FABLIM)

/-- A difference to the goal begins to be worked off, while the device controls the rail. -/
def Dev.fabStart (d : Dev) : Dev := d.wr CLK_FABV_BUSY (b2n (d.pmbusUp && d.rd CLK_FABV_EFF != d.fabGoal))

/-- FABV_STEP (R508): at most 10 mV toward the goal. -/
def Dev.fabStep (d : Dev) (nack : Bool) : Dev :=
  if !d.on CLK_FABV_BUSY then d
  else
    let eff := d.rd CLK_FABV_EFF
    let goal := d.fabGoal
    let next := if eff < goal then min goal (eff + 2) else max goal (eff - 2)
    if nack then ((d.wr CLK_FABV_TARGET eff).clr CLK_FABV_BUSY).pmbError
    else ((d.rail true pmbVout (fabMillivolts next)).wr CLK_FABV_EFF next).fabStart

/-- A write of CLK_PMBUS (R507). -/
def Dev.pmbusWrite (d : Dev) (w : RegWr) (nack : Bool) : Dev :=
  if d.on CLK_OP_BUSY || d.on CLK_FABV_BUSY then d.set CLK_STAT_CFGERR
  else
    let was := d.on CLK_PMBUS_EN
    let d := [CLK_PMBUS_EN, CLK_PMBUS_BASE_ADDR, CLK_PMBUS_BASE_PAGE, CLK_PMBUS_FAB_ADDR, CLK_PMBUS_FAB_PAGE].foldl (fun d f => Dev.take d w f) d
    if was || !d.on CLK_PMBUS_EN then d.fabStart
    else
      let d := (d.rail false pmbRate 10).rail true pmbRate 10
      let d := if nack then d.pmbError else d
      d.fabStart

/-- A write of CLK_IOPLL. -/
def Dev.ioPllWrite (d : Dev) (w : RegWr) : Dev :=
  if !w.touches CLK_IOPLL_M then d
  else
    let m := d.wval w CLK_IOPLL_M
    if m < 12 || 32 < m || (List.range 8).any fun n => d.on (CLK_IOCLK_EN n) then d.set CLK_STAT_CFGERR
    else d.wr CLK_IOPLL_M m

/-- A write of CLK_IOCLKn (R498): a divider that gives more than 800 MHz, or a new one while the net runs, is ignored. -/
def Dev.ioClkWrite (d : Dev) (n : Nat) (w : RegWr) : Dev :=
  let v := d.wval w (CLK_IOCLK_D n)
  let was := d.on (CLK_IOCLK_EN n)
  let d := d.take w (CLK_IOCLK_EN n)
  if v == d.rd (CLK_IOCLK_D n) then d
  else if was || v < 2 || 800 * v < 100 * d.rd CLK_IOPLL_M then d.set CLK_STAT_CFGERR
  else d.wr (CLK_IOCLK_D n) v

/-! The governor (R509 to R512). -/

/-- POWER_CAP in units of 0.1 W. -/
def Dev.cap (d : Dev) : Nat := 10 * max 40 (min 100 (d.rd GOV_CTL_CAP))

/-- A deeper step is in force. -/
def Dev.govStep (d : Dev) (n : Nat) : Dev := d.wr GOV_STAT_STEP (max n (d.rd GOV_STAT_STEP))

/-- Step 1 of R509: the row-move budget falls by the excess. -/
def Dev.govRows (d : Dev) (excess : Nat) : Dev :=
  (d.wr GOV_STAT_RMEFF (max (d.rd GOV_CTL_RMMIN) (d.rd GOV_STAT_RMEFF - excess))).govStep 1

/-- The lanes that step 3 of R509 mutes, and those of groups it makes Idle. -/
def Dev.govFree (d : Dev) : List Nat := (List.range 144).filter fun L => d.rd (LANE_STAT_PSTATE L) != 0 && (d.groupOf L).isNone
def Dev.govIdle (d : Dev) (groups : List Nat) : List Nat :=
  if d.on GOV_CTL_LANES then
    (groups.filter fun g => d.groupUp g).flatMap fun g => d.lanesOf g
  else []

/-- Step 3 of R509. -/
def Dev.govLanes (d : Dev) (groups : List Nat) : Dev :=
  let idle := d.govIdle groups
  let d := (d.govFree).foldl (fun d L => Dev.muteLane d 2 L) d
  let d := idle.foldl (fun d L => ({ d with lanesHeld := KMap.put d.lanesHeld (768 + L) 2 }).laneSleep L 1) d
  d.govStep 3

/-- Act on an estimate above the cap (R509): the first step that is not at its floor. -/
def Dev.govAct (d : Dev) (excess : Nat) (fabDue : Bool) (groups : List Nat) : Dev :=
  if decide (d.rd GOV_CTL_RMMIN < d.rd GOV_STAT_RMEFF) then d.govRows excess
  else if decide (d.rd GOV_CTL_FABMIN < d.fabGoal) then
    if fabDue then ((d.wr GOV_STAT_FABLIM (max (d.rd GOV_CTL_FABMIN) (d.fabGoal - 2))).govStep 2).fabStart else d
  else if !(d.govFree.isEmpty && (d.govIdle groups).isEmpty) then d.govLanes groups
  else if d.on GOV_STAT_OVERCAP then d
  else d.raise { cls := .ochre, flag := GOV_STAT_OVERCAP }

/-- GOVERNOR_ESTIMATE (R509 to R512): an estimate in 0.1 W, the hottest sensor's reading, whether the fabric's voltage may
move again, and the groups without a DATA frame for 20 µs. -/
def Dev.govEstimate (d : Dev) (est temp : Nat) (fabDue : Bool) (groups : List Nat) : Dev :=
  let d := (d.wr GOV_STAT_EST est).wr GOV_STAT_TEMP temp
  let d := if 174 ≤ temp then d.set GOV_STAT_THERM else if temp < 169 then d.clr GOV_STAT_THERM else d
  let d := if 179 ≤ temp then d.report { cls := .crimson, bare := true } else d
  let d := d.wr GOV_STAT_RMEFF (if d.rd GOV_STAT_STEP == 0 then d.rd GOV_CTL_RMBUD else min (d.rd GOV_STAT_RMEFF) (d.rd GOV_CTL_RMBUD))
  if !d.on GOV_CTL_EN then d
  else if d.cap < est then d.govAct (est - d.cap) fabDue groups
  else if d.on GOV_STAT_THERM then (d.govAct (d.peekWord.toNat % 4096) fabDue groups).burn
  else d

/-- GOVERNOR_RELAX (R510): one step is undone, the last one first. -/
def Dev.govRelax (d : Dev) : Dev :=
  if d.on GOV_STAT_THERM || decide (95 * d.cap ≤ 100 * d.rd GOV_STAT_EST) then d
  else match d.rd GOV_STAT_STEP with
    | 3 => (d.unmute 2).wr GOV_STAT_STEP (if d.rd GOV_STAT_FABLIM < 60 then 2 else 1)
    | 2 =>
      let lim := d.rd GOV_STAT_FABLIM + 2
      if min (d.rd CLK_FABV_TARGET) 60 ≤ lim then ((d.wr GOV_STAT_FABLIM 60).wr GOV_STAT_STEP 1).fabStart
      else (d.wr GOV_STAT_FABLIM lim).fabStart
    | 1 => (d.wr GOV_STAT_RMEFF (d.rd GOV_CTL_RMBUD)).clr GOV_STAT_STEP
    | _ => d

/-! Rest (R513 to R516). -/

/-- Why Rest is refused (R513). -/
def Dev.restRefusal (d : Dev) : Option Nat :=
  if !((List.range 64).all fun q => d.queueIdle q) then some 0
  else if !d.xfers.isEmpty || !d.migrations.isEmpty || !d.bufMoves.isEmpty || d.on CFG_STAT_BUSY then some 1
  else if decide (1 ≤ d.rd TWIN_STAT_STATE ∧ d.rd TWIN_STAT_STATE ≤ 3) then some 2
  else if d.rd CLK_REST_STATE != 0 then some 3
  else none

/-- A wake starts, or waits for the end of the entry (R515): 0 register, 1 timebase, 2 pin. -/
def Dev.wake (d : Dev) (src : Nat) : Dev :=
  match d.rd CLK_REST_STATE with
  | 1 => if d.wakePend.isSome then d else { d with wakePend := some src }
  | 2 => ((d.wr CLK_REST_STATE 3).wr CLK_REST_WAKESRC src).report { cls := .slate, bare := true }
  | _ => d

/-- A write of CLK_REST. -/
def Dev.clkRestWrite (d : Dev) (w : RegWr) : Dev :=
  let d := d.takeW1c w CLK_REST_REJ
  let d := if !w.one CLK_REST_ENTER then d
    else match d.restRefusal with
      | some r => (d.set CLK_REST_REJ).wr CLK_REST_REASON r
      | none => d.ensembles.foldl (fun d (a, _) => Dev.trigger d a .park) (d.wr CLK_REST_STATE 1)
  if w.one CLK_REST_WAKE then d.wake 0 else d

/-- The wake time has come (R516). -/
def Dev.wakeDue (d : Dev) : Bool :=
  d.on TB_WAKE_EN && decide (1 ≤ d.rd CLK_REST_STATE ∧ d.rd CLK_REST_STATE ≤ 2)
    && decide (d.rd TB_WAKE_SEC * 1000000000 + d.rd TB_WAKE_NS ≤ d.nowNs)

/-- TIMEBASE_WAKE (R516): the wake fires and EN clears. -/
def Dev.timebaseWake (d : Dev) : Dev := if d.wakeDue then (d.clr TB_WAKE_EN).wake 1 else d

/-- An owned bank goes to Retain, another one stays or goes Off (R271). -/
def Dev.restBank (d : Dev) (n : Nat) : Dev := if d.rd (BANK_OWN_PSTATE n) == 0 then d else d.wr (BANK_OWN_PSTATE n) 2

/-- REST_ENTRY_COMPLETE (R514): once every ensemble is parked. levels: the levels of the service pins; nack: VDD_FAB's
regulator refuses. -/
def Dev.restEntered (d : Dev) (nack : Bool) (levels : Nat) : Dev :=
  if d.rd CLK_REST_STATE ≠ 1 || !(d.ensembles.all fun x : Nat × Ensemble => x.2.phase == 3) then d
  else
    let d := (List.range 144).foldl (fun d L => Dev.muteLane d 1 L) d
    let d := (List.range 1024).foldl Dev.restBank d
    let d := if d.on CLK_PMBUS_EN then (let d := d.rail true pmbOperation 0; if nack then d.pmbError else d) else d
    let d := { d.wr CLK_REST_STATE 2 with restLevels := levels }
    let d := if d.on CLK_STAT_COAST then d else d.showLock
    let pend := d.wakePend
    let d := { d with wakePend := none }
    match pend with
    | some src => d.wake src
    | none => d.timebaseWake

/-- WAKE_COMPLETE (R515): the entry steps are reversed. -/
def Dev.wakeDone (d : Dev) : Dev :=
  if d.rd CLK_REST_STATE ≠ 3 then d
  else
    let d := d.wr CLK_REST_STATE 0
    let d := if d.on CLK_STAT_COAST then d else d.showLock
    let d := (List.range 1024).foldl (fun d n => if Dev.rd d (BANK_OWN_PSTATE n) == 2 then d.wr (BANK_OWN_PSTATE n) 1 else d) d
    let d := if d.on CLK_PMBUS_EN then d.rail true pmbOperation 0x80 else d
    d.serveWaiting.unparkAll.unmute 1

/-! The timebase (R517 to R521). -/

/-- A write of TB_CTL (R518, R519). -/
def Dev.tbCtlWrite (d : Dev) (w : RegWr) : Dev :=
  let was := d.on TB_CTL_PPS_EN
  let d := (d.take w TB_CTL_PPS_EN).take w TB_CTL_MODE
  let d := if !was && d.on TB_CTL_PPS_EN then { d with time := { d.time with lastPps := none } } else d
  if !w.one TB_CTL_SET then d
  else if decide (999999999 < d.rd TB_SET_NS) then d.set CLK_STAT_CFGERR
  else { d with time := { d.time with load := true } }

/-- What a step of the timebase brings with it: waiting times and an unfired wake are judged again (R83, R516). -/
def Dev.stepped (d : Dev) (sec ns : Nat) : Dev := (d.timeStep sec ns).settleTimes.timebaseWake

/-- TIMEBASE_STEP (R518). -/
def Dev.timebaseStep (d : Dev) : Dev :=
  if d.time.load && d.time.run then
    ({ d with time := { d.time with load := false } }).stepped (d.rd TB_SET_SEC) (d.rd TB_SET_NS)
  else d

/-- A write of TB_ADJ (R519): limited, and ignored while PPS_EN is 1. -/
def Dev.tbAdjWrite (d : Dev) (w : RegWr) : Dev :=
  if d.on TB_CTL_PPS_EN then d
  else d.wr TB_ADJ_PPB (unsigned 32 (max (-50000) (min 50000 (signed 32 (d.wval w TB_ADJ_PPB)))))

/-- TB_NOW as read (R518). -/
def Dev.tbNow (d : Dev) : Nat × Dev := (d.stamp, d.wr TB_SECHI_SEC d.time.sec)

/-- The signed error of a time to the nearest second, in ns. -/
def ppsError (ns : Nat) : Int := if ns < 500000000 then (ns : Int) else (ns : Int) - 1000000000

/-- The time since a moment of the timebase, in ns, through the wrap of the seconds. -/
def Dev.since (d : Dev) (t : Nat) : Nat := (d.nowNs + 2 ^ 32 * 1000000000 - t) % (2 ^ 32 * 1000000000)

/-- A PPS edge is valid (R519): 1 s ± 100 µs after the previous valid one, or the first. -/
def Dev.ppsValid (d : Dev) : Bool :=
  d.on TB_STAT_HOLDOVER || match d.time.lastPps with
    | none => true
    | some t => decide (999900000 ≤ d.since t ∧ d.since t ≤ 1000100000)

/-- PPS_EDGE (R519, R520): learned is the frequency offset from the last 16 valid edges, in ppb. -/
def Dev.ppsEdge (d : Dev) (learned : Int) : Dev :=
  if !d.on TB_CTL_PPS_EN || d.pinOwner 40 != 6 || !d.time.run then d
  else
    let ok := d.ppsValid
    let d := d.wr TB_PPSCAP_CAP d.stamp
    if !ok then d
    else
      let err := ppsError d.time.ns
      let sec := d.time.sec + (if err < 0 then 1 else 0)
      let d := (d.clr TB_STAT_HOLDOVER).wr TB_STAT_ERR (unsigned 32 err)
      let d := d.wr TB_STAT_LOCKED (b2n (decide (-100 ≤ err ∧ err ≤ 100)))
      let d := if !d.on TB_CTL_MODE || decide (1000000 < err ∨ err < -1000000) then d.stepped sec 0
        else d.wr TB_ADJ_PPB (unsigned 32 (max (-50000) (min 50000 (learned - err))))
      { d with time := { d.time with lastPps := some d.nowNs } }

/-- PPS_HOLDOVER (R520). -/
def Dev.ppsHoldover (d : Dev) : Dev :=
  let late := match d.time.lastPps with | some t => decide (1100000000 ≤ d.since t) | none => true
  if d.on TB_CTL_PPS_EN && !d.on TB_STAT_HOLDOVER && d.time.run && late then d.raise { cls := .slate, flag := TB_STAT_HOLDOVER } else d

/-! Meanings. -/

/-- READY_DETECT (R493). -/
def execReadyDetect (s : State) : Result := s.next s.dev.readyDetect

/-- START_DELAY_END (R495). -/
def execStartDelayEnd (s : State) : Result := s.next s.dev.startDelayEnd

/-- MONITOR_WINDOW (R496). -/
def execMonitorWindow (edges : BitVec 12) (gap : Bool) (s : State) : Result := s.next (s.dev.monitorWindow edges.toNat gap)

/-- PLL_LOCK (R498). -/
def execPllLock (s : State) : Result := s.next s.dev.pllLock

/-- PLL_RELOCK (R500). -/
def execPllRelock (s : State) : Result := s.next s.dev.pllRelock

/-- CLK_GATE_WRITE (R503). -/
def execClkGateWrite (gate1 : Bool) (w : RegWr) (s : State) : Result :=
  s.next (s.dev.onWrite (.clkGateWrite gate1 w) w.src (if gate1 then 0x10010 else 0x10008) fun d => d.gatesWrite gate1 w)

/-- GATE_CLOSE_COMPLETE (R503). -/
def execGateCloseComplete (bit : BitVec 6) (s : State) : Result :=
  s.next (if bit.toNat < 56 then s.dev.gateCloses bit.toNat else s.dev)

/-- CLK_OP_WRITE (R506). -/
def execClkOpWrite (w : RegWr) (nack : Bool) (s : State) : Result :=
  s.next (s.dev.onWrite (.clkOpWrite w nack) w.src 0x10020 fun d => d.clkOpWrite w nack)

/-- POWER_GOOD_POLL (R506). -/
def execPowerGoodPoll (good nack : Bool) (s : State) : Result := s.next (s.dev.powerGood good nack)

/-- POWER_GOOD_TIMEOUT (R506). -/
def execPowerGoodTimeout (s : State) : Result := s.next s.dev.powerTimeout

/-- OPERATING_POINT_STEP_END (R506). -/
def execOperatingPointStepEnd (nack : Bool) (s : State) : Result := s.next (s.dev.opStepEnd nack)

/-- CLK_PMBUS_WRITE (R507). -/
def execClkPmbusWrite (w : RegWr) (nack : Bool) (s : State) : Result :=
  s.next (s.dev.onWrite (.clkPmbusWrite w nack) w.src 0x10028 fun d => d.pmbusWrite w nack)

/-- CLK_FABV_WRITE (R508). -/
def execClkFabvWrite (w : RegWr) (s : State) : Result :=
  s.next (s.dev.onWrite (.clkFabvWrite w) w.src 0x10030 fun d => (d.take w CLK_FABV_TARGET).fabStart)

/-- FABV_STEP (R508). -/
def execFabvStep (nack : Bool) (s : State) : Result := s.next (s.dev.fabStep nack)

/-- GOVERNOR_ESTIMATE (R509). -/
def execGovernorEstimate (est : BitVec 12) (temp : BitVec 8) (fabDue : Bool) (idleGroups : List LaneId) (s : State) : Result :=
  s.next (s.dev.govEstimate est.toNat temp.toNat fabDue (idleGroups.map (·.val)))

/-- GOVERNOR_RELAX (R510). -/
def execGovernorRelax (s : State) : Result := s.next s.dev.govRelax

/-- REST_ENTER (R513): a write of CLK_REST. -/
def execRestEnter (w : RegWr) (s : State) : Result := s.next (s.dev.onWrite (.restEnter w) w.src 0x100A0 fun d => d.clkRestWrite w)

/-- REST_ENTRY_COMPLETE (R514). -/
def execRestEntryComplete (nack : Bool) (levels : BitVec 48) (s : State) : Result := s.next (s.dev.restEntered nack levels.toNat)

/-- REST_WAKE (R515): a write of CLK_REST. -/
def execRestWake (w : RegWr) (s : State) : Result := s.next (s.dev.onWrite (.restWake w) w.src 0x100A0 fun d => d.clkRestWrite w)

/-- TIMEBASE_WAKE (R516). -/
def execTimebaseWake (s : State) : Result := s.next s.dev.timebaseWake

/-- GPIO_WAKE_EDGE (R536): a GPIO input whose wake bit is 1 leaves the level it had when entry completed. -/
def execGpioWakeEdge (pin : Fin 48) (level : Bool) (s : State) : Result :=
  let d := s.dev
  s.next (if d.rd CLK_REST_STATE == 2 && d.bit GPIO_WAKE_PINS pin.val && !d.bit GPIO_OE_PINS pin.val
      && d.pinOwner pin.val == 0 && level != d.restLevels.testBit pin.val then d.wake 2 else d)

/-- WAKE_COMPLETE (R515). -/
def execWakeComplete (s : State) : Result := s.next s.dev.wakeDone

/-- TB_SET (R518): a write of TB_CTL. -/
def execTbSet (w : RegWr) (s : State) : Result := s.next (s.dev.onWrite (.tbSet w) w.src 0x420000 fun d => d.tbCtlWrite w)

/-- TIMEBASE_STEP (R518). -/
def execTimebaseStep (s : State) : Result := s.next s.dev.timebaseStep

/-- TB_NOW_READ (R518). -/
def execTbNowRead (src : Src) (s : State) : Result := s.next (s.dev.onRead (.tbNowRead src) src 0x420010 Dev.tbNow)

/-- PPS_EDGE (R519). -/
def execPpsEdge (learned : BitVec 32) (s : State) : Result := s.next (s.dev.ppsEdge (signed 32 learned.toNat))

/-- PPS_HOLDOVER (R520). -/
def execPpsHoldover (s : State) : Result := s.next s.dev.ppsHoldover

end Sys2Proof.Machine
end

