-- ==== Sys2Proof/Machine/Reset.lean ====
section
/-!
DEFINITION. Resets and start-up (chapter 22, R547 to R557): the cold start from POR_N to READY, the warm reset with its replay,
die resets, and the release of a held device (R440).
-/
namespace Sys2Proof.Machine

/-! Cold start (R548, R554). -/

/-- A slot operation cut off by a loss of power leaves the old content or the new one (R475): a free choice. -/
def Dev.slotsAfterCut (d : Dev) : Nat :=
  match d.keyOp with
  | some x =>
    if (x.op == 2 || (x.op == 1 && d.unwraps x.kek)) && d.peekWord.toNat.testBit 0 then setBit d.nvSlots x.slot (x.op == 1) else d.nvSlots
  | none => d.nvSlots

/-- The keys that stand after it. -/
def Dev.keysAfterCut (d : Dev) : KMap (List Byte) :=
  match d.keyOp with
  | some x =>
    if x.op == 1 && d.slotsAfterCut.testBit x.slot then KMap.put d.nvKeys x.slot (d.unwrapped x.kek)
    else if x.op == 2 && !d.slotsAfterCut.testBit x.slot then KMap.del d.nvKeys x.slot
    else d.nvKeys
  | none => d.nvKeys

/-- A block of the image store whose program operation is cut off holds undefined bytes (R10, R323). -/
def Dev.blocksAfterCut (d : Dev) : KMap (List Byte) :=
  match d.hostOp with
  | some x => if x.op == 3 then KMap.put d.nvBlocks x.arg ((List.range 65536).map fun i => Config.freeByte (d.free + 1 + i)) else d.nvBlocks
  | none => d.nvBlocks

/-- COLD_RESET (R548): everything takes its reset value but the non-volatile stores; what stands outside the device stays. -/
def Dev.coldReset (d : Dev) : Dev :=
  { free := d.free + 65537
    out := d.out
    noc := { seen := d.out.length }
    nearVia := d.nearVia
    nvBlocks := d.blocksAfterCut
    nvLc := d.nvLc
    nvSlots := d.slotsAfterCut
    nvKeys := d.keysAfterCut
    nvGens := d.nvGens
    nvWear := d.nvWear
    lcTarget := d.lcTarget
    vddio := d.vddio
    ports := [(0, { perst := (d.port .a).perst }), (1, { perst := (d.port .b).perst })] }

/-- POR_RELEASE (R494, R527, R538, R554). -/
def Dev.porRelease (d : Dev) (role : Bool) (oscDly bootSrc iopull vddio : Nat) : Dev :=
  if d.rd RESET_STAT_PHASE ≠ 0 then d
  else
    let d := { d.wr RESET_STAT_PHASE 1 with vddio := vddio }
    let d := (((d.wr PIN_STRAP_TWIN_ROLE (b2n role)).wr PIN_STRAP_OSC_DLY oscDly).wr PIN_STRAP_BOOT_SRC bootSrc).wr PIN_STRAP_IOPULL iopull
    (List.range 12).foldl Dev.showVok ((d.wr TWIN_STAT_STRAP (b2n role)).wr TWIN_STAT_ROLE (b2n role))

/-- KEY_STORE_READ_DONE (R475, R482, R489, R554): a change that a loss of power cut off is completed. -/
def Dev.keyStoreRead (d : Dev) : Dev :=
  if d.rd RESET_STAT_PHASE ≠ 5 then d
  else
    let d := (((d.wr RESET_STAT_PHASE 6).wr SEC_LC_STATE d.nvLc).wr SEC_SLOTS_FILLED d.nvSlots).wr GLB_SERIAL_SERIAL Config.serial.toNat
    let d := d.nvGens.foldl (fun d (k, n) =>
      (Dev.wr d (SEC_GEN_NEXT k) n).wr (SEC_GEN_SPENT k) (b2n (n == 2 ^ 32 - 1))) d
    d.lcChange

/-- STARTUP_SELFTEST_DONE (R457, R460, R554): strings found exhausted. -/
def Dev.selftestDone (d : Dev) (uids : List Nat) : Dev :=
  if d.rd RESET_STAT_PHASE ≠ 7 then d else uids.foldl Dev.exhaust (d.wr RESET_STAT_PHASE 8)

/-- The first calibration of every I/O bank has completed by READY (R259): one that no command has reported took a measure that is not
known. -/
def Dev.calibrated (d : Dev) : Dev :=
  (List.range 12).foldl (fun d b => if (KMap.find d.replicas b).isSome then d else (Dev.freshWord d).2.calibrate b (d.peekWord.toNat % 2 ^ 16)) d

/-- STORE_CLEAR_DONE (R116, R259, R271, R554): the pool banks are On and poisoned, READY follows. -/
def Dev.storeClearDone (d : Dev) (us : Nat) : Dev :=
  if d.rd RESET_STAT_PHASE ≠ 8 then d
  else
    let d := d.calibrated
    let pools := (List.range 64).filterMap d.poolBank
    let d := pools.foldl (fun d n => (Dev.poisonBank d n).wr (BANK_OWN_PSTATE n) 1) d
    (d.wr RESET_STAT_PHASE 9).wr RESET_TIME_READY us

/-! Store-die reset (R276). -/

/-- A kernel drives its own row moves at some tile (R229). -/
def Dev.drivesRows (d : Dev) (k : Kernel) : Bool :=
  k.where.any fun t => d.portBits k.fret t 1280 1 == 1 && d.portBits k.fret t 1281 1 == 1

/-- Requests that the bank controllers hold end with a bus error (R276); hand-overs behind them take effect. -/
def Dev.dropBankWait (d : Dev) : Dev :=
  let all := d.bankWait
  all.foldl (fun d q => match q.reply with
    | .packet p => Dev.answerPacket d p .busError []
    | .host p => Dev.answerHost d p q.addr q.write .busError []
    | .own w c => Dev.handOverTold d (q.addr / 2 ^ 18) w c
    | .none => d) { d with bankWait := [] }

/-- A store-die reset begins (R276): ROWMOVEs in progress and KRUNs that drive rows end with status Bus error. -/
def Dev.storeDieReset (d : Dev) : Dev :=
  if !d.storeOpen then d
  else
    let d := (d.set STORE_STAT_RESETTING).dropBankWait
    let d := d.runningCmds.foldl (fun d (q, e) => match e.cmd with
      | some (.rowmove ..) => Dev.fix d q e.seq .busError
      | _ => d) d
    let d := d.kernels.foldl (fun d (h, k) =>
      if k.run.isSome && Dev.drivesRows d k then Dev.endRun d h .busError else d) d
    { d with rowReqs := [], writeBacks := [] }

/-! Warm reset (R549 to R551). -/

/-- The DMA channels take their reset values (R548). -/
def Dev.dmaReset (d : Dev) : Dev :=
  { d with
    regs := d.regs.filter fun x : Nat × Nat => !(decide (0x80000 * 8 ≤ x.1 ∧ x.1 < 0xA0000 * 8))
    xfers := []
    dma := {}
    armers := []
    dmaRedo := [] }

/-- Every fret's state plane is as at image commit, parameter registers kept; ensembles are at rest and show their frets
(R183, R548, R549 step 2). -/
def Dev.fabricReset (d : Dev) : Dev :=
  { d with
    holds := []
    toks := []
    paramHeld := []
    parks := []
    rowRegs := []
    rowReqs := []
    badPlanes := []
    planeCrcs := []
    memHolds := []
    undef := d.undef.map fun x : Nat × Nat => (x.1, 1)
    tileResets := []
    portals := []
    stageWait := []
    lateArrivals := []
    drains := []
    migrations := []
    kernels := d.kernels.map fun x : Nat × Kernel => (x.1, { x.2 with run := none })
    ensembles := d.ensembles.map fun x : Nat × Ensemble => (x.1, { x.2 with phase := 1, cur := none, waiting := [], preload := none }) }

/-- What commands in progress had begun is undone, so that they can be executed again from their start (R60). -/
def Dev.undoWork (d : Dev) : Dev :=
  let d := match d.load with
    | some l => (match l.who with | .kadmit _ _ => d.abortLoad l | _ => d)
    | none => d
  let d := d.buffers.foldl (fun d (h, b) => if b.ready then d else Dev.dropBuffer d h b) d
  let d := d.kernels.foldl (fun d (h, k) => if k.ready then d else Dev.forgetKernel d h) d
  (d.groups.filter fun x : Nat × GroupSt => decide (x.1 < 128) && !x.2.bound).foldl (fun d x => Dev.unbindGroup d x.1 0) d

/-- Every command that has not completed goes back to the point of its acceptance; its staged data is discarded (R60). -/
def Dev.cutShort (d : Dev) : Dev :=
  let d := d.queues.foldl (fun d (q, _) => Dev.dropOffered d q) d
  d.queues.foldl (fun d (q, _) =>
    let x := Dev.queue d q
    d.setQueue q { x with journal := x.journal.map (redoEntry false) }) { d with barriers := [] }

/-- Steps 1 to 3 of R549. -/
def Dev.warmStart (d : Dev) (cause : Nat) : Dev :=
  if d.rd RESET_STAT_PHASE ≠ 9 || d.held then d
  else
    let d := { ((d.wr RESET_STAT_PHASE 10).wr RESET_STAT_LAST cause).incSat RESET_STAT_WARMCNT with resetWarm := true }
    let d := d.undoWork.cutShort
    let d := (List.range 64).foldl (fun d n => if Dev.on d (PEG_STAT_HELD n) then d.orphanPeg n else d) d
    let d := d.dmaReset.fabricReset.storeDieReset
    if d.shadowing then ((d.standbyIdle.clr TWIN_STAT_STATE).clr TWIN_STAT_TBLOCK).rejoin else d

/-- WARM_RESET (R547): a pulse on RST_N of this many ns; from 100 ns up to 1 µs it may or may not act. -/
def Dev.rstPulse (d : Dev) (ns : Nat) : Dev :=
  if ns < 100 then d
  else if ns < 1000 then (if d.peekWord.toNat.testBit 0 then d.burn.warmStart 1 else d.burn)
  else d.warmStart 1

/-- A write of RESET_CTL (R551). -/
def Dev.resetCtlWrite (d : Dev) (w : RegWr) : Dev :=
  if !w.one RESET_CTL_WARM then d
  else if w.ones RESET_CTL_KEY ≠ 0xA5 then d.set RESET_STAT_CFGERR
  else d.warmStart 2

/-- WARM_RESET_COMPLETE (R549 steps 4 and 5, R474): each queue replays its own journal; lost journals are discarded, the
placement map's root is rebuilt. -/
def Dev.warmDone (d : Dev) (us : Nat) : Dev :=
  if !d.resetWarm then d
  else
    let d := d.lostJournals.foldl (fun d q => Dev.setQueue d q { Dev.queue d q with journal := [], snaps := [] })
      d.storeResetDone
    let d := { d with lostJournals := [], rootLost := false }
    let d := { (d.replayAll false).2 with resetWarm := false }
    ((d.wr RESET_STAT_PHASE 9).wr RESET_TIME_WARM us).pumpDebug.pumpHosts

/-! Die resets (R552). -/

/-- A load that has not reached its commit is abandoned (R339, R552). -/
def Dev.abandonLoad (d : Dev) : Dev :=
  match d.load with
  | none => d
  | some l =>
    if l.committed then d
    else match l.who with
      | .kadmit q seq =>
        let d := (l.desc.covers l.anchor).foldl (fun d t => Dev.clearFret d t l.fret) { d with load := none }
        d.fix q seq .busError
      | .host =>
        let d := (l.desc.covers l.anchor).foldl (fun d t => Dev.clearFret d t l.fret) { d with load := none }
        (d.clr CFG_STAT_BUSY).set CFG_STAT_PABORT
      | _ => d.burn.abortLoad { l with ecode := 1 + d.peekWord.toNat % 15 }

/-- A reset of logic die A or B: 0 or 1 (R552). -/
def Dev.logicReset (d : Dev) (b : Nat) : Dev :=
  let d := d.kernels.foldl (fun d (h, k) =>
    if k.run.isSome && k.where.any fun t => t / 128 == b then Dev.endRun d h .busError else d) d
  let ts := (d.ensOn b).flatMap fun x => x.2.where x.1
  let d := ts.foldl (fun d t => (List.range 8).foldl (fun d f => Dev.initState d t f false) d) d
  let d := (d.dropTokens ts).endAccesses ts
  { d with portals := d.portals.map fun x : Nat × PortalSt => if ts.contains x.1 then (x.1, { x.2 with outst := [] }) else x }

/-- A die reset begins (R552): 0 store, 1 die A, 2 fret, 3 die B; one that is requested in a warm reset is absorbed by it. -/
def Dev.dieReset (d : Dev) (die : Nat) (dog : Bool) : Dev :=
  if d.resetWarm || d.dieResets.contains die then d
  else
    let d := { ((d.set RESET_STAT_DIEBUSY).wr RESET_STAT_DIE die).wr RESET_STAT_DWDOG (b2n dog) with
      dieResets := d.dieResets ++ [die] }
    let d := if dog then d.report { cls := .crimson, flag := RESET_STAT_DWDOG } else d
    match die with
    | 0 => d.storeDieReset
    | 1 => d.logicReset 0
    | 2 => d.abandonLoad
    | _ => d.logicReset 1

/-- A write of RESET_DIE (R552). -/
def Dev.resetDieWrite (d : Dev) (w : RegWr) : Dev :=
  if !w.one RESET_DIE_GO then d
  else if w.ones RESET_DIE_KEY ≠ 0xA5 then d.set RESET_STAT_CFGERR
  else d.dieReset (w.ones RESET_DIE_DIE) false

/-- DIE_RESET_END (R552): the oldest die reset ends. -/
def Dev.dieResetEnd (d : Dev) : Dev :=
  match d.dieResets with
  | [] => d
  | x :: rest =>
    let d := { d with dieResets := rest }
    let d := if rest.isEmpty then d.clr RESET_STAT_DIEBUSY else d
    if x == 0 then d.storeResetDone.pumpHosts else d

/-! The release of a held device (R440). -/

/-- TWIN_FENCE_N is released: the held device discards its journal, performs a warm reset and rejoins as Shadow. -/
def Dev.unfenced (d : Dev) : Dev :=
  if !d.held then d
  else
    let d := d.queues.foldl (fun d (q, _) => Dev.setQueue (Dev.dropOffered d q) q { Dev.queue (Dev.dropOffered d q) q with journal := [] }) d
    let d := { d with held := false, capo := { d.capo with commits := [] } }
    let d := ((d.wr TWIN_STAT_STATE 0).set TWIN_STAT_ROLE).clr TWIN_STAT_TBLOCK
    (d.burn.warmStart (1 + d.peekWord.toNat % 2)).rejoin

/-! Meanings. -/

/-- COLD_RESET (R548). -/
def execColdReset (s : State) : Result := s.next s.dev.coldReset

/-- POR_RELEASE (R554). -/
def execPorRelease (twinRole : Bool) (oscDly : BitVec 3) (bootSrc iopull : BitVec 2) (vddio : BitVec 24) (s : State) : Result :=
  s.next (s.dev.porRelease twinRole oscDly.toNat bootSrc.toNat iopull.toNat vddio.toNat)

/-- KEY_STORE_READ_DONE (R554). -/
def execKeyStoreReadDone (s : State) : Result := s.next s.dev.keyStoreRead

/-- STARTUP_SELFTEST_DONE (R554). -/
def execStartupSelftestDone (exhausted : List (BitVec 24)) (s : State) : Result :=
  s.next (s.dev.selftestDone (exhausted.map (·.toNat)))

/-- STORE_CLEAR_DONE (R554). -/
def execStoreClearDone (us : BitVec 32) (s : State) : Result := s.next (s.dev.storeClearDone us.toNat)

/-- WARM_RESET (R547, R549). -/
def execWarmReset (pulseNs : BitVec 32) (s : State) : Result := s.next (s.dev.rstPulse pulseNs.toNat)

/-- RESET_CTL_WARM (R551). -/
def execResetCtlWarm (w : RegWr) (s : State) : Result := s.next (s.dev.onWrite (.resetCtlWarm w) w.src 0x20000 fun d => d.resetCtlWrite w)

/-- WARM_RESET_COMPLETE (R549, R550). -/
def execWarmResetComplete (us : BitVec 32) (s : State) : Result := s.next (s.dev.warmDone us.toNat)

/-- DIE_RESET (R552). -/
def execDieReset (w : RegWr) (s : State) : Result := s.next (s.dev.onWrite (.dieReset w) w.src 0x20010 fun d => d.resetDieWrite w)

/-- DIE_WATCHDOG (R552). -/
def execDieWatchdog (die : BitVec 2) (s : State) : Result :=
  s.next (if s.dev.rd RESET_STAT_PHASE < 4 then s.dev else s.dev.dieReset die.toNat true)

/-- DIE_RESET_END (R552). -/
def execDieResetEnd (s : State) : Result := s.next s.dev.dieResetEnd

/-- TWIN_UNFENCE (R440): a write of TWIN_CTL on the new Lead; on the held device, the release of the wire. -/
def execTwinUnfence (w : RegWr) (s : State) : Result :=
  s.next (if s.dev.held then s.dev.unfenced else s.dev.onWrite (.twinUnfence w) w.src 0x400000 fun d => d.twinCtlWrite w)

end Sys2Proof.Machine
end

