-- ==== Sys2Proof/Machine/RegisterWrite.lean ====
section
/-!
DEFINITION. Accesses to the control range by offset (R5 to R8, R387, R422, R558 to R561): which register a write reaches and
what it does there, what a read returns, and the register records that a Shadow applies.
-/
namespace Sys2Proof.Machine

/-! What a write of a register does. -/

/-- A write reaches one field, by its type (R7). -/
def Dev.writeField (d : Dev) (w : RegWr) (t : FType) (f : Field) : Dev :=
  match t with
  | .rw => d.take w f
  | .w1c => d.takeW1c w f
  | .w1s => d.wr f (d.rd f ||| w.ones f)
  | .ro => d
  | .wo => d
  | .take => d

/-- A write of a register whose fields do nothing beyond their types. -/
def Dev.writePlain (d : Dev) (r : RegInfo) (l : List Nat) (off : Nat) (w : RegWr) : Dev :=
  let fs := r.fields l
  let d := fs.foldl (fun d x => Dev.writeField d w x.1 x.2) d
  if mirrorReg off && fs.any (fun x => x.1 != .ro) then d.tellReg off w else d

/-- A write of SCRUB_CTL: its periods are limited (chapter 18). -/
def Dev.scrubCtlWrite (d : Dev) (w : RegWr) : Dev :=
  let d := [SCRUB_CTL_STORED_EN, SCRUB_CTL_LATCH_EN, SCRUB_CTL_BOND_EN, SCRUB_CTL_STORED_MS, SCRUB_CTL_LATCH_MS,
    SCRUB_CTL_BOND_S].foldl (fun d f => Dev.take d w f) d
  let limit := fun (d : Dev) (f : Field) lo hi => d.wr f (max lo (min hi (d.rd f)))
  limit (limit (limit d SCRUB_CTL_STORED_MS 10 1000) SCRUB_CTL_LATCH_MS 1 100) SCRUB_CTL_BOND_S 1 3600

/-- The registers of a group answer only in the block of the group's first lane (chapter 14). -/
def Dev.groupBlock (d : Dev) (L : Nat) : Bool := decide (L < 128) && (d.group L).isSome

/-- A write of CFG_CTL (R345): an image of OP 1, 2 and 4 comes with those operations' own commands. -/
def Dev.cfgCtlWrite (d : Dev) (w : RegWr) : Dev :=
  d.cfgCtl w fun d => if w.ones CFG_CTL_OP == 3 then d.nvProgram else d

/-- What a write that reaches the register at a multiple of 8 does. mirrored: it comes from the Lead (R422). -/
def Dev.writeReg (d : Dev) (off : Nat) (w : RegWr) (mirrored : Bool) : Dev :=
  match regAt off with
  | none => d
  | some (r, l) =>
    let x := l.getD 0 0
    match r.reg with
    | .QU_RING => d.ringWrite x w
    | .QU_DOORBELL => d.doorbell x w
    | .QU_CTL => d.queueCtl x w
    | .CQ_RING => d.cqRingWrite x w
    | .CQ_HEAD => d.cqHeadWrite x w
    | .QU_S => d.sregWrite x (l.getD 1 0) w
    | .EV_COUNT => d.evCountWrite x w
    | .PLACE_CTL => d.placeCtlWrite w
    | .FRET_QTIME => d.qtimeWrite x w
    | .CFG_METER_STAT => d.meterStatWrite w false false
    | .CFG_CTL => d.cfgCtlWrite w
    | .STORE_FLIP_CTL => d.flipCtlWrite w
    | .STORE_FLIPMASK => d.flipMaskWrite x w
    | .BANK_OWN => if mirrored then d.bankOwnMirror x w else d.bankOwnWrite x w
    | .TALLY_TBL_CFG => d.tallyRelease x w
    | .TALLY_MAP_Q => d.tallyMapWrite w
    | .LLP_GRP_CFG => if d.groupBlock x then d.writePlain r l off w else d
    | .LLP_GRP_ERR => if d.groupBlock x then d.writePlain r l off w else d
    | .PEG_GIVE => match w.src with
      | .host p => if w.one (PEG_GIVE_GIVE x) then (d.givePeg x p).2 else d
      | _ => d
    | .QU_XFER => match w.src with
      | .host p => d.xferWrite p w
      | _ => d
    | .DMA_CH_SRC => d.dmaSetWrite x (DMA_CH_SRC_ADDR x) false w
    | .DMA_CH_DST => d.dmaSetWrite x (DMA_CH_DST_ADDR x) false w
    | .DMA_CH_CNT => d.dmaSetWrite x (DMA_CH_CNT_CNT x) false w
    | .DMA_CH_CTL => d.dmaCtlWrite x w
    | .DMA_CH_SSRC => d.dmaSetWrite x (DMA_CH_SSRC_ADDR x) true w
    | .DMA_CH_SDST => d.dmaSetWrite x (DMA_CH_SDST_ADDR x) true w
    | .DMA_CH_SCNT => d.dmaSetWrite x (DMA_CH_SCNT_CNT x) true w
    | .DMA_CH_SCTL => d.dmaSctlWrite x w
    | .TWIN_CTL => d.twinCtlWrite w
    | .ERR_CTL => d.errCtlWrite w
    | .ERR_RING => d.errRingWrite w
    | .ERR_HEAD => d.errHeadWrite w
    | .ERR_DROP => d.errDropWrite w
    | .ERR_BKT_CFG => d.bktCfgWrite x w
    | .ERR_BKT_Q => d.bktQWrite w
    | .ERR_RETIRE => d.retireWrite w
    | .SCRUB_CTL => d.scrubCtlWrite w
    | .SEC_LC_REQ => d.lcReqWrite w
    | .SEC_KEYCTL => d.keyCtlWrite w
    | .SEC_KEYDATA => d.keyDataWrite x w
    | .CLK_GATE0 => d.gatesWrite false w
    | .CLK_GATE1 => d.gatesWrite true w
    | .CLK_OP =>
      let (u, d) := d.freshWord
      d.clkOpWrite w (u.toNat % 2 == 1)
    | .CLK_PMBUS =>
      let (u, d) := d.freshWord
      d.pmbusWrite w (u.toNat % 2 == 1)
    | .CLK_FABV => (d.take w CLK_FABV_TARGET).fabStart
    | .CLK_IOPLL => d.ioPllWrite w
    | .CLK_IOCLK => d.ioClkWrite x w
    | .CLK_REST => d.clkRestWrite w
    | .TB_CTL => d.tbCtlWrite w
    | .TB_ADJ => d.tbAdjWrite w
    | .PIN_FUNC => d.pinFuncWrite w
    | .GPIO_OUT => d.gpioWrite false w
    | .GPIO_OE => d.gpioWrite true w
    | .SVC_CFG => d.svcCfgWrite x w
    | .SVC_XFER => d.svcXferWrite w
    | .IOCELL => d.ioCellWrite x w
    | .IOBANK => d.ioBankWrite x w
    | .RESET_CTL => d.resetCtlWrite w
    | .RESET_DIE => d.resetDieWrite w
    | .RESET_TILE => d.resetTile w
    | _ => d.writePlain r l off w

/-! Accesses. -/

/-- The write that an access of a size makes (R5): aligned words of 32 or 64 bits, and no other. -/
def regWrOf (src : Src) (off size : Nat) (data : Word) : Option RegWr :=
  if size = 4 ∧ off % 4 = 0 then
    some (if off % 8 = 0 then ⟨src, .lo, data &&& 0xFFFFFFFF⟩ else ⟨src, .hi, data <<< 32⟩)
  else if size = 8 ∧ off % 8 = 0 then some ⟨src, .all, data⟩
  else none

/-- An offset lies in an operation window (R283). -/
def inOpwin (off : Nat) : Bool := decide (0x281000 ≤ off ∧ off < 0x289000)

/-- A register that only a host port may write (R396, R404). -/
def hostOnly (off : Nat) : Bool :=
  match regAt off with
  | some (r, _) => r.reg == .PEG_GIVE || r.reg == .QU_XFER
  | none => false

/-- A register lies in a queue's own range (R29): the queue. -/
def ownRange (off : Nat) : Option Nat :=
  if 0x050000 ≤ off ∧ off < 0x054000 ∧ (regAt off).isSome then some ((off - 0x050000) / 0x100) else none

/-- A write that is served at a multiple of 8 (R29, R387, R559). -/
def Dev.writeServed (d : Dev) (off : Nat) (w : RegWr) : Dev :=
  if 0xFE0000 ≤ off ∧ off < 0xFE2000 then match w.src with
    | .host p => d.msixWrite p (off - 0xFE0000) w.half w.data.toNat
    | _ => d
  else match ownRange off with
    | some q => if writePort w.src = d.queuePort q then d.writeReg off w false else d.set (QU_STAT_NOTOWN q)
    | none => d.writeReg off w false

/-- An access by offset writes (R5, R283, R558 to R560): how it ends, and what it leaves. -/
def Dev.regWrite (d : Dev) (src : Src) (off size : Nat) (data : Word) : Access × Dev :=
  match d.access src off true with
  | .ok =>
    let host : Bool := match src with | .host _ => true | _ => false
    if inOpwin off || (hostOnly (off / 8 * 8) && !host) then (.busError, d)
    else match regWrOf src off size data with
      | none => (.busError, d)
      | some w => (.ok, d.writeServed (off / 8 * 8) w)
  | a => (a, d)

/-- REGISTER_WRITE: what its refusal leaves behind (R391, R429, R502). A host's write whose data is poisoned is discarded,
whichever register it names (R391). -/
def Dev.registerWrite (d : Dev) (i : Instr) (src : Src) (off size : Nat) (data : Word) (ep : Bool) : Dev :=
  let bad := match src with
    | .host p => if ep && d.access src off true != Access.silent && d.access src off true != Access.unsupported then some p else none
    | _ => none
  match bad with
  | some p => d.portEvent p (PORT_ERR_EPRX p.num) (0xF000000000 + off)
  | none =>
    let (a, d) := d.regWrite src off size data
    if a = .ok then d else if a = .later then d.keepRow src true off i else d.refuseWrite src off a

/-! What a read returns. -/

/-- Count the numbers below n that meet a test. -/
def countIf (n : Nat) (p : Nat → Bool) : Nat := ((List.range n).filter p).length

/-- Records that wait for a port (R398): those of queues whose next record is due in memory behind it. -/
def Dev.heldRecords (d : Dev) (p : Port) : Nat :=
  (d.queues.map fun (q, x) => match addrSpace (d.cqSlot q) with
    | .host p2 _ =>
      if p2 = p && !d.portUp p then
        ((x.journal.takeWhile fun e => e.stage == .completed && e.durable).filter Entry.recordDue).length
      else 0
    | _ => 0).foldl (· + ·) 0

/-- KiB of write records that the Shadow has not acknowledged (TWIN_LAG). -/
def Dev.writeLag (d : Dev) : Nat :=
  min 4096 (((d.capo.frames.map fun x => if x.words.headD 0 == 0x14 then x.words.length - 4 else 0).foldl (· + ·) 0 + 1023) / 1024)

/-- The fields that no write sets and that show what the device knows otherwise, with what they show. -/
def Dev.shows (d : Dev) (r : Reg) (l : List Nat) : List (Field × Nat) :=
  let x := l.getD 0 0
  match r with
  | .QU_STAT => [(QU_STAT_IDLE x, b2n (d.queueIdle x))]
  | .QU_STACK =>
    let e := l.getD 1 0
    match (d.queue x).stack[e]? with
    | some (p, _) => [(QU_STACK_RETURN x e, d.placeAddr x p), (QU_STACK_VALID x e, 1)]
    | none => [(QU_STACK_RETURN x e, 0), (QU_STACK_VALID x e, 0)]
  | .JOURNAL_STAT => [(JOURNAL_STAT_USED, d.journalUsed), (JOURNAL_STAT_FULL, b2n (decide (32768 ≤ d.journalUsed)))]
  | .PLACE_STAT =>
    let leaves := d.buffers.any fun y => y.2.rows.any fun r => match r with | some r => Dev.leaving d r | none => false
    [(PLACE_STAT_EMPTY, b2n d.empty), (PLACE_STAT_MIGRATING, b2n (!(d.migrations.isEmpty && d.bufMoves.isEmpty) || leaves))]
  | .PLACE_CAP0 =>
    let ok := fun t => !d.isRetired .tile t
    [(PLACE_CAP0_TILES_OK, countIf 256 ok),
     (PLACE_CAP0_TILES_FREE, countIf 256 fun t => ok t && (d.ensembleOf t).isNone),
     (PLACE_CAP0_BANKS_OK, countIf 1024 fun n => !d.isRetired .bank n),
     (PLACE_CAP0_BANKS_FREE, countIf 1024 fun n => d.managed n && !d.isPool n && (lowestFree d.usedRows n).isSome),
     (PLACE_CAP0_FRETS_FREE, countIf 2048 fun i => ok (i / 8) && (d.kernelAt (i / 8) (i % 8)).isNone),
     (PLACE_CAP0_ROWPORTS_OK, countIf 256 fun t => ok t && !d.isRetired .rowPort t)]
  | .PLACE_CAP1 =>
    [(PLACE_CAP1_ROWS_FREE, ((List.range 64).map (d.freeRows d.usedRows)).foldl (· + ·) 0),
     (PLACE_CAP1_TALLY_FREE, d.tallyFree), (PLACE_CAP1_VPAIRS_OK, countIf 128 fun n => !d.isRetired .vertical n)]
  | .PLACE_REMAP => [(PLACE_REMAP_PHYS x, numLE ((List.range 8).map fun j => .ofNat 8 (d.phys (8 * x + j))))]
  | .FRET_STAT =>
    match d.ensembleOf x with
    | some (a, e) =>
      [(FRET_STAT_PHASE x, e.phase), (FRET_STAT_ANCHOR x, a), (FRET_STAT_W x, e.w - 1), (FRET_STAT_H x, e.h - 1),
       (FRET_STAT_BOTH x, b2n e.both), (FRET_STAT_ROTPOS x, e.rotPos), (FRET_STAT_ROTV x, b2n e.rotating)]
    | none =>
      [(FRET_STAT_PHASE x, 0), (FRET_STAT_ANCHOR x, 0), (FRET_STAT_W x, 0), (FRET_STAT_H x, 0),
       (FRET_STAT_BOTH x, 0), (FRET_STAT_ROTPOS x, 0), (FRET_STAT_ROTV x, 0)]
  | .FRET_DRAIN =>
    let n := match d.shownKernel x with | some (_, k) => k.drain | none => 0
    [(FRET_DRAIN_DEPTH x, n), (FRET_DRAIN_LIMIT x, 8 * n + 100)]
  | .FABRIC_BMEM_OWN =>
    (List.range 16).map fun m => (FABRIC_BMEM_OWN_OWN x m,
      match (List.range 8).find? fun f => d.portBits f x (64 * m) 1 == 1 with | some f => 8 + f | none => 0)
  | .FABRIC_PORTAL_STAT =>
    [(FABRIC_PORTAL_STAT_INFILL x, d.inFill x 0 + 2 ^ 6 * d.inFill x 1 + 2 ^ 12 * d.inFill x 2 + 2 ^ 18 * d.inFill x 3),
     (FABRIC_PORTAL_STAT_OUTFILL x, (List.range 4).foldl (fun n k => n + 2 ^ (5 * k) * (d.portal x).outFill k) 0), (FABRIC_PORTAL_STAT_OUTST x, (d.portal x).outst.length),
     (FABRIC_PORTAL_STAT_EN x, b2n (d.portalOn x))]
  | .FABRIC_ROWP_STAT =>
    let (dir, n) := match d.rowReg x with | some g => (g.toBank, g.slices) | none => (false, 0)
    [(FABRIC_ROWP_STAT_EN x, b2n (d.rowPortOn x)), (FABRIC_ROWP_STAT_KDRIVE x, b2n (d.kdrive x)),
     (FABRIC_ROWP_STAT_FULL x, b2n (!d.rowRegFree x)), (FABRIC_ROWP_STAT_DIR x, b2n dir), (FABRIC_ROWP_STAT_SLICE x, n % 8)]
  | .FABRIC_PARAM => [(FABRIC_PARAM_VALUE x (l.getD 1 0), (d.param x (d.shown x) (l.getD 1 0)).toNat)]
  | .BANK_OWN => [(BANK_OWN_POOL x, b2n (d.isPool x))]
  | .TALLY_TBL_USED =>
    let (p, s, n) := d.tableUsed x
    [(TALLY_TBL_USED_PRIMARY x, p), (TALLY_TBL_USED_SPILL x, s), (TALLY_TBL_USED_SATS x, n)]
  | .TALLY_MAP_R =>
    match d.tallyMap with
    | some r => [(TALLY_MAP_R_BANK, r / 512), (TALLY_MAP_R_BROW, r % 512), (TALLY_MAP_R_OK, 1)]
    | none => [(TALLY_MAP_R_BANK, 0), (TALLY_MAP_R_BROW, 0), (TALLY_MAP_R_OK, 0)]
  | .PORT_STAT => [(PORT_STAT_HELDREC x, d.heldRecords (portOf x))]
  | .DMA_STAT => [(DMA_STAT_BUSY x, d.rd (DMA_CH_CTL_GO x)), (DMA_STAT_ARMED x, d.rd (DMA_CH_SCTL_ARM x))]
  | .DMA_ENG =>
    let sum := fun (f : Xfer → Nat) => (d.xfers.map fun y => f y.2).foldl (· + ·) 0
    let strays := (d.dma.strays.filter fun y => y.2.2).length
    [(DMA_ENG_SLOTS, (sum fun y => y.reads.length + y.arrived.length) + strays), (DMA_ENG_RDOUT, (sum fun y => y.reads.length) + strays),
     (DMA_ENG_BUSYCH, countIf 64 d.dmaBusy)]
  | .TWIN_STAT =>
    [(TWIN_STAT_STANDBY_DOWN, b2n (d.capo.standby.any fun g => match d.group g with | some y => y.phase != 5 | none => true))]
  | .TWIN_LAG =>
    [(TWIN_LAG_JOURNAL, (d.queues.map fun y => (y.2.journal.filter fun e => e.stage == .offered).length).foldl (· + ·) 0),
     (TWIN_LAG_COMMITS, d.capo.commits.length), (TWIN_LAG_WRITES, d.writeLag)]
  | .TWIN_CTR => [(TWIN_CTR_TX, d.capo.txCtr / 2 ^ 64), (TWIN_CTR_RX, d.capo.rxCtr / 2 ^ 64)]
  | .ERR_ALARM => [(ERR_ALARM_HOLD, b2n (d.on ERR_ALARM_HOLD || d.held))]
  | .ERR_BKT_R =>
    let u := d.rd ERR_BKT_Q_UID
    match (kindOf (d.rd ERR_BKT_Q_KIND)).filter fun k => unitNamed k u with
    | some k =>
      let s : StringSt := if k = .string then d.string u else {}
      [(ERR_BKT_R_COUNT, (if d.isRetired k u then d.bucket k u else d.settled k u).count),
       (ERR_BKT_R_RETIRED, b2n (d.isRetired k u)), (ERR_BKT_R_VALID, 1), (ERR_BKT_R_SPARES, s.spared.length),
       (ERR_BKT_R_EXHAUSTED, b2n s.exhausted)]
    | none => [(ERR_BKT_R_COUNT, 0), (ERR_BKT_R_RETIRED, 0), (ERR_BKT_R_VALID, 0), (ERR_BKT_R_SPARES, 0), (ERR_BKT_R_EXHAUSTED, 0)]
  | .SEC_LC => [(SEC_LC_STATE, d.lc)]
  | .SEC_KEYDATA => [(SEC_KEYDATA_DATA x, d.keyDataRead x)]
  | .PIN_STAT => [(PIN_STAT_CONFLICT, maskOf ((List.range 48).filter d.pinConflict))]
  | .SVC_CFG => [(SVC_CFG_OWNER x, d.pinOwner x)]
  | .GLB_STAT =>
    [(GLB_STAT_READY, b2n d.pinReady), (GLB_STAT_CFGERR, b2n (d.on CFG_STAT_ERR)), (GLB_STAT_ALARM, b2n d.alarmLow),
     (GLB_STAT_ROLE, d.rd TWIN_STAT_ROLE), (GLB_STAT_LC, d.lc), (GLB_STAT_REST, d.rd CLK_REST_STATE),
     (GLB_STAT_PHASE, d.rd RESET_STAT_PHASE)]
  | _ => []

/-- A field as a read returns it (R7). -/
def Dev.fieldRead (d : Dev) (shown : List (Field × Nat)) (t : FType) (f : Field) : Nat :=
  match t with
  | .wo => 0
  | _ => match shown.find? fun x => x.1 == f with
    | some x => x.2 % 2 ^ f.width
    | none => d.rd f

/-- The 64 bits that a read of the register at a multiple of 8 returns; an offset that names none reads 0 (R559). -/
def Dev.readReg (d : Dev) (off : Nat) : Nat :=
  match regAt off with
  | none => 0
  | some (r, l) =>
    if [Reg.LLP_GRP_CFG, .LLP_GRP_STAT, .LLP_GRP_CNT, .LLP_GRP_ERR].contains r.reg && !d.groupBlock (l.getD 0 0) then 0
    else
      let shown := d.shows r.reg l
      (r.fields l).foldl (fun n x => n + 2 ^ x.2.lo * d.fieldRead shown x.1 x.2) 0

/-- A read, with what it does to the device: TB_NOW latches the seconds (R518), a read of CFG_DDDATA moves on (chapter 13),
GPIO_IN samples the pins (R534). -/
def Dev.readTouch (d : Dev) (off : Nat) : Nat × Dev :=
  if off = 0x420010 then d.tbNow
  else if off = 0x380050 then d.ddRead
  else if off = 0x030020 then d.gpioIn
  else (d.readReg off, d)

/-- An access by offset reads (R5, R283, R404, R558 to R560), for a source that is no host: the bytes, or none when it ends
with a bus error. -/
def Dev.regReadBy (d : Dev) (src : Src) (off size : Nat) : Option (List Byte) × Dev :=
  match d.access src off false with
  | .ok =>
    if inOpwin off then (some (List.replicate size 0), d)
    else if !((size = 4 && off % 4 == 0) || (size = 8 && off % 8 == 0)) then (none, d)
    else if ((regAt (off / 8 * 8)).map fun x => x.1.reg) == some .PEG_TAKE then (none, d)
    else
      let (v, d) := d.readTouch (off / 8 * 8)
      (some (bytesLE size (v / 2 ^ (8 * (off % 8)))), d)
  | .gated => (none, d.set CLK_STAT_GATEHIT)
  | _ => (none, d)

/-! Register records (R422). -/

/-- The Shadow sets every field of a register that the Lead sends as it stands (R417). -/
def Dev.setReg (d : Dev) (off : Nat) (data : Nat) : Dev :=
  match regAt off with
  | none => d
  | some (r, l) => (r.fields l).foldl (fun d x => Dev.wr d x.2 (bitsOf data x.2.lo x.2.width)) d

/-- REGISTER_RECORD: a write of the Lead's takes effect on the Shadow, or the sync stream brings a register's contents. -/
def Dev.registerRecord (d : Dev) (off : Nat) (h : Half) (data : Word) (stands : Bool) : Dev :=
  if !d.mirroring then d
  else if stands then d.setReg (off / 8 * 8) data.toNat
  else d.writeReg (off / 8 * 8) ⟨.host .a, h, data⟩ true

/-! Meanings. -/

/-- REGISTER_WRITE (R5, R7). -/
def execRegisterWrite (src : Src) (off : BitVec 24) (size : BitVec 8) (data : Word) (ep : Bool) (s : State) : Result :=
  s.next (s.dev.registerWrite (.registerWrite src off size data ep) src off.toNat size.toNat data ep)

/-- REGISTER_RECORD (R422). -/
def execRegisterRecord (off : BitVec 24) (half : Half) (data : Word) (stands : Bool) (s : State) : Result :=
  s.next (s.dev.registerRecord off.toNat half data stands)

end Sys2Proof.Machine
end

