-- ==== Sys2Proof/Machine/DmaChunks.lean ====
section
/-!
DEFINITION. The read and write engines of the DMA channels (chapter 16, R406 to R411): one chunk read or asked for, one chunk
written, by the range of R24 that its address lies in, and the answers of portals.
-/
namespace Sys2Proof.Machine

/-- The slots of the shared buffer that a channel holds (R406). -/
def Xfer.slots (x : Xfer) : Nat := x.reads.length + x.arrived.length

/-- Sum over the channels. -/
def Dev.sumXfers (d : Dev) (f : Xfer → Nat) : Nat := (d.xfers.map fun y => f y.2).foldl (· + ·) 0

/-- The slots that reads of a channel's failed transfers hold, or of every channel's (R411). -/
def Dev.straySlots (d : Dev) (ch : Option Nat) : Nat :=
  (d.dma.strays.filter fun r => r.2.2 && match ch with | some c => r.1 == c | none => true).length

/-- The read engine may issue a read for a channel (R406): a slot is free, and so is a tag. -/
def Dev.dmaRoom (d : Dev) (ch : Nat) (x : Xfer) : Bool :=
  decide (x.slots + d.straySlots (some ch) < 128) && decide (d.sumXfers Xfer.slots + d.straySlots none < 1024)
    && decide (d.sumXfers (fun y => y.reads.length + y.writes.length) + d.dma.strays.length < 1024)

/-- The lowest tag that no request of the engines bears (R301). -/
def Dev.dmaTag (d : Dev) : Nat :=
  let used := (d.xfers.map fun y => (y.2.reads ++ y.2.writes).map (·.1)).flatten ++ d.dma.strays.map fun r => r.2.1
  ((List.range 1024).find? fun g => !used.contains g).getD 0

/-- Replace a channel's transfer and show how far it has come. -/
def Dev.setXfer (d : Dev) (ch : Nat) (x : Xfer) : Dev := { d with xfers := KMap.put d.xfers ch x }.dmaShow ch

/-- A request of the engines to a portal window (R304, R320, R407). -/
def Dev.dmaPacket (d : Dev) (ch : Nat) (x : Xfer) (tag a n : Nat) (write : Bool) (data : List Byte) : Packet :=
  let t := d.phys (bitsOf a 24 8)
  let pad := (32 - data.length % 32) % 32
  { dcol := .ofNat 6 (colOfTile t)
    dep := .ofNat 4 (epOfTile t)
    scol := .ofNat 6 dmaCol
    sep := 7
    cmd := if write then 2 else 1
    key := .ofNat 6 (d.rd (DMA_CH_CTL_KEY ch))
    tag := .ofNat 10 tag
    epoch := .ofNat 8 x.epoch
    pri := false
    vc := 0
    rstat := 0
    operand := .ofNat 64 a
    rlen := if write then 0 else .ofNat 10 n
    data := data ++ List.replicate pad 0
    enables := List.replicate data.length true ++ List.replicate (if write then pad else 0) false }

/-- The kind of failure of an outcome (DMA_STATn.EKIND). -/
def failKind : Outc → Nat
  | .uncorrectable => 2
  | _ => 1

/-- Byte i of a side has been passed by a transfer's first n bytes: it is the address of one of them. -/
def passed (wrap : Bool) (k base n a : Nat) : Bool :=
  if wrap then a / 2 ^ k == base / 2 ^ k && decide ((a % 2 ^ k + 2 ^ k - base % 2 ^ k) % 2 ^ k < n)
  else decide (base ≤ a ∧ a < base + n)

/-- The data of a chunk as its write carries it (R408): a byte that an earlier chunk writes is undefined. -/
def Dev.chunkData (d : Dev) (ch : Nat) (x : Xfer) (i : Nat) (data : List Byte) : List Byte × Dev :=
  let a := d.dmaSrc ch x i
  let hit := fun j => passed (d.on (DMA_CH_CTL_DST_WRAP ch)) (d.rd (DMA_CH_CTL_DST_K ch)) x.dst i (a + j)
  if (List.range data.length).any hit then
    let (u, d) := d.freshBytes data.length
    ((List.range data.length).map fun j => if hit j then u.getD j 0 else data.getD j 0, d)
  else (data, d)

/-- The data of a chunk has arrived. -/
def Dev.chunkArrived (d : Dev) (ch i : Nat) (data : List Byte) : Dev :=
  match d.xfer ch with
  | none => d
  | some x =>
    let (data, d) := d.chunkData ch x i data
    d.setXfer ch { x with arrived := x.arrived ++ [(i, data)] }

/-- A read that its place answers in the same step. -/
def Dev.chunkAnswer (d : Dev) (ch i n a : Nat) (o : Outc) (data : List Byte) : Dev :=
  if o = .ok then
    match d.xfer ch with
    | some x => ({ d with xfers := KMap.put d.xfers ch { x with issued := i + n } }).chunkArrived ch i data
    | none => d
  else d.dmaFail ch (failKind o) false a

/-- A portal of a debug window's tile serves debug accesses now (R219). -/
def Dev.debugReady (d : Dev) (ofs : Nat) : Bool := !d.debugWaits (bitsOf ofs 17 8) (bitsOf ofs 13 4)

/-- A host's answer to a read of n bytes that a device address names (R393). -/
def Dev.hostAnswer (d : Dev) (p : Port) (a n : Nat) (o : Outc) (data : List Byte) : Outc × Dev :=
  let o : Outc := if !d.portUp p then .busError else if o = .ok && decide (data.length < n) then .busError else o
  let d := if d.portUp p then d.emit (.hostRead p (hostAddr a) n) else d
  (o, if o = .ok then d else d.deviceFail p a)

/-- The read engine issues one chunk (R406, R407, R409). data and o: what the host answers, for host memory. -/
def Dev.chunkRead (d : Dev) (ch : Nat) (data : List Byte) (o : Outc) : Dev :=
  match d.xfer ch with
  | none => d
  | some x =>
    let i := x.issued
    let n := d.chunkLen ch x i
    let a := d.dmaSrc ch x i
    if !d.dmaBusy ch || !d.running || !d.gateServes 6 || decide (x.total ≤ i) || !d.dmaRoom ch x then d
    else if !inRange x.src a then d.dmaFail ch 1 false a
    else if !d.keyOk (d.rd (DMA_CH_CTL_KEY ch)) then d.dmaFail ch 3 false a
    else match addrSpace a with
      | .store s =>
        let key := d.rd (DMA_CH_CTL_KEY ch)
        if !d.linked dmaCol (s / 2 ^ 22) then (d.noRoute dmaCol (s / 2 ^ 22) 4 a).chunkAnswer ch i n a .busError []
        else if !d.storeReady (.port x.port) key s n then d
        else
          let (b, o, d) := d.storeRead (.port x.port) key s n
          d.chunkAnswer ch i n a o b
      | .window _ _ =>
        let tag := d.dmaTag
        let p := d.dmaPacket ch x tag a n false []
        (d.setXfer ch { x with issued := i + n, reads := x.reads ++ [(tag, i, n)] }).emit (.packet p)
      | .debug ofs =>
        if !d.debugReady ofs then d
        else
          let (v, o, d) := d.debugRead (d.phys (bitsOf ofs 17 8)) (bitsOf ofs 13 4) (bitsOf ofs 0 13) n
          d.chunkAnswer ch i n a o (bytesLE n v)
      | .control off =>
        let (b, d) := d.regReadBy (.dma x.port) off n
        match b with
        | some b => d.chunkAnswer ch i n a .ok b
        | none => d.chunkAnswer ch i n a .busError []
      | .host p _ =>
        if !d.linked dmaCol (portCol p) then (d.noRoute dmaCol (portCol p) 10 a).chunkAnswer ch i n a .busError []
        else
          let (o, d) := d.hostAnswer p a n o data
          d.chunkAnswer ch i n a o (data.take n)
      | .none => d.dmaFail ch 1 false a

/-- Two runs of bytes meet. -/
def rangesMeet (a n b m : Nat) : Bool := decide (a < b + m ∧ b < a + n)

/-- An earlier chunk that covers some of the same destination bytes has not received its CPL (R408). -/
def Dev.chunkBlocked (d : Dev) (ch : Nat) (x : Xfer) (i n : Nat) : Bool :=
  let open_ := x.reads.map (fun r => (r.2.1, r.2.2)) ++ x.arrived.map (fun r => (r.1, r.2.length)) ++ x.writes.map (fun r => (r.2.1, r.2.2))
  open_.any fun c => decide (c.1 < i) && rangesMeet (d.dmaDst ch x c.1) c.2 (d.dmaDst ch x i) n

/-- A chunk's write has received its CPL. -/
def Dev.chunkDone (d : Dev) (ch i n : Nat) : Dev :=
  match d.xfer ch with
  | some x => d.setXfer ch { x with written := x.written ++ [(i, n)] }
  | none => d

/-- A write that its place answers in the same step. -/
def Dev.chunkWritten (d : Dev) (ch i n a : Nat) (o : Outc) : Dev :=
  if o = .ok then d.chunkDone ch i n else d.dmaFail ch (failKind o) true a

/-- A write of a chunk into an operation window, or into registers (R5, R283, R560). -/
def Dev.controlWrite (d : Dev) (p : Port) (key off : Nat) (data : List Byte) : Outc × Dev :=
  if inOpwin off then
    match d.access (.dma p) off true with
    | .ok => d.opwinWrite p key ((off - 0x281000) / 0x200) ((off - 0x281000) % 0x200) data
    | a => (.busError, d.refuseWrite (.dma p) off a)
  else
    let (a, d) := d.regWrite (.dma p) off data.length (.ofNat 64 (numLE data))
    if a = .ok then (.ok, d) else (.busError, d.refuseWrite (.dma p) off a)

/-- The write engine issues the chunk that begins at byte i (R406 to R410). -/
def Dev.chunkWrite (d : Dev) (ch i : Nat) : Dev :=
  match d.xfer ch with
  | none => d
  | some x => match x.arrived.find? fun c => c.1 == i with
    | none => d
    | some (_, data) =>
      let n := data.length
      let a := d.dmaDst ch x i
      let key := d.rd (DMA_CH_CTL_KEY ch)
      let go := fun (d : Dev) => d.setXfer ch { x with arrived := x.arrived.filter fun c => c.1 != i }
      if !d.dmaBusy ch || !d.running || !d.gateServes 6 || d.chunkBlocked ch x i n then d
      else if !inRange x.dst a then d.dmaFail ch 1 true a
      else if !d.keyOk key then d.dmaFail ch 3 true a
      else match addrSpace a with
        | .store s =>
          if !d.linked dmaCol (s / 2 ^ 22) then ((go d).noRoute dmaCol (s / 2 ^ 22) 4 a).chunkWritten ch i n a .busError
          else if !d.storeReady (.port x.port) key s n || (d.mirrorFull && (rowsOfRange s n).any d.mirrored) then d
          else
            let (o, d) := (go d).storeWrite (.port x.port) key s data (List.replicate n true)
            d.chunkWritten ch i n a o
        | .window _ _ =>
          let tag := d.dmaTag
          let p := d.dmaPacket ch x tag a n true data
          (d.setXfer ch { x with arrived := x.arrived.filter fun c => c.1 != i, writes := x.writes ++ [(tag, i, n)] }).emit (.packet p)
        | .debug ofs =>
          if !d.debugReady ofs then d
          else
            let (o, d) := (go d).debugWrite (d.phys (bitsOf ofs 17 8)) (bitsOf ofs 13 4) (bitsOf ofs 0 13) n (numLE data)
            d.chunkWritten ch i n a o
        | .control off =>
          let (o, d) := (go d).controlWrite x.port key off data
          d.chunkWritten ch i n a o
        | .host p h =>
          let d := go d
          if !d.linked dmaCol (portCol p) then (d.noRoute dmaCol (portCol p) 10 a).chunkWritten ch i n a .busError
          else if d.portUp p then (d.emit (.hostWrite p h data)).chunkWritten ch i n a .ok
          else (d.deviceFail p a).chunkWritten ch i n a .busError
        | .none => d.dmaFail ch 1 true a

/-- A portal's answer reaches the engines (R319, R410, R411); one that no request awaits is discarded, and one to a request of a failed
transfer frees its tag and its slot. -/
def Dev.dmaResponse (d : Dev) (p : Packet) : Dev :=
  let tag := p.tag.toNat
  let o : Outc := if p.rstat == 0 then .ok else if p.rstat == 2 then .uncorrectable else .busError
  match d.xfers.find? fun y => (y.2.reads ++ y.2.writes).any fun r => r.1 == tag with
  | none => { d with dma := { d.dma with strays := d.dma.strays.filter fun r => r.2.1 != tag } }
  | some (ch, x) => match x.reads.find? fun r => r.1 == tag with
    | some (_, i, n) =>
      let a := d.dmaSrc ch x i
      let d := { d with xfers := KMap.put d.xfers ch { x with reads := x.reads.filter fun r => r.1 != tag } }
      if o ≠ .ok || decide (p.data.length < n) then d.dmaFail ch (failKind o) false a
      else d.chunkArrived ch i (p.data.take n)
    | none => match x.writes.find? fun r => r.1 == tag with
      | some (_, i, n) =>
        let a := d.dmaDst ch x i
        ({ d with xfers := KMap.put d.xfers ch { x with writes := x.writes.filter fun r => r.1 != tag } }).chunkWritten ch i n a o
      | none => d

/-! The turns of the engines (R406). -/

/-- The first channel after the one served last, in round-robin order, that is ready. -/
def Dev.dmaNext (d : Dev) (last : Nat) (ready : Nat → Bool) : Option Nat :=
  ((List.range 64).map fun i => (last + 1 + i) % 64).find? fun c => (d.xfer c).isSome && ready c

/-- A channel is ready for the read engine: a chunk is left, there is room for it, and its place serves now. -/
def Dev.readReady (d : Dev) (ch : Nat) : Bool :=
  match d.xfer ch with
  | none => false
  | some x =>
    let i := x.issued
    let a := d.dmaSrc ch x i
    d.dmaBusy ch && d.running && d.gateServes 6 && decide (i < x.total) && d.dmaRoom ch x &&
    match addrSpace a with
    | .store s => !d.linked dmaCol (s / 2 ^ 22) || d.storeReady (.port x.port) (d.rd (DMA_CH_CTL_KEY ch)) s (d.chunkLen ch x i)
    | .debug ofs => d.debugReady ofs
    | _ => true

/-- A chunk of a channel is ready for the write engine: its data has arrived, no earlier chunk holds it back, and its place serves now. -/
def Dev.chunkReady (d : Dev) (ch i : Nat) : Bool :=
  match d.xfer ch with
  | none => false
  | some x => match x.arrived.find? fun c => c.1 == i with
    | none => false
    | some (_, data) =>
      d.dmaBusy ch && d.running && d.gateServes 6 && !d.chunkBlocked ch x i data.length &&
      match addrSpace (d.dmaDst ch x i) with
      | .store s => !d.linked dmaCol (s / 2 ^ 22) || (d.storeReady (.port x.port) (d.rd (DMA_CH_CTL_KEY ch)) s data.length
          && !(d.mirrorFull && (rowsOfRange s data.length).any d.mirrored))
      | .debug ofs => d.debugReady ofs
      | _ => true

/-- A channel has a chunk that is ready for the write engine. -/
def Dev.writeReady (d : Dev) (ch : Nat) : Bool :=
  match d.xfer ch with
  | some x => x.arrived.any fun c => d.chunkReady ch c.1
  | none => false

/-- The read engine serves a channel in its turn, one chunk (R406). -/
def Dev.readTurn (d : Dev) (ch : Nat) (data : List Byte) (o : Outc) : Dev :=
  if d.dmaNext d.dma.readLast d.readReady = some ch then
    let t := d.chunkRead ch data o
    { t with dma := { t.dma with readLast := ch } }
  else d

/-- The write engine serves a chunk of a channel in its turn (R406). -/
def Dev.writeTurn (d : Dev) (ch i : Nat) : Dev :=
  if d.chunkReady ch i && decide (d.dmaNext d.dma.writeLast d.writeReady = some ch) then
    let t := d.chunkWrite ch i
    { t with dma := { t.dma with writeLast := ch } }
  else d

/-! Meanings. -/

/-- DMA_CHUNK_READ (R406). -/
def execDmaChunkRead (ch : Fin 64) (data : List Byte) (o : Outc) (s : State) : Result := s.next (s.dev.readTurn ch.val data o)

/-- DMA_CHUNK_WRITE (R408). -/
def execDmaChunkWrite (ch : Fin 64) (chunk : BitVec 32) (s : State) : Result := s.next (s.dev.writeTurn ch.val chunk.toNat)

end Sys2Proof.Machine
end

