-- ==== Sys2Proof/Machine/Net.lean ====
section
/-!
DEFINITION. The torus network (chapter 12): packets at their endpoints, endpoints that are not there, columns that cannot be
reached, route changes, landing credits and link errors (R299 to R320).
-/
namespace Sys2Proof.Machine

/-- An endpoint code names an endpoint in a column (R302). -/
def endpointAt (c e : Nat) : Bool :=
  if e < 6 then true
  else if e = 6 then decide (2 ≤ c % 8 ∧ c % 8 ≤ 5 ∧ 2 ≤ c / 8 ∧ c / 8 ≤ 5)
  else if e = 7 then c == dmaCol
  else if e = 8 ∨ e = 9 then c / 8 == 0 || c / 8 == 7
  else if e = 10 then c == 31 || c == 39
  else if e = 11 then c == 24
  else if e = 12 then c == 47
  else false

/-- A packet's command is one of R305, on a channel it may use, with a LEN that fits it (R305, R306). -/
def packetFits (p : Packet) : Bool :=
  match p.cmd.toNat with
  | 0x01 => p.vc == 0 && p.data.isEmpty
  | 0x02 => p.vc == 0
  | 0x03 => p.vc == 3
  | 0x10 => p.vc == 0 || p.vc == 3
  | 0x20 => p.vc == 0 || p.vc == 3
  | 0x30 => p.vc == 3
  | 0x60 => p.vc == 2
  | 0x61 => p.vc == 2
  | 0x80 => p.vc == 1 && p.data.isEmpty
  | 0x81 => p.vc == 1 && !p.data.isEmpty
  | _ => false

/-- An endpoint code takes a command (R22, R305). Portals pass on what reaches them (R226); device control goes anywhere. -/
def endpointTakes (e cmd : Nat) : Bool :=
  if e < 4 || cmd == 0x61 then true
  else if e = 4 then [1, 2, 3].contains cmd
  else if e = 5 then cmd == 0x10
  else if e = 6 ∨ e = 7 then [0x80, 0x81].contains cmd
  else if e = 8 ∨ e = 9 then [0x20, 0x30].contains cmd
  else if e = 10 then [1, 2, 3, 0x80, 0x81].contains cmd
  else if e = 11 then cmd == 0x60
  else [1, 2, 3].contains cmd

/-- An event of the network (R303, R308): what NOC_STAT and the record name. -/
def Dev.nocEvent (d : Dev) (c : EvClass) (flag : Field) (col : Nat) (p : Packet) : Dev :=
  let addressed := [1, 2, 3, 0x10].contains p.cmd.toNat
  ((((d.wr NOC_STAT_SCOL p.scol.toNat).wr NOC_STAT_DCOL p.dcol.toNat).wr NOC_STAT_DEP p.dep.toNat).incSat NOC_STAT_COUNT).raise
    { cls := c, flag := flag, uid := col, detail := if addressed then p.operand.toNat % 2 ^ 48 else 0 }

/-- The destination router answers a packet that no endpoint takes (R303, R306). -/
def Dev.badDest (d : Dev) (p : Packet) : Dev :=
  ((d.answerPacket p .busError []).nocEvent .ochre NOC_STAT_BADDEST p.dcol.toNat p).forgetSent p

/-- Where a packet for a tile's portal goes: on from an old tile while its migration has not resumed (R130). -/
def Dev.portalOf (d : Dev) (t : Nat) : Nat :=
  match d.migrations.find? fun x => x.2.stage == 3 && (match KMap.find d.ensembles x.2.dst with
      | some e => (rectTiles x.2.src e.w e.h e.both).contains t
      | none => false) with
  | some x => t + x.2.dst - x.2.src
  | none => t

/-- A packet reaches a portal (R201, R222, R226, R228): a response goes to the portal that awaits it, and one that none awaits
is discarded; mirror/control traffic is the portal's own. While an ensemble has not resumed after its remap, what reaches its new tiles directly stays
behind what their old ones forward (R130). -/
def Dev.portalArrive (d : Dev) (p : Packet) : Dev :=
  let t := tileOfCol p.dcol.toNat p.dep.toNat
  let land := fun (d : Dev) (t : Nat) => d.setPortal t { d.portal t with landing := (d.portal t).landing ++ [p] }
  if p.vc == 2 then d
  else if p.vc == 1 then
    match d.portals.find? fun x => (x.2.request p).isSome with
    | some x => land d x.1
    | none => d
  else
    let u := d.portalOf t
    let d := d.settleLate t
    if !d.gate (if u < 128 then 11 else 12) then d.gateRefuse p
    else if u == t && d.remapped t then { d with lateArrivals := d.lateArrivals ++ [(t, p)] }
    else land d u

/-- The quad of a lane bridge (R22). -/
def bridgeQuad (c e : Nat) : Nat := if c < 8 then 2 * c + (e - 8) else 16 + 2 * (c - 56) + (e - 8)

/-- A packet reaches a lane bridge (R377): nothing in the spec says what a message does there. -/
def Dev.bridgeArrive (d : Dev) (p : Packet) : Dev :=
  if !d.gateLane (bridgeQuad p.dcol.toNat p.dep.toNat) then (d.gateRefuse p).forgetSent p
  else if p.cmd == 0x30 then (d.bridgeLfr p).forgetSent p
  else d.forgetSent p

/-- A packet reaches a PCIe port (R304, R319, R391, R393). -/
def Dev.portArrive (d : Dev) (p : Packet) : Dev :=
  let q : Port := if p.dcol == 31 then .a else .b
  if p.vc == 1 then d.hostResponse q p
  else if !d.gate (18 + q.num) then d.gateRefuse p
  else match addrSpace p.operand.toNat with
    | .host r _ => if r = q then d.hostMemory q p else d.answerPacket p .busError []
    | _ => d.answerPacket p .busError []

/-- A packet reaches its endpoint. -/
def Dev.arrivePacket (d : Dev) (p : Packet) : Dev :=
  let e := p.dep.toNat
  if !endpointAt p.dcol.toNat e || !packetFits p || !endpointTakes e p.cmd.toNat then d.badDest p
  else if e < 4 then d.portalArrive p
  else if p.vc == 2 then d
  else if e = 4 then d.storePacket p
  else if e = 5 then (if d.gate 10 then d.storePacket p else (d.gateRefuse p).forgetSent p)
  else if e = 6 then d
  else if e = 7 then d.dmaResponse p
  else if e < 10 then d.bridgeArrive p
  else if e = 10 then d.portArrive p
  else d.answerPacket p .busError []

/-- A packet that finds no route (R308): a request is answered at its source, any other is discarded. -/
def Dev.unreachable (d : Dev) (p : Packet) : Dev :=
  let d := (d.nocEvent .crimson NOC_STAT_UNREACH p.scol.toNat p).forgetSent p
  if p.vc == 0 then d.arrivePacket (response p .busError []) else d

/-- A packet is routed (R307, R308). -/
def Dev.routePacket (d : Dev) (p : Packet) : Dev :=
  let d := d.offNetwork p
  if (routeOver d.deadLinks p.scol.toNat p.dcol.toNat).isSome then d.arrivePacket p else d.unreachable p

/-- A packet comes through the network: while a marker is out on its pair's old route, it is held (R309). One that an earlier packet of its source,
destination and channel is ahead of is not there yet (R317). -/
def Dev.packet (d : Dev) (p : Packet) : Dev :=
  if !d.running || d.overtakes p then d
  else if d.markers.contains (p.scol.toNat, p.dcol.toNat) then { d with heldPackets := d.heldPackets ++ [p] }
  else d.routePacket p

/-- A packet under the name of one command: one whose CMD is reserved goes the way R306 says; another command's row is its own. -/
def Dev.packetAs (d : Dev) (cmd : Nat) (p : Packet) : Dev :=
  if p.cmd.toNat = cmd || !([1, 2, 3, 0x10, 0x20, 0x30, 0x60, 0x61, 0x80, 0x81].contains p.cmd.toNat) then d.packet p else d

/-- ROUTE_MARKER_RETURN (R309): the old route is empty, and the packets held for its pair go on. -/
def Dev.markerReturn (d : Dev) (s t : Nat) : Dev :=
  if !d.markers.contains (s, t) then d
  else
    let mine := d.heldPackets.filter fun p => p.scol.toNat == s && p.dcol.toNat == t
    let d := { d with
      markers := d.markers.filter (· != (s, t))
      heldPackets := d.heldPackets.filter fun p => !(p.scol.toNat == s && p.dcol.toNat == t) }
    let d := if d.markers.isEmpty then d.clr NOC_STAT_ROUTECHG else d
    mine.foldl Dev.routePacket d

/-! Landing credits (R313). -/

/-- Landing credits of an endpoint and channel that source routers have, used or not. -/
def Dev.creditsOut (d : Dev) (t e vc : Nat) : Nat :=
  ((List.range 64).map fun s => KMap.get d.credits (creditKey s t e vc) 0).foldl (· + ·) 0

/-- An endpoint grants credits (R194, R276, R314): not while it quiesces, nor in a store-die reset; responses need none. -/
def Dev.grants (d : Dev) (t e vc : Nat) : Bool :=
  endpointAt t e && vc != 1
    && (if e < 4 then vc == 2 || (d.ensembleOf (tileOfCol t e)).isNone || d.phaseOf (tileOfCol t e) == 1
        else if e = 4 ∨ e = 5 then d.storeOpen else true)

/-- LANDING_CREDIT_GRANT (R313): to a source router that has no credit to use, in its turn. -/
def Dev.creditGrant (d : Dev) (s t e vc : Nat) : Dev :=
  let n := KMap.get d.credits (creditKey s t e vc) 0
  if d.grants t e vc && decide (d.creditsOut t e vc < 4) && (routeOver d.deadLinks s t).isSome && d.running
      && decide (n ≤ d.creditsUsed s t e vc) && d.grantTurn s t e vc then
    { d with
      credits := KMap.put d.credits (creditKey s t e vc) (n + 1)
      noc := { d.noc with granted := KMap.put d.noc.granted (creditKey 0 t e vc) s } }
  else d

/-- LANDING_CREDIT_RETURN (R313). -/
def Dev.creditReturn (d : Dev) (s t e vc : Nat) : Dev :=
  let n := KMap.get d.credits (creditKey s t e vc) 0
  if d.creditsUsed s t e vc < n then
    { d with credits := if n = 1 then KMap.del d.credits (creditKey s t e vc) else KMap.put d.credits (creditKey s t e vc) (n - 1) }
  else d

/-! Links (R311). -/

/-- LINK_FLIT_ERROR (R311, R453). -/
def Dev.flitError (d : Dev) (n : Nat) (multi : Bool) : Dev :=
  if d.on (NOC_LINK_RETIRED n) || !d.running then d
  else
    let f := if multi then NOC_LINK_RETRY n else NOC_LINK_CORR n
    let d := (d.incSat f).countUp .link n
    (d.report { cls := .ochre, flag := f, ukind := 4, uid := n }).lasting .link n

/-! Meanings. -/

/-- RD (R305). -/
def execRd (p : Packet) (s : State) : Result := s.next (s.dev.packetAs 0x01 p)

/-- WR (R305). -/
def execWr (p : Packet) (s : State) : Result := s.next (s.dev.packetAs 0x02 p)

/-- WRP (R305). -/
def execWrp (p : Packet) (s : State) : Result := s.next (s.dev.packetAs 0x03 p)

/-- TOP (R283 to R285). -/
def execTop (p : Packet) (s : State) : Result := s.next (s.dev.packetAs 0x10 p)

/-- MSG (R305). -/
def execMsg (p : Packet) (s : State) : Result := s.next (s.dev.packetAs 0x20 p)

/-- LFR (R377, R378). -/
def execLfr (p : Packet) (s : State) : Result := s.next (s.dev.packetAs 0x30 p)

/-- MIR (R422): its records enter the Capo link where they arise. -/
def execMir (p : Packet) (s : State) : Result := s.next (s.dev.packetAs 0x60 p)

/-- CTL (R305): remap updates and markers have commands of their own. -/
def execCtl (p : Packet) (s : State) : Result := s.next (s.dev.packetAs 0x61 p)

/-- CPL (R319). -/
def execCpl (p : Packet) (s : State) : Result := s.next (s.dev.packetAs 0x80 p)

/-- CPLD (R319). -/
def execCpld (p : Packet) (s : State) : Result := s.next (s.dev.packetAs 0x81 p)

/-- LANDING_CREDIT_GRANT (R313). -/
def execLandingCreditGrant (scol dcol : Fin 64) (dep : BitVec 4) (vc : BitVec 2) (s : State) : Result :=
  s.next (s.dev.creditGrant scol.val dcol.val dep.toNat vc.toNat)

/-- LANDING_CREDIT_RETURN (R313). -/
def execLandingCreditReturn (scol dcol : Fin 64) (dep : BitVec 4) (vc : BitVec 2) (s : State) : Result :=
  s.next (s.dev.creditReturn scol.val dcol.val dep.toNat vc.toNat)

/-- LINK_FLIT_ERROR (R311). -/
def execLinkFlitError (link : Fin 128) (multi : Bool) (s : State) : Result := s.next (s.dev.flitError link.val multi)

/-- ROUTE_MARKER_RETURN (R309). -/
def execRouteMarkerReturn (scol dcol : Fin 64) (s : State) : Result := s.next (s.dev.markerReturn scol.val dcol.val)

end Sys2Proof.Machine
end

