-- ==== Sys2Proof/Machine/Submit.lean ====
section
/-!
DEFINITION. The rows of the 39 commands of R71: the command reaches the accept stage of a queue as the words of R46 and of its
description; what the queue's order lets start, starts and works in the same step.
-/
namespace Sys2Proof.Machine

/-- NOP (R71). -/
def execNop (q : QId) (f : CmdFlags) (s : State) : Result :=
  s.next (s.dev.submit q.val .nop f .none)

/-- HALT (R79). -/
def execHalt (q : QId) (f : CmdFlags) (s : State) : Result :=
  s.next (s.dev.submit q.val .halt f .none)

/-- FENCE (R52). -/
def execFence (q : QId) (f : CmdFlags) (s : State) : Result :=
  s.next (s.dev.submit q.val .fence f .none)

/-- BARRIER (R80). -/
def execBarrier (q : QId) (f : CmdFlags) (bar : BitVec 4) (mask : Word) (s : State) : Result :=
  s.next (s.dev.submit q.val (.barrier bar mask) f .none)

/-- WAIT (R82). -/
def execWait (q : QId) (f : CmdFlags) (ev : BitVec 8) (s : State) : Result :=
  s.next (s.dev.submit q.val (.wait ev) f .none)

/-- SIGNAL (R54). -/
def execSignal (q : QId) (f : CmdFlags) (ev : BitVec 8) (s : State) : Result :=
  s.next (s.dev.submit q.val (.signal ev) f .none)

/-- MARK (R71). -/
def execMark (q : QId) (f : CmdFlags) (tag : BitVec 32) (s : State) : Result :=
  s.next (s.dev.submit q.val (.mark tag) f .none)

/-- WAITTIME (R83). -/
def execWaittime (q : QId) (f : CmdFlags) (rel : Bool) (time : Word) (s : State) : Result :=
  s.next (s.dev.submit q.val (.waittime rel time) f .none)

/-- SETS (R36). -/
def execSets (q : QId) (f : CmdFlags) (a : BitVec 4) (value : Word) (s : State) : Result :=
  s.next (s.dev.submit q.val (.sets a value) f .none)

/-- ADDS (R36). -/
def execAdds (q : QId) (f : CmdFlags) (a b : BitVec 4) (reg : Bool) (imm : BitVec 32) (s : State) : Result :=
  s.next (s.dev.submit q.val (.adds a b reg imm) f .none)

/-- LOOP (R84). -/
def execLoop (q : QId) (f : CmdFlags) (a : BitVec 4) (back : BitVec 16) (s : State) : Result :=
  s.next (s.dev.submit q.val (.loop a back) f .none)

/-- BRANCH (R85). -/
def execBranch (q : QId) (f : CmdFlags) (a b : BitVec 4) (cond : BitVec 3) (ofs : BitVec 16) (s : State) : Result :=
  s.next (s.dev.submit q.val (.branch a b cond ofs) f .none)

/-- CALL (R86). -/
def execCall (q : QId) (f : CmdFlags) (list : BitVec 45) (s : State) : Result :=
  s.next (s.dev.submit q.val (.call list) f .none)

/-- RET (R38). -/
def execRet (q : QId) (f : CmdFlags) (s : State) : Result :=
  s.next (s.dev.submit q.val .ret f .none)

/-- BALLOC (R87). -/
def execBalloc (q : QId) (f : CmdFlags) (buf : BitVec 24) (commit mirror sealed : Bool) (key : BitVec 6) (size : BitVec 29)
    (s : State) : Result :=
  s.next (s.dev.submit q.val (.balloc buf commit mirror sealed key size) f .none)

/-- BFREE (R88). -/
def execBfree (q : QId) (f : CmdFlags) (buf : BitVec 24) (s : State) : Result :=
  s.next (s.dev.submit q.val (.bfree buf) f .none)

/-- BCOPY (R89). -/
def execBcopy (q : QId) (f : CmdFlags) (dst src : BitVec 24) (sofs dofs count : BitVec 32) (s : State) : Result :=
  s.next (s.dev.submit q.val (.bcopy dst src sofs dofs count) f .none)

/-- BFILL (R71). -/
def execBfill (q : QId) (f : CmdFlags) (buf : BitVec 24) (ofs count : BitVec 32) (pattern : Word) (s : State) : Result :=
  s.next (s.dev.submit q.val (.bfill buf ofs count pattern) f .none)

/-- ROWMOVE (R90). -/
def execRowmove (q : QId) (f : CmdFlags) (kern : BitVec 16) (buf : BitVec 24) (port : BitVec 4) (dir : Bool)
    (first count : BitVec 20) (s : State) : Result :=
  s.next (s.dev.submit q.val (.rowmove kern buf port dir first count) f .none)

/-- BKEY (R92). -/
def execBkey (q : QId) (f : CmdFlags) (buf : BitVec 24) (key : BitVec 6) (sealed : Bool) (s : State) : Result :=
  s.next (s.dev.submit q.val (.bkey buf key sealed) f .none)

/-- BHINT (R121). -/
def execBhint (q : QId) (f : CmdFlags) (buf : BitVec 24) (col : BitVec 6) (colv pin spread : Bool) (s : State) : Result :=
  s.next (s.dev.submit q.val (.bhint buf col colv pin spread) f .none)

/-- KADMIT (R93). -/
def execKadmit (q : QId) (f : CmdFlags) (kern : BitVec 16) (dies : BitVec 2) (sole nomigrate anchor : Bool)
    (tile : BitVec 8) (image : BitVec 48) (bytes : BitVec 32) (env : CmdEnv) (s : State) : Result :=
  s.next (s.dev.submit q.val (.kadmit kern dies sole nomigrate anchor tile image bytes) f env)

/-- KRUN (R94). -/
def execKrun (q : QId) (f : CmdFlags) (kern : BitVec 16) (s : State) : Result :=
  s.next (s.dev.submit q.val (.krun kern) f .none)

/-- KSTOP (R95). -/
def execKstop (q : QId) (f : CmdFlags) (kern : BitVec 16) (s : State) : Result :=
  s.next (s.dev.submit q.val (.kstop kern) f .none)

/-- KRETIRE (R96). -/
def execKretire (q : QId) (f : CmdFlags) (kern : BitVec 16) (s : State) : Result :=
  s.next (s.dev.submit q.val (.kretire kern) f .none)

/-- KBIND (R97). -/
def execKbind (q : QId) (f : CmdFlags) (kern : BitVec 16) (slot : BitVec 4) (kind : BitVec 2) (target : BitVec 24)
    (s : State) : Result :=
  s.next (s.dev.submit q.val (.kbind kern slot kind target) f .none)

/-- KSWITCH (R98). -/
def execKswitch (q : QId) (f : CmdFlags) (kern : BitVec 16) (preload : Bool) (s : State) : Result :=
  s.next (s.dev.submit q.val (.kswitch kern preload) f .none)

/-- KPARAM (R99). -/
def execKparam (q : QId) (f : CmdFlags) (kern : BitVec 16) (preg : BitVec 4) (srcS live : Bool) (sreg : BitVec 4)
    (value : Word) (s : State) : Result :=
  s.next (s.dev.submit q.val (.kparam kern preg srcS live sreg value) f .none)

/-- KROTATE (R100). -/
def execKrotate (q : QId) (f : CmdFlags) (stop : Bool) (entries : List RotEntry) (env : CmdEnv) (s : State) : Result :=
  s.next (s.dev.submit q.val (.krotate stop entries) f env)

/-- LBIND (R101). -/
def execLbind (q : QId) (f : CmdFlags) (kern : BitVec 16) (slot : BitVec 4) (unbind : Bool) (first : BitVec 7)
    (width rate : BitVec 3) (s : State) : Result :=
  s.next (s.dev.submit q.val (.lbind kern slot unbind first width rate) f .none)

/-- LCTL (R102). -/
def execLctl (q : QId) (f : CmdFlags) (first : BitVec 7) (width : BitVec 3) (act : BitVec 4) (arg : BitVec 3)
    (s : State) : Result :=
  s.next (s.dev.submit q.val (.lctl first width act arg) f .none)

/-- DMAGO (R103). -/
def execDmago (q : QId) (f : CmdFlags) (ch : BitVec 6) (arm : Bool) (key : BitVec 6) (src dst : BitVec 48)
    (cnt : BitVec 32) (ev : BitVec 8) (evEn srcWrap : Bool) (srcK : BitVec 5) (dstWrap : Bool) (dstK : BitVec 5)
    (s : State) : Result :=
  s.next (s.dev.submit q.val (.dmago ch arm key src dst cnt ev evEn srcWrap srcK dstWrap dstK) f .none)

/-- TSETUP (R104). -/
def execTsetup (q : QId) (f : CmdFlags) (tbl : BitVec 3) (kbits : BitVec 6) (commit mirror : Bool) (e : BitVec 5)
    (cols : Word) (s : State) : Result :=
  s.next (s.dev.submit q.val (.tsetup tbl kbits commit mirror e cols) f .none)

/-- TCLEAR (R294). -/
def execTclear (q : QId) (f : CmdFlags) (tbl : BitVec 3) (s : State) : Result :=
  s.next (s.dev.submit q.val (.tclear tbl) f .none)

/-- TDRAIN (R105). -/
def execTdrain (q : QId) (f : CmdFlags) (tbl : BitVec 3) (clear : Bool) (buf : BitVec 24) (ofs : BitVec 32)
    (s : State) : Result :=
  s.next (s.dev.submit q.val (.tdrain tbl clear buf ofs) f .none)

/-- PEGTAKE (R106). -/
def execPegtake (q : QId) (f : CmdFlags) (peg : BitVec 6) (wait : Bool) (s : State) : Result :=
  s.next (s.dev.submit q.val (.pegtake peg wait) f .none)

/-- PEGGIVE (R400). -/
def execPeggive (q : QId) (f : CmdFlags) (peg : BitVec 6) (s : State) : Result :=
  s.next (s.dev.submit q.val (.peggive peg) f .none)

/-- COMMIT (R107). -/
def execCommit (q : QId) (f : CmdFlags) (buf : BitVec 24) (s : State) : Result :=
  s.next (s.dev.submit q.val (.commit buf) f .none)

/-- EPOCH (R61). -/
def execEpoch (q : QId) (f : CmdFlags) (s : State) : Result :=
  s.next (s.dev.submit q.val .epoch f .none)

end Sys2Proof.Machine
end

