-- ==== Sys2Proof/Machine/Dispatch.lean ====
section
/-!
DEFINITION. What each command does: one arm per row of the table, each one call of its meaning.
-/
namespace Sys2Proof.Machine

/-- The effect of one command on everything but the queue of waiting commands. -/
def exec (i : Instr) (s : State) : Host.Outcome State Fault Refusal :=
  match i with
  | .nop q f => Sys2Proof.Machine.execNop q f s
  | .halt q f => Sys2Proof.Machine.execHalt q f s
  | .fence q f => Sys2Proof.Machine.execFence q f s
  | .barrier q f bar mask => Sys2Proof.Machine.execBarrier q f bar mask s
  | .wait q f ev => Sys2Proof.Machine.execWait q f ev s
  | .signal q f ev => Sys2Proof.Machine.execSignal q f ev s
  | .mark q f tag => Sys2Proof.Machine.execMark q f tag s
  | .waittime q f rel time => Sys2Proof.Machine.execWaittime q f rel time s
  | .sets q f a value => Sys2Proof.Machine.execSets q f a value s
  | .adds q f a b reg imm => Sys2Proof.Machine.execAdds q f a b reg imm s
  | .loop q f a back => Sys2Proof.Machine.execLoop q f a back s
  | .branch q f a b cond ofs => Sys2Proof.Machine.execBranch q f a b cond ofs s
  | .call q f list => Sys2Proof.Machine.execCall q f list s
  | .ret q f => Sys2Proof.Machine.execRet q f s
  | .balloc q f buf commit mirror sealed key size => Sys2Proof.Machine.execBalloc q f buf commit mirror sealed key size s
  | .bfree q f buf => Sys2Proof.Machine.execBfree q f buf s
  | .bcopy q f dst src sofs dofs count => Sys2Proof.Machine.execBcopy q f dst src sofs dofs count s
  | .bfill q f buf ofs count pattern => Sys2Proof.Machine.execBfill q f buf ofs count pattern s
  | .rowmove q f kern buf port dir first count => Sys2Proof.Machine.execRowmove q f kern buf port dir first count s
  | .bkey q f buf key sealed => Sys2Proof.Machine.execBkey q f buf key sealed s
  | .bhint q f buf col colv pin spread => Sys2Proof.Machine.execBhint q f buf col colv pin spread s
  | .kadmit q f kern dies sole nomigrate anchor tile image bytes env => Sys2Proof.Machine.execKadmit q f kern dies sole nomigrate anchor tile image bytes env s
  | .krun q f kern => Sys2Proof.Machine.execKrun q f kern s
  | .kstop q f kern => Sys2Proof.Machine.execKstop q f kern s
  | .kretire q f kern => Sys2Proof.Machine.execKretire q f kern s
  | .kbind q f kern slot kind target => Sys2Proof.Machine.execKbind q f kern slot kind target s
  | .kswitch q f kern preload => Sys2Proof.Machine.execKswitch q f kern preload s
  | .kparam q f kern preg srcS live sreg value => Sys2Proof.Machine.execKparam q f kern preg srcS live sreg value s
  | .krotate q f stop entries env => Sys2Proof.Machine.execKrotate q f stop entries env s
  | .lbind q f kern slot unbind first width rate => Sys2Proof.Machine.execLbind q f kern slot unbind first width rate s
  | .lctl q f first width act arg => Sys2Proof.Machine.execLctl q f first width act arg s
  | .dmago q f ch arm key src dst cnt ev evEn srcWrap srcK dstWrap dstK => Sys2Proof.Machine.execDmago q f ch arm key src dst cnt ev evEn srcWrap srcK dstWrap dstK s
  | .tsetup q f tbl kbits commit mirror e cols => Sys2Proof.Machine.execTsetup q f tbl kbits commit mirror e cols s
  | .tclear q f tbl => Sys2Proof.Machine.execTclear q f tbl s
  | .tdrain q f tbl clear buf ofs => Sys2Proof.Machine.execTdrain q f tbl clear buf ofs s
  | .pegtake q f peg wait => Sys2Proof.Machine.execPegtake q f peg wait s
  | .peggive q f peg => Sys2Proof.Machine.execPeggive q f peg s
  | .commit q f buf => Sys2Proof.Machine.execCommit q f buf s
  | .epoch q f => Sys2Proof.Machine.execEpoch q f s
  | .quDoorbellWrite q w => Sys2Proof.Machine.execQuDoorbellWrite q w s
  | .commandAccept q fetched o => Sys2Proof.Machine.execCommandAccept q fetched o s
  | .commandStart q env => Sys2Proof.Machine.execCommandStart q env s
  | .commandComplete q seq => Sys2Proof.Machine.execCommandComplete q seq s
  | .completionPost q => Sys2Proof.Machine.execCompletionPost q s
  | .completionRecordWriteFail q => Sys2Proof.Machine.execCompletionRecordWriteFail q s
  | .quRingWrite q w => Sys2Proof.Machine.execQuRingWrite q w s
  | .cqRingWrite q w => Sys2Proof.Machine.execCqRingWrite q w s
  | .quSnWrite q n w => Sys2Proof.Machine.execQuSnWrite q n w s
  | .quCtlResume q w => Sys2Proof.Machine.execQuCtlResume q w s
  | .cqHeadWrite q w => Sys2Proof.Machine.execCqHeadWrite q w s
  | .evCountWrite n w => Sys2Proof.Machine.execEvCountWrite n w s
  | .registerWrite src off size data ep => Sys2Proof.Machine.execRegisterWrite src off size data ep s
  | .placeModeWrite w => Sys2Proof.Machine.execPlaceModeWrite w s
  | .placementRecordEntryRead words o => Sys2Proof.Machine.execPlacementRecordEntryRead words o s
  | .replayEntryTimeout => Sys2Proof.Machine.execReplayEntryTimeout s
  | .migrationDecide what reason => Sys2Proof.Machine.execMigrationDecide what reason s
  | .migrationPlaneCopyDone anchor tile => Sys2Proof.Machine.execMigrationPlaneCopyDone anchor tile s
  | .migrationBmemCopyDone anchor tile => Sys2Proof.Machine.execMigrationBmemCopyDone anchor tile s
  | .migrationRemapUpdate anchor => Sys2Proof.Machine.execMigrationRemapUpdate anchor s
  | .migrationResume anchor => Sys2Proof.Machine.execMigrationResume anchor s
  | .bufferRowMigrate buf row => Sys2Proof.Machine.execBufferRowMigrate buf row s
  | .tileSpeedMeasure dieB tile rate => Sys2Proof.Machine.execTileSpeedMeasure dieB tile rate s
  | .slowTileFlag tile => Sys2Proof.Machine.execSlowTileFlag tile s
  | .slowTileClear tile => Sys2Proof.Machine.execSlowTileClear tile s
  | .cellOperation tile cell faults late => Sys2Proof.Machine.execCellOperation tile cell faults late s
  | .holdRelease tile cell => Sys2Proof.Machine.execHoldRelease tile cell s
  | .tokenRegisterCapture tile cluster head fault => Sys2Proof.Machine.execTokenRegisterCapture tile cluster head fault s
  | .spineToken tile driver => Sys2Proof.Machine.execSpineToken tile driver s
  | .bmemAccess tile mem portB sense => Sys2Proof.Machine.execBmemAccess tile mem portB sense s
  | .bmemWriteback tile mem word => Sys2Proof.Machine.execBmemWriteback tile mem word s
  | .bmemDebugAccess src ltile mem ofs size write data => Sys2Proof.Machine.execBmemDebugAccess src ltile mem ofs size write data s
  | .portalDescriptor tile take sense send => Sys2Proof.Machine.execPortalDescriptor tile take sense send s
  | .portalInbound tile take => Sys2Proof.Machine.execPortalInbound tile take s
  | .rowRequest ts => Sys2Proof.Machine.execRowRequest ts s
  | .rowMoveAdmit tile => Sys2Proof.Machine.execRowMoveAdmit tile s
  | .rowMove tile => Sys2Proof.Machine.execRowMove tile s
  | .rowSlice ts => Sys2Proof.Machine.execRowSlice ts s
  | .paramHandshake ts => Sys2Proof.Machine.execParamHandshake ts s
  | .kernelDone ts => Sys2Proof.Machine.execKernelDone ts s
  | .kernelEventPulse ts slot => Sys2Proof.Machine.execKernelEventPulse ts slot s
  | .quiesce anchor => Sys2Proof.Machine.execQuiesce anchor s
  | .fretSwitch anchor qtime badTiles => Sys2Proof.Machine.execFretSwitch anchor qtime badTiles s
  | .quiesceLimit anchor => Sys2Proof.Machine.execQuiesceLimit anchor s
  | .preloadComplete anchor => Sys2Proof.Machine.execPreloadComplete anchor s
  | .fretRequest anchor => Sys2Proof.Machine.execFretRequest anchor s
  | .dwellEnd anchor => Sys2Proof.Machine.execDwellEnd anchor s
  | .tileReset w => Sys2Proof.Machine.execTileReset w s
  | .cfgMeterStatClr w lateA lateB => Sys2Proof.Machine.execCfgMeterStatClr w lateA lateB s
  | .fretQtimeClr tile w => Sys2Proof.Machine.execFretQtimeClr tile w s
  | .bankOwnWrite bank w => Sys2Proof.Machine.execBankOwnWrite bank w s
  | .bankWakeComplete bank => Sys2Proof.Machine.execBankWakeComplete bank s
  | .bankWriteback bank => Sys2Proof.Machine.execBankWriteback bank s
  | .patrolRead bank row => Sys2Proof.Machine.execPatrolRead bank row s
  | .storeFlipArm w => Sys2Proof.Machine.execStoreFlipArm w s
  | .storeDieResetEnd => Sys2Proof.Machine.execStoreDieResetEnd s
  | .tallyOpwinWrite src col ofs data => Sys2Proof.Machine.execTallyOpwinWrite src col ofs data s
  | .tallyForward col d fromKernel => Sys2Proof.Machine.execTallyForward col d fromKernel s
  | .tallyRelease tbl w => Sys2Proof.Machine.execTallyRelease tbl w s
  | .tallyMapQWrite w => Sys2Proof.Machine.execTallyMapQWrite w s
  | .rd p => Sys2Proof.Machine.execRd p s
  | .wr p => Sys2Proof.Machine.execWr p s
  | .wrp p => Sys2Proof.Machine.execWrp p s
  | .top p => Sys2Proof.Machine.execTop p s
  | .msg p => Sys2Proof.Machine.execMsg p s
  | .lfr p => Sys2Proof.Machine.execLfr p s
  | .mir p => Sys2Proof.Machine.execMir p s
  | .ctl p => Sys2Proof.Machine.execCtl p s
  | .cpl p => Sys2Proof.Machine.execCpl p s
  | .cpld p => Sys2Proof.Machine.execCpld p s
  | .landingCreditGrant scol dcol dep vc => Sys2Proof.Machine.execLandingCreditGrant scol dcol dep vc s
  | .landingCreditReturn scol dcol dep vc => Sys2Proof.Machine.execLandingCreditReturn scol dcol dep vc s
  | .linkFlitError link multi => Sys2Proof.Machine.execLinkFlitError link multi s
  | .routeMarkerReturn scol dcol => Sys2Proof.Machine.execRouteMarkerReturn scol dcol s
  | .loadStep m0 m1 temps => Sys2Proof.Machine.execLoadStep m0 m1 temps s
  | .noop => Sys2Proof.Machine.execNoop s
  | .faddr addr => Sys2Proof.Machine.execFaddr addr s
  | .fwrite zero n records => Sys2Proof.Machine.execFwrite zero n records s
  | .fcommit => Sys2Proof.Machine.execFcommit s
  | .wcfg addr value => Sys2Proof.Machine.execWcfg addr value s
  | .sync => Sys2Proof.Machine.execSync s
  | .mwrite mem tile words crc => Sys2Proof.Machine.execMwrite mem tile words crc s
  | .endImage => Sys2Proof.Machine.execEndImage s
  | .cfgFullLoad w img => Sys2Proof.Machine.execCfgFullLoad w img s
  | .cfgPartialLoad w img => Sys2Proof.Machine.execCfgPartialLoad w img s
  | .cfgNvProgram w => Sys2Proof.Machine.execCfgNvProgram w s
  | .cfgBootRerun w m0 m1 temps => Sys2Proof.Machine.execCfgBootRerun w m0 m1 temps s
  | .nvProgramDone got => Sys2Proof.Machine.execNvProgramDone got s
  | .cfgDddataRead src half => Sys2Proof.Machine.execCfgDddataRead src half s
  | .pos pos crcOk => Sys2Proof.Machine.execPos pos crcOk s
  | .image param img crcOk temps => Sys2Proof.Machine.execImage param img crcOk temps s
  | .mend crcOk => Sys2Proof.Machine.execMend crcOk s
  | .chainTimeout m0 m1 temps => Sys2Proof.Machine.execChainTimeout m0 m1 temps s
  | .ts1 group ts => Sys2Proof.Machine.execTs1 group ts s
  | .ts2 group ts => Sys2Proof.Machine.execTs2 group ts s
  | .passSet group ts => Sys2Proof.Machine.execPassSet group ts s
  | .failSet group ts => Sys2Proof.Machine.execFailSet group ts s
  | .trainingDwellEnd group errs => Sys2Proof.Machine.execTrainingDwellEnd group errs s
  | .bringupTimeout group => Sys2Proof.Machine.execBringupTimeout group s
  | .resyncTimeout group => Sys2Proof.Machine.execResyncTimeout group s
  | .laneCodeError lane kind => Sys2Proof.Machine.execLaneCodeError lane kind s
  | .laneWakeComplete lane => Sys2Proof.Machine.execLaneWakeComplete lane s
  | .initFrame group seq => Sys2Proof.Machine.execInitFrame group seq s
  | .dataFrame group fr crc => Sys2Proof.Machine.execDataFrame group fr crc s
  | .ack group seq win => Sys2Proof.Machine.execAck group seq win s
  | .nak group seq win => Sys2Proof.Machine.execNak group seq win s
  | .abortedFrame group => Sys2Proof.Machine.execAbortedFrame group s
  | .initResend group => Sys2Proof.Machine.execInitResend group s
  | .ackTimer group => Sys2Proof.Machine.execAckTimer group s
  | .replayTimeout group => Sys2Proof.Machine.execReplayTimeout group s
  | .unbindTimeout group => Sys2Proof.Machine.execUnbindTimeout group s
  | .hostStoreAccess p write ofs len data enables ep => Sys2Proof.Machine.execHostStoreAccess p write ofs len data enables ep s
  | .hostPortalAccess p write ofs len data ep => Sys2Proof.Machine.execHostPortalAccess p write ofs len data ep s
  | .hostUnsupportedRequest p posted addr => Sys2Proof.Machine.execHostUnsupportedRequest p posted addr s
  | .hostReadTimeout p tag => Sys2Proof.Machine.execHostReadTimeout p tag s
  | .hostCompletion p tag o data => Sys2Proof.Machine.execHostCompletion p tag o data s
  | .configRequest p cfg => Sys2Proof.Machine.execConfigRequest p cfg s
  | .portReset p cause => Sys2Proof.Machine.execPortReset p cause s
  | .portResetEnd p speed width bme => Sys2Proof.Machine.execPortResetEnd p speed width bme s
  | .pegTakeRead peg src => Sys2Proof.Machine.execPegTakeRead peg src s
  | .pegGiveWrite peg w => Sys2Proof.Machine.execPegGiveWrite peg w s
  | .quXferWrite w => Sys2Proof.Machine.execQuXferWrite w s
  | .dmaGoWrite ch w => Sys2Proof.Machine.execDmaGoWrite ch w s
  | .dmaArmWrite ch w => Sys2Proof.Machine.execDmaArmWrite ch w s
  | .dmaChunkRead ch data o => Sys2Proof.Machine.execDmaChunkRead ch data o s
  | .dmaChunkWrite ch chunk => Sys2Proof.Machine.execDmaChunkWrite ch chunk s
  | .dmaTransferEnd ch => Sys2Proof.Machine.execDmaTransferEnd ch s
  | .dmaChunkFail ch kind side addr => Sys2Proof.Machine.execDmaChunkFail ch kind side addr s
  | .hello role state payload crc => Sys2Proof.Machine.execHello role state payload crc s
  | .capoData ctr body crc => Sys2Proof.Machine.execCapoData ctr body crc s
  | .capoAck ctr payload tag crc => Sys2Proof.Machine.execCapoAck ctr payload tag crc s
  | .hb ctr recovering payload tag crc => Sys2Proof.Machine.execHb ctr recovering payload tag crc s
  | .capoReplayTimeout => Sys2Proof.Machine.execCapoReplayTimeout s
  | .capoAckTimer => Sys2Proof.Machine.execCapoAckTimer s
  | .journalRecord q seq epoch words => Sys2Proof.Machine.execJournalRecord q seq epoch words s
  | .journalAck q seq => Sys2Proof.Machine.execJournalAck q seq s
  | .commitRecord q seq status result stamp writes params events delta gen => Sys2Proof.Machine.execCommitRecord q seq status result stamp writes params events delta gen s
  | .commitAck q seq => Sys2Proof.Machine.execCommitAck q seq s
  | .postRecord q seq slot => Sys2Proof.Machine.execPostRecord q seq slot s
  | .writeRecord dst data => Sys2Proof.Machine.execWriteRecord dst data s
  | .imageRecord kern word0 img temps stands => Sys2Proof.Machine.execImageRecord kern word0 img temps stands s
  | .placementRecord w0 w1 w2 w3 cmd => Sys2Proof.Machine.execPlacementRecord w0 w1 w2 w3 cmd s
  | .registerRecord off half data stands => Sys2Proof.Machine.execRegisterRecord off half data stands s
  | .eventRecord ev pulse ended => Sys2Proof.Machine.execEventRecord ev pulse ended s
  | .timeRecord ofs => Sys2Proof.Machine.execTimeRecord ofs s
  | .syncComplete paths => Sys2Proof.Machine.execSyncComplete paths s
  | .heartbeatSend => Sys2Proof.Machine.execHeartbeatSend s
  | .hbPinEdge => Sys2Proof.Machine.execHbPinEdge s
  | .heartbeatSilence capo pin => Sys2Proof.Machine.execHeartbeatSilence capo pin s
  | .fenceInput => Sys2Proof.Machine.execFenceInput s
  | .fenceWaitEnd hostDma => Sys2Proof.Machine.execFenceWaitEnd hostDma s
  | .takeoverResume replayUs totalUs limit => Sys2Proof.Machine.execTakeoverResume replayUs totalUs limit s
  | .warmLimitExpiry => Sys2Proof.Machine.execWarmLimitExpiry s
  | .twinSwap w => Sys2Proof.Machine.execTwinSwap w s
  | .twinForce w => Sys2Proof.Machine.execTwinForce w s
  | .twinUnfence w => Sys2Proof.Machine.execTwinUnfence w s
  | .errorRecordWriteDone o => Sys2Proof.Machine.execErrorRecordWriteDone o s
  | .errCtlWrite w => Sys2Proof.Machine.execErrCtlWrite w s
  | .errHeadWrite w => Sys2Proof.Machine.execErrHeadWrite w s
  | .errRetireGo w => Sys2Proof.Machine.execErrRetireGo w s
  | .errBktClr w => Sys2Proof.Machine.execErrBktClr w s
  | .errBktCfgWrite k w => Sys2Proof.Machine.execErrBktCfgWrite k w s
  | .errDropClr w => Sys2Proof.Machine.execErrDropClr w s
  | .bucketFall kind uid => Sys2Proof.Machine.execBucketFall kind uid s
  | .bondTest uid fails passes => Sys2Proof.Machine.execBondTest uid fails passes s
  | .outOfTurnTest uid fails passes => Sys2Proof.Machine.execOutOfTurnTest uid fails passes s
  | .storedPlaneCheck tile fret frames stateBad passEnd => Sys2Proof.Machine.execStoredPlaneCheck tile fret frames stateBad passEnd s
  | .frameRepair addr o crcMatches => Sys2Proof.Machine.execFrameRepair addr o crcMatches s
  | .latchReadback tile activeBad nextBad => Sys2Proof.Machine.execLatchReadback tile activeBad nextBad s
  | .triplicateSweep word lost => Sys2Proof.Machine.execTriplicateSweep word lost s
  | .scrubVote allDiffer => Sys2Proof.Machine.execScrubVote allDiffer s
  | .keyLoad w verdict => Sys2Proof.Machine.execKeyLoad w verdict s
  | .keyErase w => Sys2Proof.Machine.execKeyErase w s
  | .keyWrap w => Sys2Proof.Machine.execKeyWrap w s
  | .keyOpComplete => Sys2Proof.Machine.execKeyOpComplete s
  | .lcArm w => Sys2Proof.Machine.execLcArm w s
  | .lcConfirm w => Sys2Proof.Machine.execLcConfirm w s
  | .lcArmTimeout => Sys2Proof.Machine.execLcArmTimeout s
  | .lcChangeComplete => Sys2Proof.Machine.execLcChangeComplete s
  | .readyDetect => Sys2Proof.Machine.execReadyDetect s
  | .startDelayEnd => Sys2Proof.Machine.execStartDelayEnd s
  | .monitorWindow edges gap => Sys2Proof.Machine.execMonitorWindow edges gap s
  | .pllLock => Sys2Proof.Machine.execPllLock s
  | .pllRelock => Sys2Proof.Machine.execPllRelock s
  | .clkGateWrite gate1 w => Sys2Proof.Machine.execClkGateWrite gate1 w s
  | .gateCloseComplete bit => Sys2Proof.Machine.execGateCloseComplete bit s
  | .clkOpWrite w nack => Sys2Proof.Machine.execClkOpWrite w nack s
  | .powerGoodPoll good nack => Sys2Proof.Machine.execPowerGoodPoll good nack s
  | .powerGoodTimeout => Sys2Proof.Machine.execPowerGoodTimeout s
  | .clkPmbusWrite w nack => Sys2Proof.Machine.execClkPmbusWrite w nack s
  | .clkFabvWrite w => Sys2Proof.Machine.execClkFabvWrite w s
  | .fabvStep nack => Sys2Proof.Machine.execFabvStep nack s
  | .governorEstimate est temp fabDue idleGroups => Sys2Proof.Machine.execGovernorEstimate est temp fabDue idleGroups s
  | .governorRelax => Sys2Proof.Machine.execGovernorRelax s
  | .restEnter w => Sys2Proof.Machine.execRestEnter w s
  | .restEntryComplete nack levels => Sys2Proof.Machine.execRestEntryComplete nack levels s
  | .restWake w => Sys2Proof.Machine.execRestWake w s
  | .timebaseWake => Sys2Proof.Machine.execTimebaseWake s
  | .gpioWakeEdge pin level => Sys2Proof.Machine.execGpioWakeEdge pin level s
  | .wakeComplete => Sys2Proof.Machine.execWakeComplete s
  | .tbSet w => Sys2Proof.Machine.execTbSet w s
  | .timebaseStep => Sys2Proof.Machine.execTimebaseStep s
  | .tbNowRead src => Sys2Proof.Machine.execTbNowRead src s
  | .ppsEdge learned => Sys2Proof.Machine.execPpsEdge learned s
  | .ppsHoldover => Sys2Proof.Machine.execPpsHoldover s
  | .eventInput k => Sys2Proof.Machine.execEventInput k s
  | .eventOutputPulse k => Sys2Proof.Machine.execEventOutputPulse k s
  | .svcTransfer w => Sys2Proof.Machine.execSvcTransfer w s
  | .svcTransferDone err data => Sys2Proof.Machine.execSvcTransferDone err data s
  | .pinOwnerChange pin level => Sys2Proof.Machine.execPinOwnerChange pin level s
  | .pinHandoverEnd pin => Sys2Proof.Machine.execPinHandoverEnd pin s
  | .adcConversion k microvolts => Sys2Proof.Machine.execAdcConversion k microvolts s
  | .delayCalibration bank ps => Sys2Proof.Machine.execDelayCalibration bank ps s
  | .ioUnderrun cell => Sys2Proof.Machine.execIoUnderrun cell s
  | .ioOverrun cell => Sys2Proof.Machine.execIoOverrun cell s
  | .coldReset => Sys2Proof.Machine.execColdReset s
  | .porRelease twinRole oscDly bootSrc iopull vddio => Sys2Proof.Machine.execPorRelease twinRole oscDly bootSrc iopull vddio s
  | .keyStoreReadDone => Sys2Proof.Machine.execKeyStoreReadDone s
  | .startupSelftestDone exhausted => Sys2Proof.Machine.execStartupSelftestDone exhausted s
  | .storeClearDone us => Sys2Proof.Machine.execStoreClearDone us s
  | .warmReset pulseNs => Sys2Proof.Machine.execWarmReset pulseNs s
  | .resetCtlWarm w => Sys2Proof.Machine.execResetCtlWarm w s
  | .warmResetComplete us => Sys2Proof.Machine.execWarmResetComplete us s
  | .dieReset w => Sys2Proof.Machine.execDieReset w s
  | .dieWatchdog die => Sys2Proof.Machine.execDieWatchdog die s
  | .dieResetEnd => Sys2Proof.Machine.execDieResetEnd s
  | .laneSync lane inverted => Sys2Proof.Machine.execLaneSync lane inverted s
  | .prbsLock lane => Sys2Proof.Machine.execPrbsLock lane s
  | .pciePerstRelease p => Sys2Proof.Machine.execPciePerstRelease p s
  | .operatingPointStepEnd nack => Sys2Proof.Machine.execOperatingPointStepEnd nack s
  | .activeEdge cell rising input => Sys2Proof.Machine.execActiveEdge cell rising input s
  | .meteringClockEdge edge => Sys2Proof.Machine.execMeteringClockEdge edge s
  | .uartReceive byte framing => Sys2Proof.Machine.execUartReceive byte framing s
  | .tapInstruction instr => Sys2Proof.Machine.execTapInstruction instr s
  | .testLogicReset => Sys2Proof.Machine.execTestLogicReset s

end Sys2Proof.Machine
end

