-- ==== Sys2Proof/Machine/Step.lean ====
section
/-!
DEFINITION. One step: the command at the front of the queue of waiting commands is run; on an empty queue a register access that waits at its
port and may go is served, or one period of the timebase passes.
-/
namespace Sys2Proof.Machine

/-- A register access that had waited at port p is done (R390). -/
def afterRow (p : Port) : Result → Result
  | .next t => .next { t with dev := t.dev.rowServed p }
  | r => r

/-- One step of the block (log entry 6). -/
def step (s : State) : Result :=
  match s.pending with
  | [] => match s.dev.heldRow with
    | some (p, c, d) => afterRow p (exec c { s with dev := d })
    | none => s.next (tick s.dev)
  | c :: rest => exec c { s with pending := rest }

/-- The state with the command a table word spells put at the front of its queue: no word spells one. -/
def State.withFetchWord (s : State) (nbits w : Nat) : State :=
  match decodeTableWord nbits w with
  | some c => { s with pending := c :: s.pending }
  | none => s

end Sys2Proof.Machine
end

