-- ==== Sys2Proof/Safety.lean ====
section
/-!
DEFINITION. The terms in which claims about the model are stated: a safe run; a command that has ended; what a change of
register fields alone is; when a register write reaches its register; when a queue takes the next command at once.
-/
namespace Sys2Proof

/-- A KROTATE with STOP names one kernel and no dwell, which is all that its words say (R100). -/
def Cmd.stopPlain : Cmd → Bool
  | .krotate true es => es.length == 1 && es.all fun e => e.dwell == 0
  | _ => true

end Sys2Proof

namespace Sys2Proof.Machine

/-- The next k steps from s all answer a next state. -/
def Safe : Nat → State → Prop
  | 0, _ => True
  | k + 1, s => ∃ t, step s = .next t ∧ Safe k t

/-- A command of a queue has completed with a status and a result (R45). -/
def Dev.ended (d : Dev) (q seq : Nat) (st : Status) (res : Nat) : Prop :=
  ∃ e, d.entry q seq = some e ∧ e.stage = .completed ∧ e.status = st ∧ e.result = .ofNat 64 res

/-- A command of a queue is in progress, its outcome not fixed yet. -/
def Dev.underway (d : Dev) (q seq : Nat) : Prop := ∃ e, d.entry q seq = some e ∧ e.stage = .started ∧ e.fin = none

/-- A protected word that reads without an error (R264). -/
def Found.isGood : Found → Bool
  | .good _ => true
  | _ => false

/-- Nothing but register fields differs, and of these only the listed ones. -/
def Dev.regsOnly (d t : Dev) (fs : List Field) : Prop :=
  { t with regs := d.regs } = d ∧ ∀ g : Field, (∀ f ∈ fs, f.key ≠ g.key) → t.rd g = d.rd g

/-- A register write reaches the register at an offset (R5, R558 to R561). -/
abbrev Dev.reaches (d : Dev) (w : RegWr) (off : Nat) : Prop := d.access w.src off true = .ok

/-- A write of a queue's own range comes from the port that owns the queue, and reaches it (R29). -/
abbrev Dev.ownWrite (d : Dev) (q : Nat) (w : RegWr) (off : Nat) : Prop :=
  d.reaches w off ∧ writePort w.src = d.queuePort q

/-- The next n words of a queue's path are rung, and neither taken nor fetched yet (R32, R35, R37). -/
abbrev Dev.freshWords (d : Dev) (q n : Nat) : Prop :=
  (d.queue q).ahead = [] ∧ (d.queue q).pos.plus 0 = (d.queue q).pos ∧
    ∀ p ∈ placesFrom (d.queue q).pos n, d.seen q p = false ∧ d.rung q p 1 = true

/-- Nothing waits for the completion of a command of queue q: no table for its release (R297), no packet for staging rows (R59), no clearing
of a table by a drain of this queue (R105). -/
abbrev Dev.nothingWaits (d : Dev) (q : Nat) : Prop :=
  (d.tables.all fun x => !x.2.releasing) = true ∧ d.stageWait = [] ∧ ∀ x ∈ d.drains, x.q ≠ q

/-- Queue q takes a command of n words at once, on a device that tells no twin: its accept stage works, its path stands at
fresh words, its journal is empty and has room (R32, R37, R40, R44), and nothing waits for the command's completion. -/
abbrev Dev.ready (d : Dev) (q n : Nat) : Prop :=
  d.accepting q = true ∧ d.journal q = [] ∧ (d.queue q).snaps = [] ∧ d.freshWords q n ∧ d.journalRoom q = true ∧
    d.telling = false ∧ d.nothingWaits q

/-- The sequence number the next command of a queue gets (R42). -/
def Dev.nextSeq (d : Dev) (q : Nat) : Nat := seqNext (d.lastSeq q)

/-- The device once queue q has accepted a command and started it, and nothing of the command's work is done yet. -/
def Dev.begun (d : Dev) (q : Nat) (c : Cmd) (f : CmdFlags) (env : CmdEnv) : Dev :=
  let a := (d.wr (QU_STAT_JWAIT q) 0).takeWords q (encodeCmd c f)
  a.updEntry q (d.nextSeq q) fun e =>
    { e with stage := .started, started := a.stamp, epoch := a.rd (QU_EPOCH_EPOCH q), env := env }

/-- Nothing differs but the journal and the path of one queue, what acceptance shows of them, and the listed fields. -/
def Dev.queueOnly (d t : Dev) (q : Nat) (fs : List Field) : Prop :=
  { t with regs := d.regs, queues := d.queues } = d ∧ (∀ p, p ≠ q → t.queue p = d.queue p) ∧
    ∀ g : Field, (∀ f ∈ [QU_STAT_JWAIT q, QU_HEAD_FETCH q, ACCEPT_INDEX_INDEX q, QU_ACCEPT_SEQ_SEQ q] ++ fs, f.key ≠ g.key) →
      t.rd g = d.rd g

end Sys2Proof.Machine
end

