-- ==== Sys2Proof/Certificates/Slice0/Obligations.lean ====
section
/-!
DEFINITION. The statements for the provers. A statement about commands says, for every state and operands that meet its
hypotheses, which next state exec answers; where it writes the next state out, everything that is not named stays.
-/
open Sys2Proof Sys2Proof.Machine

/-! The step. -/

/-- A step with a command at the front of the queue is exec of that command with the queue's rest; on an empty queue a register access
that waited at its port for earlier writes is served once it may go (R390), or one period of the timebase passes (the model's choice, log entry 6). -/
def Obligations.StepRunsFront : Prop :=
  (∀ (c : Instr) (rest : List Instr) (d : Dev), step ⟨c :: rest, d⟩ = exec c ⟨rest, d⟩) ∧
  (∀ d : Dev, d.heldRow = none → step ⟨[], d⟩ = .next ⟨[], tick d⟩) ∧
  (∀ (d d2 : Dev) (p : Port) (c : Instr), d.heldRow = some (p, c, d2) → ∀ t, exec c ⟨[], d2⟩ = .next t →
    step ⟨[], d⟩ = .next { t with dev := t.dev.rowServed p })

/-! Queues. -/

/-- R30: a doorbell at or after TAIL and at most one ring past ACCEPT_INDEX, modulo 2^32, moves TAIL (and a Lead tells its
Shadow); any other is ignored, sets DBERR and raises a Slate event. -/
def Obligations.DoorbellRule : Prop :=
  ∀ (s : State) (q : QId) (w : RegWr), s.dev.ownWrite q.val w (0x50008 + 0x100 * q.val) →
    w.touches (QU_DOORBELL_TAIL q.val) = true →
    let tail := s.dev.wval w (QU_DOORBELL_TAIL q.val)
    let ahead := fun n => (n + 2 ^ 32 - s.dev.rd (ACCEPT_INDEX_INDEX q.val)) % 2 ^ 32
    let valid := ahead (s.dev.rd (QU_DOORBELL_TAIL q.val)) ≤ ahead tail ∧ ahead tail ≤ s.dev.ringSize q.val
    (valid → exec (.quDoorbellWrite q w) s =
      s.next ((s.dev.wr (QU_DOORBELL_TAIL q.val) tail).tellReg (0x50008 + 0x100 * q.val) w)) ∧
    (¬ valid → exec (.quDoorbellWrite q w) s =
      s.next (s.dev.raise { cls := .slate, flag := QU_STAT_DBERR q.val, ukind := 6, uid := q.val }))

/-- R70: while the queue is idle and SIZE is legal, writes of QU_RING, CQ_RING and QU_Sn take effect, QU_RING's begins the path
again at ring word 0 with its stack and window empty, CQ_RING's empties the completion ring; else they only set CFGERR.

R66, R64, R54, R44: writing QU_CTL takes the control fields and, with RESUME, clears ERRSTOP, FAULT and CQERR, and after a fault the
words fetched are fetched again; queues whose acceptance waited go on where there is room; CQ_HEAD moves only within the completion
ring, and CQFULL ends once the ring has room; a written event count stands before the WAITs it completes. -/
def Obligations.QueueRegisterWrites : Prop :=
  (∀ (s : State) (q : QId) (w : RegWr),
      let d := s.dev
      let refused := s.next (d.wr (QU_STAT_CFGERR q.val) 1)
      (d.ownWrite q.val w (0x50000 + 0x100 * q.val) →
        exec (.quRingWrite q w) s =
          if d.queueIdle q.val = true ∧ d.wval w (QU_RING_SIZE q.val) ≤ 10 then
            s.next (((((((d.wr (QU_RING_BASE q.val) (d.wval w (QU_RING_BASE q.val))).wr (QU_RING_SIZE q.val)
              (d.wval w (QU_RING_SIZE q.val))).setQueue q.val
                { d.queue q.val with pos := .ring 0, ringFront := 0, front := 0, stack := [], window := [], ahead := [] }).wr (QU_DOORBELL_TAIL q.val) 0).wr
              (QU_HEAD_FETCH q.val) 0).wr (ACCEPT_INDEX_INDEX q.val) 0).tellReg (0x50000 + 0x100 * q.val) w)
          else refused) ∧
      (d.ownWrite q.val w (0x50048 + 0x100 * q.val) →
        exec (.cqRingWrite q w) s =
          if d.queueIdle q.val = true ∧ d.wval w (CQ_RING_SIZE q.val) ≤ 12 then
            s.next (((((d.wr (CQ_RING_BASE q.val) (d.wval w (CQ_RING_BASE q.val))).wr (CQ_RING_SIZE q.val)
              (d.wval w (CQ_RING_SIZE q.val))).wr (CQ_HEAD_HEAD q.val) 0).wr (CQ_TAIL_TAIL q.val) 0).tellReg
                (0x50048 + 0x100 * q.val) w)
          else refused) ∧
      (∀ n : Fin 16, d.ownWrite q.val w (0x50080 + 0x100 * q.val + 8 * n.val) →
        exec (.quSnWrite q n w) s =
          if d.queueIdle q.val = true then
            s.next ((d.wr (QU_S_VALUE q.val n.val) (d.wval w (QU_S_VALUE q.val n.val))).tellReg
              (0x50080 + 0x100 * q.val + 8 * n.val) w)
          else refused)) ∧
  (∀ (s : State) (q : QId) (w : RegWr),
      let d := s.dev
      (d.ownWrite q.val w (0x50030 + 0x100 * q.val) →
        ∃ t : Dev, exec (.quCtlResume q w) s = s.next (t.tellReg (0x50030 + 0x100 * q.val) w) ∧
          (∀ f ∈ [QU_CTL_EN q.val, QU_CTL_STOP_ON_ERR q.val, QU_CTL_PRIO q.val, QU_CTL_WINDOW q.val, QU_CTL_VEC q.val],
            t.rd f = d.wval w f % 2 ^ f.width) ∧
          (∀ f ∈ [QU_STAT_ERRSTOP q.val, QU_STAT_FAULT q.val, QU_STAT_CQERR q.val],
            t.rd f = if w.one (QU_CTL_RESUME q.val) then 0 else d.rd f) ∧
          (∀ p : QId, t.on (QU_STAT_JWAIT p.val) = (d.on (QU_STAT_JWAIT p.val) && !t.journalRoom p.val)) ∧
          (w.one (QU_CTL_RESUME q.val) = true → d.on (QU_STAT_FAULT q.val) = true → t.queue q.val = { d.queue q.val with ahead := [] }) ∧
          (w.one (QU_CTL_RESUME q.val) = false ∨ d.on (QU_STAT_FAULT q.val) = false →
            d.regsOnly t ([QU_CTL_EN q.val, QU_CTL_STOP_ON_ERR q.val, QU_CTL_PRIO q.val, QU_CTL_WINDOW q.val, QU_CTL_VEC q.val,
              QU_STAT_ERRSTOP q.val, QU_STAT_FAULT q.val, QU_STAT_CQERR q.val] ++ (List.range 64).map QU_STAT_JWAIT))) ∧
      (d.ownWrite q.val w (0x50050 + 0x100 * q.val) → w.touches (CQ_HEAD_HEAD q.val) = true →
        let head := d.wval w (CQ_HEAD_HEAD q.val)
        let d1 := d.wr (CQ_HEAD_HEAD q.val) head
        exec (.cqHeadWrite q w) s =
          if (d.rd (CQ_TAIL_TAIL q.val) + 2 ^ 32 - head) % 2 ^ 32 ≤ d.cqSize q.val then
            s.next ((if d1.cqFull q.val then d1 else d1.wr (QU_STAT_CQFULL q.val) 0).tellReg (0x50050 + 0x100 * q.val) w)
          else s.next (d.raise { cls := .slate, flag := QU_STAT_CFGERR q.val, ukind := 6, uid := q.val })) ∧
      (∀ n : Fin 256, d.reaches w (0x56000 + 8 * n.val) →
        exec (.evCountWrite n w) s = s.next ((((d.wr (EV_COUNT_COUNT n.val) (d.wval w (EV_COUNT_COUNT n.val))).wr
          (EV_COUNT_OVF n.val) (if d.on (EV_COUNT_OVF n.val) && !w.one (EV_COUNT_OVF n.val) then 1 else 0)).tellReg
            (0x56000 + 8 * n.val) w).settleWaits n.val)))

/-! The commands of R71, submitted to a queue that takes them at once. -/

/-- NOP, FENCE, MARK, HALT, COMMIT without a twin, and EPOCH complete with status OK and their results; HALT clears QU_CTL.EN,
EPOCH advances the epoch; each leaves everything else as it was (R45, R52, R61, R71, R79, R107). -/
def Obligations.PlainCommands : Prop :=
  ∀ (s : State) (q : QId) (f : CmdFlags), s.dev.ready q.val 1 →
    let d := s.dev
    let n := d.nextSeq q.val
    (∃ t, exec (.nop q f) s = s.next t ∧ t.ended q.val n .ok 0 ∧ d.queueOnly t q.val []) ∧
    (∃ t, exec (.fence q f) s = s.next t ∧ t.ended q.val n .ok 0 ∧ d.queueOnly t q.val []) ∧
    (∀ tag : BitVec 32, ∃ t, exec (.mark q f tag) s = s.next t ∧ t.ended q.val n .ok tag.toNat ∧ d.queueOnly t q.val []) ∧
    (∃ t, exec (.halt q f) s = s.next t ∧ t.ended q.val n .ok 0 ∧ t.rd (QU_CTL_EN q.val) = 0 ∧
      d.queueOnly t q.val [QU_CTL_EN q.val]) ∧
    (∃ t, exec (.epoch q f) s = s.next t ∧ t.rd (QU_EPOCH_EPOCH q.val) = (d.rd (QU_EPOCH_EPOCH q.val) + 1) % 2 ^ 8 ∧
      t.ended q.val n .ok ((d.rd (QU_EPOCH_EPOCH q.val) + 1) % 2 ^ 8) ∧ d.queueOnly t q.val [QU_EPOCH_EPOCH q.val]) ∧
    (∀ (buf : BitVec 24) (b : Buffer), d.buffer buf.toNat = some b → b.ready = true →
      ∃ t, exec (.commit q f buf) s = s.next t ∧ t.ended q.val n .ok 0 ∧ d.queueOnly t q.val [])

/-- SETS, ADDS, LOOP, BRANCH, CALL and RET have their effect at acceptance (R36, R38, R84 to R86): on the sequencer registers,
on the path and on the call stack of their queue, and on nothing else. -/
def Obligations.SequencerCommands : Prop :=
  ∀ (s : State) (q : QId) (f : CmdFlags),
    let d := s.dev
    let n := d.nextSeq q.val
    let x := d.queue q.val
    let S := fun a : BitVec 4 => QU_S_VALUE q.val a.toNat
    (∀ (a : BitVec 4) (v : Word), d.ready q.val 2 → ∃ t, exec (.sets q f a v) s = s.next t ∧ t.ended q.val n .ok 0 ∧
      t.rd (S a) = v.toNat ∧ (t.queue q.val).pos = x.pos.plus 2 ∧ d.queueOnly t q.val [S a]) ∧
    (∀ (a b : BitVec 4) (reg : Bool) (imm : BitVec 32), d.ready q.val 1 →
      ∃ t, exec (.adds q f a b reg imm) s = s.next t ∧ t.ended q.val n .ok 0 ∧
        t.rd (S a) = (d.rd (S a) + addend imm + if reg then d.rd (S b) else 0) % 2 ^ 64 ∧
        (t.queue q.val).pos = x.pos.plus 1 ∧ d.queueOnly t q.val [S a]) ∧
    (∀ (a : BitVec 4) (back : BitVec 16), d.ready q.val 1 → 1 ≤ back.toNat → back.toNat ≤ 256 →
      let v := (d.rd (S a) + 2 ^ 64 - 1) % 2 ^ 64
      (v = 0 → ∃ t, exec (.loop q f a back) s = s.next t ∧ t.ended q.val n .ok 0 ∧ t.rd (S a) = 0 ∧
        (t.queue q.val).pos = x.pos.plus 1 ∧ d.queueOnly t q.val [S a]) ∧
      (∀ p, v ≠ 0 → x.pos.minus back.toNat = some p → x.inWindow p = true →
        ∃ t, exec (.loop q f a back) s = s.next t ∧ t.ended q.val n .ok 0 ∧ t.rd (S a) = v ∧ (t.queue q.val).pos = p ∧
          d.queueOnly t q.val [S a])) ∧
    (∀ (a b : BitVec 4) (cond : BitVec 3) (ofs : BitVec 16), d.ready q.val 1 → 0 < branchOfs ofs →
      (∀ i, x.pos = .ring i → branchOfs ofs < d.ringSize q.val) →
      ∃ t, exec (.branch q f a b cond ofs) s = s.next t ∧ t.ended q.val n .ok 0 ∧
        (t.queue q.val).pos = x.pos.plus (if branchTaken cond.toNat (d.rd (S a)) (d.rd (S b)) then ofs.toNat else 1) ∧
        d.queueOnly t q.val []) ∧
    (∀ l : BitVec 45, d.ready q.val 1 → x.stack.length < 8 → d.inRing q.val (8 * l.toNat) = false →
      ∃ t fr, exec (.call q f l) s = s.next t ∧ t.ended q.val n .ok 0 ∧ (t.queue q.val).pos = .list (8 * l.toNat) (8 * l.toNat) ∧
        (t.queue q.val).stack = x.stack ++ [(x.pos.plus 1, fr)] ∧ d.queueOnly t q.val []) ∧
    (∀ (l : List (Place × Nat)) (p : Place) (fr : Nat), d.ready q.val 1 → x.stack = l ++ [(p, fr)] →
      ∃ t, exec (.ret q f) s = s.next t ∧ t.ended q.val n .ok 0 ∧ (t.queue q.val).pos = p ∧ (t.queue q.val).stack = l ∧
        d.queueOnly t q.val [])

/-- WAIT, SIGNAL, BARRIER, WAITTIME, PEGTAKE and PEGGIVE (R54, R80, R82, R83, R399 to R401): what completes them at once, what they
change then, and that they go on waiting otherwise. -/
def Obligations.SynchronisingCommands : Prop :=
  ∀ (s : State) (q : QId) (f : CmdFlags),
    let d := s.dev
    let n := d.nextSeq q.val
    (∀ ev : BitVec 8, d.ready q.val 1 → d.waits ev.toNat = [] →
      let c := d.rd (EV_COUNT_COUNT ev.toNat)
      ∃ t, exec (.wait q f ev) s = s.next t ∧
        (1 ≤ c → t.ended q.val n .ok (c - 1) ∧ t.rd (EV_COUNT_COUNT ev.toNat) = (c - 1) % 2 ^ 16) ∧
        (c = 0 → t.underway q.val n ∧ t.rd (EV_COUNT_COUNT ev.toNat) = 0) ∧
        d.queueOnly t q.val [EV_COUNT_COUNT ev.toNat]) ∧
    (∀ ev : BitVec 8, d.ready q.val 1 → d.waits ev.toNat = [] → d.rd (EV_COUNT_COUNT ev.toNat) < 65535 →
      ∃ t, exec (.signal q f ev) s = s.next t ∧ t.ended q.val n .ok (d.rd (EV_COUNT_COUNT ev.toNat) + 1) ∧
        t.rd (EV_COUNT_COUNT ev.toNat) = d.rd (EV_COUNT_COUNT ev.toNat) + 1 ∧
        d.queueOnly { t with evPulses := d.evPulses } q.val
          (EV_COUNT_COUNT ev.toNat :: (List.range 8).map SVC_EVCFG_DROPPED)) ∧
    (∀ (bar : BitVec 4) (mask : Word), d.ready q.val 2 → KMap.find d.barriers bar.toNat = none → d.runningCmds = [] →
      mask.toNat.testBit q.val = true →
      (mask.toNat = 2 ^ q.val → ∃ t, exec (.barrier q f bar mask) s = s.next t ∧ t.ended q.val n .ok q.val ∧
        KMap.find t.barriers bar.toNat = none) ∧
      (mask.toNat ≠ 2 ^ q.val → ∃ t, exec (.barrier q f bar mask) s = s.next t ∧ t.underway q.val n ∧
        KMap.find t.barriers bar.toNat = some ⟨mask.toNat, 2 ^ q.val⟩)) ∧
    (∀ (rel : Bool) (time : Word), d.ready q.val 2 → (Cmd.waittime rel time).inRange = true →
      ∃ t, exec (.waittime q f rel time) s = s.next t ∧ d.queueOnly t q.val [] ∧
        match pastBy (stampSix d.stamp) (d.timeTarget rel time) with
        | some late => t.ended q.val n .ok (late / 16)
        | none => t.underway q.val n) ∧
    (∀ (peg : BitVec 6) (wait : Bool), d.ready q.val 1 → d.pegWaiters peg.toNat = [] →
      d.on (PEG_STAT_HELD peg.toNat) = false →
      ∃ t, exec (.pegtake q f peg wait) s = s.next t ∧ t.ended q.val n .ok 0 ∧ t.rd (PEG_STAT_HELD peg.toNat) = 1 ∧
        t.rd (PEG_STAT_HOLDER peg.toNat) = (d.queuePort q.val).num ∧
        t.rd (PEG_STAT_TAKES peg.toNat) = (d.rd (PEG_STAT_TAKES peg.toNat) + 1) % 2 ^ 32 ∧
        d.queueOnly t q.val [PEG_STAT_HELD peg.toNat, PEG_STAT_HOLDER peg.toNat, PEG_STAT_TAKES peg.toNat]) ∧
    (∀ (peg : BitVec 6) (wait : Bool), d.ready q.val 1 → d.pegWaiters peg.toNat = [] →
      d.on (PEG_STAT_HELD peg.toNat) = true →
      ∃ t, exec (.pegtake q f peg wait) s = s.next t ∧ (if wait then t.underway q.val n else t.ended q.val n .pegBusy 0) ∧
        t.rd (PEG_STAT_HOLDER peg.toNat) = d.rd (PEG_STAT_HOLDER peg.toNat)) ∧
    (∀ peg : BitVec 6, d.ready q.val 1 → d.pegWaiters peg.toNat = [] → d.holdsPeg peg.toNat (d.queuePort q.val) = true →
      ∃ t, exec (.peggive q f peg) s = s.next t ∧ t.ended q.val n .ok 0 ∧ t.rd (PEG_STAT_HELD peg.toNat) = 0 ∧
        d.queueOnly t q.val [PEG_STAT_HELD peg.toNat])

/-- BALLOC, BFREE, BCOPY, BFILL, BKEY, BHINT and ROWMOVE (R56, R87 to R92, R117, R121, R271, R482): the next state that each leaves. A
placement is what R117 and R568 give on the device that has begun the command; the bytes are those that the store's own reads and
writes give there; what a committed buffer takes is staged; a ROWMOVE stands at its first row, and the row port moves the rows. -/
def Obligations.BufferCommands : Prop :=
  ∀ (s : State) (q : QId) (f : CmdFlags), s.dev.openCmds = [] →
    let d := s.dev
    let n := d.nextSeq q.val
    (∀ (buf : BitVec 24) (co mi se : Bool) (key : BitVec 6) (size : BitVec 29) (mask : Nat) (rows : List Nat), d.ready q.val 2 →
      let c := Cmd.balloc buf co mi se key size
      let d1 := d.begun q.val c f .none
      let m := (size.toNat + 511) / 512
      let d2 := d1.takeRows q.val n buf.toNat ⟨false, co, mi, se, key.toNat, 512 * m, 0, [], false, 0⟩ mask rows
      c.inRange = true → d.buffer buf.toNat = none → d1.keyOk key.toNat = true → d.rootLost = false → d1.storeOpen = true →
      (se = true → key ≠ 0 ∧ (d1.generation key.toNat).isSome = true) → d1.rd PLACE_CTL_MODE = 0 → d1.placeBuffer m = some (mask, rows) →
      ((∀ r ∈ rows, d1.rd (BANK_OWN_PSTATE (r / 512)) = 1) →
        ∃ t, exec (.balloc q f buf co mi se key size) s = s.next t ∧
          t.ended q.val n .ok (rows.length + 2 ^ 20 * (banksOf rows).length) ∧
          t.buffer buf.toNat = some ⟨true, co, mi, se, key.toNat, 512 * m, mask, rows.map some, false,
            if se then d.rd (SEC_GEN_NEXT key.toNat) else 0⟩ ∧
          (∀ h, h ≠ buf.toNat → t.buffer h = d.buffer h) ∧ t.mem = d.mem) ∧
      ((∃ r ∈ rows, d1.rd (BANK_OWN_PSTATE (r / 512)) ≠ 1) → exec (.balloc q f buf co mi se key size) s = s.next d2)) ∧
    (∀ (buf : BitVec 24) (b : Buffer), d.ready q.val 1 → d.buffer buf.toNat = some b → b.ready = true →
      d.isBound buf.toNat = false →
      let d1 := d.begun q.val (.bfree buf) f .none
      exec (.bfree q f buf) s = s.next ((d1.dropBuffer buf.toNat b).settle q.val n (some (.ok, .ofNat 64 (b.rows.filterMap id).length))) ∧
        (d1.dropBuffer buf.toNat b).buffer buf.toNat = none ∧
        ∀ h, h ≠ buf.toNat → (d1.dropBuffer buf.toNat b).buffer h = d.buffer h) ∧
    (∀ (dst src : BitVec 24) (sofs dofs count : BitVec 32) (a b : Buffer) (data : List Byte) (d2 : Dev), d.ready q.val 3 →
      let c := Cmd.bcopy dst src sofs dofs count
      let d1 := d.begun q.val c f .none
      c.inRange = true → d.buffer dst.toNat = some b → d.buffer src.toNat = some a → a.ready = true → b.ready = true →
      sofs.toNat + count.toNat ≤ a.size → dofs.toNat + count.toNat ≤ b.size →
      (b.commit = true → rangeRows dofs.toNat count.toNat ≤ 4096) → d1.keyOk a.key = true → d1.keyOk b.key = true →
      d1.reachesBuf q.val a sofs.toNat count.toNat = true → d1.reachesBuf q.val b dofs.toNat count.toNat = true →
      d1.bufferOn a = true → d1.bufferOn b = true → d1.bufRead src.toNat sofs.toNat count.toNat = (data, .ok, d2) →
      let r := d2.cmdWrite q.val n dst.toNat dofs.toNat b data count.toNat
      exec (.bcopy q f dst src sofs dofs count) s = s.next (r.2.settle q.val n r.1)) ∧
    (∀ (buf : BitVec 24) (ofs count : BitVec 32) (pat : Word) (b : Buffer), d.ready q.val 3 →
      let c := Cmd.bfill buf ofs count pat
      let d1 := d.begun q.val c f .none
      let data := (List.replicate (count.toNat / 8) (bytesLE 8 pat.toNat)).flatten
      c.inRange = true → d.buffer buf.toNat = some b → b.ready = true → ofs.toNat + count.toNat ≤ b.size →
      (b.commit = true → rangeRows ofs.toNat count.toNat ≤ 4096) → d1.keyOk b.key = true →
      d1.reachesBuf q.val b ofs.toNat count.toNat = true → d1.bufferOn b = true →
      let r := d1.cmdWrite q.val n buf.toNat ofs.toNat b data count.toNat
      exec (.bfill q f buf ofs count pat) s = s.next (r.2.settle q.val n r.1)) ∧
    (∀ (d1 d3 : Dev) (h ofs m : Nat) (b : Buffer) (data : List Byte),
      let noted := d1.updEntry q.val n fun e => { e with wrote := (h, ofs, data.length) :: e.wrote }
      b.commit = false → b.mirror = false → noted.bufWrite h ofs data (List.replicate data.length true) = (.ok, d3) →
      d1.cmdWrite q.val n h ofs b data m = (some (.ok, .ofNat 64 m), d3)) ∧
    (∀ (buf : BitVec 24) (key : BitVec 6) (se : Bool) (b : Buffer), d.ready q.val 1 → d.buffer buf.toNat = some b → b.ready = true →
      let d1 := d.begun q.val (.bkey buf key se) f .none
      let r := d1.workKey buf.toNat key.toNat se
      exec (.bkey q f buf key se) s = s.next (r.2.settle q.val n r.1) ∧
      (se = b.sealed → se = false ∨ (key ≠ 0 ∧ key.toNat = b.key) → d1.keyOk key.toNat = true →
        ∃ t, exec (.bkey q f buf key se) s = s.next t ∧ t.ended q.val n .ok 0 ∧
          t.buffer buf.toNat = some { b with key := key.toNat } ∧ (∀ h, h ≠ buf.toNat → t.buffer h = d.buffer h) ∧ t.mem = d.mem)) ∧
    (∀ (buf : BitVec 24) (col : BitVec 6) (cv pin sp : Bool) (b : Buffer), d.ready q.val 1 → d.buffer buf.toNat = some b →
      b.ready = true → KMap.find d.bufMoves buf.toNat = none → (Cmd.bhint buf col cv pin sp).inRange = true →
      let d1 := d.begun q.val (.bhint buf col cv pin sp) f .none
      let mask := d1.hintMask b col.toNat sp
      (d.rd PLACE_CTL_MODE = 0 → ∃ t, exec (.bhint q f buf col cv pin sp) s = s.next t ∧ t.ended q.val n .ok 0 ∧
        d.queueOnly t q.val []) ∧
      (d.rd PLACE_CTL_MODE ≠ 0 → cv = false → sp = false →
        ∃ t, exec (.bhint q f buf col cv pin sp) s = s.next t ∧ t.ended q.val n .ok 1 ∧
          t.buffer buf.toNat = some { b with pin := b.pin || pin } ∧ (∀ h, h ≠ buf.toNat → t.buffer h = d.buffer h) ∧
          t.mem = d.mem) ∧
      (d.rd PLACE_CTL_MODE = 1 → (cv || sp) = true →
        (d1.planMove b mask = none → ∃ t, exec (.bhint q f buf col cv pin sp) s = s.next t ∧ t.ended q.val n .ok 0 ∧
          t.on PLACE_STAT_HINT_MISSED = true ∧ t.mem = d.mem) ∧
        (d1.planMove b mask = some b.rows → ∃ t, exec (.bhint q f buf col cv pin sp) s = s.next t ∧ t.ended q.val n .ok 1 ∧
          t.buffer buf.toNat = some { b with pin := b.pin || pin, mask := mask } ∧ t.mem = d.mem) ∧
        (∀ rows, d1.planMove b mask = some rows → rows ≠ b.rows →
          let r := (d1.hintMove q.val n buf.toNat mask rows).andThen fun d => d.finishHint buf.toNat (d.noted q.val n)
          exec (.bhint q f buf col cv pin sp) s = s.next (r.2.settle q.val n r.1)))) ∧
    (∀ (kern : BitVec 16) (buf : BitVec 24) (port : BitVec 4) (dir : Bool) (first count : BitVec 20) (b : Buffer) (k : Kernel)
        (tile : Nat), d.ready q.val 2 →
      let c := Cmd.rowmove kern buf port dir first count
      let d1 := d.begun q.val c f .none
      c.inRange = true → d.buffer buf.toNat = some b → b.ready = true → b.sealed = false → d.kernel kern.toNat = some k → k.ready = true →
      k.released = false → k.rowTile port.toNat = some tile → first.toNat + count.toNat ≤ b.rows.length → d1.keyOk b.key = true →
      (dir = true → b.commit = true → count.toNat ≤ 4096) → d1.gate (if tile < 128 then 11 else 12) = true →
      exec (.rowmove q f kern buf port dir first count) s = s.next (d1.note q.val n [0, 0]) ∧ d.queueOnly (d1.note q.val n [0, 0]) q.val [])

/-- KRUN, KSTOP, KBIND, KPARAM, KSWITCH and KRETIRE (R94 to R99, R131, R184, R234): what each leaves of the kernel it names. A
KPARAM with LIVE at 1 reaches the kernel's tiles one at a time. -/
def Obligations.KernelCommands : Prop :=
  ∀ (s : State) (q : QId) (f : CmdFlags) (kern : BitVec 16) (k : Kernel), s.dev.kernel kern.toNat = some k → k.ready = true →
    let d := s.dev
    let n := d.nextSeq q.val
    let h := kern.toNat
    let a := d.homeOf k
    (d.ready q.val 1 → k.released = false → k.run = none → d.diesOpen k.where = true →
      let d1 := (d.begun q.val (.krun kern) f .none).updKernel h fun k => { k with run := some ⟨q.val, n, false, none, none⟩ }
      let up := (match KMap.find d.ensembles a with | some e => e.phase = 1 | none => False) ∧ d.shown k.anchor = k.fret ∧
        KMap.find d.migrations a = none
      (up → exec (.krun q f kern) s = s.next (d1.startKernel h)) ∧
      (¬ up → exec (.krun q f kern) s = s.next ((d1.trigger a (.run k.fret)).preloadNext a))) ∧
    (d.ready q.val 1 → d.openCmds = [] → k.run = none → d.onTheMove k = false →
      ∃ t, exec (.kstop q f kern) s = s.next t ∧ t.ended q.val n .ok 0 ∧ d.queueOnly t q.val []) ∧
    (∀ r, d.ready q.val 1 → k.run = some r → r.begun = true → k.released = false → d.onTheMove k = false →
      d.shown k.anchor = k.fret →
      exec (.kstop q f kern) s =
        s.next (((d.begun q.val (.kstop kern) f .none).trigger a .park).note q.val n [1])) ∧
    (∀ (slot : BitVec 4) (kind : BitVec 2) (target : BitVec 24), d.ready q.val 1 → k.released = false → k.run = none →
      (Cmd.kbind kern slot kind target).inRange = true → d.slotType k slot.toNat ≠ 0 →
      (kind ≠ 3 → d.slotType k slot.toNat = kind.toNat + 1) →
      (kind = 0 ∨ kind = 1 → ∃ b, d.buffer target.toNat = some b ∧ b.ready = true) →
      ∃ t, exec (.kbind q f kern slot kind target) s = s.next t ∧ t.ended q.val n .ok 0 ∧
        t.kernel h = some { k with
          binds := if kind = 3 then KMap.del k.binds slot.toNat else KMap.put k.binds slot.toNat ⟨kind.toNat, target.toNat⟩ } ∧
        d.queueOnly { t with kernels := d.kernels } q.val [] ∧ (∀ x, x ≠ h → t.kernel x = d.kernel x)) ∧
    (∀ (preg sreg : BitVec 4) (srcS : Bool) (value : Word), d.ready q.val 2 → k.released = false → k.run = none → k.fret < 8 →
      let v := if srcS then BitVec.ofNat 64 (d.sreg q.val sreg.toNat) + value else value
      let d1 := fun live => d.begun q.val (.kparam kern preg srcS live sreg value) f .none
      (∃ t, exec (.kparam q f kern preg srcS false sreg value) s = s.next t ∧ t.ended q.val n .ok 0 ∧
        (∀ x ∈ k.where, t.param x k.fret preg.toNat = v) ∧
        (∀ x g p, p < 16 → g < 8 → (x ∉ k.where ∨ g ≠ k.fret ∨ p ≠ preg.toNat) → t.param x g p = d.param x g p) ∧
        d.queueOnly { t with params := d.params, planeCrcs := d.planeCrcs } q.val []) ∧
      (∀ x, k.where = [x] → exec (.kparam q f kern preg srcS true sreg value) s =
        s.next (((d1 true).setParam x k.fret preg.toNat v).settle q.val n (some (.ok, 0)))) ∧
      (∀ x y l, k.where = x :: y :: l → exec (.kparam q f kern preg srcS true sreg value) s =
        s.next (((d1 true).setParam x k.fret preg.toNat v).note q.val n [1]))) ∧
    (∀ e : Ensemble, d.ready q.val 1 → k.released = false → d.onTheMove k = false → d.diesOpen k.where = true →
      KMap.find d.ensembles a = some e → e.phase = 1 → e.waiting = [] →
      (d.shown a = k.fret → ∃ t, exec (.kswitch q f kern false) s = s.next t ∧ t.ended q.val n .ok 0 ∧ d.queueOnly t q.val []) ∧
      (d.shown a ≠ k.fret → exec (.kswitch q f kern false) s =
        s.next (((d.begun q.val (.kswitch kern false) f .none).note q.val n [1]).trigger a (.toFret k.fret (some (q.val, n))))) ∧
      (d.planeReady a k.fret = true →
        ∃ t, exec (.kswitch q f kern true) s = s.next t ∧ t.ended q.val n .ok 0 ∧ d.queueOnly t q.val []) ∧
      (d.planeReady a k.fret = false → exec (.kswitch q f kern true) s =
        s.next (((d.begun q.val (.kswitch kern true) f .none).note q.val n [1]).preload a k.fret))) ∧
    (d.ready q.val 1 → d.openCmds = [] → d.kernelGroups h = [] →
      ∃ t, exec (.kretire q f kern) s = s.next t ∧ t.ended q.val n .ok (if k.released then 0 else k.where.length) ∧
        t.kernel h = none ∧ (∀ x, x ≠ h → t.kernel x = d.kernel x) ∧
        (∀ b : Fin 1024, d.owner b.val = h → d.isRetired .bank b.val = false → t.owner b.val = 3))

/-- KADMIT and KROTATE (R93, R100, R192, R347): an image that the loader takes, read from the store or from host memory, is placed and
loaded as Luthier and the loader do on the device that has begun the command; one whose header it refuses ends with the status and the
code of the refusal; kernels of one ensemble that are never held alone begin to rotate there, and STOP ends the rotation. -/
def Obligations.AdmissionCommands : Prop :=
  ∀ (s : State) (q : QId) (f : CmdFlags), s.dev.openCmds = [] →
    let d := s.dev
    let n := d.nextSeq q.val
    (∀ (kern : BitVec 16) (dies : BitVec 2) (so nm an : Bool) (tile : BitVec 8) (image : BitVec 48) (bytes : BitVec 32) (i0 i : Image)
        (p : List ColTemp) (d2 : Dev), d.ready q.val 3 →
      let c := Cmd.kadmit kern dies so nm an tile image bytes
      let d1 := d.begun q.val c f (.image i0 p)
      let adm : Admission := ⟨dies.toNat, so, nm, if an then some tile.toNat else none, ⟨true, image.toNat, bytes.toNat, i.keyslot.toNat⟩,
        bitsOf ((encodeCmd c f).getD 0 0).toNat 0 32⟩
      let fromStore := ∃ a, addrSpace image.toNat = .store a ∧ d1.storeReady .device 0 a bytes.toNat = true ∧
        d1.imageAt image.toNat (some bytes.toNat) i0 = (i, d2) ∧ d2.load = none
      let fromHost := ∃ x a, addrSpace image.toNat = .host x a ∧ d.portUp x = true ∧ i = i0 ∧ d2 = d1
      c.inRange = true → d.kernel kern.toNat = none → d.load = none → fromStore ∨ fromHost →
      (∀ code, d2.headerCode i (· == 2) = code → code ≠ 0 →
        exec (.kadmit q f kern dies so nm an tile image bytes (.image i0 p)) s =
          s.next ((d2.refuseLoad (.kadmit q.val n) 2 i.keyslot.toNat i.read code 0xFFFF).complete q.val n) ∧
        (fromHost → ((d2.refuseLoad (.kadmit q.val n) 2 i.keyslot.toNat i.read code 0xFFFF).complete q.val n).ended q.val n
          (admitStatus code i.read) (code + 2 ^ 16 * 0xFFFF))) ∧
      (∀ k ens x fr d3, d2.headerCode i (· == 2) = 0 → adm.kernel i.desc = some k →
        d2.placeKernel kern.toNat k i.desc i.headerCrc.toNat adm.hint false p = (.at_ ens x fr, d3) →
        exec (.kadmit q f kern dies so nm an tile image bytes (.image i0 p)) s =
          s.next ((d3.startLoad (.kadmit q.val n) i kern.toNat adm.word0 (some k) ens x fr).complete q.val n))) ∧
    (∀ (es : List RotEntry) (env : CmdEnv) (a : Nat) (e : Ensemble), d.ready q.val (1 + (es.length + 1) / 2) →
      (Cmd.krotate false es).inRange = true → KMap.find d.ensembles a = some e → d.migrations = [] →
      (∀ r ∈ es, ∃ k, d.kernel r.kern.toNat = some k ∧ k.ready = true ∧ k.released = false ∧ k.sole = false ∧ k.fixed = false ∧
        d.homeOf k = a ∧ d.diesOpen k.where = true) →
      ∃ t e', exec (.krotate q f false es env) s = s.next t ∧ t.ended q.val n .ok (d.logical a) ∧
        KMap.find t.ensembles a = some e' ∧ e'.rot = es ∧ e'.rotating = true ∧ e'.phase = e.phase ∧ e'.cur = e.cur ∧
        d.queueOnly { t with ensembles := d.ensembles } q.val
          ((e.where a).map FRET_STAT_NEXT ++ (e.where a).map FRET_STAT_NEXTV)) ∧
    (∀ (r : RotEntry) (env : CmdEnv) (a : Nat) (e : Ensemble) (k : Kernel), d.ready q.val 2 → r.dwell = 0 →
      d.kernel r.kern.toNat = some k → k.ready = true → k.sole = false → k.fixed = false → d.homeOf k = a → KMap.find d.ensembles a = some e →
      d.onTheMove k = false → d.diesOpen k.where = true →
      ∃ t, exec (.krotate q f true [r] env) s = s.next t ∧ t.ended q.val n .ok (d.logical a) ∧
        KMap.find t.ensembles a = some (if e.rot.any (fun x => x.kern == r.kern) then { e with rot := [], rotating := false, rotPos := 0 } else e) ∧
        d.queueOnly { t with ensembles := d.ensembles } q.val [])

/-- LBIND, LCTL, DMAGO, TSETUP, TCLEAR and TDRAIN (R101 to R105, R289, R294, R295, R361, R364, R368, R405): the group that forms, the
power states of lanes, the transfer that starts, the table that is set up, emptied or drained. -/
def Obligations.EngineCommands : Prop :=
  ∀ (s : State) (q : QId) (f : CmdFlags), s.dev.openCmds = [] →
    let d := s.dev
    let n := d.nextSeq q.val
    (∀ (kern : BitVec 16) (slot : BitVec 4) (first : BitVec 7) (w rate : BitVec 3) (k : Kernel), d.ready q.val 2 →
      let c := Cmd.lbind kern slot false first w rate
      c.inRange = true → d.kernel kern.toNat = some k → k.ready = true → k.released = false → d.laneSlot k slot.toNat = true →
      (∀ x ∈ d.groups, ¬ (x.2.kern = kern.toNat ∧ x.2.slot = slot.toNat)) → first.toNat + 2 ^ w.toNat ≤ 128 →
      (∀ L ∈ groupLanes first.toNat w.toNat, d.groupOf L = none ∧ d.on (LANE_STAT_RETIRED L) = false ∧ d.gateLane (L / 4) = true) →
      exec (.lbind q f kern slot false first w rate) s =
        s.next (((d.begun q.val c f .none).formGroup first.toNat w.toNat
          { kern := kern.toNat, slot := slot.toNat, maxRate := rate.toNat, cmd := some (q.val, n) }).note q.val n [1])) ∧
    (∀ (first : BitVec 7) (w : BitVec 3) (act : BitVec 4), d.ready q.val 1 → act = 1 ∨ act = 2 ∨ act = 7 →
      (Cmd.lctl first w act 0).inRange = true → first.toNat + 2 ^ w.toNat ≤ 128 →
      (∀ L ∈ groupLanes first.toNat w.toNat, d.groupOf L = none ∧ d.on (LANE_STAT_RETIRED L) = false ∧ d.gateLane (L / 4) = true) →
      let ls := groupLanes first.toNat w.toNat
      ∃ t, exec (.lctl q f first w act 0) s = s.next t ∧ t.ended q.val n .ok 0 ∧
        (∀ L ∈ ls, (act = 1 → t.rd (LANE_STAT_PSTATE L) = 1 ∧ t.rd (LANE_STAT_SYNC L) = 0) ∧
          (act = 2 → t.rd (LANE_STAT_PSTATE L) = 0 ∧ t.rd (LANE_STAT_SYNC L) = 0) ∧
          (act = 7 → t.rd (LANE_PRBS_RUN L) = 0 ∧ t.rd (LANE_PRBS_LOCK L) = 0)) ∧
        d.queueOnly t q.val (ls.map LANE_STAT_PSTATE ++ ls.map LANE_STAT_SYNC ++ ls.map LANE_PRBS_RUN ++ ls.map LANE_PRBS_LOCK)) ∧
    (∀ (first : BitVec 7) (w : BitVec 3) (act : BitVec 4) (arg : BitVec 3), d.ready q.val 1 → act ≠ 3 → act ≠ 4 →
      let c := Cmd.lctl first w act arg
      c.inRange = true → first.toNat + 2 ^ w.toNat ≤ 128 →
      (∀ L ∈ groupLanes first.toNat w.toNat, d.groupOf L = none ∧ d.on (LANE_STAT_RETIRED L) = false ∧ d.gateLane (L / 4) = true) →
      let r := (d.begun q.val c f .none).laneAction act.toNat arg.toNat first.toNat (groupLanes first.toNat w.toNat)
      exec (.lctl q f first w act arg) s = s.next (r.2.settle q.val n r.1)) ∧
    (∀ (ch key : BitVec 6) (src dst : BitVec 48) (cnt : BitVec 32) (ev : BitVec 8) (evEn sw dw : Bool) (sk dk : BitVec 5),
      d.ready q.val 4 → (Cmd.dmago ch false key src dst cnt ev evEn sw sk dw dk).inRange = true →
      (d.begun q.val (.dmago ch false key src dst cnt ev evEn sw sk dw dk) f .none).keyOk key.toNat = true → d.gate 6 = true →
      d.on (DMA_CH_CTL_GO ch.toNat) = false →
      ∃ t, exec (.dmago q f ch false key src dst cnt ev evEn sw sk dw dk) s = s.next t ∧ t.ended q.val n .ok 0 ∧
        t.rd (DMA_CH_SRC_ADDR ch.toNat) = src.toNat ∧ t.rd (DMA_CH_DST_ADDR ch.toNat) = dst.toNat ∧
        t.rd (DMA_CH_CNT_CNT ch.toNat) = cnt.toNat ∧ t.rd (DMA_CH_CTL_GO ch.toNat) = 1 ∧ t.rd (DMA_CH_CTL_KEY ch.toNat) = key.toNat ∧
        t.xfer ch.toNat = some ⟨d.queuePort q.val, d.rd (QU_EPOCH_EPOCH q.val), src.toNat, dst.toNat, cnt.toNat, 0, [], [], [], [],
          some (q.val, n)⟩ ∧
        (∀ c, c ≠ ch.toNat → t.xfer c = d.xfer c) ∧ t.mem = d.mem) ∧
    (∀ (t : BitVec 3) (kb : BitVec 6) (co mi : Bool) (E : BitVec 5) (cols : Word) (rows : List (Nat × List Nat)), d.ready q.val 2 →
      let c := Cmd.tsetup t kb co mi E cols
      let d1 := d.begun q.val c f .none
      let all := (rows.map (·.2)).flatten
      let mask := maskOf (rows.map (·.1))
      c.inRange = true → d.table t.toNat = none → d.gate 10 = true → d.storeOpen = true → d.rootLost = false →
      2 ^ E.toNat ≤ d.tallyFree → d1.rd PLACE_CTL_MODE = 0 → cols ≠ 0 → d1.tableRowsFor E.toNat (maskList cols.toNat) = some rows →
      exec (.tsetup q f t kb co mi E cols) s =
        s.next (((d1.decided 3 0 t.toNat mask (rowsWord all) 0 0).tableSetup t.toNat kb.toNat E.toNat co mi rows).settle q.val n
          (some (.ok, .ofNat 64 mask)))) ∧
    (∀ (t : BitVec 3), d.ready q.val 1 → (d.table t.toNat).isSome = true → d.gate 10 = true → d.storeOpen = true →
      let d1 := d.begun q.val (.tclear t) f .none
      exec (.tclear q f t) s = s.next ((d1.tableClear t.toNat).settle q.val n
        (some (.ok, .ofNat 64 ((d1.tableUsed t.toNat).1 + (d1.tableUsed t.toNat).2.1))))) ∧
    (∀ (t : BitVec 3) (cl : Bool) (buf : BitVec 24) (ofs : BitVec 32) (x : TableSt) (b : Buffer) (bs : List Byte) (res : Word) (d2 d3 : Dev),
      d.ready q.val 2 →
      let c := Cmd.tdrain t cl buf ofs
      let d1 := (d.begun q.val c f .none).note q.val n [1]
      let used := (d1.tableUsed t.toNat).1 + (d1.tableUsed t.toNat).2.1
      c.inRange = true → d.table t.toNat = some x → d.buffer buf.toNat = some b → b.ready = true → ofs.toNat + 16 * used ≤ b.size →
      (b.commit = true → used ≤ 131072) → d1.keyOk b.key = true → d1.gate 10 = true → d1.bufferOn b = true →
      d1.reachesBuf q.val b ofs.toNat (16 * used) = true → (x.cols.all fun c => d1.linked (engineCol q.val) c.1) = true →
      d1.drainAll t.toNat x = (.ok, bs, d2) → bs ≠ [] → bs.length / 16 ≤ (b.size - ofs.toNat) / 16 →
      d2.cmdWrite q.val n buf.toNat ofs.toNat b bs (bs.length / 16) = (some (.ok, res), d3) →
      exec (.tdrain q f t cl buf ofs) s = s.next ((if cl then { d3 with drains := d3.drains ++ [⟨q.val, n, t.toNat, []⟩] } else d3).settle q.val n
        (some (.ok, res))))

/-! The life of a command (chapter 02). -/

/-- COMMAND_ACCEPT (R34, R35, R40 to R44): on a queue whose turn it is the accept stage fetches what its next command lacks, a block of the
ring at a time, and takes the command's words whole into the journal under the next sequence number, which ACCEPT_SEQ shows; with too few
entries free JWAIT is set and nothing is taken; a word that could not be read faults the queue; with words missing it waits. -/
def Obligations.Acceptance : Prop :=
  ∀ (s : State) (q : QId) (fetched : List Word) (o : Outc),
    let d := s.dev
    let turn := d.hasTurn d.acceptTurns Dev.acceptReady q.val
    let d1 := d.fetchMore q.val fetched o
    let pos := (d1.queue q.val).pos
    (d.accepting q.val = false ∨ turn = false → exec (.commandAccept q fetched o) s = s.next d) ∧
    (d.accepting q.val = true → turn = true →
      (∀ (c : Cmd) (f : CmdFlags), (d1.queue q.val).snaps = [] → d1.accepting q.val = true → d1.telling = false →
        d1.gather q.val = .words (encodeCmd c f) → c.inRange = true → c.isSeq = false → c.stopPlain = true →
        (d1.journalRoom q.val = true →
          ∃ t e, exec (.commandAccept q fetched o) s = s.next t ∧ t.journal q.val = d1.journal q.val ++ [e] ∧ e.words = encodeCmd c f ∧
            e.cmd = some c ∧ e.flags = f ∧ e.seq = d1.nextSeq q.val ∧ e.stage = .accepted ∧ e.epoch = d1.rd (QU_EPOCH_EPOCH q.val) ∧
            e.ident = d1.queuePort q.val ∧ t.rd (QU_ACCEPT_SEQ_SEQ q.val) = d1.nextSeq q.val ∧ t.rd (QU_STAT_JWAIT q.val) = 0 ∧
            (t.queue q.val).pos = ((d1.pathPlaces q.val (encodeCmd c f).length pos).getLast?.getD pos).plus 1 ∧
            t.acceptTurns = d1.takeTurn d1.acceptTurns q.val ∧
            d1.queueOnly { t with acceptTurns := d1.acceptTurns } q.val (if c = .halt then [QU_CTL_EN q.val] else [])) ∧
        (d1.journalRoom q.val = false →
          exec (.commandAccept q fetched o) s = s.next ((d1.wr (QU_STAT_JWAIT q.val) 1).dropListWords q.val))) ∧
      (∀ p, (d1.atPath q.val).gather q.val = .failed p →
        exec (.commandAccept q fetched o) s = s.next ((d1.fetchFault q.val p).dropListWords q.val)) ∧
      ((d1.atPath q.val).gather q.val = .missing → exec (.commandAccept q fetched o) s = s.next (d1.dropListWords q.val))) ∧
    (∀ (p : Port) (x : Nat) (r : Place) (ps : List Place), d.nextBlock q.val = r :: ps → addrSpace (d.placeAddr q.val r) = .host p x →
      d.portUp p = true → fetched.length = ps.length + 1 → d.fetchBlock q.val fetched .ok =
        (d.setQueue q.val { d.queue q.val with
          ahead := (d.queue q.val).ahead ++ ((r :: ps).zip fetched).map fun y => (y.1, some y.2) }).wr
            (QU_HEAD_FETCH q.val) ((d.rd (QU_HEAD_FETCH q.val) + (ps.length + 1)) % 2 ^ 32))

/-- COMMAND_START begins the oldest command that the order of its queue lets start: one whose effect is its completion's is only
marked as started, one that works while it is in progress begins its work; COMMAND_COMPLETE then runs what is left and fixes its status,
result and stamp (R34, R45, R49 to R52, R56, R67, R68). -/
def Obligations.StartAndComplete : Prop :=
  ∀ (s : State) (q : QId) (e : Entry) (c : Cmd) (env : CmdEnv),
    let d := s.dev
    let e1 := { e with stage := .started, started := d.stamp, epoch := d.rd (QU_EPOCH_EPOCH q.val), env := env }
    let d1 := d.updEntry q.val e.seq fun e =>
      { e with stage := .started, started := d.stamp, epoch := d.rd (QU_EPOCH_EPOCH q.val), env := env }
    let turns := d.takeTurn d.issueTurns q.val
    d.running = true → d.entry q.val e.seq = some e → e.cmd = some c → c.inRange = true → e.seq < 2 ^ 48 →
    (d.gateServes 5 = true → d.shadowing = false → d.rd TWIN_STAT_STATE ≠ 5 → d.startable q.val = some e →
      d.hasTurn d.issueTurns (fun d q => (Dev.startable d q).isSome) q.val = true →
      d.handles q.val e.seq c ≠ .gone → lacksImage c env = false →
      (atCompletion c = true → exec (.commandStart q env) s = s.next { d1 with issueTurns := turns }) ∧
      (atCompletion c = false → holdsOn c = true →
        exec (.commandStart q env) s = s.next { d1.runCmd q.val e.seq with issueTurns := turns }) ∧
      (atCompletion c = false → holdsOn c = false → allocates c = true ∨ d1.handles q.val e.seq c = .ok →
        ((d1.beginWork q.val e1 c).1 = none →
          exec (.commandStart q env) s = s.next { (d1.beginWork q.val e1 c).2 with issueTurns := turns }) ∧
        (∀ st res, (d1.beginWork q.val e1 c).1 = some (st, res) →
          exec (.commandStart q env) s = s.next { (d1.beginWork q.val e1 c).2.fix q.val e.seq st res with issueTurns := turns }))) ∧
    (e.stage = .started → e.fin = none → allocates c = true ∨ d.handles q.val e.seq c = .ok →
      exec (.commandComplete q (.ofNat 48 e.seq)) s =
        s.next ((d.work q.val e c).2.settle q.val e.seq (d.work q.val e c).1)) ∧
    (∀ st res, e.stage = .started → e.fin = some (st, res) → e.staged = [] → e.delta = [] → e.wrote = [] →
      (∀ t b o, c ≠ .tdrain t true b o) → d.on (QU_CTL_STOP_ON_ERR q.val) = false → d.telling = false → d.stageWait = [] →
      ∃ t, exec (.commandComplete q (.ofNat 48 e.seq)) s = s.next t ∧
        t.entry q.val e.seq = some { e with stage := .completed, status := e.okStatus st, result := res
                                            fin := some (e.okStatus st, res), staged := [], delta := [], wrote := []
                                            stamp := if e.flags.tstart then e.started else d.stamp, durable := true })

/-- R66: a command that ends with a failure while QU_CTL.STOP_ON_ERR is 1 halts the accept stage under ERRSTOP; every later accepted
command of the queue that has not started ends as Stopped, one that has started runs on, and if it fails too nothing further
follows; RESUME clears ERRSTOP and the path stands where it stood; with STOP_ON_ERR 0 the queue runs on. -/
def Obligations.FailureStopsQueue : Prop :=
  (∀ (d : Dev) (q seq : Nat) (st : Status) (res : Word) (before after : List Entry) (e : Entry),
      d.journal q = before ++ e :: after → (d.journal q).Pairwise (fun a b => a.seq ≠ b.seq) → e.seq = seq → e.stage = .started →
      st.bad = true → d.telling = false →
      let t := d.close q seq st res
      t.ended q seq st res.toNat ∧ (∀ x ∈ before, t.entry q x.seq = some x) ∧
      (d.on (QU_CTL_STOP_ON_ERR q) = true → e.mute = false → t.on (QU_STAT_ERRSTOP q) = true ∧ t.accepting q = false ∧
        ∀ x ∈ after, ∃ y, t.entry q x.seq = some y ∧
          (x.stage = .accepted → y.stage = .completed ∧ y.status = .stopped ∧ y.result = 0) ∧
          (x.stage = .started → y = { x with mute := true }) ∧ (x.stage ≠ .accepted → x.stage ≠ .started → y = x)) ∧
      (d.on (QU_CTL_STOP_ON_ERR q) = false ∨ e.mute = true → t.rd (QU_STAT_ERRSTOP q) = d.rd (QU_STAT_ERRSTOP q) ∧
        ∀ x ∈ after, t.entry q x.seq = some x)) ∧
  (∀ (s : State) (q : QId) (w : RegWr), s.dev.ownWrite q.val w (0x50030 + 0x100 * q.val) → w.one (QU_CTL_RESUME q.val) = true →
      s.dev.telling = false →
      ∃ t : Dev, exec (.quCtlResume q w) s = s.next t ∧ t.rd (QU_STAT_ERRSTOP q.val) = 0 ∧
        { t.queue q.val with ahead := (s.dev.queue q.val).ahead } = s.dev.queue q.val ∧
        t.rd (ACCEPT_INDEX_INDEX q.val) = s.dev.rd (ACCEPT_INDEX_INDEX q.val))

/-- COMPLETION_POST (R44, R62 to R65, R67, R394, R569): a command whose record is not due leaves the journal with DONE_SEQ at its number, and
queues that waited for the journal go on; a due record is written where CQ_TAIL points, CQ_TAIL moves on, and an interrupt that the
command asks for follows; a full completion ring only sets CQFULL; a record for a port whose link is down waits.
COMPLETION_RECORD_WRITE_FAIL raises CQERR and posts nothing (R570). -/
def Obligations.Posting : Prop :=
  ∀ (s : State) (q : QId) (e : Entry),
    let d := s.dev
    let done := fun t : Dev =>
      let u := ((t.setQueue q.val { t.queue q.val with journal := (t.queue q.val).journal.drop 1 }).wr (QU_DONE_SEQ_SEQ q.val) e.seq).settleJwait
      if e.flags.irq then u.msix (u.queuePort q.val) (u.rd (QU_CTL_VEC q.val)) else u
    let moved := fun t : Dev => done (t.wr (CQ_TAIL_TAIL q.val) (d.rd (CQ_TAIL_TAIL q.val) + 1))
    let open_ := d.wr (QU_STAT_CQFULL q.val) 0
    let rec4 := wordBytes (completionRecord q.val e (d.cqPhase q.val))
    let col := engineCol q.val
    (d.journal q.val).head? = some e → e.stage = .completed → e.durable = true → d.on (QU_STAT_CQERR q.val) = false →
    d.running = true → d.telling = false → d.capo.swapping = false → d.capo.frames = [] →
    (e.recordDue = false → exec (.completionPost q) s = s.next (done d)) ∧
    (e.recordDue = true → d.cqFull q.val = true → exec (.completionPost q) s = s.next (d.wr (QU_STAT_CQFULL q.val) 1)) ∧
    (∀ p h, e.recordDue = true → d.cqFull q.val = false → addrSpace (d.cqSlot q.val) = .host p h →
      (d.portUp p = true → d.linked col (portCol p) = true →
        exec (.completionPost q) s = s.next (moved (open_.emit (.hostWrite p h rec4)))) ∧
      (d.portUp p = false → exec (.completionPost q) s = s.next open_) ∧
      (d.portUp p = true → exec (.completionRecordWriteFail q) s = s.next ((d.deviceFail p (d.cqSlot q.val)).raise
        { cls := .ochre, flag := QU_STAT_CQERR q.val, ukind := 6, uid := q.val, detail := d.cqSlot q.val }))) ∧
    (∀ a, e.recordDue = true → d.cqFull q.val = false → addrSpace (d.cqSlot q.val) = .store a → d.linked col (a / 2 ^ 22) = true →
      d.storeReady (.port (d.queuePort q.val)) 0 a 32 = true → d.gateRow (.port (d.queuePort q.val)) 0 (a / 512) = .serve →
      exec (.completionPost q) s = s.next (moved (open_.putWord (a / 32) rec4)))

/-! Accesses to registers by hosts (R5, R396, R399, R400, R404). -/

/-- PEG_TAKE_READ takes a free peg for the reading port and returns 0, or returns 1 and changes nothing (R399); PEG_GIVE_WRITE frees
a peg that the port holds, which goes to the first PEGTAKE that waits, and any other give is a Slate event under BADGIVE
(R400, R401); a source that is no host does neither (R404).

QU_XFER (R396): a port that owns the queue, or whose partner's port is down or in reset, moves an idle queue; any other
request sets REJ with its reason and its queue. -/
def Obligations.PegAndTransferRegisters : Prop :=
  (∀ (s : State) (peg : Fin 64) (p : Port) (w : RegWr),
      let d := s.dev
      let n := peg.val
      (d.access (.host p) (0x40000 + 0x20 * n) false = .ok →
        exec (.pegTakeRead peg (.host p)) s =
          if d.on (PEG_STAT_HELD n) = true then s.next (d.emit (.regData (.host p) 1))
          else s.next ((((d.wr (PEG_STAT_HELD n) 1).wr (PEG_STAT_HOLDER n) p.num).wr (PEG_STAT_TAKES n) (d.rd (PEG_STAT_TAKES n) + 1)).emit
            (.regData (.host p) 0))) ∧
      (w.src = .host p → d.reaches w (0x40008 + 0x20 * n) → w.one (PEG_GIVE_GIVE n) = true →
        (d.holdsPeg n p = true → d.pegWaiters n = [] → exec (.pegGiveWrite peg w) s = s.next (d.wr (PEG_STAT_HELD n) 0)) ∧
        (∀ q seq p2 l, d.holdsPeg n p = true → d.pegWaiters n = (q, seq, p2) :: l →
          exec (.pegGiveWrite peg w) s = s.next ((((((d.wr (PEG_STAT_HELD n) 0).wr (PEG_STAT_HELD n) 1).wr (PEG_STAT_HOLDER n) p2.num).wr
            (PEG_STAT_TAKES n) (d.rd (PEG_STAT_TAKES n) + 1)).close q seq .ok))) ∧
        (d.holdsPeg n p = false → exec (.pegGiveWrite peg w) s = s.next (d.raise { cls := .slate, flag := PEG_STAT_BADGIVE n }))) ∧
      (∀ src, src ≠ .host .a → src ≠ .host .b → exec (.pegTakeRead peg src) s = s.next d ∧
        (w.src = src → exec (.pegGiveWrite peg w) s = s.next d))) ∧
  (∀ (s : State) (p : Port) (w : RegWr), w.src = .host p → s.dev.reaches w 0x41200 → w.one QU_XFER_GO = true → w.one QU_XFER_REJ = false →
      let d := s.dev
      let q := w.ones QU_XFER_QUEUE
      let own := d.queuePort q
      let entitled := own = p ∨ d.on (PORT_STAT_LINKUP own.num) = false ∨ d.on (PORT_STAT_INRESET own.num) = true
      w.ones QU_XFER_TO ≠ own.num → ∃ t, exec (.quXferWrite w) s = s.next t ∧
        (entitled ∧ d.queueIdle q = true → t.queuePort q ≠ own ∧ d.regsOnly t [QU_XFER_REJ, QU_CTL_OWNER q]) ∧
        (¬ entitled → t.rd QU_XFER_REASON = 0 ∧ t.rd QU_XFER_REJ = 1 ∧ t.rd QU_XFER_RQUEUE = q ∧ t.queuePort q = own) ∧
        (entitled ∧ d.queueIdle q = false → t.rd QU_XFER_REASON = 1 ∧ t.rd QU_XFER_REJ = 1 ∧ t.rd QU_XFER_RQUEUE = q ∧
          t.queuePort q = own ∧ d.regsOnly t [QU_XFER_REJ, QU_XFER_REASON, QU_XFER_RQUEUE]))

/-- REGISTER_WRITE (R5, R29, R559): aligned accesses of 4 and 8 bytes write the register there, a queue's own registers only for the
port that owns the queue; any other size or alignment writes nothing. -/
def Obligations.RegisterWrites : Prop :=
  ∀ (s : State) (src : Src) (off : BitVec 24) (size : BitVec 8) (data : Word),
    let d := s.dev
    let base := off.toNat / 8 * 8
    d.access src off.toNat true = .ok → inOpwin off.toNat = false → hostOnly base = false →
    ¬ (0xFE0000 ≤ base ∧ base < 0xFE2000) →
    (∀ w, regWrOf src off.toNat size.toNat data = some w →
      (ownRange base = none → exec (.registerWrite src off size data false) s = s.next (d.writeReg base w false)) ∧
      (∀ q, ownRange base = some q → writePort src = d.queuePort q →
        exec (.registerWrite src off size data false) s = s.next (d.writeReg base w false)) ∧
      (∀ q, ownRange base = some q → writePort src ≠ d.queuePort q →
        exec (.registerWrite src off size data false) s = s.next (d.wr (QU_STAT_NOTOWN q) 1))) ∧
    (regWrOf src off.toNat size.toNat data = none →
      exec (.registerWrite src off size data false) s = s.next (match src with
        | .host p => d.portEvent p (PORT_ERR_CA p.num) (0xF000000000 + off.toNat)
        | _ => d))

/-! Luthier (chapter 04). -/

/-- PLACE_CTL enters Recorded or Replay mode only on an empty device, and then with the identity map and counts from zero; otherwise
CFGERR (R122). In Replay mode the next entry is read and kept until a request matches it, and an entry that nothing matches in
time is skipped as a divergence (R125, R573). -/
def Obligations.PlacementRegisters : Prop :=
  ∀ (s : State) (w : RegWr) (words : List Word),
    let d := s.dev
    let mode := d.wval w PLACE_CTL_MODE
    let fs := [PLACE_CTL_MODE, PLACE_CTL_AUTOMIG, PLACE_CTL_TIMESHARE, PLACE_CTL_HYST, PLACE_CTL_TEMP_LIM, PLACE_CTL_MIGBW, PLACE_CTL_TMO]
    let enters := mode ≠ d.rd PLACE_CTL_MODE ∧ (mode = 1 ∨ mode = 2)
    (d.reaches w 0xA0000 →
      (enters → d.empty = false → exec (.placeModeWrite w) s = s.next (d.wr PLACE_STAT_CFGERR 1)) ∧
      (¬ enters ∨ d.empty = true → ∃ t : Dev, exec (.placeModeWrite w) s = s.next (t.tellReg 0xA0000 w) ∧
        (∀ f ∈ fs, t.rd f = d.wval w f % 2 ^ f.width) ∧ (¬ enters → d.regsOnly t fs) ∧
        (enters → t.remap = [] ∧ t.occ = [] ∧ t.rd PLACE_REC_PTR_PTR = 0 ∧ t.kernels = d.kernels ∧ t.mem = d.mem))) ∧
    (∀ p a, d.rd PLACE_CTL_MODE = 2 → d.replayEnd = false → d.replayEntry = none → d.rd PLACE_REC_PTR_PTR < d.rd PLACE_REC_SIZE_SIZE →
      addrSpace (64 * d.rd PLACE_REC_BASE_BASE + 32 * d.rd PLACE_REC_PTR_PTR) = .host p a → d.portUp p = true →
      d.rd PLACE_REC_PTR_PTR ≠ 0 → bitsOf (words.getD 0 0).toNat 0 8 ≠ 0 →
      ¬ (1 ≤ bitsOf (words.getD 0 0).toNat 8 8 ∧ bitsOf (words.getD 0 0).toNat 8 8 ≤ 5) →
      exec (.placementRecordEntryRead words .ok) s = s.next { d with replayEntry := some words }) ∧
    (d.rd PLACE_CTL_MODE = 2 → d.replayEntry.isSome = true → d.rd PLACE_CTL_TMO ≠ 0 →
      exec .replayEntryTimeout s = s.next d.diverge.skipEntry)

/-- Migrations (R119, R127 to R132): the decision to move to the cheapest place, when its reason's cause stands and the cost falls far
enough, raises the trigger and is recorded; planes, then memories, are copied tile by tile; the
remap update moves every member of the ensemble by the same offset; the ensemble then resumes. A buffer row goes where its
buffer's migration wants it once that bank is On. -/
def Obligations.Migrations : Prop :=
  ∀ (s : State) (anchor tile : TileId) (e : Ensemble),
    let d := s.dev
    let a := anchor.toNat
    (∀ (kern : BitVec 16) (dst : TileId) (temps : List ColTemp) (reason : BitVec 3) (k : Kernel), d.kernel kern.toNat = some k →
      k.released = false → d.homeOf k = a → KMap.find d.ensembles a = some e → d.bestMove temps a e = some dst.toNat →
      (KMap.find d.migrations a = none → d.mayMigrate reason.toNat (d.crippled a e) = true → d.rd PLACE_CTL_MODE ≠ 2 →
        (reason ≠ 2 → d.hasCause temps a e dst.toNat reason.toNat = true ∧
          d.ensCost temps a e dst.toNat + d.rd PLACE_CTL_HYST ≤ d.ensCost temps a e a) →
        exec (.migrationDecide (.kernel kern dst temps) reason) s = s.next ((({ d with
          migrations := KMap.put d.migrations a ⟨kern.toNat, a, dst.toNat, reason.toNat, 0, [], []⟩ }).trigger a .migrate).decided 5
            reason.toNat kern.toNat (placeWord dst.toNat (e.w - 1) (e.h - 1) (if e.both then 3 else if dst.toNat < 128 then 1 else 2) k.fret)
              0 dst.toNat k.fret)) ∧
      (∀ m, KMap.find d.migrations a = some m → m.dst = 256 → exec (.migrationDecide (.kernel kern dst temps) reason) s =
        s.next { d with migrations := KMap.put d.migrations a { m with dst := dst.toNat } })) ∧
    (∀ (buf : BitVec 24) (mask : Word) (reason : BitVec 3) (b : Buffer) (rows : List (Option Nat)), d.buffer buf.toNat = some b →
      b.pin = false → KMap.find d.bufMoves buf.toNat = none → d.mayMigrate reason.toNat false = true → reason ≠ 1 →
      d.planMove b mask.toNat = some rows → rows ≠ b.rows →
      d.bufferCost buf.toNat rows + d.rd PLACE_CTL_HYST ≤ d.bufferCost buf.toNat b.rows →
      exec (.migrationDecide (.buffer buf mask) reason) s = s.next ((({ d with
        bufMoves := KMap.put d.bufMoves buf.toNat ⟨mask.toNat, reason.toNat, rows⟩ }).wakeRows (rows.filterMap id)).bufDecided
          reason.toNat buf.toNat mask.toNat rows)) ∧
    (∀ m : Migration, d.rootLost = false → KMap.find d.migrations a = some m → KMap.find d.ensembles a = some e → m.dst < 256 →
      (m.stage = 1 → tile.toNat ∈ e.where a →
        (tile.toNat ∉ m.planes → exec (.migrationPlaneCopyDone anchor tile) s = s.next { d.copyPlanes tile.toNat (tile.toNat + m.dst - a) with
          migrations := KMap.put d.migrations a { m with planes := m.planes ++ [tile.toNat] } }) ∧
        (tile.toNat ∈ m.planes → tile.toNat ∉ m.mems →
          exec (.migrationBmemCopyDone anchor tile) s = s.next { d.copyMems tile.toNat (tile.toNat + m.dst - a) with
            migrations := KMap.put d.migrations a { m with mems := m.mems ++ [tile.toNat] } })) ∧
      (m.stage = 1 → (∀ t ∈ e.where a, t ∈ m.mems) → ∃ t, exec (.migrationRemapUpdate anchor) s = s.next t ∧
        KMap.find t.ensembles m.dst = some e ∧ KMap.find t.migrations m.dst = some { m with stage := 3 } ∧ t.mem = d.mem ∧
        ∀ h k, d.kernel h = some k →
          (k.released = false ∧ k.anchor ∈ e.where a → t.kernel h = some { k with anchor := k.anchor + m.dst - a }) ∧
          (k.released = true ∨ k.anchor ∉ e.where a → t.kernel h = some k)) ∧
      (m.stage = 3 → exec (.migrationResume anchor) s = s.next (({ d with migrations := KMap.del d.migrations a }).resume a).pumpDebug)) ∧
    (∀ (buf : BitVec 24) (row : BitVec 20) (b : Buffer) (r x : Nat) (m : BufMove), d.rootLost = false → d.buffer buf.toNat = some b →
      b.rows.getD row.toNat none = some r → KMap.find d.bufMoves buf.toNat = some m → m.target.getD row.toNat none = some x → x ≠ r →
      d.managed (x / 512) = true →
      (d.bankOn (x / 512) = true → exec (.bufferRowMigrate buf row) s =
        s.next (((((d.copyRow r x).updBuffer buf.toNat fun b => { b with rows := b.rows.set row.toNat (some x) }).freeRowList [r])).endMove
          buf.toNat)) ∧
      (d.rd (BANK_OWN_PSTATE (x / 512)) = 0 → KMap.find d.bufMoves buf.toNat = some m → m.target ≠ b.rows →
        exec (.bufferRowMigrate buf row) s = s.next (d.wr (BANK_OWN_PSTATE (x / 512)) 3)))

/-- Tile speeds (R119, R133, R240): a measurement shows in the tile's register with its share of its die's median; a tile below 85% is flagged with a Slate event, and one
at or above 90% is cleared.

TILE_RESET, CFG_METER_STAT_CLR and FRET_QTIME_CLR (R147, R199, R253, R553): a tile whose ensemble runs is reset, one whose ensemble
switches waits; the late counts and the longest quiesce time are cleared. -/
def Obligations.TileSpeedsAndResets : Prop :=
  (∀ (s : State) (dieB : Bool) (place : BitVec 7) (rate : BitVec 16),
      let t := 128 * b2n dieB + place.toNat
      let d1 := s.dev.wr (FABRIC_TILE_SPEED_RATE t) rate.toNat
      exec (.tileSpeedMeasure dieB place rate) s =
        s.next (d1.wr (FABRIC_TILE_SPEED_PCT t) (min 4095 (2000 * rate.toNat / max 1 (d1.medianRate (b2n dieB)))))) ∧
  (∀ (s : State) (tile : TileId),
      let d := s.dev
      let t := tile.toNat
      (d.bit (PLACE_SLOW_SLOW (t / 64)) (t % 64) = false → d.rd (FABRIC_TILE_SPEED_PCT t) < 850 →
        exec (.slowTileFlag tile) s = s.next ((d.wr (FABRIC_TILE_SPEED_SLOW t) 1).raise
          { cls := .slate, flag := PLACE_SLOW_SLOW (t / 64), bit := t % 64, ukind := 1, uid := t })) ∧
      (d.bit (PLACE_SLOW_SLOW (t / 64)) (t % 64) = true → 900 ≤ d.rd (FABRIC_TILE_SPEED_PCT t) →
        ∃ u, exec (.slowTileClear tile) s = s.next u ∧ u.rd (FABRIC_TILE_SPEED_SLOW t) = 0 ∧
          u.rd (PLACE_SLOW_SLOW (t / 64)) = (d.rd (PLACE_SLOW_SLOW (t / 64)) - 2 ^ (t % 64)) % 2 ^ 64 ∧
          d.regsOnly u [FABRIC_TILE_SPEED_SLOW t, PLACE_SLOW_SLOW (t / 64)])) ∧
  (∀ (s : State) (tile : TileId) (w : RegWr),
      let d := s.dev
      (∀ a e, d.reaches w 0x20018 → w.one RESET_TILE_GO = true → d.ensembleOf (d.phys (w.ones RESET_TILE_TILE)) = some (a, e) →
        (e.phase = 1 ∨ e.phase = 2 → exec (.tileReset w) s = s.next (d.tileReset (d.phys (w.ones RESET_TILE_TILE)))) ∧
        (e.phase ≠ 1 → e.phase ≠ 2 → exec (.tileReset w) s =
          s.next { d with tileResets := d.tileResets ++ [w.ones RESET_TILE_TILE] })) ∧
      (d.reaches w 0x380088 → w.one CFG_METER_STAT_CLRA = true → w.one CFG_METER_STAT_CLRB = false →
        exec (.cfgMeterStatClr w false false) s = s.next (d.wr CFG_METER_STAT_LATE_A 0)) ∧
      (d.reaches w (0x300020 + 0x400 * tile.toNat) → w.one (FRET_QTIME_CLR tile.toNat) = true →
        exec (.fretQtimeClr tile w) s = s.next (d.wr (FRET_QTIME_MAX tile.toNat) 0)))

/-! The fabric (chapters 05 and 06). -/

/-- CELL_OPERATION (R136 to R139, R144, R150, R252): a cell whose inputs are all offered computes Y from its word; with OSEL 1 its hold
element takes Y and its inputs are acknowledged, unless it is full or waits for a metering edge, when Y waits; with OSEL 0 its output offers
Y, and its inputs are acknowledged at once when nothing loads the output. -/
def Obligations.CellOperations : Prop :=
  ∀ (s : State) (tile : TileId) (cell : BitVec 14),
    let d := s.dev
    let t := tile.toNat
    let i := cell.toNat
    let f := d.shown t
    let w := d.cellWord f t i
    let seen := fun p => d.offeredTo f (d.pinSource f t i p) (loadCode 0 t i p)
    let inp := fun p => (seen p).getD false
    let tree := cellTree w inp
    let ci := match cellCin w with | 1 => true | 3 => w.testBit 9 && inp 5 | _ => false
    let y := (cellOut (cellMode w) tree.1 tree.2.1 tree.2.2 ci).1
    let d1 := d.setTok (tokKey 0 t i) ⟨[y], []⟩
    d.live t = true → (d.iface f t i).1 = .none → d.triggersOf f t i ≠ [] → (∀ p ∈ d.triggersOf f t i, seen p ≠ none) →
    d.chainIn f t i = none → d.chainOut f t i = false → d.tok (tokKey 0 t i) = none → d.tok (tokKey 6 t i) = none → d.undefined t = false →
    (oselQ w = true → d.metered t = false → (d.hold f t i).full = false → exec (.cellOperation tile cell 0 false) s =
      s.next (((d1.setHold f t i ⟨true, y⟩).delTok (tokKey 0 t i)).consume f t i).pumpIo) ∧
    (oselQ w = true → (d.hold f t i).full = true ∨ d.metered t = true → exec (.cellOperation tile cell 0 false) s = s.next d1.pumpIo) ∧
    (oselQ w = false → d.outLoads f t i ≠ [] → exec (.cellOperation tile cell 0 false) s = s.next d1.pumpIo) ∧
    (oselQ w = false → d.outLoads f t i = [] → exec (.cellOperation tile cell 0 false) s = s.next (d.consume f t i).pumpIo)

/-- HOLD_RELEASE, TOKEN_REGISTER_CAPTURE, SPINE_TOKEN and METERING_CLOCK_EDGE (R144, R169, R176, R177, R252, R253): the token that each
moves; a hold element released takes the Y that waits for it, and an edge captures what waits for it on a metered die and counts what came
late. -/
def Obligations.TokenMoves : Prop :=
  ∀ (s : State) (tile : TileId),
    let d := s.dev
    let t := tile.toNat
    let f := d.shown t
    (∀ cell : BitVec 14, let i := cell.toNat
      let d1 := (d.setHold f t i ⟨false, (d.hold f t i).val⟩).delTok (tokKey 1 t i)
      d.live t = true → (d.iface f t i).1 = .none → d.idleCell f t i = false → oselQ (d.cellWord f t i) = true →
      (d.hold f t i).full = true → (∀ l ∈ d.outLoads f t i, l ∈ d.ackedBy f (.out t i)) →
      (d.tok (tokKey 0 t i) = none ∨ d.metered t = true → exec (.holdRelease tile cell) s = s.next d1.pumpIo) ∧
      (∀ y vs l, d.tok (tokKey 0 t i) = some ⟨y :: vs, l⟩ → d.metered t = false → exec (.holdRelease tile cell) s =
        s.next (((d1.setHold f t i ⟨true, y⟩).delTok (tokKey 0 t i)).consume f t i).pumpIo)) ∧
    (∀ (cluster : BitVec 10) (head : Fin 12) (v : Bool), d.live t = true → d.metered t = false →
      let cl := cluster.toNat
      let k := 12 * cl + head.val
      8 < d.headCode f t cl head.val → d.tok (tokKey 3 t k) = none → d.wireLoads f t cl head.val ≠ [] →
      d.offeredTo f (d.regSource f t cl head.val) (loadCode 1 t k 0) = some v →
      exec (.tokenRegisterCapture tile cluster head false) s =
        s.next (Dev.ack f routeFuel (d.setTok (tokKey 3 t k) ⟨[v], []⟩) (d.regSource f t cl head.val) (loadCode 1 t k 0)).pumpIo) ∧
    (∀ (j : Fin 4) (a sp c : Nat) (e : Ensemble) (v : Bool), d.live t = true → d.spineDriver f t j.val = (true, sp, c) →
      sp ∉ [0, 16, 32, 48] → d.ensembleOf t = some (a, e) → d.offeredTo f (.out t c) (loadCode 2 t j.val 0) = some v →
      d.tok (tokKey 4 a sp) = none → d.spineLoads f a sp ≠ [] →
      exec (.spineToken tile ⟨j, false⟩) s = s.next (d.setTok (tokKey 4 a sp) ⟨[v], []⟩).pumpIo) ∧
    (∀ dieB : Bool, d.waitingMems (b2n dieB) = [] →
      (d.meter.testBit (b2n dieB) = false → ∀ late faults, exec (.meteringClockEdge ⟨dieB, late, faults⟩) s = s.next d) ∧
      (d.meter.testBit (b2n dieB) = true → d.waitingRegs (b2n dieB) = [] →
        ∀ (i : Nat) (y : Bool) (vs : List Bool) (l : List Nat),
          (d.waitingYs fun u => u / 128 == b2n dieB && d.live u && d.metered u) = [(t, i)] → d.tok (tokKey 0 t i) = some ⟨y :: vs, l⟩ →
          let d1 := if l = [] then d else d.lateCapture t
          exec (.meteringClockEdge ⟨dieB, [], []⟩) s =
            s.next (((d1.setHold f t i ⟨true, y⟩).delTok (tokKey 0 t i)).consume f t i)))

/-! The tile's hard interfaces (chapter 08). -/

/-- Block memories (R210 to R212, R215, R219, R252): a port's access takes its tokens, changes or reads the addressed word and issues its
outputs; a corrected word waits for its write-back, which stores it whole; a debug access in raw mode reads and writes the physical word,
and one to a memory that a port holds waits. -/
def Obligations.BlockMemories : Prop :=
  ∀ (s : State) (tile : TileId) (mem : BitVec 4),
    let d := s.dev
    let t := tile.toNat
    let m := mem.toNat
    let f := d.shown t
    (∀ b : Bool, d.live t = true → d.metered t = false → d.memReady f t m b = true → d.memHeld t m (!b) = none →
      let h := (d.memRead f t m b []).1
      let d1 := d.setMemHold t m b h
      let d2 := { d1.pinsTake f t (.mem m b) (d1.usedPins f t (.mem m b) 64) with memHolds := KMap.del d1.memHolds (memKey t m b) }
      let sh := d.memShape f t m
      h.addr = d.pinsValue f t (.mem m b) 0 0 (shapeOf sh).2 ∧
      (h.write = true → exec (.bmemAccess tile mem b ⟨false, []⟩) s =
        s.next ((d2.bmemSet t m sh h.addr h.value).memAnswer f t m b h.value false).pumpDebug) ∧
      (h.write = false → exec (.bmemAccess tile mem b ⟨false, []⟩) s =
        s.next ((d2.bmemGet t m sh h.addr).2.memAnswer f t m b (d2.bmemGet t m sh h.addr).1 false).pumpDebug)) ∧
    (∀ (word : BitVec 10) (sym v : Nat), 1024 * (16 * t + m) + word.toNat ∈ d.bmemBack → eccFind (d.bmemWord t m word.toNat) = .one sym v →
      exec (.bmemWriteback tile mem word) s = s.next (d.setBmem t m word.toNat (eccWord (eccFix (d.bmemWord t m word.toNat) sym v)))) ∧
    (∀ (p : Port) (ofs : BitVec 13) (data : Word), d.debugWait = [] → d.debugOpen = true → ofs.toNat % 8 = 0 →
      d.on (FABRIC_BMEM_CTL_DBG_RAW (d.phys t)) = true →
      (d.debugWaits t m = false →
        exec (.bmemDebugAccess (.dma p) tile mem ofs 8 false data) s =
          s.next (d.emit (.regData (.dma p) (d.bmemWord (d.phys t) m (ofs.toNat / 8)))) ∧
        exec (.bmemDebugAccess (.dma p) tile mem ofs 8 true data) s =
          s.next (d.setBmem (d.phys t) m (ofs.toNat / 8) (data.toNat % 2 ^ 48))) ∧
      (d.debugWaits t m = true → ∀ write, exec (.bmemDebugAccess (.dma p) tile mem ofs 8 write data) s =
        s.next { d with debugWait := [⟨.dma p, t, m, ofs.toNat, 8, write, data.toNat⟩] }))

/-- The portal (R200, R201, R221 to R223, R226): a descriptor on DOUT begins a packet whose header it gives, with the epoch of the
kernel's KRUN; the data flits after it join the packet, which leaves whole; inbound, parked responses of the shown fret come first, and a
posted packet waits for the responses and requests before it. -/
def Obligations.PortalPackets : Prop :=
  ∀ (s : State) (tile : TileId),
    let d := s.dev
    let t := tile.toNat
    let f := d.shown t
    let x := d.portal t
    let pins := d.doutPins f t
    let v := d.pinsValue f t .portal 0 0 288
    (∀ (h : Nat) (k : Kernel), d.live t = true → d.portalOn t = true → d.pinsReady f t .portal pins = true →
      d.shownKernel t = some (h, k) →
      let d1 := d.pinsTake f t .portal pins
      let w := v % 2 ^ 64
      let y := portalDesc w
      (x.skip ≠ 0 → exec (.portalDescriptor tile true ⟨[], false⟩ none) s = s.next (d1.setPortal t { x with skip := x.skip - 1 })) ∧
      (∀ o rest, x.skip = 0 → x.outq.reverse = o :: rest → o.left ≠ 0 →
        exec (.portalDescriptor tile true ⟨[], false⟩ none) s = s.next (d1.setPortal t { x with
          outq := ({ o with
            pkt := { o.pkt with
              data := o.pkt.data ++ bytesLE 32 v
              enables := o.pkt.enables ++ (List.range 32).map fun j => v.testBit (256 + j) }
            left := o.left - 1 } :: rest).reverse })) ∧
      (∀ q e, x.skip = 0 → (∀ o ∈ x.outq, o.left = 0) → y.kind = 0 → y.vc = 3 → y.cmd ≠ 1 → d.descFits f t k w 0 = true →
        d1.runOf h = some (q, e) → d1.descBad k y 0 = false →
        exec (.portalDescriptor tile true ⟨[], false⟩ none) s = s.next (d1.setPortal t { d1.portal t with
          outq := (d1.portal t).outq ++ [⟨d1.portalHeader t k w 0 e.epoch, h, none, y.len⟩] }))) ∧
    (∀ (vc : BitVec 2) (o : OutPkt), d.running = true → (x.outq.find? fun o => o.pkt.vc.toNat == vc.toNat) = some o → o.left = 0 →
      o.pkt.dep.toNat ∉ [4, 5, 8, 9] → ∀ sense, exec (.portalDescriptor tile false sense (some vc)) s =
        s.next ((d.setPortal t { x with outq := x.outq.erase o }).emit (.packet o.pkt))) ∧
    (d.portalTakes t = true → let d1 := d.fillPortal t
      let g := d1.shown t
      let z := d1.portal t
      d1.outsFree t .portal 0 289 = true →
      (∀ p rest, d1.park t g = p :: rest → exec (.portalInbound tile ⟨1, none⟩) s =
        s.next (((d1.setPark t g rest).setPortal t { z with cur := none }).deliverResponse g t p none)) ∧
      (∀ p ∈ z.inq, p.vc = 1 → exec (.portalInbound tile ⟨3, none⟩) s = s.next d1) ∧
      (∀ p rest, d1.park t g = [] → (∀ p ∈ z.inq, p.vc ≠ 1 ∧ p.vc ≠ 0) → takeFirst 3 z.inq = some (p, rest) → debugBound p = false →
        d1.portalOn t = true → exec (.portalInbound tile ⟨3, none⟩) s =
          s.next ((d1.setPortal t { z with inq := rest, cur := some 3 }).deliverFlits g t p none)))

/-- The row port (R90, R229, R230, R273 to R275): a request of the fabric waits at the port; a move is admitted in its column's turn and
counts; a row in the port's column enters the row register as its command sees it, its slices leave or arrive one by one, and a row whose
slices have all come is stored; the last row of a ROWMOVE ends it with the rows it moved. -/
def Obligations.RowPort : Prop :=
  ∀ (s : State) (tile : TileId),
    let d := s.dev
    let t := tile.toNat
    let f := d.shown t
    (∀ (h : Nat) (k : Kernel) (buf : Nat), d.live t = true → d.phaseOf t = 1 → d.kdrive t = true →
      KMap.find d.rowReqs (8 * t + f) = none → d.pinsReady f t .rowCtl (d.usedPins f t .rowCtl 20) = true →
      d.shownKernel t = some (h, k) → KMap.find k.binds (d.portBits f t 1282 4) = some ⟨1, buf⟩ →
      let v := d.pinsValue f t .rowCtl 0 0 20 + 2 ^ 20 * d.pinsValue f t .rowCtl 1 0 1
      exec (.rowRequest ⟨tile, ⟨[], false⟩⟩) s = s.next { d.pinsTake f t .rowCtl (d.usedPins f t .rowCtl 20) with
        rowReqs := KMap.put d.rowReqs (8 * t + f) ⟨buf, v % 2 ^ 20, v.testBit 20, none, false, 0⟩ }) ∧
    (∀ r, d.moveWaits t = true → d.moveColumn = some (colOfTile t) → d.rowNext t = some r → exec (.rowMoveAdmit tile) s =
      s.next { d.wr STORE_MOVE_THROTTLED (d.rd STORE_MOVE_THROTTLED + 1) with
        moveTurn := colOfTile t
        rowReqs := KMap.put d.rowReqs (8 * t + f) { r with admitted := true } }) ∧
    (∀ (r : RowReq) (b : Buffer) (x : Nat), d.live t = true → d.rowPortOn t = true → d.storeOpen = true → d.rowNext t = some r →
      d.buffer r.buf = some b → b.sealed = false → b.rows.getD r.row none = some x → x / 8192 = colOfTile t →
      d.gateRow .device b.key x = .serve →
      (r.toBank = false → d.rowRegFree t = true → d.phaseOf t = 1 →
        let d1 := { d.wr STORE_MOVE_MOVES (d.rd STORE_MOVE_MOVES + 1) with rowReqs := KMap.put d.rowReqs (8 * t + f) r }
        exec (.rowMove tile) s = s.next (d1.setRowReg t ⟨false, 0, (d1.rowSeen t r x).1, (d1.rowSeen t r x).2, x⟩)) ∧
      (∀ g, r.toBank = true → d.rowReg t = some g → g.toBank = true → g.slices = 8 → b.commit = false →
        let d1 := ((((d.delRowReg t).inc STORE_MOVE_MOVES).putRow x g.bytes).mirror (512 * x) 512)
        (d.moveOwner t r = none → exec (.rowMove tile) s = s.next (d1.rowDone t r)) ∧
        (∀ q e, d.moveOwner t r = some (q, e) → exec (.rowMove tile) s =
          s.next ((d1.updEntry q e.seq fun e => { e with wrote := (r.buf, 512 * r.row, 512) :: e.wrote }).rowDone t r)))) ∧
    (∀ g : RowReg, d.live t = true → d.rowPortOn t = true → d.rowReg t = some g → g.toBank = true → g.slices < 8 →
      d.pinsReady f t .rowData (d.usedPins f t .rowData 512) = true →
      exec (.rowSlice ⟨tile, ⟨[], false⟩⟩) s = s.next ((d.pinsTake f t .rowData (d.usedPins f t .rowData 512)).setRowReg t
        { g with slices := g.slices + 1, bytes := g.bytes ++ bytesLE 64 (d.pinsValue f t .rowData 0 0 512) })) ∧
    (∀ (r : RowReq) (q seq : Nat) (e : Entry) (kern : BitVec 16) (buf : BitVec 24) (port : BitVec 4) (dir : Bool)
      (first count : BitVec 20), r.cmd = some (q, seq) →
      let d1 := ({ d.wr (FABRIC_ROWP_STAT_ROWS t) (d.rd (FABRIC_ROWP_STAT_ROWS t) + 1) with rowReqs := KMap.del d.rowReqs (8 * t + f) }).updEntry
        q seq fun e => { e with aux := e.aux.set 0 (e.aux.getD 0 0 + 1) }
      d1.entry q seq = some e → e.cmd = some (.rowmove kern buf port dir first count) → e.aux.getD 0 0 = count.toNat →
      e.aux.getD 1 0 = 0 → d.rowDone t r = d1.fix q seq .ok (.ofNat 64 count.toNat))

/-- The control port (R234, R235): a parameter handshake answers the register it names; DONE gives a running KRUN its result, and
with no KRUN it is discarded and raises a Slate event; a pulse on a slot bound to an event pulses it. -/
def Obligations.ControlPort : Prop :=
  ∀ (s : State) (tile : TileId),
    let d := s.dev
    let t := tile.toNat
    let f := d.shown t
    let pins := (List.range 4).map fun n => (n, 0)
    let done := (List.range 64).map fun n => (n, 1)
    d.live t = true →
    (d.phaseOf t = 1 → d.portBits f t 1536 1 = 1 → d.pinsReady f t .control pins = true → d.outsFree t .control 0 64 = true →
      exec (.paramHandshake ⟨tile, ⟨[], false⟩⟩) s = s.next ((d.pinsTake f t .control pins).outWord f t .control 0 64
        (d.param t f (d.pinsValue f t .control 0 0 4)).toNat)) ∧
    (∀ h k, d.controlKernel t = some (h, k) → d.pinsReady f t .control done = true →
      let d2 := d.pinsTake f t .control done
      (∀ r, k.run = some r → r.begun = true → r.done = none → exec (.kernelDone ⟨tile, ⟨[], false⟩⟩) s = s.next ((d2.updKernel h fun k =>
        { k with run := some { r with done := some (.ofNat 64 (d.pinsValue f t .control 1 0 64)) } }).finishRun h)) ∧
      ((∀ r, k.run = some r → r.begun = false) → exec (.kernelDone ⟨tile, ⟨[], false⟩⟩) s =
        s.next (d2.raise { cls := .slate, flag := ERR_STAT_STRAYDONE, ukind := 1, uid := t }))) ∧
    (∀ (h : Nat) (k : Kernel) (slot : BitVec 4) (ev : Nat), d.controlKernel t = some (h, k) →
      d.pinsReady f t .control [(slot.toNat, 2)] = true → KMap.find k.binds slot.toNat = some ⟨2, ev⟩ →
      exec (.kernelEventPulse ⟨tile, ⟨[], false⟩⟩ slot) s = s.next (if d.pinsValue f t .control 2 slot.toNat 1 = 1
        then (d.pinsTake f t .control [(slot.toNat, 2)]).pulse ev else d.pinsTake f t .control [(slot.toNat, 2)]))

/-! Fret controllers (chapter 07). -/

/-- Quiesces and switches (R185, R194, R196, R197, R199, R203 to R205): a trigger takes a running ensemble to a quiesce, unless it names the
fret that is shown; at rest every member parks, and the switch shows the new fret on every tile with the old one in its next plane; the
limit discards what is in flight and reports it; a finished preload shows as valid on every tile; requests and dwell ends raise their
triggers. -/
def Obligations.FretSwitching : Prop :=
  ∀ (s : State) (anchor : TileId) (e : Ensemble),
    let d := s.dev
    let a := anchor.toNat
    KMap.find d.ensembles a = some e →
    (∀ (tr : Trigger) (rest : List Trigger), e.phase = 1 → e.both = false → d.settling = true →
      d.gateServes (if a < 128 then 11 else 12) = true → 2 ∉ d.dieResets → d.nextTrigger a e = some (tr, rest) →
      let d1 := d.updEns a fun e => { e with waiting := rest }
      (tr.fret? = some (d.shown a) → exec (.quiesce anchor) s = s.next ((d1.triggerDone tr).resume a)) ∧
      (tr.fret? ≠ some (d.shown a) → d.tok (tokKey 4 a 32) = none → d.waitingYs (e.where a).contains = [] →
        exec (.quiesce anchor) s = s.next { d with
          ensembles := KMap.put d.ensembles a { e with waiting := rest, phase := 2, cur := some tr } })) ∧
    (∀ (f : Nat) (tr : Trigger) (qtime : BitVec 20), e.cur = some tr → tr.fret? = some f → e.phase = 3 ∨ e.phase = 2 ∧ d.atRest a = true →
      e.preload ≠ some f → exec (.fretSwitch anchor qtime []) s =
        s.next ((((e.where a).foldl Dev.parkTile (d.quiesceTime a qtime.toNat)).dropTokens (e.where a)).switchTo a e f [] tr)) ∧
    (∀ f < 8, rectFits a e.w e.h e.both = true → d.shown a < 8 → d.runningCmds = [] → ∀ x ∈ e.where a,
      (d.showAll a e f).shown x = f ∧ (d.showAll a e f).rd (FRET_STAT_NEXT x) = d.shown a ∧ (d.showAll a e f).rd (FRET_STAT_NEXTV x) = 1 ∧
      (d.showAll a e f).rd (FRET_COUNT_SWITCHES x) = (d.rd (FRET_COUNT_SWITCHES x) + 1) % 2 ^ 32) ∧
    (e.phase = 2 → d.atRest a = false → d.memHolds = [] → ∀ h k, d.ensKernel a = some (h, k) → h ≠ 0 →
      let d1 := (d.dropTokens (e.where a)).updEns a fun e => { e with phase := 3 }
      exec (.quiesceLimit anchor) s = s.next (((({ d1 with undef := KMap.put d.undef h 2 } : Dev).incSat (FRET_COUNT_STRANDS a)).wr
        (FRET_ERR_EFRET a) (d.shown a)).raise
          { cls := .ochre, flag := FRET_ERR_STRAND a, ukind := 1, uid := a, detail := fretDetail a (d.shown a) h })) ∧
    (∀ f, e.preload = some f → f < 8 → d.runningCmds = [] → rectFits a e.w e.h e.both = true →
      ∃ t, exec (.preloadComplete anchor) s = s.next t ∧ KMap.find t.ensembles a = some { e with preload := none } ∧
        (∀ x ∈ e.where a, t.rd (FRET_STAT_NEXT x) = f ∧ t.rd (FRET_STAT_NEXTV x) = 1) ∧
        d.regsOnly { t with ensembles := d.ensembles } ((e.where a).map FRET_STAT_NEXT ++ (e.where a).map FRET_STAT_NEXTV)) ∧
    (∀ f l, e.phase = 1 → e.rotating = false → d.tok (tokKey 4 a 32) = some ⟨[true], l⟩ → (d.takeRequest a).waitingFret a = some f →
      exec (.fretRequest anchor) s = s.next ((d.takeRequest a).trigger a (.toFret f none))) ∧
    (∀ i f, e.phase = 1 → e.rotating = true → KMap.find d.migrations a = none → d.nextEntry e = some (i, f) →
      Trigger.toFret f none ∉ e.waiting → exec (.dwellEnd anchor) s = s.next { d with
        ensembles := KMap.put d.ensembles a { e with waiting := e.waiting ++ [.toFret f none] } })

/-! The store (chapter 10). -/

/-- BANK_OWN_WRITE (R267, R269, R271): a port claims a bank that nobody owns, and the bank begins to wake; a bank that another
requester owns stays as it is, with the reason and the writer in BANK_OWN_ERR.

A hand-over waits behind the requests that wait at its bank (R270).

Banks and their words (R263, R264, R271, R272, R276, R277, R279): a woken bank is On; a corrected word is written back once; patrol
reports a correctable word and queues it, and is silent on good and on poisoned words; a flip arms only while none is armed; the end
of a store-die reset opens the store. -/
def Obligations.Banks : Prop :=
  (∀ (s : State) (bank : Fin 1024) (p : Port) (w : RegWr), s.dev.reaches w (0x201000 + 8 * bank.val) → w.src = .host p →
      w.touches (BANK_OWN_OWNER bank.val) = true → s.dev.wval w (BANK_OWN_OWNER bank.val) = p.num + 1 →
      let d := s.dev
      let n := bank.val
      (∀ q ∈ d.bankWait, n ∈ q.banks → exec (.bankOwnWrite bank w) s =
        s.next { d with bankWait := d.bankWait ++ [⟨.device, 0, true, 2 ^ 18 * n, 0, [], [], .own (p.num + 1) (p.num + 1)⟩] }) ∧
      ((∀ q ∈ d.bankWait, n ∉ q.banks) →
        (d.owner n = 0 → d.isRetired .bank n = false → d.rd (BANK_OWN_PSTATE n) = 0 →
          let d1 := (d.wr (BANK_OWN_OWNER n) (p.num + 1)).wr (BANK_OWN_PSTATE n) 3
          exec (.bankOwnWrite bank w) s =
            s.next (if d1.telling then d1.capoSend 0x17 [0x201000 + 8 * n, halfCode .lo, p.num + 1, 0] else d1)) ∧
        (d.owner n = p.num + 1 → exec (.bankOwnWrite bank w) s = s.next d) ∧
        (d.owner n ≠ 0 → d.owner n ≠ 3 → d.owner n ≠ p.num + 1 → d.isRetired .bank n = false →
          exec (.bankOwnWrite bank w) s = s.next (d.rejectOwn n (p.num + 1) (p.num + 1) 0)))) ∧
  (∀ (s : State) (bank : Fin 1024), (s.dev.port .a).held = [] → (s.dev.port .b).held = [] →
      let d := s.dev
      let n := bank.val
      (d.rd (BANK_OWN_PSTATE n) = 3 → d.storeOpen = true → d.bankWait = [] → d.recWait = [] →
        exec (.bankWakeComplete bank) s = s.next (d.wr (BANK_OWN_PSTATE n) 1)) ∧
      (∀ w b sym, d.writeBacks.find? (fun x => x / 2 ^ 13 == n) = some w → d.isSealed (w / 16) = false → d.findWord w = .fixed b sym →
        exec (.bankWriteback bank) s = s.next (({ d with writeBacks := d.writeBacks.filter (· != w) }).putWord w b)) ∧
      (∀ row : BitVec 9, d.on STORE_CTL_PATROL = true → d.bankOn n = true → d.storeOpen = true → d.isSealed (512 * n + row.toNat) = false →
        let word := fun k => d.findWord (16 * (512 * n + row.toNat) + k)
        ((∀ k < 16, (word k).isGood = true ∨ word k = .poison) → exec (.patrolRead bank row) s = s.next d) ∧
        (∀ (k : Nat) (b : List Byte) (sym : Nat), k < 16 → (∀ j < 16, j ≠ k → (word j).isGood = true) → word k = .fixed b sym →
          d.thresh .bank = 0 → exec (.patrolRead bank row) s =
            s.next ((d.queueWriteBack (16 * (512 * n + row.toNat) + k)).storeReport (16 * (512 * n + row.toNat) + k) 0 sym))) ∧
      (∀ w : RegWr, d.reaches w 0x200028 → exec (.storeFlipArm w) s =
        if d.on STORE_FLIP_CTL_ARM = true then s.next d
        else s.next ((d.wr STORE_FLIP_CTL_BANK (d.wval w STORE_FLIP_CTL_BANK)).wr STORE_FLIP_CTL_ARM (d.wval w STORE_FLIP_CTL_ARM))) ∧
      (d.storeOpen = false → d.resetWait = [] → d.topWait = [] → d.recWait = [] → exec .storeDieResetEnd s = s.next (d.wr STORE_STAT_RESETTING 0)))

/-! Tally tables (chapter 11). -/

/-- Tally rows (R283 to R285, R289, R291, R297): descriptors in an operation window run in order under the writing port, and a failure
is logged; a forwarded insert runs at its key's column and its result goes back; a release frees a table that no command in progress
names; TALLY_MAP_Q keeps the query. -/
def Obligations.TallyRows : Prop :=
  ∀ (s : State),
    let d := s.dev
    (∀ (src : Src) (col : Fin 64) (ofs : BitVec 9) (data : List Byte) (n : Nat) (o : Outc) (rs : List Nat) (d2 : Dev),
      d.access src (0x281000 + 0x200 * col.val + ofs.toNat) true = .ok → data ≠ [] → data.length % 16 = 0 → ofs.toNat % 16 = 0 →
      ofs.toNat + data.length ≤ 512 → d.linked controlCol col.val = true → d.storeOpen = true → d.stageWait = [] →
      (∀ x ∈ descsOf data, d.mirrorHeld false x = false) → d.tallyRun (.port (writePort src)) 0 col.val none (descsOf data) 0 [] = (n, o, rs, d2) →
      exec (.tallyOpwinWrite src col ofs data) s = s.next (if o = .ok then d2 else d2.tallyPostFail col.val)) ∧
    (∀ (col : Fin 64) (x : TDesc) (kern : BitVec 16) (tb : TableSt) (o : Outc) (r : Nat) (d2 : Dev),
      let t := bitsOf x.w0.toNat 6 3
      let sp := d.tallySpot t tb (tallyHash (d.kbits t) (bitsOf x.w0.toNat 16 48))
      d.table t = some tb → bitsOf x.w0.toNat 0 4 = 7 → sp.col ≠ col.val → d.gateServes 10 = true → d.storeOpen = true → d.running = true →
      d.descsHeld ((d.kernel kern.toNat).bind fun k => k.run.map fun r => (r.q, r.seq)) [x] = false →
      d.tallyDo (.kern kern.toNat) 0 sp.col ((d.kernel kern.toNat).bind fun k => k.run.map fun r => (r.q, r.seq)) x = (o, r, d2) →
      exec (.tallyForward col x kern) s = s.next (d2.emit (.packet
        { dcol := .ofNat 6 col.val, dep := 5, scol := .ofNat 6 sp.col, sep := 5, cmd := 0x81, key := 0, tag := 0, epoch := 0, pri := false
          vc := 1, rstat := .ofNat 2 o.rstat, operand := 0, rlen := 0, data := bytesLE 32 r, enables := List.replicate 32 true }))) ∧
    (∀ (tbl : Fin 8) (w : RegWr) (x : TableSt), d.reaches w (0x280000 + 0x40 * tbl.val) → w.one (TALLY_TBL_CFG_RELEASE tbl.val) = true →
      d.telling = false → d.openCmds = [] → d.tables = [(tbl.val, x)] →
      ∃ t, exec (.tallyRelease tbl w) s = s.next t ∧ t.table tbl.val = none ∧ t.rd (TALLY_TBL_CFG_VALID tbl.val) = 0 ∧
        t.buffers = d.buffers ∧ t.queues = d.queues) ∧
    (∀ w : RegWr, d.reaches w 0x280200 → ∃ t, exec (.tallyMapQWrite w) s = s.next t ∧
      (∀ f ∈ [TALLY_MAP_Q_TBL, TALLY_MAP_Q_COL, TALLY_MAP_Q_SPILLR, TALLY_MAP_Q_ROW], t.rd f = d.wval w f % 2 ^ f.width) ∧
      d.regsOnly t [TALLY_MAP_Q_TBL, TALLY_MAP_Q_COL, TALLY_MAP_Q_SPILLR, TALLY_MAP_Q_ROW])

/-! The network (chapter 12). -/

/-- Packets at their endpoints (R267, R283, R302 to R306, R319, R377): store accesses go to the bank controller that their address names,
descriptors to the tally engine, LFR packets to the lane bridge, responses to the PCIe port that awaits them, messages to the portal; a
packet that names no endpoint there is answered by the destination router. -/
def Obligations.PacketsArrive : Prop :=
  ∀ (s : State) (p : Packet), s.dev.running = true → (p.scol.toNat, p.dcol.toNat) ∉ s.dev.markers →
    (routeOver s.dev.deadLinks p.scol.toNat p.dcol.toNat).isSome = true → packetFits p = true → p.sep = 10 →
    s.dev.overtakes p = false →
    let d := s.dev.offNetwork p
    let a := p.operand.toNat
    let n := if p.cmd = 1 then p.rlen.toNat else p.data.length
    let request := StoreReq.mk (if p.scol = 31 then .port .a else .port .b) p.key.toNat (p.cmd != 1) a n p.data p.enables (.packet p)
    (p.dep = 4 → a < 2 ^ 28 → a / 2 ^ 22 = p.dcol.toNat → (a + max n 1 - 1) / 2 ^ 22 = p.dcol.toNat → d.storeOpen = true → d.stageWait = [] →
      (p.cmd = 1 → exec (.rd p) s = s.next (d.storeRequest request)) ∧
      (p.cmd = 2 → exec (.wr p) s = s.next (d.storeRequest request)) ∧
      (p.cmd = 3 → exec (.wrp p) s = s.next (d.storeRequest request))) ∧
    (p.dep = 5 → p.cmd = 0x10 → d.storeOpen = true → d.gate 10 = true → d.stageWait = [] → (∀ x ∈ descsOf p.data, d.mirrorHeld false x = false) →
      exec (.top p) s = s.next (d.tallyPacket p)) ∧
    (p.dep.toNat < 4 → p.cmd = 0x20 → d.migrations = [] → d.lateArrivals = [] →
      let t := tileOfCol p.dcol.toNat p.dep.toNat
      d.gate (if t < 128 then 11 else 12) = true →
      exec (.msg p) s = s.next (d.setPortal t { d.portal t with landing := (d.portal t).landing ++ [p] })) ∧
    (p.dep = 8 ∨ p.dep = 9 → p.dcol.toNat / 8 = 0 ∨ p.dcol.toNat / 8 = 7 → p.cmd = 0x30 →
      d.gateLane (bridgeQuad p.dcol.toNat p.dep.toNat) = true → exec (.lfr p) s = s.next (d.bridgeLfr p)) ∧
    (p.dep = 11 → p.dcol = 24 → p.cmd = 0x60 → exec (.mir p) s = s.next d) ∧
    (p.dep = 4 → p.cmd = 0x61 → exec (.ctl p) s = s.next d) ∧
    (p.dep = 10 → p.dcol = 31 →
      (p.cmd = 0x80 → exec (.cpl p) s = s.next (d.hostResponse .a p)) ∧
      (p.cmd = 0x81 → exec (.cpld p) s = s.next (d.hostResponse .a p))) ∧
    (endpointAt p.dcol.toNat p.dep.toNat = false → p.cmd = 1 → exec (.rd p) s =
      s.next ((d.answerPacket p .busError []).nocEvent .ochre NOC_STAT_BADDEST p.dcol.toNat p))

/-- Landing credits, link errors and route markers (R309, R311, R313): an endpoint gives sources that have none left at most four
credits in all, in their turn, and takes them back; a flit error is counted and reported; when a marker has returned, the pair's route is the new one. -/
def Obligations.NetworkEvents : Prop :=
  ∀ (s : State) (scol dcol : Fin 64) (dep : BitVec 4) (vc : BitVec 2),
    let d := s.dev
    let k := creditKey scol.val dcol.val dep.toNat vc.toNat
    let c := KMap.get d.credits k 0
    (d.grants dcol.val dep.toNat vc.toNat = true → d.creditsOut dcol.val dep.toNat vc.toNat < 4 → d.running = true →
      (routeOver d.deadLinks scol.val dcol.val).isSome = true → c ≤ d.creditsUsed scol.val dcol.val dep.toNat vc.toNat →
      d.grantTurn scol.val dcol.val dep.toNat vc.toNat = true →
      exec (.landingCreditGrant scol dcol dep vc) s = s.next { d with
        credits := KMap.put d.credits k (c + 1)
        noc := { d.noc with granted := KMap.put d.noc.granted (creditKey 0 dcol.val dep.toNat vc.toNat) scol.val } }) ∧
    (4 ≤ d.creditsOut dcol.val dep.toNat vc.toNat → exec (.landingCreditGrant scol dcol dep vc) s = s.next d) ∧
    (d.creditsUsed scol.val dcol.val dep.toNat vc.toNat < c → exec (.landingCreditReturn scol dcol dep vc) s = s.next { d with
      credits := if c = 1 then KMap.del d.credits k else KMap.put d.credits k (c - 1) }) ∧
    (∀ (link : Fin 128) (multi : Bool), d.on (NOC_LINK_RETIRED link.val) = false → d.running = true →
      let f := if multi then NOC_LINK_RETRY link.val else NOC_LINK_CORR link.val
      exec (.linkFlitError link multi) s = s.next (((((d.incSat f).countUp .link link.val).report
        { cls := .ochre, flag := f, ukind := 4, uid := link.val }).lasting .link link.val))) ∧
    ((scol.val, dcol.val) ∈ d.markers → d.heldPackets = [] → ∃ t, exec (.routeMarkerReturn scol dcol) s = s.next t ∧
      t.markers = d.markers.filter (· != (scol.val, dcol.val)) ∧
      (t.markers = [] → t.rd NOC_STAT_ROUTECHG = 0) ∧ d.regsOnly { t with markers := d.markers } [NOC_STAT_ROUTECHG])

/-! Host ports (chapter 15). -/

/-- Requests of hosts and answers to the device (R388, R390 to R393): an access with nothing before it goes to its bank or portal at once; a
register write behind writes of its port that have no CPL yet waits at the port; an unsupported one is logged under UR and answered unless it was posted; a late portal read is ended; an answer from the host reaches
the packet that asked for it. -/
def Obligations.HostRequests : Prop :=
  ∀ (s : State) (p : Port),
    let d := s.dev
    d.portHears p = true →
    (∀ (write : Bool) (ofs : BitVec 28) (len : BitVec 13) (data : List Byte) (en : List Bool), ofs.toNat + len.toNat ≤ 2 ^ 28 →
      d.rd (PORT_STAT_DSTATE p.num) ≠ 3 → d.shadowing = false → d.running = true → (d.port p).held = [] → d.hostBusy p = [] →
      let c := ofs.toNat / 2 ^ 22
      let d1 := d.setPort p { d.port p with held := [], last := if write then d.hostDest ofs.toNat else (d.port p).last }
      exec (.hostStoreAccess p write ofs len data en false) s =
        s.next (if d.linked (portCol p) c then d1.storeRequest ⟨.port p, 0, write, ofs.toNat, len.toNat, data, en, .host p⟩
          else (d1.noRoute (portCol p) c 4 ofs.toNat).answerHost p ofs.toNat write .busError [])) ∧
    (∀ (write : Bool) (ofs : BitVec 32) (len : BitVec 13) (data : List Byte), ofs.toNat + len.toNat ≤ 2 ^ 32 →
      d.rd (PORT_STAT_DSTATE p.num) ≠ 3 → d.shadowing = false → d.running = true → (d.port p).held = [] → d.hostBusy p = [] →
      (d.port p).usedTags.length + (packetPieces (2 ^ 32 + ofs.toNat) len.toNat).length ≤ 1024 →
      exec (.hostPortalAccess p write ofs len data false) s =
        s.next ((d.setPort p { d.port p with held := [] }).hostIssue p
          ⟨write, 2 ^ 32 + ofs.toNat, len.toNat, data, List.replicate data.length true, none⟩)) ∧
    (∀ (off : BitVec 24) (size : BitVec 8) (data : Word), d.rd (PORT_STAT_DSTATE p.num) ≠ 3 → (d.port p).serving = false →
      d.writesAhead p = true → exec (.registerWrite (.host p) off size data false) s =
        s.next (d.setPort p { d.port p with held := (d.port p).held ++
          [⟨true, 0xF000000000 + off.toNat, 0, [], [], some (.registerWrite (.host p) off size data false)⟩] })) ∧
    (∀ (posted : Bool) (addr : BitVec 48), exec (.hostUnsupportedRequest p posted addr) s =
      s.next ((if posted then d else d.emit (.reply p .unsupported)).portEvent p (PORT_ERR_UR p.num) addr.toNat)) ∧
    (∀ (tag : BitVec 10) (r : HostRead), (d.port p).reads.find? (fun r => r.parts.any fun q => q.1 == tag.toNat) = some r →
      d.rd (PORT_CTL_RDTMO p.num) ≠ 0 → exec (.hostReadTimeout p tag) s =
        s.next ((((d.setPort p { d.port p with reads := (d.port p).reads.filter (· != r), late := (d.port p).late ++ r.parts.map (·.1) }).emit (.reply p .completerAbort)).wr
          (PORT_ERR_CA p.num) 1).portEvent p (PORT_ERR_RDTMO p.num) r.addr)) ∧
    (∀ (tag : BitVec 10) (data : List Byte) (g : Nat) (k : Packet), (d.port p).dev.find? (fun e => e.1 == tag.toNat) = some (g, k) →
      k.rlen.toNat ≤ data.length → exec (.hostCompletion p tag .ok data) s =
        s.next (((d.setPort p { d.port p with dev := (d.port p).dev.filter fun e => e.1 != tag.toNat }).answerPacket k .ok
          (data.take k.rlen.toNat)).pumpDevice p))

/-- Configuration requests and port resets (R385, R394, R398, R556): Bus Master Enable and the power state take the write; a reset takes
the port's link, its queues' enables and its requests; its end brings the link up again. -/
def Obligations.PortResets : Prop :=
  ∀ (s : State) (p : Port),
    let d := s.dev
    (d.portHears p = true → ∀ en : Bool, exec (.configRequest p (.busMaster en)) s =
      s.next ((d.wr (PORT_STAT_BME p.num) (b2n en)).emit (.reply p (.ok [])))) ∧
    (d.on (PORT_STAT_LINKUP p.num) = true → d.on (PORT_STAT_INRESET p.num) = false → d.rd RESET_STAT_PHASE < 9 →
      exec (.configRequest p .read) s = s.next (d.emit (.reply p .retry))) ∧
    (∀ cause : ResetCause, (d.port p).held = [] → (d.port p).dev = [] → (d.port p).devWait = [] → d.barriers = [] → d.bankWait = [] →
      d.resetWait = [] → (∀ n : Fin 64, d.holdsPeg n.val p = false) →
      ∃ t, exec (.portReset p cause) s = s.next t ∧ t.rd (PORT_STAT_INRESET p.num) = 1 ∧ t.rd (PORT_STAT_BME p.num) = 0 ∧
        (cause ≠ .flr → t.rd (PORT_STAT_LINKUP p.num) = 0) ∧ (t.port p).reads = [] ∧ (t.port p).pend = 0 ∧
        (∀ q : Fin 64, d.queuePort q.val = p → t.rd (QU_CTL_EN q.val) = 0) ∧
        (∀ q : Fin 64, d.queuePort q.val ≠ p → t.rd (QU_CTL_EN q.val) = d.rd (QU_CTL_EN q.val)) ∧
        d.regsOnly { t with ports := d.ports } ((List.range 64).map QU_CTL_EN ++ [PORT_STAT_INRESET p.num, PORT_STAT_LINKUP p.num,
          PORT_STAT_SPEED p.num, PORT_STAT_WIDTH p.num, PORT_STAT_BME p.num, PORT_STAT_DSTATE p.num])) ∧
    (∀ (speed : BitVec 2) (width : BitVec 4) (bme : Bool), d.on (PORT_STAT_INRESET p.num) = true → (d.port p).perst = false →
      d.armed = true → d.gateServes (18 + p.num) = true →
      exec (.portResetEnd p speed width bme) s = s.next (((((d.wr (PORT_STAT_INRESET p.num) 0).wr (PORT_STAT_LINKUP p.num) 1).wr
        (PORT_STAT_SPEED p.num) speed.toNat).wr (PORT_STAT_WIDTH p.num) width.toNat).wr (PORT_STAT_BME p.num) (b2n bme))) ∧
    exec (.pciePerstRelease p) s = s.next (d.setPort p { d.port p with perst := false })

/-! DMA (chapter 16). -/

/-- Starts and hand-overs (R405, R407, R412, R413): a write of CTL with GO starts the active set, one with ARM on a busy channel arms the
shadow set; a busy or armed set refuses the write under CFGERR; at the end of a transfer an armed set takes over; a failed chunk ends
the transfer with its kind, side and address.

Chunks (R406 to R410), each engine serving the ready channels in turn: a read from the store by a port that may read it brings its bytes to the engines; a write puts a chunk that has
arrived at the transfer's destination and counts its bytes as written. -/
def Obligations.DmaTransfers : Prop :=
  (∀ (s : State) (ch : Fin 64) (w : RegWr),
      let d := s.dev
      let c := ch.val
      (d.reaches w (0x80018 + 0x40 * c) →
        let d1 := (dmaCtl c).foldl (fun d x => d.take w x.1) d
        (d.dmaBusy c = true → exec (.dmaGoWrite ch w) s = s.next (d.wr (DMA_STAT_CFGERR c) 1)) ∧
        (d.dmaBusy c = false → w.one (DMA_CH_CTL_GO c) = true →
          let good := d1.setGood (DMA_CH_CNT_CNT c) (DMA_CH_CTL_SRC_WRAP c) (DMA_CH_CTL_SRC_K c) (DMA_CH_CTL_DST_WRAP c) (DMA_CH_CTL_DST_K c)
          (good = true → ∃ t, exec (.dmaGoWrite ch w) s = s.next t ∧ t.rd (DMA_CH_CTL_GO c) = 1 ∧
            t.xfer c = some ⟨writePort w.src, 0, d.rd (DMA_CH_SRC_ADDR c), d.rd (DMA_CH_DST_ADDR c), d.rd (DMA_CH_CNT_CNT c), 0, [], [], [], [],
              none⟩ ∧
            d.regsOnly { t with xfers := d.xfers } (DMA_CH_CTL_GO c :: (dmaCtl c).map (·.1))) ∧
          (good = false → exec (.dmaGoWrite ch w) s = s.next (d1.wr (DMA_STAT_CFGERR c) 1)))) ∧
      (d.reaches w (0x80038 + 0x40 * c) → w.one (DMA_CH_SCTL_ARM c) = true →
        let d1 := (dmaCtl c).foldl (fun d x => d.take w x.2) d
        (d.on (DMA_CH_SCTL_ARM c) = true → exec (.dmaArmWrite ch w) s = s.next (d.wr (DMA_STAT_CFGERR c) 1)) ∧
        (d.on (DMA_CH_SCTL_ARM c) = false → d.dmaBusy c = true →
          d1.setGood (DMA_CH_SCNT_CNT c) (DMA_CH_SCTL_SRC_WRAP c) (DMA_CH_SCTL_SRC_K c) (DMA_CH_SCTL_DST_WRAP c) (DMA_CH_SCTL_DST_K c) = true →
          exec (.dmaArmWrite ch w) s = s.next { d1.wr (DMA_CH_SCTL_ARM c) 1 with
            armers := KMap.put d.armers c ⟨writePort w.src, 0, none⟩ })) ∧
      (∀ x : Xfer, d.xfer c = some x → d.dmaBusy c = true →
        (x.doneBytes = x.total → x.arrived = [] → x.cmd = none → d.on (DMA_CH_CTL_EVENT c) = false → d.telling = false → d.dmaRedo = [] →
          (d.on (DMA_CH_SCTL_ARM c) = false → exec (.dmaTransferEnd ch) s =
            s.next { d.wr (DMA_CH_CTL_GO c) 0 with xfers := KMap.del d.xfers c }) ∧
          (d.on (DMA_CH_SCTL_ARM c) = true → ∃ t, exec (.dmaTransferEnd ch) s = s.next t ∧ t.rd (DMA_CH_CTL_GO c) = 1 ∧
            t.rd (DMA_CH_SCTL_ARM c) = 0 ∧ t.rd (DMA_CH_SRC_ADDR c) = d.rd (DMA_CH_SSRC_ADDR c) % 2 ^ 48 ∧
            t.rd (DMA_CH_DST_ADDR c) = d.rd (DMA_CH_SDST_ADDR c) % 2 ^ 48 ∧ t.rd (DMA_CH_CNT_CNT c) = d.rd (DMA_CH_SCNT_CNT c) % 2 ^ 32 ∧
            t.rd (DMA_STAT_HANDOVERS c) = (d.rd (DMA_STAT_HANDOVERS c) + 1) % 2 ^ 32)) ∧
        (∀ (kind : BitVec 2) (side : Bool) (addr : BitVec 48), d.dmaRedo = [] →
          ∃ t, exec (.dmaChunkFail ch kind side addr) s = s.next t ∧ t.rd (DMA_CH_CTL_GO c) = 0 ∧ t.rd (DMA_CH_SCTL_ARM c) = 0 ∧
            t.xfer c = none ∧ t.rd (DMA_STAT_EKIND c) = kind.toNat ∧ t.rd (DMA_STAT_SIDE c) = b2n side ∧
            t.rd (DMA_EADDR_ADDR c) = addr.toNat ∧ t.on (DMA_STAT_ERR c) = true ∧ t.mem = d.mem))) ∧
  (∀ (s : State) (ch : Fin 64) (x : Xfer),
      let d := s.dev
      let c := ch.val
      let key := d.rd (DMA_CH_CTL_KEY c)
      d.xfer c = some x → d.dmaBusy c = true → d.running = true → d.gateServes 6 = true → d.keyOk key = true →
      (∀ (a : Nat) (b : List Byte) (d2 : Dev) (host : List Byte) (o : Outc), x.issued < x.total → d.dmaRoom c x = true →
        d.dmaNext d.dma.readLast d.readReady = some c →
        inRange x.src (d.dmaSrc c x x.issued) = true → addrSpace (d.dmaSrc c x x.issued) = .store a → d.linked dmaCol (a / 2 ^ 22) = true →
        let n := d.chunkLen c x x.issued
        d.storeReady (.port x.port) key a n = true → d.storeRead (.port x.port) key a n = (b, .ok, d2) →
        let t := d2.chunkAnswer c x.issued n (d.dmaSrc c x x.issued) .ok b
        exec (.dmaChunkRead ch host o) s = s.next { t with dma := { t.dma with readLast := c } }) ∧
      (∀ (chunk : BitVec 32) (data : List Byte) (a : Nat) (d2 : Dev), x.arrived.find? (fun y => y.1 == chunk.toNat) = some (chunk.toNat, data) →
        d.dmaNext d.dma.writeLast d.writeReady = some c →
        d.chunkBlocked c x chunk.toNat data.length = false → inRange x.dst (d.dmaDst c x chunk.toNat) = true →
        addrSpace (d.dmaDst c x chunk.toNat) = .store a → d.linked dmaCol (a / 2 ^ 22) = true → d.storeReady (.port x.port) key a data.length = true → d.mirrorFull = false →
        (d.setXfer c { x with arrived := x.arrived.filter fun y => y.1 != chunk.toNat }).storeWrite (.port x.port) key a data
          (List.replicate data.length true) = (.ok, d2) →
        let t := d2.chunkDone c chunk.toNat data.length
        exec (.dmaChunkWrite ch chunk) s = s.next { t with dma := { t.dma with writeLast := c } }))

/-! Images (chapter 13). -/

/-- Image commands in a load (R332 to R338): each that the loader accepts leaves the load as its step says, and FCOMMIT commits it; one
that it refuses ends the load, with the target frets cleared. -/
def Obligations.ImageCommands : Prop :=
  ∀ (s : State) (l : Load), s.dev.load = some l → l.committed = false → l.ecode = 0 →
    let d := s.dev
    let crc := fun c : ImgCmd => crcRun l.crc c.bytes
    exec .noop s = s.next { d with load := some { l with crc := crc .noop } } ∧
    exec .sync s = s.next { d with load := some { l with crc := crc .sync } } ∧
    (∀ a : BitVec 16, exec (.faddr a) s = s.next { d with load := some { l with crc := crc (.faddr a), addr := a.toNat } }) ∧
    (∀ (z : Bool) (n : BitVec 32) (rs : List (BitVec 27136 × BitVec 32)), (l.step d (.fwrite z n rs)).ecode = 0 →
      exec (.fwrite z n rs) s = s.next { d with load := some (l.step d (.fwrite z n rs)) }) ∧
    (∀ v : Word, v.toNat = l.crc ^^^ 0xFFFFFFFF → exec (.wcfg 6 v) s =
      s.next { d with load := some { l with crc := 0xFFFFFFFF, lastCrc := some v.toNat } }) ∧
    (∀ v : Word, v.toNat ≠ l.crc ^^^ 0xFFFFFFFF → exec (.wcfg 6 v) s =
      s.next (d.abortLoad { l with crc := 0xFFFFFFFF, lastCrc := some (l.crc ^^^ 0xFFFFFFFF), ecode := 11, eaddr := 0xFFFF })) ∧
    (∀ (m : BitVec 4) (t : BitVec 8) (ws : List (BitVec 48)) (cr : BitVec 32), (l.step d (.mwrite m t ws cr)).ecode = 0 →
      exec (.mwrite m t ws cr) s = s.next { d with load := some (l.step d (.mwrite m t ws cr)) }) ∧
    ((l.step d .fcommit).ecode = 0 →
      exec .fcommit s = s.next { (d.commitLoad (l.step d .fcommit)).finishLoad (l.step d .fcommit) with
        load := some { l.step d .fcommit with committed := true, frames := [], mems := [] } }) ∧
    ((l.step d .fcommit).ecode ≠ 0 → exec .fcommit s = s.next (d.abortLoad (l.step d .fcommit))) ∧
    (exec .endImage { s with dev := { d with load := some { l with committed := true } } } = s.next { d with load := none })

/-- Host operations of the loader (R25, R246, R323, R345, R346): OP 1, 2 and 3 read their source; OP 3 begins to program a block of the image
store, and its end stores what the source gave and counts the program; an operation while one is in progress is refused; OP 1 and OP 4
ask for an empty device. A read of CFG_DDDATA gives the device data at OFS, which advances. -/
def Obligations.LoaderOperations : Prop :=
  ∀ (s : State) (w : RegWr) (img : Image) (m0 m1 : Manifest) (temps : List ColTemp),
    let d := s.dev
    let d1 := (d.wr CFG_CTL_ARG (d.wval w CFG_CTL_ARG)).wr CFG_CTL_LEN (d.wval w CFG_CTL_LEN)
    let i := (d1.srcImage img).1
    let d2 := (d1.srcImage img).2
    (d.reaches w 0x380008 →
      (d.on CFG_STAT_BUSY = true ∨ d.load.isSome = true → w.touches CFG_CTL_OP = true →
        ∀ c ∈ [Instr.cfgFullLoad w img, .cfgPartialLoad w img, .cfgNvProgram w, .cfgBootRerun w m0 m1 temps],
          exec c s = s.next (d.wr CFG_STAT_REFUSED 1)) ∧
      (d.on CFG_STAT_BUSY = false → d.load = none →
        (d1.mayFullLoad = true → exec (.cfgFullLoad w img) s =
          s.next ((((d2.clearAll).hushPins).wr CFG_STAT_BUSY 1).loadFull .host i).1) ∧
        (d1.mayFullLoad = false → exec (.cfgFullLoad w img) s = s.next (d1.loadRefused 14 0xFFFF)) ∧
        exec (.cfgPartialLoad w img) s = s.next ((d2.wr CFG_STAT_BUSY 1).loadPartial .host (d2.rd CFG_CTL_ARG) i (· == 1)) ∧
        (4 ≤ d1.rd CFG_CTL_ARG → d1.rd CFG_CTL_ARG ≤ 2047 → exec (.cfgNvProgram w) s =
          s.next { d1.wr CFG_STAT_BUSY 1 with hostOp := some ⟨3, d1.rd CFG_CTL_ARG, 64 * d1.rd CFG_SRC_ADDR⟩ }) ∧
        (d1.rd CFG_CTL_ARG < 4 → exec (.cfgNvProgram w) s = s.next ((d1.loadRefused 13 0xFFFF).wr CFG_STAT_PABORT 1)) ∧
        (d1.mayFullLoad = true →
          let d3 := ((d1.clearAll).hushPins).wr CFG_STAT_BUSY 1
          (d3.chainBoot = false → exec (.cfgBootRerun w m0 m1 temps) s = s.next (d3.bootOwn m0 m1 temps)) ∧
          (d3.chainBoot = true → exec (.cfgBootRerun w m0 m1 temps) s =
            s.next { d3 with hostOp := some ⟨4, 0, 0⟩, chainPos := false, chainTaken := 0 })))) ∧
    (∀ (b a : Nat) (got : SrcRead), d.hostOp = some ⟨3, b, a⟩ →
      let d3 : Dev := { d.wr CFG_STAT_BUSY 0 with hostOp := none }
      (∀ (bs : List Byte) (d4 : Dev), d3.srcRead got.o = .ok → d3.nvData got.data = (bs, .ok, d4) →
        let n := KMap.get d4.nvWear b 0 + 1
        exec (.nvProgramDone got) s = s.next ((({ d4 with nvWear := KMap.put d4.nvWear b n, nvBlocks := KMap.put d4.nvBlocks b bs } : Dev).wr
          CFG_NVSTAT_WEAR (min n 16383)).wr CFG_NVSTAT_WORN (b2n (decide (10000 < n))))) ∧
      (d3.srcRead got.o ≠ .ok → exec (.nvProgramDone got) s = s.next ((d3.loadRefused 12 0xFFFF).wr CFG_STAT_PABORT 1))) ∧
    (∀ (src : Src) (half : Half), d.access src 0x380050 false = .ok → exec (.cfgDddataRead src half) s =
      s.next ((d.wr CFG_DDADDR_OFS (d.rd CFG_DDADDR_OFS + 1)).emit (.regData src (half.part (d.deviceWord (8 * d.rd CFG_DDADDR_OFS))))))

/-- Boots (R325, R341, R343, R349 to R351): the load step loads from the device's own image store; on the chain a POS frame gives the
position and goes on with the next one, an IMAGE for another position is passed on, MEND ends the boot; a bad CRC or a silence ends it
with ECODE 15, unless BOOT_SRC 2 lets the device's own store serve. -/
def Obligations.Boots : Prop :=
  ∀ (s : State) (m0 m1 : Manifest) (temps : List ColTemp),
    let d := s.dev
    (d.rd RESET_STAT_PHASE = 6 → d.chainBoot = false → exec (.loadStep m0 m1 temps) s = s.next (d.bootOwn m0 m1 temps)) ∧
    (d.booting = true → d.chainBoot = true →
      (∀ pos : BitVec 8, d.chainPos = false → exec (.pos pos true) s =
        s.next (({ (d.wr CFG_STAT_CHAIN 1).wr CFG_STAT_POS ((pos.toNat + 1) % 16) with chainPos := true, chainTaken := 0 } : Dev).emit
          (.chain 1 [(pos.toNat + 1) % 16]))) ∧
      (∀ pos : BitVec 8, d.chainPos = false → exec (.pos pos false) s = s.next d.chainFails) ∧
      (∀ (param : Word) (img : Image), d.chainPos = true → forPosition (d.rd CFG_STAT_POS) img = false →
        exec (.image param img true temps) s = s.next (d.emit (.chain 2 (chainWords param.toNat img)))) ∧
      (∀ (param : Word) (img : Image) (d2 : Dev), d.chainPos = true → d.chainTaken = 0 →
        img.chain.toNat = d.rd CFG_STAT_POS → ({ d with chainTaken := 1 } : Dev).loadFull .bootFull img = (d2, true) →
        exec (.image param img true temps) s = s.next (d2.wr CFG_STAT_ERR 0)) ∧
      (d.chainPos = true → d.chainTaken ≠ 0 → exec (.mend true) s =
        s.next { (d.emit (.chain 3 [])).bootDone with chainPos := false, chainTaken := 0, hostOp := none }) ∧
      (d.chainPos = true → exec (.mend false) s = s.next d.chainFails) ∧
      (d.chainPos = false → exec (.chainTimeout m0 m1 temps) s =
        s.next (if d.rd PIN_STRAP_BOOT_SRC = 2 then { d.bootOwn m0 m1 temps with hostOp := none } else d.chainFails)))

/-! Lanes and the Lane Link Protocol (chapter 14). -/

/-- Lanes (R357, R358, R361, R364, R380, R381): a wake ends in Active; an Active lane that carries no PRBS gets sync; a checker
locks; an error counts for its lane and raises an Ochre event, and a lost sync clears SYNC. -/
def Obligations.LaneEvents : Prop :=
  ∀ (s : State) (lane : LaneId),
    let d := s.dev
    let L := lane.val
    (d.rd (LANE_STAT_PSTATE L) = 3 → d.on (LANE_STAT_RETIRED L) = false → d.laneRuns L = true →
      exec (.laneWakeComplete lane) s = s.next (d.wr (LANE_STAT_PSTATE L) 2)) ∧
    (∀ inverted : Bool, d.rd (LANE_STAT_PSTATE L) = 2 → d.on (LANE_PRBS_RUN L) = false → d.laneRuns L = true →
      exec (.laneSync lane inverted) s = s.next ((d.wr (LANE_STAT_SYNC L) 1).wr (LANE_STAT_RXINV L) (b2n inverted))) ∧
    (d.rd (LANE_STAT_PSTATE L) = 2 → d.on (LANE_PRBS_RUN L) = true →
      exec (.prbsLock lane) s = s.next (d.wr (LANE_PRBS_LOCK L) 1)) ∧
    (∀ kind : LaneErr, d.rd (LANE_STAT_PSTATE L) = 2 → d.laneRuns L = true →
      let flag := match kind with | .code => LANE_ERR_CODE L | .disparity => LANE_ERR_DISP L | .syncLost => LANE_ERR_SYNCLOST L
      let d1 := if kind = .syncLost then d.wr (LANE_STAT_SYNC L) 0 else d
      exec (.laneCodeError lane kind) s = s.next (((((d1.incSat (LANE_ERR_COUNT L)).countUp .lane L).raise
        { cls := .ochre, flag := flag, ukind := 3, uid := L }).lasting .lane L)))

/-- The exchange of a lane group (R101, R102, R360 to R362): eight TS1 answer with TS2, eight TS2 take the common set; the dwell's errors
decide this end's report; both ends' PASS step the rate up, a FAIL or a lost sync steps back to the last rate that passed, where the
group is up, and ends a retrain's LCTL as Bus error; an exchange that does not end in time gives the group up. -/
def Obligations.GroupTraining : Prop :=
  ∀ (s : State) (group : LaneId) (x : GroupSt) (ts : TrainSet), s.dev.group group.val = some x → group.val < 128 →
    let d := s.dev
    let g := group.val
    let fits := ts.lanesOk = true ∧ ts.width.toNat = x.width
    (x.phase = 0 → d.groupSync g = true → fits →
      (x.ts1 < 7 → exec (.ts1 group ts) s =
        s.next (d.updGroup g fun x => { x with ts1 := x.ts1 + 1, farRates := ts.rates.toNat })) ∧
      (x.ts1 = 7 → exec (.ts1 group ts) s =
        s.next (((d.updGroup g fun x => { x with ts1 := 8, farRates := ts.rates.toNat }).updGroup g fun x =>
          { x with phase := 1, ts2 := 0 }).sendTraining g 2 0))) ∧
    (x.phase = 1 → d.groupSync g = true → fits →
      (x.ts2 < 7 → exec (.ts2 group ts) s = s.next (d.updGroup g fun x => { x with ts2 := x.ts2 + 1 })) ∧
      (x.ts2 = 7 → exec (.ts2 group ts) s = s.next (((d.updGroup g fun x => { x with ts2 := 8 }).updGroup g fun x =>
        { x with common := (x.farRates &&& 63) % 2 ^ (x.maxRate + 1), passed := 0 }).stepRate g))) ∧
    (x.phase = 3 ∨ x.phase = 4 → ts.lanesOk = true →
      let told := fun ok => d.updGroup g fun x => { x with far := some ok }
      (x.mine = none → exec (.passSet group ts) s = s.next (told true) ∧ exec (.failSet group ts) s = s.next (told false)) ∧
      (x.mine = some true →
        exec (.passSet group ts) s = s.next (((told true).updGroup g fun x => { x with passed := x.rate }).stepRate g) ∧
        exec (.failSet group ts) s = s.next ((told false).stepBack g))) ∧
    (∀ errs : List (BitVec 16), x.phase = 3 → d.groupActive g = true → x.far = none →
      let n := (groupLanes g x.width).length
      let err := fun i => (errs.map (·.toNat)).getD i 0
      let d1 := (List.range n).foldl (fun d i => (Dev.wr d (LANE_PRBS_PATTERN (g + i)) 3).incSat (LANE_PRBS_ERRORS (g + i)) (err i)) d
      ((∀ i < n, err i ≤ d1.rd (LLP_GRP_CFG_DWELL_ERR g)) → exec (.trainingDwellEnd group errs) s =
        s.next ((d1.updGroup g fun x => { x with phase := 4, mine := some true, errs := errs.map (·.toNat) }).sendTraining g 3 0))) ∧
    (x.phase = 3 ∨ x.phase = 4 → x.rate ≠ x.passed → x.bound = true →
      (x.cmd = none → exec (.resyncTimeout group) s = s.next ((d.groupRate g x.passed).trained g)) ∧
      (∀ q seq, x.cmd = some (q, seq) → exec (.resyncTimeout group) s =
        s.next ((((d.fix q seq .busError).updGroup g fun x => { x with cmd := none }).groupRate g x.passed).trained g))) ∧
    (x.phase < 3 → x.bound = false → x.cmd = none → exec (.bringupTimeout group) s = s.next (d.unbindGroup g 0)) ∧
    (∀ q seq, x.phase < 3 → x.bound = false → x.cmd = some (q, seq) →
      exec (.bringupTimeout group) s = s.next ((d.fix q seq .busError).unbindGroup g 0)) ∧
    (x.phase < 3 → x.bound = true → exec (.bringupTimeout group) s = s.next (d.groupDown g))

/-- LLP frames (R366, R369 to R378): INIT, DATA, ACK, NAK and the timers, on a group that carries frames. -/
def Obligations.LaneFrames : Prop :=
  ∀ (s : State) (group : LaneId) (x : GroupSt), s.dev.group group.val = some x → s.dev.groupUp group.val = true →
    let d := s.dev
    let g := group.val
    let want := d.rd (LLP_GRP_STAT_RXSEQ g)
    (∀ seq : BitVec 16, (x.gotInit = true → exec (.initFrame group seq) s = s.next d) ∧
      (x.gotInit = false → x.waiting = [] → exec (.initFrame group seq) s =
        s.next ((d.updGroup g fun x => { x with gotInit := true }).wr (LLP_GRP_STAT_RXSEQ g) seq.toNat))) ∧
    (x.gotInit = false → exec (.initResend group) s = s.next (d.sendFrame g 0 (bareFrame 0 0))) ∧
    (x.gotInit = true → x.rx = [] → exec (.ackTimer group) s =
      s.next ((d.updGroup g fun x => { x with acksDue := 0 }).sendFrame g 2 (bareFrame ((want + 65535) % 65536) 64))) ∧
    (∀ (fr : LlpFrame) (crc : BitVec 32), x.rx = [] → fr.payload.length ≤ 512 →
      let ahead := (fr.seq.toNat + 65536 - want) % 65536
      (crc.toNat ≠ frameCrc 1 fr → exec (.dataFrame group fr crc) s = s.next ((d.llpEvent g (LLP_GRP_ERR_CRC g)).sendNak g)) ∧
      (crc.toNat = frameCrc 1 fr → 0 < ahead → ahead < 32768 → exec (.dataFrame group fr crc) s = s.next (d.sendNak g)) ∧
      (crc.toNat = frameCrc 1 fr → 32768 ≤ ahead → exec (.dataFrame group fr crc) s = s.next (d.sendAck g)) ∧
      (∀ tile, crc.toNat = frameCrc 1 fr → ahead = 0 → x.acksDue < 15 → d.channelTile x.kern fr.channel.toNat = some tile → tile < 256 →
        (d.portal tile).landing = [] →
        ∃ t p, exec (.dataFrame group fr crc) s = s.next t ∧
          t.group g = some { x with nakOut := false, acksDue := x.acksDue + 1 } ∧ t.out = .packet p :: d.out ∧
          p.cmd = 0x30 ∧ tileOfCol p.dcol.toNat p.dep.toNat = tile ∧ p.epoch = fr.epoch ∧ p.operand = .ofNat 64 (frameOperand fr) ∧
          p.data = fr.payload ++ List.replicate ((32 - fr.payload.length % 32) % 32) 0 ∧
          t.rd (LLP_GRP_STAT_RXSEQ g) = (want + 1) % 65536 ∧
          t.rd (LLP_GRP_CNT_RXFRAMES g) = (d.rd (LLP_GRP_CNT_RXFRAMES g) + 1) % 2 ^ (LLP_GRP_CNT_RXFRAMES g).width ∧
          d.regsOnly { t with groups := d.groups, out := d.out } [LLP_GRP_STAT_RXSEQ g, LLP_GRP_CNT_RXFRAMES g])) ∧
    (∀ (seq : BitVec 16) (win : BitVec 8) (f : LlpFrame) (k : Nat) (rest : List (LlpFrame × Nat)), x.tx = (f, k) :: rest →
      let n := (seq.toNat + 65536 - f.seq.toNat) % 65536 + 1
      n ≤ x.tx.length → x.unbind = false → x.waiting = [] → exec (.ack group seq win) s =
        s.next (d.updGroup g fun x => { x with tx := (x.tx.drop n).map (fun e => (e.1, 0)), peerWin := win.toNat })) ∧
    (∀ (seq : BitVec 16) (win : BitVec 8), let d1 := (d.updGroup g fun x => { x with peerWin := win.toNat }).llpEvent g (LLP_GRP_ERR_NAKRX g)
      ((∀ e ∈ x.tx, e.1.seq ≠ seq) → exec (.nak group seq win) s = s.next d1) ∧
      (∀ (before : List (LlpFrame × Nat)) (f : LlpFrame) (k : Nat) (rest : List (LlpFrame × Nat)),
        x.tx = before ++ (f, k) :: rest → (∀ e ∈ before, e.1.seq ≠ seq) → f.seq = seq → k < 4 →
        exec (.nak group seq win) s = s.next ((((f, k) :: rest).foldl (fun d e => Dev.sendFrame d g 1 e.1)
          (d1.updGroup g fun x => { x with tx := before ++ ((f, k) :: rest).map fun e => (e.1, e.2 + 1) })).llpEvent g (LLP_GRP_ERR_REPLAY g)))) ∧
    (x.tx = [] → exec (.replayTimeout group) s = s.next d) ∧
    (∀ f k rest, x.tx = (f, k) :: rest → 4 ≤ k → exec (.replayTimeout group) s =
      s.next (((d.updGroup g fun x => { x with tx := x.tx.map fun e => (e.1, 0) }).llpCount g (LLP_GRP_ERR_RETRAIN g)).retrain g)) ∧
    exec (.abortedFrame group) s = s.next d ∧
    (x.unbind = true → exec (.unbindTimeout group) s = s.next (d.unbindGroup g 0))

/-! Twin operation (chapter 17). -/

/-- The Capo link's frames (R419 to R421, R430): on a link that is up, a frame with a wrong CRC is a link error, one with a wrong tag a
Crimson event under TAGFAIL, one out of order is dropped, and one in order is counted and has its effect; timers send what is due. -/
def Obligations.PairFrames : Prop :=
  ∀ (s : State) (ctr : BitVec 96), s.dev.on TWIN_STAT_CAPOUP = true → s.dev.held = false → s.dev.capo.keyIn = true →
    let d := s.dev
    let c := d.capo
    let taken := fun f : CapoSt → CapoSt => { d with capo := f { c with rxCtr := ctr.toNat, acksDue := c.acksDue + 1 } }
    (∀ (payload : List Byte) (tag : BitVec 128) (crc : BitVec 32) (recovering : Bool),
      let tg := bytesLE 16 tag.toNat
      ∀ x ∈ ([(1, 0, .capoData ctr (payload ++ tg) crc), (2, 0, .capoAck ctr payload tag crc), (3, b2n recovering, .hb ctr recovering payload tag crc)] :
          List (Nat × Nat × Instr)),
        (crc.toNat ≠ capoCrc x.1 x.2.1 ctr.toNat payload tg → exec x.2.2 s = s.next d.capoError) ∧
        (crc.toNat = capoCrc x.1 x.2.1 ctr.toNat payload tg →
          (tg ≠ capoTag c.rxKey x.1 x.2.1 ctr.toNat payload →
            exec x.2.2 s = s.next ((d.incSat TWIN_ERR_COUNT).raise { cls := .crimson, flag := TWIN_ERR_TAGFAIL, ukind := 12 })) ∧
          (tg = capoTag c.rxKey x.1 x.2.1 ctr.toNat payload → ctr.toNat ≠ c.rxCtr + 1 → exec x.2.2 s = s.next d))) ∧
    (∀ (payload : List Byte) (tag : BitVec 128) (crc : BitVec 32), ctr.toNat = c.rxCtr + 1 → c.acksDue < 15 →
      let tg := bytesLE 16 tag.toNat
      let good := fun type flags => crc.toNat = capoCrc type flags ctr.toNat payload tg ∧ tg = capoTag c.rxKey type flags ctr.toNat payload
      (good 1 0 → exec (.capoData ctr (payload ++ tg) crc) s = s.next (taken id)) ∧
      (∀ recovering : Bool, good 3 (b2n recovering) → exec (.hb ctr recovering payload tag crc) s =
        s.next (taken fun c => { c with recovering := recovering })) ∧
      (good 2 0 → c.queue = [] → d.bankWait = [] → d.recWait = [] → d.stageWait = [] →
        let ack := numLE ((capoCipher c.rxKey ctr.toNat payload).take 12)
        exec (.capoAck ctr payload tag crc) s =
          s.next (taken fun c => { c with replay := c.replay.filter fun x => decide (ack < x.ctr) }))) ∧
    (c.keyOut = true → c.partner = none →
      exec .capoReplayTimeout s = s.next (d.capoOut 0 0 [d.rd TWIN_STAT_ROLE, d.rd TWIN_STAT_STATE])) ∧
    (∀ p, c.keyOut = true → c.partner = some p →
      exec .capoReplayTimeout s = s.next (c.replay.foldl (fun d x => Dev.capoOut d (x.words.headD 0) x.ctr x.words.tail) d)) ∧
    (c.keyOut = true → exec .capoAckTimer s =
      s.next (({ d with capo := { c with acksDue := 0 } }).capoSend 2 [c.rxCtr]))

/-- Pairing and its end (R416, R417, R420, R430 to R432): a partner of the other role begins Syncing, and the sync stream's end Paired;
heartbeats leave on the pin and in HB frames; a silent Capo path leaves a Lead alone, both paths silent make a Shadow fence its Lead. -/
def Obligations.Pairing : Prop :=
  ∀ (s : State), s.dev.held = false →
    let d := s.dev
    let c := d.capo
    (d.on TWIN_STAT_CAPOUP = true → d.on TWIN_CTL_EN = true → ∀ (role : Bool) (st : BitVec 3) (payload : List Byte) (crc : BitVec 32),
      let sum := capoCrc 0 0 0 payload (List.replicate 16 0)
      (crc.toNat ≠ sum → exec (.hello role st payload crc) s = s.next d.capoError) ∧
      (crc.toNat = sum → (d.helloKey payload).2 = false → exec (.hello role st payload crc) s =
        s.next ((d.incSat TWIN_ERR_COUNT).raise { cls := .crimson, flag := TWIN_ERR_KEYBAD, ukind := 12 })) ∧
      (crc.toNat = sum → (d.helloKey payload).2 = true → c.keyOut = true → d.rd TWIN_STAT_STATE = 1 →
        let met := { d with capo := { c with partner := some (role, st.toNat), keyIn := true, rxCtr := 0, rxKey := (d.helloKey payload).1 } }
        (d.rd TWIN_STAT_ROLE = 0 → role = true → exec (.hello role st payload crc) s = s.next (met.wr TWIN_STAT_STATE 2).syncStream) ∧
        (d.rd TWIN_STAT_ROLE = 1 → role = true → exec (.hello role st payload crc) s = s.next met) ∧
        (d.rd TWIN_STAT_ROLE = 0 → role = false → st ≠ 3 → st ≠ 4 → c.everPaired = false →
          ∃ t, exec (.hello role st payload crc) s = s.next t ∧ t.on TWIN_ERR_ROLECONF = true ∧ t.rd TWIN_STAT_STATE = 0))) ∧
    (d.rd TWIN_STAT_STATE = 2 → (d.rd TWIN_STAT_ROLE = 0 → ∀ x ∈ c.frames, c.syncTo < x.ticket) →
      exec (.syncComplete []) s = s.next { d.wr TWIN_STAT_STATE 3 with capo := { c with everPaired := true } }) ∧
    (6 ≤ d.rd RESET_STAT_PHASE → d.on TWIN_STAT_CAPOUP = false → exec .heartbeatSend s =
      s.next (({ d with capo := { c with hbLevel := !c.hbLevel } }).emit (.pin pinHeartbeat (!c.hbLevel)))) ∧
    (6 ≤ d.rd RESET_STAT_PHASE → d.on TWIN_STAT_CAPOUP = true → c.keyOut = true → c.keyIn = true → exec .heartbeatSend s =
      s.next ((({ d with capo := { c with hbLevel := !c.hbLevel } }).emit (.pin pinHeartbeat (!c.hbLevel))).capoSend 3
        [b2n d.warming, d.stamp])) ∧
    exec .hbPinEdge s = s.next (d.wr TWIN_STAT_PIN_SILENT 0) ∧
    (d.rd TWIN_STAT_STATE = 3 → c.fenceOut = false →
      (d.rd TWIN_STAT_ROLE = 1 → exec (.heartbeatSilence true true) s = s.next (({ d with capo := { c with
        fenceOut := true, recovering := false } }).emit (.pin pinFence false))) ∧
      (d.rd TWIN_STAT_ROLE = 0 → ∀ pin, exec (.heartbeatSilence true pin) s =
        s.next ((d.leadAlone.wr TWIN_STAT_STATE 4).rejoin)) ∧
      (d.on TWIN_STAT_PIN_SILENT = false → exec (.heartbeatSilence false true) s =
        s.next ((d.incSat TWIN_ERR_COUNT).raise { cls := .ochre, flag := TWIN_STAT_PIN_SILENT, ukind := 12 })) ∧
      exec (.heartbeatSilence false false) s = s.next d)

/-- Records that a Shadow applies and acknowledges, and the acknowledgements that its Lead waits for (R422 to R428, R435, R443): the
journal's and the commits' copies, the data, the registers, the events, the decisions, the time. -/
def Obligations.PairRecords : Prop :=
  ∀ (s : State) (q : QId) (seq : BitVec 48),
    let d := s.dev
    (d.mirroring = true →
      (∀ (epoch : BitVec 8) (ws : List Word) (e : Entry) (d2 : Dev) (i : Option Nat),
        d.newEntry q.val seq.toNat epoch.toNat ws = e → d.follow q.val ws = (none, i, d2) → e.cmd ≠ some .halt →
        exec (.journalRecord q seq epoch ws) s = s.next ((((d2.setQueue q.val { d2.queue q.val with
          journal := (d2.queue q.val).journal ++ [e] }).wr (QU_EPOCH_EPOCH q.val) epoch.toNat).showAccept q.val seq.toNat i false).capoSend
            0x21 [q.val, seq.toNat])) ∧
      (∀ (st : RecStatus) (res stamp : Word) (e : Entry), d.entry q.val seq.toNat = some e →
        let d1 := d.updEntry q.val seq.toNat fun e => { e with stage := .completed, status := st.st, result := res, stamp := stamp.toNat
                                                               durable := true, fin := some (st.st, res) }
        (st.st.bad = true → exec (.commitRecord q seq st res stamp [] [] [] [] 0) s =
          s.next ((if st.stops then d1.wr (QU_STAT_ERRSTOP q.val) 1 else d1).capoSend 0x22 [q.val, seq.toNat])) ∧
        (∀ (n : BitVec 8) (v : BitVec 16), st.st.bad = false → e.cmd = some .nop → exec (.commitRecord q seq st res stamp [] [] [(n, v)] [] 0) s =
          s.next ((d1.wr (EV_COUNT_COUNT n.toNat) v.toNat).capoSend 0x22 [q.val, seq.toNat]))) ∧
      (∀ (slot : BitVec 32) (e : Entry), d.entry q.val seq.toNat = some e →
        let x := { d.queue q.val with journal := (d.journal q.val).filter fun e => e.seq != seq.toNat }
        let d1 := d.wr (QU_DONE_SEQ_SEQ q.val) seq.toNat
        (e.recordDue = false → exec (.postRecord q seq slot) s = s.next (d1.setQueue q.val { x with posted := none })) ∧
        (e.recordDue = true → exec (.postRecord q seq slot) s =
          s.next ((d1.setQueue q.val { x with posted := some (e, slot.toNat) }).wr (CQ_TAIL_TAIL q.val) (slot.toNat + 1)))) ∧
      (∀ (b : BitVec 24) (o : BitVec 28) (data : List Byte) (x : Buffer), d.buffer b.toNat = some x →
        let d1 := d.awaitRows (x.rows.filterMap id)
        (x.sealed = false → exec (.writeRecord (.buffer b o) data) s =
          s.next (d1.bufWrite b.toNat o.toNat data (List.replicate data.length true)).2) ∧
        (∀ r, x.sealed = true → data.length = 560 → x.rows.getD (o.toNat / 512) none = some r →
          exec (.writeRecord (.buffer b o) data) s = s.next (d1.putStored r (data.map (·.toNat))))) ∧
      (∀ (kern : BitVec 16) (word0 : BitVec 32) (i : Image) (p : List ColTemp), d.kernel kern.toNat = none →
        (d.admitTwin kern.toNat word0.toNat i (KMap.find d.capo.placed kern.toNat) p).kernel kern.toNat = none →
        ∀ y, exec (.imageRecord kern word0 i p y) s =
          s.next (d.admitTwin kern.toNat word0.toNat i (KMap.find d.capo.placed kern.toNat) p)) ∧
      (∀ (w0 w1 w2 w3 : Word) (cmd : Option Cmd), bitsOf w0.toNat 0 8 = 1 → exec (.placementRecord w0 w1 w2 w3 cmd) s =
        s.next { d with capo := { d.capo with placed := KMap.put d.capo.placed (bitsOf w0.toNat 16 24) w1.toNat } }) ∧
      (∀ (off : BitVec 24) (half : Half) (data : Word) (stands : Bool), exec (.registerRecord off half data stands) s =
        s.next (if stands then d.setReg (off.toNat / 8 * 8) data.toNat
          else d.writeReg (off.toNat / 8 * 8) ⟨.host .a, half, data⟩ true)) ∧
      (∀ (ev : BitVec 8), d.rd (EV_COUNT_COUNT ev.toNat) < 65535 → d.rd PIN_FUNC_EV = 0 →
        exec (.eventRecord ev true none) s = s.next (d.wr (EV_COUNT_COUNT ev.toNat) (d.rd (EV_COUNT_COUNT ev.toNat) + 1))) ∧
      (∀ ofs : BitVec 32, ∃ t, exec (.timeRecord ofs) s = s.next t ∧ t.rd TWIN_TBOFS_OFS = ofs.toNat ∧
        (t.rd TWIN_STAT_TBLOCK = 1 ↔ (-320 ≤ ofs.toInt ∧ ofs.toInt ≤ 320)) ∧ (-50000 ≤ t.time.slew ∧ t.time.slew ≤ 50000) ∧
        d.regsOnly { t with time := d.time } [TWIN_TBOFS_OFS, TWIN_STAT_TBLOCK])) ∧
    (∀ (e : Entry) (p : Snap) (rest : List Snap), d.pairedLead = true → (d.journal q.val).find? (fun e => e.stage == .offered) = some e →
      e.seq = seq.toNat → e.fin = none → e.cmd ≠ some .halt → (d.queue q.val).snaps = p :: rest →
      let d1 := (d.updEntry q.val seq.toNat fun e => { e with stage := .accepted, aux := [] }).withPath q.val p
      let d2 := (d1.setQueue q.val { d1.queue q.val with snaps := rest }).showAccept q.val seq.toNat e.aux.head? false
      d2.on (QU_STAT_ERRSTOP q.val) = false → exec (.journalAck q seq) s = s.next d2) ∧
    (∀ e : Entry, d.telling = true → d.entry q.val seq.toNat = some e → e.stage = .completed →
      ∃ t, exec (.commitAck q seq) s = s.next t ∧ t.entry q.val seq.toNat = some { e with durable := true } ∧
        (q.val, seq.toNat) ∉ t.capo.commits ∧ t.regs = d.regs ∧ t.mem = d.mem)

/-- Fencing and takeover (R431, R433 to R442): a Lead whose fence is driven is held; the Shadow that fenced it becomes Lead, replays its
journals and then runs Solo; SWAP, FORCE and UNFENCE in the states that allow them. -/
def Obligations.Takeover : Prop :=
  ∀ (s : State) (w : RegWr),
    let d := s.dev
    let c := d.capo
    let took := [TWIN_CTL_EN, TWIN_CTL_KEYSLOT, TWIN_CTL_AUTOJOIN, TWIN_CTL_WARM_LIMIT, TWIN_CTL_VEC].foldl (fun d f => d.take w f) d
    let fenced := fun d : Dev => ({ d with capo := { c with fenceOut := true, recovering := false } }).emit (.pin pinFence false)
    (d.rd TWIN_STAT_ROLE = 0 → c.fenceOut = false → d.held = false → ∃ t, exec .fenceInput s = s.next t ∧ t.held = true ∧
      t.running = false ∧ t.rd TWIN_STAT_STATE = 6 ∧ t.rd TWIN_STAT_CAPOUP = 0 ∧ t.out = .pin pinAlarm false :: d.out ∧
      (∀ L : LaneId, d.rd (LANE_STAT_PSTATE L.val) ≠ 0 → d.on (LANE_STAT_RETIRED L.val) = false → t.rd (LANE_STAT_PSTATE L.val) = 1) ∧
      (∀ x ∈ t.io, x.2.drive = false) ∧ t.mem = d.mem ∧ t.queues = d.queues ∧ t.kernels = d.kernels) ∧
    (d.pairedShadow = true → c.fenceOut = false → c.recovering = true → exec .warmLimitExpiry s = s.next (fenced d)) ∧
    (d.rd TWIN_STAT_ROLE = 1 → c.fenceOut = true → d.queues = [] → d.dmaLog = [] → c.standby = [] → c.cold = [] →
      (∀ n : Fin 64, d.on (PEG_STAT_HELD n.val) = false) →
      ∃ t, exec (.fenceWaitEnd false) s = s.next t ∧ t.rd TWIN_STAT_ROLE = 0 ∧ t.rd TWIN_STAT_STATE = 5 ∧ t.rd TWIN_STAT_TBLOCK = 0 ∧
        t.rd TWIN_TAKEOVER_RERUN = 0 ∧ t.xfers = [] ∧ t.mem = d.mem ∧ t.kernels = d.kernels) ∧
    (∀ replay total : BitVec 16, d.rd TWIN_STAT_STATE = 5 → c.standby = [] →
      ∃ t, exec (.takeoverResume replay total false) s = s.next t ∧ t.rd TWIN_STAT_STATE = 4 ∧
        t.rd TWIN_TAKEOVER_REPLAY = replay.toNat ∧ t.rd TWIN_TAKEOVER_TOTAL = total.toNat ∧ t.on TWIN_ERR_TAKEOVER = true ∧ t.mem = d.mem) ∧
    (d.reaches w 0x400000 → took.on TWIN_CTL_EN = d.on TWIN_CTL_EN →
      (w.one TWIN_CTL_SWAP = true → w.one TWIN_CTL_FORCE = false → w.one TWIN_CTL_UNFENCE = false →
        (d.pairedLead = true → exec (.twinSwap w) s = s.next ({ took with capo := { c with swapping := true } }).trySwap) ∧
        (d.pairedLead = false → exec (.twinSwap w) s = s.next ((took.incSat TWIN_ERR_COUNT).wr TWIN_ERR_BADCTL 1))) ∧
      (w.one TWIN_CTL_SWAP = false → w.one TWIN_CTL_FORCE = true → w.one TWIN_CTL_UNFENCE = false →
        (d.pairedShadow = true → c.fenceOut = false → exec (.twinForce w) s = s.next (fenced took)) ∧
        (d.pairedShadow = false → exec (.twinForce w) s = s.next ((took.incSat TWIN_ERR_COUNT).wr TWIN_ERR_BADCTL 1))) ∧
      (w.one TWIN_CTL_SWAP = false → w.one TWIN_CTL_FORCE = false → w.one TWIN_CTL_UNFENCE = true → d.held = false → c.fenceOut = true →
        d.rd TWIN_STAT_ROLE = 0 →
        exec (.twinUnfence w) s = s.next (({ took with capo := { c with fenceOut := false } }).emit (.pin pinFence true)))) ∧
    (d.held = true → exec (.twinUnfence w) s = s.next d.unfenced)

/-! Errors, scrubbing and retirement (chapter 18). -/

/-- The error ring (R449 to R452, R570): the oldest record is written where ERR_TAIL points and its messages follow; without room, or
when the write fails, it is dropped and counted. EN's rise starts the ring at 0; ERR_HEAD moves only within the ring. -/
def Obligations.ErrorRing : Prop :=
  ∀ (s : State) (w : RegWr),
    let d := s.dev
    (∀ (e : ErrRec) (rest : List ErrRec), d.errq = e :: rest →
      let d1 := { d with errq := rest }
      let a := 32 * d.rd ERR_RING_BASE + 32 * (d.rd ERR_TAIL_TAIL % 1024)
      let full := 1024 ≤ (d.rd ERR_TAIL_TAIL + 2 ^ 32 - d.rd ERR_HEAD_HEAD) % 2 ^ 32
      (∀ o, d.on ERR_CTL_EN = false ∨ full → exec (.errorRecordWriteDone o) s = s.next (d1.dropRecord e.cls)) ∧
      (d.on ERR_CTL_EN = true → ¬ full →
        let bytes := wordBytes [e.w0 + 4 * ((d.rd ERR_TAIL_TAIL / 1024 + 1) % 2), e.w1, e.w2, e.w3]
        let written := fun x : Dev => (x.wr ERR_TAIL_TAIL (x.rd ERR_TAIL_TAIL + 1)).recordMsix e.cls
        (∀ p h, addrSpace a = .host p h → d.linked controlCol (portCol p) = true → d.portUp p = true →
          exec (.errorRecordWriteDone .ok) s = s.next (written (d1.emit (.hostWrite p h bytes)))) ∧
        (∀ p h, ∀ o : Outc, addrSpace a = .host p h → o ≠ .ok →
          exec (.errorRecordWriteDone o) s = s.next ((d1.deviceFail p a).dropRecord e.cls)) ∧
        (∀ x, ∀ o : Outc, addrSpace a = .store x → d.linked controlCol (x / 2 ^ 22) = true →
          (d.storeReady .device 0 x 32 = false → exec (.errorRecordWriteDone o) s = s.next d) ∧
          (d.storeReady .device 0 x 32 = true → d.gateRow .device 0 (x / 512) = .serve →
            exec (.errorRecordWriteDone o) s = s.next (written ((d1.putWord (x / 32) bytes).mirror x 32)))))) ∧
    (d.reaches w 0x3C0000 →
      let took := [ERR_CTL_EN, ERR_CTL_IRQ_OCHRE, ERR_CTL_IRQ_CRIMSON, ERR_CTL_VEC_A, ERR_CTL_VEC_B].foldl (fun d f => d.take w f) d
      exec (.errCtlWrite w) s = s.next (if d.on ERR_CTL_EN = false ∧ took.on ERR_CTL_EN = true
        then (took.wr ERR_HEAD_HEAD 0).wr ERR_TAIL_TAIL 0 else took)) ∧
    (d.reaches w 0x3C0010 → w.touches ERR_HEAD_HEAD = true →
      let h := d.wval w ERR_HEAD_HEAD
      exec (.errHeadWrite w) s = s.next (if (d.rd ERR_TAIL_TAIL + 2 ^ 32 - h) % 2 ^ 32 ≤ 1024 then d.wr ERR_HEAD_HEAD h
        else d.wr ERR_STAT_HEADERR 1)) ∧
    (d.reaches w 0x3C0030 → w.one ERR_DROP_CLR = true →
      exec (.errDropClr w) s = s.next (((d.wr ERR_DROP_SLATE 0).wr ERR_DROP_OCHRE 0).wr ERR_DROP_CRIMSON 0))

/-- Buckets, retirement by a host, and bond tests (R453 to R457, R460 to R464): a count falls by one for every fall time that has
passed; a clear sets it to 0; a named unit in service is retired with cause 2, any other request is a Slate event under RETERR; a
signal that fails moves to a spare. -/
def Obligations.UnitsAndBuckets : Prop :=
  ∀ (s : State) (w : RegWr) (kind : UnitKind) (uid : BitVec 24),
    let d := s.dev
    let u := uid.toNat
    let b := d.bucket kind u
    let falls := (d.nowNs - b.last) / d.fallTime kind
    (d.isRetired kind u = true → exec (.bucketFall kind uid) s = s.next d) ∧
    (d.isRetired kind u = false → ∃ t, exec (.bucketFall kind uid) s = s.next t ∧ (t.bucket kind u).count = b.count - falls ∧
      { t with buckets := d.buckets } = d) ∧
    (d.reaches w 0x3C0068 → w.one ERR_BKT_Q_CLR = true →
      let took := (d.take w ERR_BKT_Q_KIND).take w ERR_BKT_Q_UID
      ∀ k, kindOf (took.rd ERR_BKT_Q_KIND) = some k →
        exec (.errBktClr w) s = s.next (took.setBucket k (took.rd ERR_BKT_Q_UID) ⟨0, d.nowNs⟩)) ∧
    (∀ n : Fin 5, d.reaches w (0x3C0040 + 8 * n.val) → d.buckets = [] →
      exec (.errBktCfgWrite n w) s = s.next ((d.take w (ERR_BKT_CFG_THRESH n.val)).take w (ERR_BKT_CFG_WINDOW n.val))) ∧
    (d.reaches w 0x3C0078 → w.one ERR_RETIRE_GO = true →
      let v := w.ones ERR_RETIRE_UID
      (∀ k, kindOf (w.ones ERR_RETIRE_KIND) = some k → k ≠ .string → v < unitCount k → d.isRetired k v = false →
        exec (.errRetireGo w) s = s.next (d.retire k v 2)) ∧
      (kindOf (w.ones ERR_RETIRE_KIND) = some .string → (stringOf v).isSome = true → d.isRetired .string v = false →
        (d.string v).exhausted = false → exec (.errRetireGo w) s = s.next (d.exhaust v)) ∧
      ((kindOf (w.ones ERR_RETIRE_KIND)).all (fun k => !unitNamed k v || d.isRetired k v) = true →
        exec (.errRetireGo w) s = s.next (d.raise { cls := .slate, flag := ERR_STAT_RETERR }))) ∧
    (∀ sig : BitVec 7, sig.toNat < 64 → (stringOf u).isSome = true → d.string u = {} → d.thresh .string = 0 →
      let spares := fun r : Result => ∃ t, r = s.next t ∧ t.string u = { spared := [(sig.toNat, 64, false)] } ∧ t.rd BOND_STAT_LAST = u ∧
        t.rd BOND_STAT_SPARED = (d.rd BOND_STAT_SPARED + 1) % 2 ^ (BOND_STAT_SPARED).width ∧ t.on ERR_STAT_SPARED = true ∧
        t.mem = d.mem
      spares (exec (.outOfTurnTest uid [sig] []) s) ∧ (d.on SCRUB_CTL_BOND_EN = true → spares (exec (.bondTest uid [sig] []) s)))

/-- The scrubber (R465 to R474): a stored frame that fails waits for its repair, which counts and reports; a latch of the next fret that
does not read back unmarks it, one of the shown fret calls for a refresh; a triplicated word is corrected or lost. -/
def Obligations.Scrubbing : Prop :=
  ∀ (s : State) (tile : TileId),
    let d := s.dev
    let t := tile.toNat
    (∀ (fret : BitVec 3) (unit : BitVec 5), d.on SCRUB_CTL_STORED_EN = true → d.scrubs = true → d.load = none →
      let a := 8192 * fret.toNat + 32 * t + unit.toNat
      (a ∉ d.badFrames → exec (.storedPlaneCheck tile fret [unit] false false) s = s.next { d with badFrames := d.badFrames ++ [a] }) ∧
      exec (.storedPlaneCheck tile fret [] false true) s = s.next (d.wr SCRUB_STAT_PASSES (d.rd SCRUB_STAT_PASSES + 1)) ∧
      (d.shown t ≠ fret.toNat → exec (.storedPlaneCheck tile fret [] true false) s =
        s.next (d.stateBad (((d.ensembleOf t).map (·.1)).getD t) t fret.toNat))) ∧
    (d.readbackYields t = true → ∀ activeBad nextBad, exec (.latchReadback tile activeBad nextBad) s = s.next d) ∧
    (∀ (addr : BitVec 16) (o : Outc) (crcMatches : Bool), addr.toNat ∈ d.badFrames →
      let a := addr.toNat
      let x := a / 32 % 256
      let h := d.fretHandle x (a / 8192)
      let fixed := fun d : Dev => s.next ((({ d with badFrames := d.badFrames.filter (· != a) }).incSat SCRUB_STAT_REPAIRS).raiseCounted
        { cls := .ochre, flag := ERR_STAT_PLANEFIX, ukind := 1, uid := x, detail := a + 2 ^ 32 * h } .tile x)
      let lost := fun d : Dev => s.next ((d.releaseKernel h).raise
        { cls := .crimson, flag := ERR_STAT_PLANELOST, ukind := 1, uid := x, detail := a + 2 ^ 32 * h })
      (h = 0 → exec (.frameRepair addr o crcMatches) s = fixed d) ∧
      (h ≠ 0 → d.recordAt h a o = none →
        (o = .ok ∧ crcMatches = true → exec (.frameRepair addr o crcMatches) s = fixed d) ∧
        (¬ (o = .ok ∧ crcMatches = true) → exec (.frameRepair addr o crcMatches) s = lost d)) ∧
      (∀ good d2, h ≠ 0 → d.recordAt h a o = some (good, d2) →
        exec (.frameRepair addr o crcMatches) s = if good = true then fixed d2 else lost d2)) ∧
    (d.on SCRUB_CTL_LATCH_EN = true → d.scrubs = true → d.readbackYields t = false → d.badFrames = [] →
      let g := d.rd (FRET_STAT_NEXT t)
      let f := d.shown t
      exec (.latchReadback tile false false) s = s.next d ∧
      (d.on (FRET_STAT_NEXTV t) = true → exec (.latchReadback tile false true) s =
        s.next (((d.wr (FRET_STAT_NEXTV t) 0).incSat SCRUB_STAT_MISMATCHES).raiseCounted
          { cls := .ochre, flag := ERR_STAT_RBNEXT, ukind := 1, uid := t, detail := fretDetail t g (d.fretHandle t g) } .tile t)) ∧
      (∀ a e, d.ensembleOf t = some (a, e) → d.fretHandle t f ≠ 0 → exec (.latchReadback tile true false) s =
        s.next (((d.trigger a (.refresh true)).incSat SCRUB_STAT_MISMATCHES).raiseCounted
          { cls := .crimson, flag := ERR_STAT_RBACTIVE, ukind := 1, uid := t, detail := fretDetail t f (d.fretHandle t f) } .tile t))) ∧
    (∀ x : TriWord, x ≠ .scrubber → exec (.triplicateSweep x false) s = s.next (d.raise { cls := .ochre, flag := ERR_STAT_TRIFIX })) ∧
    exec (.triplicateSweep .placementRoot true) s =
      s.next { d.raise { cls := .crimson, flag := ERR_STAT_TRILOST } with rootLost := true } ∧
    exec (.triplicateSweep .lifeCycle true) s = s.next { d.raise { cls := .crimson, flag := ERR_STAT_TRILOST } with lcLost := true } ∧
    exec (.scrubVote false) s = s.next (d.raise { cls := .slate, flag := ERR_STAT_SCRUBVOTE }) ∧
    exec (.scrubVote true) s = s.next (d.raise { cls := .ochre, flag := ERR_STAT_SCRUBVOTE })

/-! Security (chapter 19). -/

/-- Key slots (R476 to R479, R491): a permitted operation makes the key store busy, and its end fills or empties the slot, clears the
key data, or shows a wrap; a refused one only leaves its reason and a Slate event.

The life cycle (R488, R489): ARM of a permitted change shows a nonce; CONFIRM of the same target by the same port with that nonce
records the change, which then erases every slot; anything else drops the request. The nonce is a free value. -/
def Obligations.Security : Prop :=
  (∀ (s : State) (w : RegWr) (verdict : Bool), s.dev.reaches w 0x3E0020 →
      let d := s.dev
      let took := (d.endWrap.take w SEC_KEYCTL_SLOT).take w SEC_KEYCTL_KEK
      let slot := took.rd SEC_KEYCTL_SLOT
      let kek := took.rd SEC_KEYCTL_KEK
      let op := w.ones SEC_KEYCTL_OP
      let begins := s.next { took.wr SEC_STAT_BUSY 1 with keyOp := some ⟨op, slot, kek⟩ }
      let c := if op = 1 then Instr.keyLoad w verdict else if op = 2 then .keyErase w else .keyWrap w
      (1 ≤ op → op ≤ 3 →
        (d.on SEC_STAT_BUSY = true → exec c s = s.next (d.refuseKey 3 (w.ones SEC_KEYCTL_SLOT))) ∧
        (∀ r, d.on SEC_STAT_BUSY = false → took.keyRefusal op slot kek = some r → exec c s = s.next (took.refuseKey r slot)) ∧
        (d.on SEC_STAT_BUSY = false → took.keyRefusal op slot kek = none → exec c s = begins)) ∧
      (∀ x : KeyOp, d.keyOp = some x → x.slot < 64 →
        ∃ t, exec .keyOpComplete s = s.next t ∧ t.rd SEC_STAT_BUSY = 0 ∧ t.keyOp = none ∧
          (x.op = 1 → t.keyData = [] ∧ t.filled x.slot = (d.unwraps x.kek || d.filled x.slot) ∧
            t.on SEC_STAT_UNWRAP = (!d.unwraps x.kek || d.on SEC_STAT_UNWRAP) ∧
            KMap.find t.nvKeys x.slot = (if d.unwraps x.kek = true then some (d.unwrapped x.kek) else KMap.find d.nvKeys x.slot)) ∧
          (x.op = 2 → t.filled x.slot = false ∧ t.keyData = [] ∧ KMap.find t.nvKeys x.slot = none) ∧
          (x.op = 3 → t.wrapShown = true ∧ t.regs = (d.wr SEC_STAT_BUSY 0).regs) ∧
          (∀ k < 64, k ≠ x.slot → t.filled k = d.filled k) ∧ t.mem = d.mem)) ∧
  (∀ (s : State) (p : Port) (w : RegWr), w.src = .host p → s.dev.reaches w 0x3E0008 →
      let d := s.dev
      let target := w.ones SEC_LC_REQ_TARGET
      (w.one SEC_LC_REQ_ARM = true → w.one SEC_LC_REQ_CONFIRM = false →
        (d.lcArmed = none → target ∈ lcPermits d.lc →
          target = 3 ∨ (d.empty = true ∧ (d.rd TWIN_STAT_STATE = 0 ∨ d.rd TWIN_STAT_STATE = 4)) →
          ∃ t, exec (.lcArm w) s = s.next t ∧ t.lcArmed = some target ∧ t.rd SEC_LC_NONCE_ARMED = 1 ∧ t.rd SEC_LC_NONCE_APORT = p.num ∧
            t.rd SEC_LC_STATE = d.rd SEC_LC_STATE ∧
            d.regsOnly { t with free := d.free, lcArmed := none } [SEC_LC_NONCE_NONCE, SEC_LC_NONCE_ARMED, SEC_LC_NONCE_APORT]) ∧
        (d.lcArmed ≠ none ∨ target ∉ lcPermits d.lc → exec (.lcArm w) s = s.next d.lcDrop)) ∧
      (w.one SEC_LC_REQ_ARM = false → w.one SEC_LC_REQ_CONFIRM = true →
        let hit := d.lcArmed = some target ∧ w.ones SEC_LC_REQ_NONCE = d.rd SEC_LC_NONCE_NONCE ∧ d.rd SEC_LC_NONCE_APORT = p.num
        (hit → ∃ t, exec (.lcConfirm w) s = s.next t ∧ t.lcArmed = none ∧ t.lcTarget = some target ∧ t.rd SEC_LC_PENDING = 1 ∧
          t.rd SEC_LC_STATE = d.rd SEC_LC_STATE ∧ t.rd SEC_SLOTS_FILLED = d.rd SEC_SLOTS_FILLED) ∧
        (¬ hit → exec (.lcConfirm w) s = s.next d.lcDrop)) ∧
      (d.lcArmed = none → exec .lcArmTimeout s = s.next d) ∧
      (∀ t, d.lcArmed = some t → exec .lcArmTimeout s = s.next d.lcDrop) ∧
      (∀ t0, d.lcTarget = some t0 → t0 < 4 → ∃ t, exec .lcChangeComplete s = s.next t ∧ t.rd SEC_LC_STATE = t0 ∧ t.nvLc = t0 ∧
        t.rd SEC_SLOTS_FILLED = 0 ∧ t.nvSlots = 0 ∧ t.rd SEC_LC_PENDING = 0 ∧ t.lcTarget = none ∧ t.on SEC_STAT_LCCHG = true ∧ t.mem = d.mem))

/-! Clocks, power and time (chapter 20). -/

/-- Start-up of the clocks and their loss (R493 to R500): an oscillator that is ready arms the monitor, one that is not holds the device;
four good windows in a row allow the lock, which opens the first gates; a bad window on a running device makes the PLLs coast, and a
good reference lets them lock again.

Gates (R501 to R504): of the gates a write covers, a closable one that is open closes once its block is idle, and a closed one
opens; the others do not move. -/
def Obligations.ClocksAndGates : Prop :=
  (∀ (s : State) (edges : BitVec 12),
      let d := s.dev
      let m := d.mon
      let windowGood := 768 ≤ edges.toNat ∧ edges.toNat ≤ 1280
      (d.rd RESET_STAT_PHASE ≠ 0 → exec .readyDetect s = s.next { d with mon := { m with ready := true } }) ∧
      (d.rd RESET_STAT_PHASE = 1 →
        (m.ready = true → exec .startDelayEnd s = s.next (((({ d with mon := { m with delay := true } }).wr RESET_STAT_PHASE 2).wr
          CLK_STAT_ARMED 1).wr CLK_STAT_REFWAIT 1)) ∧
        (m.ready = false → exec .startDelayEnd s = s.next { (d.wr RESET_STAT_PHASE 3).wr ERR_ALARM_HOLD 1 with
          mon := { m with delay := true, hold := true } })) ∧
      (d.on CLK_STAT_ARMED = false → ∀ gap, exec (.monitorWindow edges gap) s = s.next d) ∧
      (d.on CLK_STAT_ARMED = true → windowGood →
        (m.good < 3 → exec (.monitorWindow edges false) s = s.next { d with mon := { m with good := m.good + 1 } }) ∧
        (3 ≤ m.good → d.rd RESET_STAT_PHASE = 2 → exec (.monitorWindow edges false) s =
          s.next (((({ d with mon := { m with good := 4 } }).wr CLK_STAT_REFGOOD 1).wr RESET_STAT_PHASE 4).wr CLK_STAT_REFWAIT 0))) ∧
      (∀ gap : Bool, d.on CLK_STAT_ARMED = true → gap = true ∨ ¬ windowGood →
        (d.on CLK_STAT_REFGOOD = false → exec (.monitorWindow edges gap) s =
          s.next { d.wr CLK_STAT_REFGOOD 0 with mon := { m with good := 0 } }) ∧
        (d.on CLK_STAT_REFGOOD = true → d.rd RESET_STAT_PHASE = 9 → d.on CLK_STAT_COAST = false →
          ∃ t, exec (.monitorWindow edges gap) s = s.next t ∧ t.on CLK_STAT_REFGOOD = false ∧ t.on CLK_STAT_COAST = true ∧
            t.rd CLK_STAT_LOCK = 0 ∧ t.on TB_STAT_UNTRUE = true ∧ t.on ERR_ALARM_PEND = true ∧
            (∀ L : LaneId, d.on (LANE_STAT_RETIRED L.val) = false → d.rd (LANE_STAT_PSTATE L.val) = 2 → t.rd (LANE_STAT_PSTATE L.val) = 0))) ∧
      (d.rd RESET_STAT_PHASE = 4 → d.on CLK_STAT_REFGOOD = true → ∃ t, exec .pllLock s = s.next t ∧ t.rd RESET_STAT_PHASE = 5 ∧
        t.rd CLK_STAT_LOCK = 15 ∧ t.rd CLK_IOPLL_LOCK = 1 ∧ t.time = { d.time with run := true } ∧
        (∀ i < 18, i ≠ 6 → i ≠ 10 → t.gate i = true) ∧ (∀ i, 32 ≤ i → i < 36 → t.gateLane i = true) ∧
        d.regsOnly { t with time := d.time } [RESET_STAT_PHASE, CLK_STAT_LOCK, CLK_IOPLL_LOCK, CLK_GATE0_GATE, CLK_GATE1_GATE]) ∧
      (d.on CLK_STAT_COAST = true → d.on CLK_STAT_REFGOOD = true → d.rd CLK_REST_STATE = 0 → d.lanesHeld = [] →
        exec .pllRelock s = s.next ((((d.wr CLK_STAT_COAST 0).wr CLK_STAT_LOCK 15).wr CLK_IOPLL_LOCK 1).report { cls := .slate, bare := true }))) ∧
  (∀ (s : State) (w : RegWr) (bit : BitVec 6),
      let d := s.dev
      let i := bit.toNat
      (∀ gate1 : Bool, d.reaches w (if gate1 then 0x10010 else 0x10008) →
        let f := if gate1 then CLK_GATE1_GATE else CLK_GATE0_GATE
        exec (.clkGateWrite gate1 w) s = s.next ((List.range f.width).foldl (fun d n =>
          if w.half.covers (f.lo + n) then d.gateWrite ((if gate1 then 20 else 0) + n) (w.data.toNat.testBit (f.lo + n)) else d) d)) ∧
      (d.gateBit i = true → closable i = true → i < 56 → (d.gateWrite i false).gateBit i = false ∧
        (d.gateWrite i false).bit CLK_GATE_PEND_PEND i = true) ∧
      (closable i = false → d.gateWrite i false = d) ∧
      (i < 56 → i ≠ 11 → i ≠ 12 → (d.gateWrite i true).gateBit i = true) ∧
      (d.bit CLK_GATE_PEND_PEND i = true → i < 56 → d.blockIdle i = true → i ≠ 11 → i ≠ 12 → i ≠ 18 → i ≠ 19 →
        ∃ t, exec (.gateCloseComplete bit) s = s.next t ∧ t.bit CLK_GATE_PEND_PEND i = false ∧ d.regsOnly t [CLK_GATE_PEND_PEND]) ∧
      (d.bit CLK_GATE_PEND_PEND i = true → i = 11 ∨ i = 12 → d.blockIdle i = true → exec (.gateCloseComplete bit) s =
        s.next ((d.wrBit CLK_GATE_PEND_PEND i false).parkDie (i - 11))) ∧
      (d.bit CLK_GATE_PEND_PEND i = true → i = 18 ∨ i = 19 → d.blockIdle i = true → exec (.gateCloseComplete bit) s =
        s.next ((d.wrBit CLK_GATE_PEND_PEND i false).portReset (portOf (i - 18)) .linkDown)) ∧
      (d.blockIdle i = false → exec (.gateCloseComplete bit) s = s.next d))

/-- Operating points and the fabric's voltage (R505 to R508): a step up raises the voltage before the frequencies, a step down after them;
a rail's refusal or a late power-good ends the step where it is; VDD_FAB moves by at most 10 mV.

The governor (R509 to R512): an estimate shows in its registers; above the cap the row-move budget falls first, down to its floor;
the last step in force is undone first. -/
def Obligations.PowerControl : Prop :=
  (∀ (s : State) (w : RegWr) (nack : Bool),
      let d := s.dev
      let cur := d.rd CLK_OP_CUR
      (d.reaches w 0x10020 → w.touches CLK_OP_TARGET = true →
        let d1 := d.takeW1c w CLK_OP_PGTMO
        let t := d.wval w CLK_OP_TARGET
        (5 < t ∨ (t ≠ 0 ∧ d.pmbusUp = false) → exec (.clkOpWrite w nack) s = s.next (d1.wr CLK_STAT_CFGERR 1)) ∧
        (t ≤ 5 → t = 0 ∨ d.pmbusUp = true → ∀ x, d.opStep = some x → exec (.clkOpWrite w nack) s =
          s.next { d1 with opStep := some { x with next := some t } }) ∧
        (t ≤ 5 → d.pmbusUp = true → d.opStep = none → cur < t → exec (.clkOpWrite w nack) s =
          s.next { (d1.wr CLK_OP_TARGET t).wr CLK_OP_BUSY 1 with opStep := some ⟨cur + 1, true, none⟩ }) ∧
        (t ≤ 5 → d.pmbusUp = true → d.opStep = none → t < cur → exec (.clkOpWrite w false) s =
          s.next { ((d1.wr CLK_OP_TARGET t).rail false pmbVout (opMillivolts (cur - 1))).wr CLK_OP_BUSY 1 with
            opStep := some ⟨cur - 1, false, none⟩ })) ∧
      (∀ x : OpStep, d.opStep = some x → x.ramp = false →
        exec (.powerGoodPoll true false) s = s.next { d with opStep := some { x with ramp := true } } ∧
        exec (.powerGoodPoll false false) s = s.next d ∧
        (∀ good, exec (.powerGoodPoll good true) s = s.next (d.pmbError.opAbandon x)) ∧
        exec .powerGoodTimeout s = s.next ((d.raise { cls := .ochre, flag := CLK_OP_PGTMO }).opAbandon x)) ∧
      (∀ x : OpStep, d.opStep = some x → x.ramp = true → x.next = none → x.goal ≤ 5 → d.rd CLK_OP_TARGET = x.goal →
        (x.goal < cur → exec (.operatingPointStepEnd nack) s = s.next { (d.wr CLK_OP_CUR x.goal).wr CLK_OP_BUSY 0 with opStep := none }) ∧
        (cur < x.goal → exec (.operatingPointStepEnd false) s = s.next
          { ((d.wr CLK_OP_CUR x.goal).rail false pmbVout (opMillivolts x.goal)).wr CLK_OP_BUSY 0 with opStep := none })) ∧
      (d.reaches w 0x10028 → d.on CLK_OP_BUSY = true ∨ d.on CLK_FABV_BUSY = true →
        exec (.clkPmbusWrite w nack) s = s.next (d.wr CLK_STAT_CFGERR 1)) ∧
      (d.reaches w 0x10028 → d.on CLK_OP_BUSY = false → d.on CLK_FABV_BUSY = false → d.on CLK_PMBUS_EN = true →
        exec (.clkPmbusWrite w nack) s = s.next
          ([CLK_PMBUS_EN, CLK_PMBUS_BASE_ADDR, CLK_PMBUS_BASE_PAGE, CLK_PMBUS_FAB_ADDR, CLK_PMBUS_FAB_PAGE].foldl (fun d f => d.take w f) d).fabStart) ∧
      (d.reaches w 0x10030 → exec (.clkFabvWrite w) s = s.next (d.take w CLK_FABV_TARGET).fabStart) ∧
      (d.on CLK_FABV_BUSY = true → d.rd CLK_FABV_EFF < 64 →
        ∃ t, exec (.fabvStep false) s = s.next t ∧
          (d.rd CLK_FABV_EFF < d.fabGoal → t.rd CLK_FABV_EFF = min d.fabGoal (d.rd CLK_FABV_EFF + 2)) ∧
          (d.fabGoal ≤ d.rd CLK_FABV_EFF → t.rd CLK_FABV_EFF = max d.fabGoal (d.rd CLK_FABV_EFF - 2)) ∧
          d.regsOnly { t with out := d.out } [CLK_FABV_EFF, CLK_FABV_BUSY])) ∧
  (∀ (s : State),
      let d := s.dev
      (∀ (est : BitVec 12) (temp : BitVec 8) (fabDue : Bool) (groups : List LaneId), temp.toNat < 169 →
        let shown := [GOV_STAT_EST, GOV_STAT_TEMP, GOV_STAT_THERM, GOV_STAT_RMEFF]
        (d.on GOV_CTL_EN = false ∨ est.toNat ≤ d.cap → ∃ t, exec (.governorEstimate est temp fabDue groups) s = s.next t ∧
          t.rd GOV_STAT_EST = est.toNat ∧ t.rd GOV_STAT_TEMP = temp.toNat ∧ t.rd GOV_STAT_THERM = 0 ∧ d.regsOnly t shown) ∧
        (d.on GOV_CTL_EN = true → d.cap < est.toNat → d.rd GOV_STAT_STEP = 0 → d.rd GOV_CTL_RMMIN < d.rd GOV_CTL_RMBUD →
          d.rd GOV_CTL_RMBUD < 2 ^ (GOV_STAT_RMEFF).width →
          ∃ t, exec (.governorEstimate est temp fabDue groups) s = s.next t ∧ t.rd GOV_STAT_STEP = 1 ∧
            t.rd GOV_STAT_RMEFF = max (d.rd GOV_CTL_RMMIN) (d.rd GOV_CTL_RMBUD - (est.toNat - d.cap)) ∧
            d.regsOnly t (GOV_STAT_STEP :: shown))) ∧
      (d.on GOV_STAT_THERM = false → 100 * d.rd GOV_STAT_EST < 95 * d.cap →
        (d.rd GOV_STAT_STEP = 0 → exec .governorRelax s = s.next d) ∧
        (d.rd GOV_STAT_STEP = 1 → exec .governorRelax s = s.next ((d.wr GOV_STAT_RMEFF (d.rd GOV_CTL_RMBUD)).wr GOV_STAT_STEP 0)) ∧
        (d.rd GOV_STAT_STEP = 3 → exec .governorRelax s = s.next ((d.unmute 2).wr GOV_STAT_STEP (if d.rd GOV_STAT_FABLIM < 60 then 2 else 1)))) ∧
      (d.on GOV_STAT_THERM = true ∨ 95 * d.cap ≤ 100 * d.rd GOV_STAT_EST → exec .governorRelax s = s.next d))

/-- Rest (R513 to R516, R536): ENTER on a quiet device begins the entry, otherwise REJ with its reason; entry completes once every
ensemble is parked; a register, the timebase or a pin wakes the device, and the wake gives back what the entry took. -/
def Obligations.RestAndWake : Prop :=
  ∀ (s : State) (w : RegWr),
    let d := s.dev
    (d.reaches w 0x100A0 → w.one CLK_REST_ENTER = true → w.one CLK_REST_WAKE = false →
      let d1 := d.takeW1c w CLK_REST_REJ
      (∀ r, d1.restRefusal = some r → exec (.restEnter w) s = s.next ((d1.wr CLK_REST_REJ 1).wr CLK_REST_REASON r)) ∧
      (d1.restRefusal = none → exec (.restEnter w) s =
        s.next (d.ensembles.foldl (fun d x => d.trigger x.1 .park) (d1.wr CLK_REST_STATE 1)))) ∧
    (∀ levels : BitVec 48, d.rd CLK_REST_STATE = 1 → (∀ x ∈ d.ensembles, x.2.phase = 3) → d.on CLK_PMBUS_EN = false →
      d.on CLK_STAT_COAST = false → d.wakePend = none → d.on TB_WAKE_EN = false →
      ∃ t, exec (.restEntryComplete false levels) s = s.next t ∧ t.rd CLK_REST_STATE = 2 ∧ t.rd CLK_STAT_LOCK = 4 ∧
        t.rd CLK_IOPLL_LOCK = 0 ∧ t.restLevels = levels.toNat ∧ t.mem = d.mem ∧
        (∀ n : Fin 1024, d.rd (BANK_OWN_PSTATE n.val) = 1 → t.rd (BANK_OWN_PSTATE n.val) = 2) ∧
        (∀ L : LaneId, t.rd (LANE_STAT_PSTATE L.val) = 0)) ∧
    (d.reaches w 0x100A0 → w.one CLK_REST_ENTER = false → w.one CLK_REST_WAKE = true → d.rd CLK_REST_STATE = 2 →
      exec (.restWake w) s = s.next ((((d.takeW1c w CLK_REST_REJ).wr CLK_REST_STATE 3).wr CLK_REST_WAKESRC 0).report
        { cls := .slate, bare := true })) ∧
    (d.on TB_WAKE_EN = true → d.rd CLK_REST_STATE = 2 →
      (d.rd TB_WAKE_SEC * 1000000000 + d.rd TB_WAKE_NS ≤ d.nowNs → exec .timebaseWake s =
        s.next ((((d.wr TB_WAKE_EN 0).wr CLK_REST_STATE 3).wr CLK_REST_WAKESRC 1).report { cls := .slate, bare := true })) ∧
      (d.nowNs < d.rd TB_WAKE_SEC * 1000000000 + d.rd TB_WAKE_NS → exec .timebaseWake s = s.next d)) ∧
    (∀ (pin : Fin 48) (level : Bool), d.rd CLK_REST_STATE = 2 → d.bit GPIO_WAKE_PINS pin.val = true →
      d.bit GPIO_OE_PINS pin.val = false → d.pinOwner pin.val = 0 →
      exec (.gpioWakeEdge pin level) s = if level = d.restLevels.testBit pin.val then s.next d
        else s.next (((d.wr CLK_REST_STATE 3).wr CLK_REST_WAKESRC 2).report { cls := .slate, bare := true })) ∧
    (d.rd CLK_REST_STATE = 3 → d.on CLK_STAT_COAST = false → d.on CLK_PMBUS_EN = false → d.bankWait = [] → d.recWait = [] → d.ensembles = [] →
      d.lanesHeld = [] → ∃ t, exec .wakeComplete s = s.next t ∧ t.rd CLK_REST_STATE = 0 ∧ t.rd CLK_STAT_LOCK = 15 ∧
        (∀ n : Fin 1024, d.rd (BANK_OWN_PSTATE n.val) = 2 → t.rd (BANK_OWN_PSTATE n.val) = 1) ∧ t.mem = d.mem)

/-- The timebase (R83, R517 to R521): SET loads a legal time at the next edge, which is a step; a read of TB_NOW latches the seconds; a
PPS edge is captured and, with MODE 0, steps to the nearest second; its absence for 1.1 s is a holdover. -/
def Obligations.TimebaseRules : Prop :=
  ∀ (s : State) (w : RegWr),
    let d := s.dev
    (d.reaches w 0x420000 → w.one TB_CTL_SET = true → d.on TB_CTL_PPS_EN = true →
      let took := (d.take w TB_CTL_PPS_EN).take w TB_CTL_MODE
      exec (.tbSet w) s = s.next (if 999999999 < d.rd TB_SET_NS then took.wr CLK_STAT_CFGERR 1
        else { took with time := { d.time with load := true } })) ∧
    (d.time.load = true → d.time.run = true → d.runningCmds = [] → d.on TB_WAKE_EN = false →
      ∃ t, exec .timebaseStep s = s.next t ∧
        t.time = { d.time with load := false, sec := d.rd TB_SET_SEC % 2 ^ 32, ns := d.rd TB_SET_NS, six := 0, frac := 0 } ∧
        t.on TB_STAT_STEPPED = true ∧ t.on TB_STAT_UNTRUE = false) ∧
    (∀ p : Port, d.access (.host p) 0x420010 false = .ok → exec (.tbNowRead (.host p)) s =
      s.next ((d.wr TB_SECHI_SEC d.time.sec).emit (.regData (.host p) d.stamp))) ∧
    (∀ learned : BitVec 32, d.on TB_CTL_PPS_EN = true → d.pinOwner 40 = 6 → d.time.run = true →
      (d.ppsValid = false → exec (.ppsEdge learned) s = s.next (d.wr TB_PPSCAP_CAP d.stamp)) ∧
      (d.ppsValid = true → d.on TB_CTL_MODE = false → d.runningCmds = [] → d.on TB_WAKE_EN = false → d.time.ns < 1000000000 →
        ∃ t, exec (.ppsEdge learned) s = s.next t ∧ t.rd TB_PPSCAP_CAP = d.stamp ∧ t.time.ns = 0 ∧
          t.time.sec = (d.time.sec + if d.time.ns < 500000000 then 0 else 1) % 2 ^ 32 ∧ t.on TB_STAT_HOLDOVER = false ∧
          (t.rd TB_STAT_LOCKED = 1 ↔ (d.time.ns ≤ 100 ∨ 999999900 ≤ d.time.ns)))) ∧
    (∀ t0, d.on TB_CTL_PPS_EN = true → d.on TB_STAT_HOLDOVER = false → d.time.run = true → d.time.lastPps = some t0 →
      (1100000000 ≤ d.since t0 → exec .ppsHoldover s = s.next (d.raise { cls := .slate, flag := TB_STAT_HOLDOVER })) ∧
      (d.since t0 < 1100000000 → exec .ppsHoldover s = s.next d))

/-! Pins (chapter 21). -/

/-- Service pins (R529, R530, R533, R535, R537): an EVENT input pulses its event, a waiting pulse leaves on its pin; a transfer begins
with its peripheral free and enabled, and its end gives the bytes back; a change of owner keeps the level for the hand-over, in which
GPIO writes wait; a conversion is at most four codes off; the UART's FIFO holds 64 bytes.

User I/O cells and the TAP (R257 to R260, R488, R541, R543): an active edge moves the oldest value of a FIFO to the pin or the pin's
level into a FIFO, and a value its synchronizer left unresolved is a free value (R250); an empty or a full one is an underrun or an overrun; a calibration moves a tap by one step; test instructions but
the boundary's are BYPASS once the device is Deployed. -/
def Obligations.Pins : Prop :=
  (∀ (s : State),
      let d := s.dev
      (∀ k : Fin 8, d.eventPin k.val = true →
        (d.on (SVC_EVCFG_DIR k.val) = false → 9 ≤ d.rd RESET_STAT_PHASE →
          exec (.eventInput k) s = s.next (d.pulse (d.rd (SVC_EVCFG_EV k.val)))) ∧
        (∀ n, KMap.get d.evPulses k.val 0 = n + 1 → exec (.eventOutputPulse k) s =
          s.next ((({ d with evPulses := KMap.put d.evPulses k.val n }).emit (.pin (24 + k.val) true)).emit (.pin (24 + k.val) false)))) ∧
      (∀ w : RegWr, d.reaches w 0x30308 → w.one SVC_XFER_GO = true →
        let d1 := d.takeW1c w SVC_XFER_ERR
        let per := d.wval w SVC_XFER_PER
        (d.on SVC_XFER_BUSY = true ∨ d.perEnabled per = false → exec (.svcTransfer w) s = s.next (d1.wr PIN_STAT_CFGERR 1)) ∧
        (d.on SVC_XFER_BUSY = false → d.perEnabled per = true →
          let took := [SVC_XFER_PER, SVC_XFER_WLEN, SVC_XFER_RLEN, SVC_XFER_TADDR].foldl (fun d f => d.take w f) d1
          exec (.svcTransfer w) s = s.next ((took.wr SVC_XFER_BUSY 1).emit (.service (1 + per)
            ([took.rd SVC_XFER_TADDR, took.rd SVC_XFER_RLEN] ++ (took.xdata.take (took.rd SVC_XFER_WLEN)).map (·.toNat)))))) ∧
      (∀ (err : Bool) (data : List Byte), d.on SVC_XFER_BUSY = true → d.rd SVC_XFER_PER ≠ 2 → d.rd SVC_XFER_RLEN = 8 → data.length = 8 →
        ∃ t, exec (.svcTransferDone err data) s = s.next t ∧ t.rd SVC_XFER_BUSY = 0 ∧ t.rd SVC_XFER_RCNT = 8 ∧
          t.rd (SVC_XDATA_DATA 0) = numLE data ∧ (err = true → t.rd SVC_XFER_ERR = 1) ∧
          d.regsOnly t ([SVC_XFER_BUSY, SVC_XFER_RCNT, SVC_XFER_ERR] ++ (List.range 4).map SVC_XDATA_DATA)) ∧
      (∀ (pin : Fin 48) (level : Bool), KMap.get d.owners pin.val 0 ≠ d.pinDriver pin.val → KMap.find d.handovers pin.val = none → d.tap ≠ 2 →
        exec (.pinOwnerChange pin level) s = s.next { d with owners := KMap.put d.owners pin.val (d.pinDriver pin.val)
                                                             handovers := KMap.put d.handovers pin.val ⟨level, none, none⟩ }) ∧
      (∀ (pin : Fin 48) (level out oe : Bool), KMap.find d.handovers pin.val = some ⟨level, some out, some oe⟩ →
        exec (.pinHandoverEnd pin) s = s.next ((({ d with handovers := KMap.del d.handovers pin.val }).wrBit GPIO_OUT_PINS pin.val out).wrBit
          GPIO_OE_PINS pin.val oe)) ∧
      (∀ (k : Fin 8) (uv : BitVec 24), d.pinOwner (32 + k.val) = 7 → uv.toNat ≤ 1200000 →
        ∃ t, exec (.adcConversion k uv) s = s.next t ∧ uv.toNat * 4095 / 1200000 ≤ t.rd (ADC_CH_VALUE k.val) + 4 ∧
          t.rd (ADC_CH_VALUE k.val) ≤ uv.toNat * 4095 / 1200000 + 4 ∧ t.rd (ADC_CH_VALUE k.val) ≤ 4095 ∧
          d.regsOnly { t with free := d.free } [ADC_CH_VALUE k.val]) ∧
      (∀ byte : Byte, d.on PIN_FUNC_UART = true → d.pinServes 10 2 = true →
        (d.uart.length < 64 → exec (.uartReceive byte false) s = s.next { d with uart := d.uart ++ [byte] }) ∧
        (64 ≤ d.uart.length → ∃ t, exec (.uartReceive byte false) s = s.next t ∧ t.on SVC_XFER_ERR = true ∧ t.uart = d.uart))) ∧
  (∀ (s : State) (cell : Fin 384),
      let d := s.dev
      let i := cell.val
      (∀ input : IoSample, d.ioRuns i = false → exec (.activeEdge cell true input) s = s.next d) ∧
      (∀ input : IoSample, d.ioRuns i = true → input.fault = false →
        let p := d.pumpCell i
        let q := if input.unresolved then p.burn else p
        (p.rd (IOCELL_DIR i) = 1 →
          (∀ v rest, (p.ioAt i).tx0 = v :: rest → exec (.activeEdge cell true input) s =
            s.next ((q.updIo i fun x => { x with tx0 := rest, level := if input.unresolved then p.peekWord.getLsbD 0 else v }).pumpCell i)) ∧
          ((p.ioAt i).tx0 = [] → exec (.activeEdge cell true input) s = s.next ((p.wr (IOCELL_UNDER i) 1).pumpCell i))) ∧
        (p.rd (IOCELL_DIR i) = 0 → exec (.activeEdge cell true input) s = s.next (if 4 ≤ p.rxHeld i false
          then (p.wr (IOCELL_OVER i) 1).pumpCell i
          else (q.updIo i fun x =>
            { x with rx0 := x.rx0 ++ [if input.unresolved then p.peekWord.getLsbD 0 else input.level] }).pumpCell i))) ∧
      (d.ioRuns i = true → d.rd (IOCELL_DIR i) = 1 → (d.ioAt i).tx0 = [] → exec (.ioUnderrun cell) s = s.next (d.wr (IOCELL_UNDER i) 1)) ∧
      (d.ioRuns i = true → d.rd (IOCELL_DIR i) = 0 → 4 ≤ d.rxHeld i false → exec (.ioOverrun cell) s = s.next (d.wr (IOCELL_OVER i) 1)) ∧
      (∀ (bank : Fin 12) (ps : BitVec 16), d.time.run = true → d.on (IOBANK_CAL_EN bank.val) = true → i / 32 = bank.val →
        let tap := fun t : Dev => KMap.get t.taps i (tapTarget (d.rd (IOCELL_DELAY i)) 1280)
        let goal := tapTarget (d.rd (IOCELL_DELAY i)) ps.toNat
        ∃ t, exec (.delayCalibration bank ps) s = s.next t ∧ KMap.find t.replicas bank.val = some ps.toNat ∧
          (goal = tap d → tap t = tap d) ∧ (tap d < goal → tap t = tap d + 1) ∧ (goal < tap d → tap t = tap d - 1) ∧
          { t with replicas := d.replicas, taps := d.taps } = d) ∧
      (∀ n : BitVec 8, exec (.tapInstruction (.other n)) s = s.next { d with tap := if d.lc < 2 then 3 else 0 }) ∧
      (∀ x ∈ [TapInstr.extest, .extestPulse, .extestTrain], exec (.tapInstruction x) s = s.next { d with tap := 2 }) ∧
      exec (.tapInstruction .bypass) s = s.next { d with tap := 0 } ∧
      exec (.tapInstruction .idcode) s = s.next { d with tap := 1 } ∧
      exec .testLogicReset s = s.next { d with tap := 1 })

/-! Resets (chapter 22). -/

/-- Start-up (R475, R494, R548, R554, R555): a cold reset keeps the non-volatile stores alone; each phase follows the one before it, and
READY comes with the pool banks On. -/
def Obligations.StartUp : Prop :=
  ∀ (s : State),
    let d := s.dev
    (∃ t, exec .coldReset s = s.next t ∧ t.regs = [] ∧ t.mem = [] ∧ t.queues = [] ∧ t.kernels = [] ∧ t.buffers = [] ∧ t.tables = [] ∧
      t.errq = [] ∧ t.held = false ∧ t.time = {} ∧ t.nvLc = d.nvLc ∧ t.nvGens = d.nvGens ∧ t.nvWear = d.nvWear ∧
      t.lcTarget = d.lcTarget ∧ t.nearVia = d.nearVia ∧ (d.keyOp = none → t.nvSlots = d.nvSlots ∧ t.nvKeys = d.nvKeys) ∧
      (d.hostOp = none → t.nvBlocks = d.nvBlocks)) ∧
    (∀ (role : Bool) (dly : BitVec 3) (boot pull : BitVec 2) (io : BitVec 24), d.rd RESET_STAT_PHASE = 0 →
      ∃ t, exec (.porRelease role dly boot pull io) s = s.next t ∧ t.rd RESET_STAT_PHASE = 1 ∧ t.rd PIN_STRAP_TWIN_ROLE = b2n role ∧
        t.rd PIN_STRAP_OSC_DLY = dly.toNat ∧ t.rd PIN_STRAP_BOOT_SRC = boot.toNat ∧ t.rd PIN_STRAP_IOPULL = pull.toNat ∧
        t.rd TWIN_STAT_ROLE = b2n role ∧ t.vddio = io.toNat) ∧
    (d.rd RESET_STAT_PHASE ≠ 0 → ∀ role dly boot pull io, exec (.porRelease role dly boot pull io) s = s.next d) ∧
    (d.rd RESET_STAT_PHASE = 5 → d.nvGens = [] → d.lcTarget = none → exec .keyStoreReadDone s =
      s.next ((((d.wr RESET_STAT_PHASE 6).wr SEC_LC_STATE d.nvLc).wr SEC_SLOTS_FILLED d.nvSlots).wr GLB_SERIAL_SERIAL
        Config.serial.toNat)) ∧
    (d.rd RESET_STAT_PHASE = 7 → ∀ us : List (BitVec 24), exec (.startupSelftestDone us) s =
      s.next ((us.map (·.toNat)).foldl Dev.exhaust (d.wr RESET_STAT_PHASE 8))) ∧
    (d.rd RESET_STAT_PHASE = 8 → ∀ us : BitVec 32, ∃ t, exec (.storeClearDone us) s = s.next t ∧ t.rd RESET_STAT_PHASE = 9 ∧
      t.rd RESET_TIME_READY = us.toNat ∧ ∀ c n, c < 64 → d.poolBank c = some n → t.rd (BANK_OWN_PSTATE n) = 1)

/-- Warm resets and die resets (R60, R547, R549 to R553): a warm reset keeps the store, the kernels and the journals, and sends every
command that has not completed back to its acceptance; its end replays them. A die reset shows the die until it ends. -/
def Obligations.Resets : Prop :=
  ∀ (s : State) (w : RegWr),
    let d := s.dev
    (∀ ns : BitVec 32, ns.toNat < 100 → exec (.warmReset ns) s = s.next d) ∧
    (∀ ns : BitVec 32, 1000 ≤ ns.toNat → exec (.warmReset ns) s = s.next (d.warmStart 1)) ∧
    (d.reaches w 0x20000 → w.one RESET_CTL_WARM = true →
      (w.ones RESET_CTL_KEY = 0xA5 → exec (.resetCtlWarm w) s = s.next (d.warmStart 2)) ∧
      (w.ones RESET_CTL_KEY ≠ 0xA5 → exec (.resetCtlWarm w) s = s.next (d.wr RESET_STAT_CFGERR 1))) ∧
    (∀ cause, cause < 4 → d.rd RESET_STAT_PHASE = 9 → d.held = false → d.shadowing = false → d.load = none → d.buffers = [] →
      d.groups = [] → d.barriers = [] → d.queues = [] → d.bankWait = [] → d.storeOpen = true → (∀ n : Fin 64, d.on (PEG_STAT_HELD n.val) = false) →
      (d.kernels.all fun x => x.2.ready && x.2.run.isNone) = true →
      let t := d.warmStart cause
      t.rd RESET_STAT_PHASE = 10 ∧ t.rd RESET_STAT_LAST = cause ∧ t.resetWarm = true ∧ t.on STORE_STAT_RESETTING = true ∧ t.mem = d.mem ∧
        t.frames = d.frames ∧ t.params = d.params ∧ t.toks = [] ∧ t.holds = [] ∧ t.xfers = [] ∧
        (∀ h k, d.kernel h = some k → t.kernel h = some k)) ∧
    (∀ us : BitVec 32, d.resetWarm = true → d.storeOpen = false → d.bankWait = [] → d.recWait = [] → d.resetWait = [] → d.topWait = [] → d.queues = [] → d.lostJournals = [] →
      (d.port .a).held = [] → (d.port .b).held = [] →
      ∃ t, exec (.warmResetComplete us) s = s.next t ∧ t.rd RESET_STAT_PHASE = 9 ∧ t.rd RESET_TIME_WARM = us.toNat ∧ t.resetWarm = false ∧
        t.storeOpen = true ∧ t.mem = d.mem) ∧
    (d.reaches w 0x20010 → w.one RESET_DIE_GO = true → w.ones RESET_DIE_KEY ≠ 0xA5 →
      exec (.dieReset w) s = s.next (d.wr RESET_STAT_CFGERR 1)) ∧
    (d.reaches w 0x20010 → w.one RESET_DIE_GO = true → w.ones RESET_DIE_KEY = 0xA5 → w.ones RESET_DIE_DIE = 2 → d.load = none →
      d.resetWarm = false → 2 ∉ d.dieResets → exec (.dieReset w) s =
        s.next { ((d.wr RESET_STAT_DIEBUSY 1).wr RESET_STAT_DIE 2).wr RESET_STAT_DWDOG 0 with dieResets := d.dieResets ++ [2] }) ∧
    (4 ≤ d.rd RESET_STAT_PHASE → d.load = none → d.resetWarm = false → 2 ∉ d.dieResets → exec (.dieWatchdog 2) s =
      s.next (({ ((d.wr RESET_STAT_DIEBUSY 1).wr RESET_STAT_DIE 2).wr RESET_STAT_DWDOG 1 with
        dieResets := d.dieResets ++ [2] }).report { cls := .crimson, flag := RESET_STAT_DWDOG })) ∧
    (d.dieResets = [2] → exec .dieResetEnd s = s.next { d.wr RESET_STAT_DIEBUSY 0 with dieResets := [] })

/-! The whole machine. -/

/-- Every command of the table runs, whatever the state: a step never faults and never is refused, and it takes exactly the command
at the front of the queue (log entries 6, 31 and 73 say what the model chose there). -/
def Obligations.EveryStepRuns : Prop :=
  (∀ (k : Nat) (s : State), Safe k s) ∧ ∀ s t : State, step s = .next t → t.pending = s.pending.tail

/-- The store's listing keeps its canonical form under every step: addresses strictly rising, no entry equal to what an unlisted
address reads as. -/
def Obligations.MemoryStaysCanonical : Prop :=
  ∀ s t : State, Memory.wf s.dev.mem = true → step s = .next t → Memory.wf t.dev.mem = true

/-- The device right after a cold reset (R9, R548): every register field at its reset value, nothing stored, nothing placed, the
start-up at its first phase, and no command waiting; the store's listing is canonical. The start-up values the tables give. -/
def Obligations.ResetState : Prop :=
  let d := State.reset.dev
  State.reset.pending = [] ∧ Memory.wf d.mem = true ∧ (∀ f : Field, d.rd f = f.reset) ∧ d.mem = [] ∧ d.queues = [] ∧ d.kernels = [] ∧
    d.buffers = [] ∧ d.tables = [] ∧ d.errq = [] ∧ d.running = false ∧ (∀ w < 2 ^ 23, d.findWord w = .poison) ∧
    [CLK_GATE0_GATE, CLK_FABV_EFF, GOV_CTL_RMBUD, GOV_STAT_RMEFF, RESET_STAT_PHASE, QU_CTL_EN 0, PLACE_CTL_MODE, PLACE_CTL_HYST,
      STORE_CTL_PATROL, ERR_CTL_EN, TWIN_STAT_STATE].map d.rd =
    [0xC000F, 0x28, 0x78, 0x78, 0, 0, 0, 0x40, 1, 0, 0]

/-- Events (R448, R449, R451): an event sets its flag and no other bit there; a Crimson one counts in ERR_ALARM and sets PEND; its
record waits for the ring when ERR_CTL.EN is 1, and is dropped and counted when it is 0. -/
def Obligations.Events : Prop :=
  ∀ (d : Dev) (e : Ev), e.bit < e.flag.width → e.test = false →
    (∀ f ∈ [ERR_ALARM_CCOUNT, ERR_ALARM_PEND, ERR_STAT_DROPPED, dropField e.cls, ERR_CTL_EN], f.key ≠ e.flag.key) →
    let t := d.raise e
    (∀ i < e.flag.width, t.bit e.flag i = (decide (i = e.bit) || d.bit e.flag i)) ∧
    (e.cls = .crimson → t.on ERR_ALARM_PEND = true ∧
      t.rd ERR_ALARM_CCOUNT = min (d.rd ERR_ALARM_CCOUNT + 1) (2 ^ (ERR_ALARM_CCOUNT).width - 1)) ∧
    (e.cls ≠ .crimson → t.rd ERR_ALARM_PEND = d.rd ERR_ALARM_PEND ∧ t.rd ERR_ALARM_CCOUNT = d.rd ERR_ALARM_CCOUNT) ∧
    (d.on ERR_CTL_EN = true → ∃ r, t.errq = d.errq ++ [r] ∧ r.cls = e.cls ∧ r.w1 % 16 = e.ukind % 16 ∧
      r.w1 / 2 ^ 8 % 2 ^ 24 = e.uid % 2 ^ 24 ∧ r.w2 = e.detail % 2 ^ 64 ∧ r.w3 = d.stamp) ∧
    (d.on ERR_CTL_EN = false → t.errq = d.errq ∧ t.on ERR_STAT_DROPPED = true ∧
      t.rd (dropField e.cls) = min (d.rd (dropField e.cls) + 1) (2 ^ (dropField e.cls).width - 1)) ∧
    d.regsOnly { t with errq := d.errq, free := d.free }
      [e.flag, ERR_ALARM_CCOUNT, ERR_ALARM_PEND, ERR_STAT_DROPPED, dropField e.cls]

/-- Words of the store (R24, R261, R262, R264, R266): a word that is stored is found good, with its bytes; every other word is found as
before; a word made poison is found as poison; an unlisted word is poison. -/
def Obligations.StoreWords : Prop :=
  ∀ (d : Dev) (w : Nat) (b : List Byte), w < 2 ^ 23 → b.length = 32 → d.on STORE_FLIP_CTL_ARM = false →
    let t := d.putWord w b
    t.findWord w = .good b ∧ (∀ i < 32, t.byteAt (32 * w + i) = b.getD i 0) ∧
    (∀ a < 2 ^ 28, a / 32 ≠ w → t.byteAt a = d.byteAt a) ∧
    (∀ v < 2 ^ 23, v ≠ w → t.findWord v = d.findWord v ∧ (d.poisonWord w).findWord v = d.findWord v) ∧
    (d.poisonWord w).findWord w = .poison ∧ (∀ v < 2 ^ 23, ({} : Dev).findWord v = .poison) ∧
    t.regs = d.regs ∧ t.buffers = d.buffers ∧ t.queues = d.queues

/-- Command words (R46, R47, R72, R73, chapter 03): the words of a command whose fields are in range spell that command, with its
opcode, its flags and its length. -/
def Obligations.CommandWordsReadBack : Prop :=
  ∀ (c : Cmd) (f : CmdFlags), c.inRange = true → c.stopPlain = true →
    let ws := encodeCmd c f
    decodeCmd ws = some c ∧ opcodeOf (ws.getD 0 0) = c.opcode ∧ flagsOf (ws.getD 0 0) = f ∧ wordsOf (ws.getD 0 0) = ws.length
end

