-- ==== Sys2Proof/Laws/State.lean ====
section
/-!
SUPPORT. What each plain update of the device leaves alone: one lemma per field per update, true by rfl, so that no proof
unfolds a record update.
-/
namespace Sys2Proof.Machine

/-! The state: the device and the commands that wait. -/

@[simp] theorem State.next_def (s : State) (d : Dev) : s.next d = .next { s with dev := d } := rfl

/-! Field writes stand in one form, Dev.wr. -/

@[simp] theorem Dev.set_eq (d : Dev) (f : Field) : d.set f = d.wr f 1 := rfl
@[simp] theorem Dev.clr_eq (d : Dev) (f : Field) : d.clr f = d.wr f 0 := rfl
@[simp] theorem Dev.inc_eq (d : Dev) (f : Field) : d.inc f = d.wr f (d.rd f + 1) := rfl
@[simp] theorem Dev.incSat_eq (d : Dev) (f : Field) (n : Nat) :
    d.incSat f n = d.wr f (min (d.rd f + n) (2 ^ f.width - 1)) := rfl
@[simp] theorem Dev.wrBit_eq (d : Dev) (f : Field) (i : Nat) (b : Bool) : d.wrBit f i b = d.wr f (setBit (d.rd f) i b) := rfl
@[simp] theorem Dev.take_eq (d : Dev) (w : RegWr) (f : Field) : d.take w f = d.wr f (d.wval w f) := rfl

/-! Dev.wr changes regs alone. -/

@[simp] theorem Dev.wr_free (d : Dev) (f : Field) (v : Nat) : (d.wr f v).free = d.free := rfl
@[simp] theorem Dev.wr_out (d : Dev) (f : Field) (v : Nat) : (d.wr f v).out = d.out := rfl
@[simp] theorem Dev.wr_queues (d : Dev) (f : Field) (v : Nat) : (d.wr f v).queues = d.queues := rfl
@[simp] theorem Dev.wr_acceptTurns (d : Dev) (f : Field) (v : Nat) : (d.wr f v).acceptTurns = d.acceptTurns := rfl
@[simp] theorem Dev.wr_issueTurns (d : Dev) (f : Field) (v : Nat) : (d.wr f v).issueTurns = d.issueTurns := rfl
@[simp] theorem Dev.wr_barriers (d : Dev) (f : Field) (v : Nat) : (d.wr f v).barriers = d.barriers := rfl
@[simp] theorem Dev.wr_errq (d : Dev) (f : Field) (v : Nat) : (d.wr f v).errq = d.errq := rfl
@[simp] theorem Dev.wr_buckets (d : Dev) (f : Field) (v : Nat) : (d.wr f v).buckets = d.buckets := rfl
@[simp] theorem Dev.wr_strings (d : Dev) (f : Field) (v : Nat) : (d.wr f v).strings = d.strings := rfl
@[simp] theorem Dev.wr_retired (d : Dev) (f : Field) (v : Nat) : (d.wr f v).retired = d.retired := rfl
@[simp] theorem Dev.wr_flipped (d : Dev) (f : Field) (v : Nat) : (d.wr f v).flipped = d.flipped := rfl
@[simp] theorem Dev.wr_mem (d : Dev) (f : Field) (v : Nat) : (d.wr f v).mem = d.mem := rfl
@[simp] theorem Dev.wr_sealedRows (d : Dev) (f : Field) (v : Nat) : (d.wr f v).sealedRows = d.sealedRows := rfl
@[simp] theorem Dev.wr_writeBacks (d : Dev) (f : Field) (v : Nat) : (d.wr f v).writeBacks = d.writeBacks := rfl
@[simp] theorem Dev.wr_bankWait (d : Dev) (f : Field) (v : Nat) : (d.wr f v).bankWait = d.bankWait := rfl
@[simp] theorem Dev.wr_recWait (d : Dev) (f : Field) (v : Nat) : (d.wr f v).recWait = d.recWait := rfl
@[simp] theorem Dev.wr_resetWait (d : Dev) (f : Field) (v : Nat) : (d.wr f v).resetWait = d.resetWait := rfl
@[simp] theorem Dev.wr_buffers (d : Dev) (f : Field) (v : Nat) : (d.wr f v).buffers = d.buffers := rfl
@[simp] theorem Dev.wr_kernels (d : Dev) (f : Field) (v : Nat) : (d.wr f v).kernels = d.kernels := rfl
@[simp] theorem Dev.wr_ensembles (d : Dev) (f : Field) (v : Nat) : (d.wr f v).ensembles = d.ensembles := rfl
@[simp] theorem Dev.wr_migrations (d : Dev) (f : Field) (v : Nat) : (d.wr f v).migrations = d.migrations := rfl
@[simp] theorem Dev.wr_bufMoves (d : Dev) (f : Field) (v : Nat) : (d.wr f v).bufMoves = d.bufMoves := rfl
@[simp] theorem Dev.wr_occ (d : Dev) (f : Field) (v : Nat) : (d.wr f v).occ = d.occ := rfl
@[simp] theorem Dev.wr_replayEntry (d : Dev) (f : Field) (v : Nat) : (d.wr f v).replayEntry = d.replayEntry := rfl
@[simp] theorem Dev.wr_replayEnd (d : Dev) (f : Field) (v : Nat) : (d.wr f v).replayEnd = d.replayEnd := rfl
@[simp] theorem Dev.wr_recStop (d : Dev) (f : Field) (v : Nat) : (d.wr f v).recStop = d.recStop := rfl
@[simp] theorem Dev.wr_lostJournals (d : Dev) (f : Field) (v : Nat) : (d.wr f v).lostJournals = d.lostJournals := rfl
@[simp] theorem Dev.wr_rootLost (d : Dev) (f : Field) (v : Nat) : (d.wr f v).rootLost = d.rootLost := rfl
@[simp] theorem Dev.wr_frames (d : Dev) (f : Field) (v : Nat) : (d.wr f v).frames = d.frames := rfl
@[simp] theorem Dev.wr_badFrames (d : Dev) (f : Field) (v : Nat) : (d.wr f v).badFrames = d.badFrames := rfl
@[simp] theorem Dev.wr_planeCrcs (d : Dev) (f : Field) (v : Nat) : (d.wr f v).planeCrcs = d.planeCrcs := rfl
@[simp] theorem Dev.wr_badPlanes (d : Dev) (f : Field) (v : Nat) : (d.wr f v).badPlanes = d.badPlanes := rfl
@[simp] theorem Dev.wr_holds (d : Dev) (f : Field) (v : Nat) : (d.wr f v).holds = d.holds := rfl
@[simp] theorem Dev.wr_toks (d : Dev) (f : Field) (v : Nat) : (d.wr f v).toks = d.toks := rfl
@[simp] theorem Dev.wr_params (d : Dev) (f : Field) (v : Nat) : (d.wr f v).params = d.params := rfl
@[simp] theorem Dev.wr_paramHeld (d : Dev) (f : Field) (v : Nat) : (d.wr f v).paramHeld = d.paramHeld := rfl
@[simp] theorem Dev.wr_parks (d : Dev) (f : Field) (v : Nat) : (d.wr f v).parks = d.parks := rfl
@[simp] theorem Dev.wr_rowRegs (d : Dev) (f : Field) (v : Nat) : (d.wr f v).rowRegs = d.rowRegs := rfl
@[simp] theorem Dev.wr_rowReqs (d : Dev) (f : Field) (v : Nat) : (d.wr f v).rowReqs = d.rowReqs := rfl
@[simp] theorem Dev.wr_moveTurn (d : Dev) (f : Field) (v : Nat) : (d.wr f v).moveTurn = d.moveTurn := rfl
@[simp] theorem Dev.wr_bmem (d : Dev) (f : Field) (v : Nat) : (d.wr f v).bmem = d.bmem := rfl
@[simp] theorem Dev.wr_bmemBack (d : Dev) (f : Field) (v : Nat) : (d.wr f v).bmemBack = d.bmemBack := rfl
@[simp] theorem Dev.wr_memHolds (d : Dev) (f : Field) (v : Nat) : (d.wr f v).memHolds = d.memHolds := rfl
@[simp] theorem Dev.wr_debugWait (d : Dev) (f : Field) (v : Nat) : (d.wr f v).debugWait = d.debugWait := rfl
@[simp] theorem Dev.wr_undef (d : Dev) (f : Field) (v : Nat) : (d.wr f v).undef = d.undef := rfl
@[simp] theorem Dev.wr_tileResets (d : Dev) (f : Field) (v : Nat) : (d.wr f v).tileResets = d.tileResets := rfl
@[simp] theorem Dev.wr_portals (d : Dev) (f : Field) (v : Nat) : (d.wr f v).portals = d.portals := rfl
@[simp] theorem Dev.wr_lateArrivals (d : Dev) (f : Field) (v : Nat) : (d.wr f v).lateArrivals = d.lateArrivals := rfl
@[simp] theorem Dev.wr_remap (d : Dev) (f : Field) (v : Nat) : (d.wr f v).remap = d.remap := rfl
@[simp] theorem Dev.wr_meter (d : Dev) (f : Field) (v : Nat) : (d.wr f v).meter = d.meter := rfl
@[simp] theorem Dev.wr_tables (d : Dev) (f : Field) (v : Nat) : (d.wr f v).tables = d.tables := rfl
@[simp] theorem Dev.wr_drains (d : Dev) (f : Field) (v : Nat) : (d.wr f v).drains = d.drains := rfl
@[simp] theorem Dev.wr_stageWait (d : Dev) (f : Field) (v : Nat) : (d.wr f v).stageWait = d.stageWait := rfl
@[simp] theorem Dev.wr_topWait (d : Dev) (f : Field) (v : Nat) : (d.wr f v).topWait = d.topWait := rfl
@[simp] theorem Dev.wr_load (d : Dev) (f : Field) (v : Nat) : (d.wr f v).load = d.load := rfl
@[simp] theorem Dev.wr_hostOp (d : Dev) (f : Field) (v : Nat) : (d.wr f v).hostOp = d.hostOp := rfl
@[simp] theorem Dev.wr_nearVia (d : Dev) (f : Field) (v : Nat) : (d.wr f v).nearVia = d.nearVia := rfl
@[simp] theorem Dev.wr_nvBlocks (d : Dev) (f : Field) (v : Nat) : (d.wr f v).nvBlocks = d.nvBlocks := rfl
@[simp] theorem Dev.wr_nvWear (d : Dev) (f : Field) (v : Nat) : (d.wr f v).nvWear = d.nvWear := rfl
@[simp] theorem Dev.wr_chainPos (d : Dev) (f : Field) (v : Nat) : (d.wr f v).chainPos = d.chainPos := rfl
@[simp] theorem Dev.wr_chainTaken (d : Dev) (f : Field) (v : Nat) : (d.wr f v).chainTaken = d.chainTaken := rfl
@[simp] theorem Dev.wr_groups (d : Dev) (f : Field) (v : Nat) : (d.wr f v).groups = d.groups := rfl
@[simp] theorem Dev.wr_lines (d : Dev) (f : Field) (v : Nat) : (d.wr f v).lines = d.lines := rfl
@[simp] theorem Dev.wr_prbs (d : Dev) (f : Field) (v : Nat) : (d.wr f v).prbs = d.prbs := rfl
@[simp] theorem Dev.wr_xfers (d : Dev) (f : Field) (v : Nat) : (d.wr f v).xfers = d.xfers := rfl
@[simp] theorem Dev.wr_dma (d : Dev) (f : Field) (v : Nat) : (d.wr f v).dma = d.dma := rfl
@[simp] theorem Dev.wr_armers (d : Dev) (f : Field) (v : Nat) : (d.wr f v).armers = d.armers := rfl
@[simp] theorem Dev.wr_dmaLog (d : Dev) (f : Field) (v : Nat) : (d.wr f v).dmaLog = d.dmaLog := rfl
@[simp] theorem Dev.wr_dmaRedo (d : Dev) (f : Field) (v : Nat) : (d.wr f v).dmaRedo = d.dmaRedo := rfl
@[simp] theorem Dev.wr_credits (d : Dev) (f : Field) (v : Nat) : (d.wr f v).credits = d.credits := rfl
@[simp] theorem Dev.wr_markers (d : Dev) (f : Field) (v : Nat) : (d.wr f v).markers = d.markers := rfl
@[simp] theorem Dev.wr_heldPackets (d : Dev) (f : Field) (v : Nat) : (d.wr f v).heldPackets = d.heldPackets := rfl
@[simp] theorem Dev.wr_noc (d : Dev) (f : Field) (v : Nat) : (d.wr f v).noc = d.noc := rfl
@[simp] theorem Dev.wr_capo (d : Dev) (f : Field) (v : Nat) : (d.wr f v).capo = d.capo := rfl
@[simp] theorem Dev.wr_held (d : Dev) (f : Field) (v : Nat) : (d.wr f v).held = d.held := rfl
@[simp] theorem Dev.wr_mon (d : Dev) (f : Field) (v : Nat) : (d.wr f v).mon = d.mon := rfl
@[simp] theorem Dev.wr_time (d : Dev) (f : Field) (v : Nat) : (d.wr f v).time = d.time := rfl
@[simp] theorem Dev.wr_opStep (d : Dev) (f : Field) (v : Nat) : (d.wr f v).opStep = d.opStep := rfl
@[simp] theorem Dev.wr_wakePend (d : Dev) (f : Field) (v : Nat) : (d.wr f v).wakePend = d.wakePend := rfl
@[simp] theorem Dev.wr_restLevels (d : Dev) (f : Field) (v : Nat) : (d.wr f v).restLevels = d.restLevels := rfl
@[simp] theorem Dev.wr_lanesHeld (d : Dev) (f : Field) (v : Nat) : (d.wr f v).lanesHeld = d.lanesHeld := rfl
@[simp] theorem Dev.wr_handovers (d : Dev) (f : Field) (v : Nat) : (d.wr f v).handovers = d.handovers := rfl
@[simp] theorem Dev.wr_owners (d : Dev) (f : Field) (v : Nat) : (d.wr f v).owners = d.owners := rfl
@[simp] theorem Dev.wr_evPulses (d : Dev) (f : Field) (v : Nat) : (d.wr f v).evPulses = d.evPulses := rfl
@[simp] theorem Dev.wr_io (d : Dev) (f : Field) (v : Nat) : (d.wr f v).io = d.io := rfl
@[simp] theorem Dev.wr_taps (d : Dev) (f : Field) (v : Nat) : (d.wr f v).taps = d.taps := rfl
@[simp] theorem Dev.wr_replicas (d : Dev) (f : Field) (v : Nat) : (d.wr f v).replicas = d.replicas := rfl
@[simp] theorem Dev.wr_uart (d : Dev) (f : Field) (v : Nat) : (d.wr f v).uart = d.uart := rfl
@[simp] theorem Dev.wr_tap (d : Dev) (f : Field) (v : Nat) : (d.wr f v).tap = d.tap := rfl
@[simp] theorem Dev.wr_keyOp (d : Dev) (f : Field) (v : Nat) : (d.wr f v).keyOp = d.keyOp := rfl
@[simp] theorem Dev.wr_wrapShown (d : Dev) (f : Field) (v : Nat) : (d.wr f v).wrapShown = d.wrapShown := rfl
@[simp] theorem Dev.wr_keyData (d : Dev) (f : Field) (v : Nat) : (d.wr f v).keyData = d.keyData := rfl
@[simp] theorem Dev.wr_lcArmed (d : Dev) (f : Field) (v : Nat) : (d.wr f v).lcArmed = d.lcArmed := rfl
@[simp] theorem Dev.wr_lcTarget (d : Dev) (f : Field) (v : Nat) : (d.wr f v).lcTarget = d.lcTarget := rfl
@[simp] theorem Dev.wr_nvLc (d : Dev) (f : Field) (v : Nat) : (d.wr f v).nvLc = d.nvLc := rfl
@[simp] theorem Dev.wr_nvSlots (d : Dev) (f : Field) (v : Nat) : (d.wr f v).nvSlots = d.nvSlots := rfl
@[simp] theorem Dev.wr_nvKeys (d : Dev) (f : Field) (v : Nat) : (d.wr f v).nvKeys = d.nvKeys := rfl
@[simp] theorem Dev.wr_nvGens (d : Dev) (f : Field) (v : Nat) : (d.wr f v).nvGens = d.nvGens := rfl
@[simp] theorem Dev.wr_lcLost (d : Dev) (f : Field) (v : Nat) : (d.wr f v).lcLost = d.lcLost := rfl
@[simp] theorem Dev.wr_vddio (d : Dev) (f : Field) (v : Nat) : (d.wr f v).vddio = d.vddio := rfl
@[simp] theorem Dev.wr_dieResets (d : Dev) (f : Field) (v : Nat) : (d.wr f v).dieResets = d.dieResets := rfl
@[simp] theorem Dev.wr_resetWarm (d : Dev) (f : Field) (v : Nat) : (d.wr f v).resetWarm = d.resetWarm := rfl
@[simp] theorem Dev.wr_ports (d : Dev) (f : Field) (v : Nat) : (d.wr f v).ports = d.ports := rfl

/-! Dev.emit changes out alone. -/

@[simp] theorem Dev.emit_regs (d : Dev) (e : OutEvent) : (d.emit e).regs = d.regs := rfl
@[simp] theorem Dev.emit_free (d : Dev) (e : OutEvent) : (d.emit e).free = d.free := rfl
@[simp] theorem Dev.emit_queues (d : Dev) (e : OutEvent) : (d.emit e).queues = d.queues := rfl
@[simp] theorem Dev.emit_acceptTurns (d : Dev) (e : OutEvent) : (d.emit e).acceptTurns = d.acceptTurns := rfl
@[simp] theorem Dev.emit_issueTurns (d : Dev) (e : OutEvent) : (d.emit e).issueTurns = d.issueTurns := rfl
@[simp] theorem Dev.emit_barriers (d : Dev) (e : OutEvent) : (d.emit e).barriers = d.barriers := rfl
@[simp] theorem Dev.emit_errq (d : Dev) (e : OutEvent) : (d.emit e).errq = d.errq := rfl
@[simp] theorem Dev.emit_buckets (d : Dev) (e : OutEvent) : (d.emit e).buckets = d.buckets := rfl
@[simp] theorem Dev.emit_strings (d : Dev) (e : OutEvent) : (d.emit e).strings = d.strings := rfl
@[simp] theorem Dev.emit_retired (d : Dev) (e : OutEvent) : (d.emit e).retired = d.retired := rfl
@[simp] theorem Dev.emit_flipped (d : Dev) (e : OutEvent) : (d.emit e).flipped = d.flipped := rfl
@[simp] theorem Dev.emit_mem (d : Dev) (e : OutEvent) : (d.emit e).mem = d.mem := rfl
@[simp] theorem Dev.emit_sealedRows (d : Dev) (e : OutEvent) : (d.emit e).sealedRows = d.sealedRows := rfl
@[simp] theorem Dev.emit_writeBacks (d : Dev) (e : OutEvent) : (d.emit e).writeBacks = d.writeBacks := rfl
@[simp] theorem Dev.emit_bankWait (d : Dev) (e : OutEvent) : (d.emit e).bankWait = d.bankWait := rfl
@[simp] theorem Dev.emit_recWait (d : Dev) (e : OutEvent) : (d.emit e).recWait = d.recWait := rfl
@[simp] theorem Dev.emit_resetWait (d : Dev) (e : OutEvent) : (d.emit e).resetWait = d.resetWait := rfl
@[simp] theorem Dev.emit_buffers (d : Dev) (e : OutEvent) : (d.emit e).buffers = d.buffers := rfl
@[simp] theorem Dev.emit_kernels (d : Dev) (e : OutEvent) : (d.emit e).kernels = d.kernels := rfl
@[simp] theorem Dev.emit_ensembles (d : Dev) (e : OutEvent) : (d.emit e).ensembles = d.ensembles := rfl
@[simp] theorem Dev.emit_migrations (d : Dev) (e : OutEvent) : (d.emit e).migrations = d.migrations := rfl
@[simp] theorem Dev.emit_bufMoves (d : Dev) (e : OutEvent) : (d.emit e).bufMoves = d.bufMoves := rfl
@[simp] theorem Dev.emit_occ (d : Dev) (e : OutEvent) : (d.emit e).occ = d.occ := rfl
@[simp] theorem Dev.emit_replayEntry (d : Dev) (e : OutEvent) : (d.emit e).replayEntry = d.replayEntry := rfl
@[simp] theorem Dev.emit_replayEnd (d : Dev) (e : OutEvent) : (d.emit e).replayEnd = d.replayEnd := rfl
@[simp] theorem Dev.emit_recStop (d : Dev) (e : OutEvent) : (d.emit e).recStop = d.recStop := rfl
@[simp] theorem Dev.emit_lostJournals (d : Dev) (e : OutEvent) : (d.emit e).lostJournals = d.lostJournals := rfl
@[simp] theorem Dev.emit_rootLost (d : Dev) (e : OutEvent) : (d.emit e).rootLost = d.rootLost := rfl
@[simp] theorem Dev.emit_frames (d : Dev) (e : OutEvent) : (d.emit e).frames = d.frames := rfl
@[simp] theorem Dev.emit_badFrames (d : Dev) (e : OutEvent) : (d.emit e).badFrames = d.badFrames := rfl
@[simp] theorem Dev.emit_planeCrcs (d : Dev) (e : OutEvent) : (d.emit e).planeCrcs = d.planeCrcs := rfl
@[simp] theorem Dev.emit_badPlanes (d : Dev) (e : OutEvent) : (d.emit e).badPlanes = d.badPlanes := rfl
@[simp] theorem Dev.emit_holds (d : Dev) (e : OutEvent) : (d.emit e).holds = d.holds := rfl
@[simp] theorem Dev.emit_toks (d : Dev) (e : OutEvent) : (d.emit e).toks = d.toks := rfl
@[simp] theorem Dev.emit_params (d : Dev) (e : OutEvent) : (d.emit e).params = d.params := rfl
@[simp] theorem Dev.emit_paramHeld (d : Dev) (e : OutEvent) : (d.emit e).paramHeld = d.paramHeld := rfl
@[simp] theorem Dev.emit_parks (d : Dev) (e : OutEvent) : (d.emit e).parks = d.parks := rfl
@[simp] theorem Dev.emit_rowRegs (d : Dev) (e : OutEvent) : (d.emit e).rowRegs = d.rowRegs := rfl
@[simp] theorem Dev.emit_rowReqs (d : Dev) (e : OutEvent) : (d.emit e).rowReqs = d.rowReqs := rfl
@[simp] theorem Dev.emit_moveTurn (d : Dev) (e : OutEvent) : (d.emit e).moveTurn = d.moveTurn := rfl
@[simp] theorem Dev.emit_bmem (d : Dev) (e : OutEvent) : (d.emit e).bmem = d.bmem := rfl
@[simp] theorem Dev.emit_bmemBack (d : Dev) (e : OutEvent) : (d.emit e).bmemBack = d.bmemBack := rfl
@[simp] theorem Dev.emit_memHolds (d : Dev) (e : OutEvent) : (d.emit e).memHolds = d.memHolds := rfl
@[simp] theorem Dev.emit_debugWait (d : Dev) (e : OutEvent) : (d.emit e).debugWait = d.debugWait := rfl
@[simp] theorem Dev.emit_undef (d : Dev) (e : OutEvent) : (d.emit e).undef = d.undef := rfl
@[simp] theorem Dev.emit_tileResets (d : Dev) (e : OutEvent) : (d.emit e).tileResets = d.tileResets := rfl
@[simp] theorem Dev.emit_portals (d : Dev) (e : OutEvent) : (d.emit e).portals = d.portals := rfl
@[simp] theorem Dev.emit_lateArrivals (d : Dev) (e : OutEvent) : (d.emit e).lateArrivals = d.lateArrivals := rfl
@[simp] theorem Dev.emit_remap (d : Dev) (e : OutEvent) : (d.emit e).remap = d.remap := rfl
@[simp] theorem Dev.emit_meter (d : Dev) (e : OutEvent) : (d.emit e).meter = d.meter := rfl
@[simp] theorem Dev.emit_tables (d : Dev) (e : OutEvent) : (d.emit e).tables = d.tables := rfl
@[simp] theorem Dev.emit_drains (d : Dev) (e : OutEvent) : (d.emit e).drains = d.drains := rfl
@[simp] theorem Dev.emit_stageWait (d : Dev) (e : OutEvent) : (d.emit e).stageWait = d.stageWait := rfl
@[simp] theorem Dev.emit_topWait (d : Dev) (e : OutEvent) : (d.emit e).topWait = d.topWait := rfl
@[simp] theorem Dev.emit_load (d : Dev) (e : OutEvent) : (d.emit e).load = d.load := rfl
@[simp] theorem Dev.emit_hostOp (d : Dev) (e : OutEvent) : (d.emit e).hostOp = d.hostOp := rfl
@[simp] theorem Dev.emit_nearVia (d : Dev) (e : OutEvent) : (d.emit e).nearVia = d.nearVia := rfl
@[simp] theorem Dev.emit_nvBlocks (d : Dev) (e : OutEvent) : (d.emit e).nvBlocks = d.nvBlocks := rfl
@[simp] theorem Dev.emit_nvWear (d : Dev) (e : OutEvent) : (d.emit e).nvWear = d.nvWear := rfl
@[simp] theorem Dev.emit_chainPos (d : Dev) (e : OutEvent) : (d.emit e).chainPos = d.chainPos := rfl
@[simp] theorem Dev.emit_chainTaken (d : Dev) (e : OutEvent) : (d.emit e).chainTaken = d.chainTaken := rfl
@[simp] theorem Dev.emit_groups (d : Dev) (e : OutEvent) : (d.emit e).groups = d.groups := rfl
@[simp] theorem Dev.emit_lines (d : Dev) (e : OutEvent) : (d.emit e).lines = d.lines := rfl
@[simp] theorem Dev.emit_prbs (d : Dev) (e : OutEvent) : (d.emit e).prbs = d.prbs := rfl
@[simp] theorem Dev.emit_xfers (d : Dev) (e : OutEvent) : (d.emit e).xfers = d.xfers := rfl
@[simp] theorem Dev.emit_dma (d : Dev) (e : OutEvent) : (d.emit e).dma = d.dma := rfl
@[simp] theorem Dev.emit_armers (d : Dev) (e : OutEvent) : (d.emit e).armers = d.armers := rfl
@[simp] theorem Dev.emit_dmaLog (d : Dev) (e : OutEvent) : (d.emit e).dmaLog = d.dmaLog := rfl
@[simp] theorem Dev.emit_dmaRedo (d : Dev) (e : OutEvent) : (d.emit e).dmaRedo = d.dmaRedo := rfl
@[simp] theorem Dev.emit_credits (d : Dev) (e : OutEvent) : (d.emit e).credits = d.credits := rfl
@[simp] theorem Dev.emit_markers (d : Dev) (e : OutEvent) : (d.emit e).markers = d.markers := rfl
@[simp] theorem Dev.emit_heldPackets (d : Dev) (e : OutEvent) : (d.emit e).heldPackets = d.heldPackets := rfl
@[simp] theorem Dev.emit_noc (d : Dev) (e : OutEvent) : (d.emit e).noc = d.noc := rfl
@[simp] theorem Dev.emit_capo (d : Dev) (e : OutEvent) : (d.emit e).capo = d.capo := rfl
@[simp] theorem Dev.emit_held (d : Dev) (e : OutEvent) : (d.emit e).held = d.held := rfl
@[simp] theorem Dev.emit_mon (d : Dev) (e : OutEvent) : (d.emit e).mon = d.mon := rfl
@[simp] theorem Dev.emit_time (d : Dev) (e : OutEvent) : (d.emit e).time = d.time := rfl
@[simp] theorem Dev.emit_opStep (d : Dev) (e : OutEvent) : (d.emit e).opStep = d.opStep := rfl
@[simp] theorem Dev.emit_wakePend (d : Dev) (e : OutEvent) : (d.emit e).wakePend = d.wakePend := rfl
@[simp] theorem Dev.emit_restLevels (d : Dev) (e : OutEvent) : (d.emit e).restLevels = d.restLevels := rfl
@[simp] theorem Dev.emit_lanesHeld (d : Dev) (e : OutEvent) : (d.emit e).lanesHeld = d.lanesHeld := rfl
@[simp] theorem Dev.emit_handovers (d : Dev) (e : OutEvent) : (d.emit e).handovers = d.handovers := rfl
@[simp] theorem Dev.emit_owners (d : Dev) (e : OutEvent) : (d.emit e).owners = d.owners := rfl
@[simp] theorem Dev.emit_evPulses (d : Dev) (e : OutEvent) : (d.emit e).evPulses = d.evPulses := rfl
@[simp] theorem Dev.emit_io (d : Dev) (e : OutEvent) : (d.emit e).io = d.io := rfl
@[simp] theorem Dev.emit_taps (d : Dev) (e : OutEvent) : (d.emit e).taps = d.taps := rfl
@[simp] theorem Dev.emit_replicas (d : Dev) (e : OutEvent) : (d.emit e).replicas = d.replicas := rfl
@[simp] theorem Dev.emit_uart (d : Dev) (e : OutEvent) : (d.emit e).uart = d.uart := rfl
@[simp] theorem Dev.emit_tap (d : Dev) (e : OutEvent) : (d.emit e).tap = d.tap := rfl
@[simp] theorem Dev.emit_keyOp (d : Dev) (e : OutEvent) : (d.emit e).keyOp = d.keyOp := rfl
@[simp] theorem Dev.emit_wrapShown (d : Dev) (e : OutEvent) : (d.emit e).wrapShown = d.wrapShown := rfl
@[simp] theorem Dev.emit_keyData (d : Dev) (e : OutEvent) : (d.emit e).keyData = d.keyData := rfl
@[simp] theorem Dev.emit_lcArmed (d : Dev) (e : OutEvent) : (d.emit e).lcArmed = d.lcArmed := rfl
@[simp] theorem Dev.emit_lcTarget (d : Dev) (e : OutEvent) : (d.emit e).lcTarget = d.lcTarget := rfl
@[simp] theorem Dev.emit_nvLc (d : Dev) (e : OutEvent) : (d.emit e).nvLc = d.nvLc := rfl
@[simp] theorem Dev.emit_nvSlots (d : Dev) (e : OutEvent) : (d.emit e).nvSlots = d.nvSlots := rfl
@[simp] theorem Dev.emit_nvKeys (d : Dev) (e : OutEvent) : (d.emit e).nvKeys = d.nvKeys := rfl
@[simp] theorem Dev.emit_nvGens (d : Dev) (e : OutEvent) : (d.emit e).nvGens = d.nvGens := rfl
@[simp] theorem Dev.emit_lcLost (d : Dev) (e : OutEvent) : (d.emit e).lcLost = d.lcLost := rfl
@[simp] theorem Dev.emit_vddio (d : Dev) (e : OutEvent) : (d.emit e).vddio = d.vddio := rfl
@[simp] theorem Dev.emit_dieResets (d : Dev) (e : OutEvent) : (d.emit e).dieResets = d.dieResets := rfl
@[simp] theorem Dev.emit_resetWarm (d : Dev) (e : OutEvent) : (d.emit e).resetWarm = d.resetWarm := rfl
@[simp] theorem Dev.emit_ports (d : Dev) (e : OutEvent) : (d.emit e).ports = d.ports := rfl

/-! Dev.burn changes free alone. -/

@[simp] theorem Dev.burn_regs (d : Dev) : (d.burn).regs = d.regs := rfl
@[simp] theorem Dev.burn_out (d : Dev) : (d.burn).out = d.out := rfl
@[simp] theorem Dev.burn_queues (d : Dev) : (d.burn).queues = d.queues := rfl
@[simp] theorem Dev.burn_acceptTurns (d : Dev) : (d.burn).acceptTurns = d.acceptTurns := rfl
@[simp] theorem Dev.burn_issueTurns (d : Dev) : (d.burn).issueTurns = d.issueTurns := rfl
@[simp] theorem Dev.burn_barriers (d : Dev) : (d.burn).barriers = d.barriers := rfl
@[simp] theorem Dev.burn_errq (d : Dev) : (d.burn).errq = d.errq := rfl
@[simp] theorem Dev.burn_buckets (d : Dev) : (d.burn).buckets = d.buckets := rfl
@[simp] theorem Dev.burn_strings (d : Dev) : (d.burn).strings = d.strings := rfl
@[simp] theorem Dev.burn_retired (d : Dev) : (d.burn).retired = d.retired := rfl
@[simp] theorem Dev.burn_flipped (d : Dev) : (d.burn).flipped = d.flipped := rfl
@[simp] theorem Dev.burn_mem (d : Dev) : (d.burn).mem = d.mem := rfl
@[simp] theorem Dev.burn_sealedRows (d : Dev) : (d.burn).sealedRows = d.sealedRows := rfl
@[simp] theorem Dev.burn_writeBacks (d : Dev) : (d.burn).writeBacks = d.writeBacks := rfl
@[simp] theorem Dev.burn_bankWait (d : Dev) : (d.burn).bankWait = d.bankWait := rfl
@[simp] theorem Dev.burn_recWait (d : Dev) : (d.burn).recWait = d.recWait := rfl
@[simp] theorem Dev.burn_resetWait (d : Dev) : (d.burn).resetWait = d.resetWait := rfl
@[simp] theorem Dev.burn_buffers (d : Dev) : (d.burn).buffers = d.buffers := rfl
@[simp] theorem Dev.burn_kernels (d : Dev) : (d.burn).kernels = d.kernels := rfl
@[simp] theorem Dev.burn_ensembles (d : Dev) : (d.burn).ensembles = d.ensembles := rfl
@[simp] theorem Dev.burn_migrations (d : Dev) : (d.burn).migrations = d.migrations := rfl
@[simp] theorem Dev.burn_bufMoves (d : Dev) : (d.burn).bufMoves = d.bufMoves := rfl
@[simp] theorem Dev.burn_occ (d : Dev) : (d.burn).occ = d.occ := rfl
@[simp] theorem Dev.burn_replayEntry (d : Dev) : (d.burn).replayEntry = d.replayEntry := rfl
@[simp] theorem Dev.burn_replayEnd (d : Dev) : (d.burn).replayEnd = d.replayEnd := rfl
@[simp] theorem Dev.burn_recStop (d : Dev) : (d.burn).recStop = d.recStop := rfl
@[simp] theorem Dev.burn_lostJournals (d : Dev) : (d.burn).lostJournals = d.lostJournals := rfl
@[simp] theorem Dev.burn_rootLost (d : Dev) : (d.burn).rootLost = d.rootLost := rfl
@[simp] theorem Dev.burn_frames (d : Dev) : (d.burn).frames = d.frames := rfl
@[simp] theorem Dev.burn_badFrames (d : Dev) : (d.burn).badFrames = d.badFrames := rfl
@[simp] theorem Dev.burn_planeCrcs (d : Dev) : (d.burn).planeCrcs = d.planeCrcs := rfl
@[simp] theorem Dev.burn_badPlanes (d : Dev) : (d.burn).badPlanes = d.badPlanes := rfl
@[simp] theorem Dev.burn_holds (d : Dev) : (d.burn).holds = d.holds := rfl
@[simp] theorem Dev.burn_toks (d : Dev) : (d.burn).toks = d.toks := rfl
@[simp] theorem Dev.burn_params (d : Dev) : (d.burn).params = d.params := rfl
@[simp] theorem Dev.burn_paramHeld (d : Dev) : (d.burn).paramHeld = d.paramHeld := rfl
@[simp] theorem Dev.burn_parks (d : Dev) : (d.burn).parks = d.parks := rfl
@[simp] theorem Dev.burn_rowRegs (d : Dev) : (d.burn).rowRegs = d.rowRegs := rfl
@[simp] theorem Dev.burn_rowReqs (d : Dev) : (d.burn).rowReqs = d.rowReqs := rfl
@[simp] theorem Dev.burn_moveTurn (d : Dev) : (d.burn).moveTurn = d.moveTurn := rfl
@[simp] theorem Dev.burn_bmem (d : Dev) : (d.burn).bmem = d.bmem := rfl
@[simp] theorem Dev.burn_bmemBack (d : Dev) : (d.burn).bmemBack = d.bmemBack := rfl
@[simp] theorem Dev.burn_memHolds (d : Dev) : (d.burn).memHolds = d.memHolds := rfl
@[simp] theorem Dev.burn_debugWait (d : Dev) : (d.burn).debugWait = d.debugWait := rfl
@[simp] theorem Dev.burn_undef (d : Dev) : (d.burn).undef = d.undef := rfl
@[simp] theorem Dev.burn_tileResets (d : Dev) : (d.burn).tileResets = d.tileResets := rfl
@[simp] theorem Dev.burn_portals (d : Dev) : (d.burn).portals = d.portals := rfl
@[simp] theorem Dev.burn_lateArrivals (d : Dev) : (d.burn).lateArrivals = d.lateArrivals := rfl
@[simp] theorem Dev.burn_remap (d : Dev) : (d.burn).remap = d.remap := rfl
@[simp] theorem Dev.burn_meter (d : Dev) : (d.burn).meter = d.meter := rfl
@[simp] theorem Dev.burn_tables (d : Dev) : (d.burn).tables = d.tables := rfl
@[simp] theorem Dev.burn_drains (d : Dev) : (d.burn).drains = d.drains := rfl
@[simp] theorem Dev.burn_stageWait (d : Dev) : (d.burn).stageWait = d.stageWait := rfl
@[simp] theorem Dev.burn_topWait (d : Dev) : (d.burn).topWait = d.topWait := rfl
@[simp] theorem Dev.burn_load (d : Dev) : (d.burn).load = d.load := rfl
@[simp] theorem Dev.burn_hostOp (d : Dev) : (d.burn).hostOp = d.hostOp := rfl
@[simp] theorem Dev.burn_nearVia (d : Dev) : (d.burn).nearVia = d.nearVia := rfl
@[simp] theorem Dev.burn_nvBlocks (d : Dev) : (d.burn).nvBlocks = d.nvBlocks := rfl
@[simp] theorem Dev.burn_nvWear (d : Dev) : (d.burn).nvWear = d.nvWear := rfl
@[simp] theorem Dev.burn_chainPos (d : Dev) : (d.burn).chainPos = d.chainPos := rfl
@[simp] theorem Dev.burn_chainTaken (d : Dev) : (d.burn).chainTaken = d.chainTaken := rfl
@[simp] theorem Dev.burn_groups (d : Dev) : (d.burn).groups = d.groups := rfl
@[simp] theorem Dev.burn_lines (d : Dev) : (d.burn).lines = d.lines := rfl
@[simp] theorem Dev.burn_prbs (d : Dev) : (d.burn).prbs = d.prbs := rfl
@[simp] theorem Dev.burn_xfers (d : Dev) : (d.burn).xfers = d.xfers := rfl
@[simp] theorem Dev.burn_dma (d : Dev) : (d.burn).dma = d.dma := rfl
@[simp] theorem Dev.burn_armers (d : Dev) : (d.burn).armers = d.armers := rfl
@[simp] theorem Dev.burn_dmaLog (d : Dev) : (d.burn).dmaLog = d.dmaLog := rfl
@[simp] theorem Dev.burn_dmaRedo (d : Dev) : (d.burn).dmaRedo = d.dmaRedo := rfl
@[simp] theorem Dev.burn_credits (d : Dev) : (d.burn).credits = d.credits := rfl
@[simp] theorem Dev.burn_markers (d : Dev) : (d.burn).markers = d.markers := rfl
@[simp] theorem Dev.burn_heldPackets (d : Dev) : (d.burn).heldPackets = d.heldPackets := rfl
@[simp] theorem Dev.burn_noc (d : Dev) : (d.burn).noc = d.noc := rfl
@[simp] theorem Dev.burn_capo (d : Dev) : (d.burn).capo = d.capo := rfl
@[simp] theorem Dev.burn_held (d : Dev) : (d.burn).held = d.held := rfl
@[simp] theorem Dev.burn_mon (d : Dev) : (d.burn).mon = d.mon := rfl
@[simp] theorem Dev.burn_time (d : Dev) : (d.burn).time = d.time := rfl
@[simp] theorem Dev.burn_opStep (d : Dev) : (d.burn).opStep = d.opStep := rfl
@[simp] theorem Dev.burn_wakePend (d : Dev) : (d.burn).wakePend = d.wakePend := rfl
@[simp] theorem Dev.burn_restLevels (d : Dev) : (d.burn).restLevels = d.restLevels := rfl
@[simp] theorem Dev.burn_lanesHeld (d : Dev) : (d.burn).lanesHeld = d.lanesHeld := rfl
@[simp] theorem Dev.burn_handovers (d : Dev) : (d.burn).handovers = d.handovers := rfl
@[simp] theorem Dev.burn_owners (d : Dev) : (d.burn).owners = d.owners := rfl
@[simp] theorem Dev.burn_evPulses (d : Dev) : (d.burn).evPulses = d.evPulses := rfl
@[simp] theorem Dev.burn_io (d : Dev) : (d.burn).io = d.io := rfl
@[simp] theorem Dev.burn_taps (d : Dev) : (d.burn).taps = d.taps := rfl
@[simp] theorem Dev.burn_replicas (d : Dev) : (d.burn).replicas = d.replicas := rfl
@[simp] theorem Dev.burn_uart (d : Dev) : (d.burn).uart = d.uart := rfl
@[simp] theorem Dev.burn_tap (d : Dev) : (d.burn).tap = d.tap := rfl
@[simp] theorem Dev.burn_keyOp (d : Dev) : (d.burn).keyOp = d.keyOp := rfl
@[simp] theorem Dev.burn_wrapShown (d : Dev) : (d.burn).wrapShown = d.wrapShown := rfl
@[simp] theorem Dev.burn_keyData (d : Dev) : (d.burn).keyData = d.keyData := rfl
@[simp] theorem Dev.burn_lcArmed (d : Dev) : (d.burn).lcArmed = d.lcArmed := rfl
@[simp] theorem Dev.burn_lcTarget (d : Dev) : (d.burn).lcTarget = d.lcTarget := rfl
@[simp] theorem Dev.burn_nvLc (d : Dev) : (d.burn).nvLc = d.nvLc := rfl
@[simp] theorem Dev.burn_nvSlots (d : Dev) : (d.burn).nvSlots = d.nvSlots := rfl
@[simp] theorem Dev.burn_nvKeys (d : Dev) : (d.burn).nvKeys = d.nvKeys := rfl
@[simp] theorem Dev.burn_nvGens (d : Dev) : (d.burn).nvGens = d.nvGens := rfl
@[simp] theorem Dev.burn_lcLost (d : Dev) : (d.burn).lcLost = d.lcLost := rfl
@[simp] theorem Dev.burn_vddio (d : Dev) : (d.burn).vddio = d.vddio := rfl
@[simp] theorem Dev.burn_dieResets (d : Dev) : (d.burn).dieResets = d.dieResets := rfl
@[simp] theorem Dev.burn_resetWarm (d : Dev) : (d.burn).resetWarm = d.resetWarm := rfl
@[simp] theorem Dev.burn_ports (d : Dev) : (d.burn).ports = d.ports := rfl

/-! Dev.setQueue changes queues alone. -/

@[simp] theorem Dev.setQueue_regs (d : Dev) (q : Nat) (x : QueueSt) : (d.setQueue q x).regs = d.regs := rfl
@[simp] theorem Dev.setQueue_free (d : Dev) (q : Nat) (x : QueueSt) : (d.setQueue q x).free = d.free := rfl
@[simp] theorem Dev.setQueue_out (d : Dev) (q : Nat) (x : QueueSt) : (d.setQueue q x).out = d.out := rfl
@[simp] theorem Dev.setQueue_acceptTurns (d : Dev) (q : Nat) (x : QueueSt) : (d.setQueue q x).acceptTurns = d.acceptTurns := rfl
@[simp] theorem Dev.setQueue_issueTurns (d : Dev) (q : Nat) (x : QueueSt) : (d.setQueue q x).issueTurns = d.issueTurns := rfl
@[simp] theorem Dev.setQueue_barriers (d : Dev) (q : Nat) (x : QueueSt) : (d.setQueue q x).barriers = d.barriers := rfl
@[simp] theorem Dev.setQueue_errq (d : Dev) (q : Nat) (x : QueueSt) : (d.setQueue q x).errq = d.errq := rfl
@[simp] theorem Dev.setQueue_buckets (d : Dev) (q : Nat) (x : QueueSt) : (d.setQueue q x).buckets = d.buckets := rfl
@[simp] theorem Dev.setQueue_strings (d : Dev) (q : Nat) (x : QueueSt) : (d.setQueue q x).strings = d.strings := rfl
@[simp] theorem Dev.setQueue_retired (d : Dev) (q : Nat) (x : QueueSt) : (d.setQueue q x).retired = d.retired := rfl
@[simp] theorem Dev.setQueue_flipped (d : Dev) (q : Nat) (x : QueueSt) : (d.setQueue q x).flipped = d.flipped := rfl
@[simp] theorem Dev.setQueue_mem (d : Dev) (q : Nat) (x : QueueSt) : (d.setQueue q x).mem = d.mem := rfl
@[simp] theorem Dev.setQueue_sealedRows (d : Dev) (q : Nat) (x : QueueSt) : (d.setQueue q x).sealedRows = d.sealedRows := rfl
@[simp] theorem Dev.setQueue_writeBacks (d : Dev) (q : Nat) (x : QueueSt) : (d.setQueue q x).writeBacks = d.writeBacks := rfl
@[simp] theorem Dev.setQueue_bankWait (d : Dev) (q : Nat) (x : QueueSt) : (d.setQueue q x).bankWait = d.bankWait := rfl
@[simp] theorem Dev.setQueue_recWait (d : Dev) (q : Nat) (x : QueueSt) : (d.setQueue q x).recWait = d.recWait := rfl
@[simp] theorem Dev.setQueue_resetWait (d : Dev) (q : Nat) (x : QueueSt) : (d.setQueue q x).resetWait = d.resetWait := rfl
@[simp] theorem Dev.setQueue_buffers (d : Dev) (q : Nat) (x : QueueSt) : (d.setQueue q x).buffers = d.buffers := rfl
@[simp] theorem Dev.setQueue_kernels (d : Dev) (q : Nat) (x : QueueSt) : (d.setQueue q x).kernels = d.kernels := rfl
@[simp] theorem Dev.setQueue_ensembles (d : Dev) (q : Nat) (x : QueueSt) : (d.setQueue q x).ensembles = d.ensembles := rfl
@[simp] theorem Dev.setQueue_migrations (d : Dev) (q : Nat) (x : QueueSt) : (d.setQueue q x).migrations = d.migrations := rfl
@[simp] theorem Dev.setQueue_bufMoves (d : Dev) (q : Nat) (x : QueueSt) : (d.setQueue q x).bufMoves = d.bufMoves := rfl
@[simp] theorem Dev.setQueue_occ (d : Dev) (q : Nat) (x : QueueSt) : (d.setQueue q x).occ = d.occ := rfl
@[simp] theorem Dev.setQueue_replayEntry (d : Dev) (q : Nat) (x : QueueSt) : (d.setQueue q x).replayEntry = d.replayEntry := rfl
@[simp] theorem Dev.setQueue_replayEnd (d : Dev) (q : Nat) (x : QueueSt) : (d.setQueue q x).replayEnd = d.replayEnd := rfl
@[simp] theorem Dev.setQueue_recStop (d : Dev) (q : Nat) (x : QueueSt) : (d.setQueue q x).recStop = d.recStop := rfl
@[simp] theorem Dev.setQueue_lostJournals (d : Dev) (q : Nat) (x : QueueSt) : (d.setQueue q x).lostJournals = d.lostJournals := rfl
@[simp] theorem Dev.setQueue_rootLost (d : Dev) (q : Nat) (x : QueueSt) : (d.setQueue q x).rootLost = d.rootLost := rfl
@[simp] theorem Dev.setQueue_frames (d : Dev) (q : Nat) (x : QueueSt) : (d.setQueue q x).frames = d.frames := rfl
@[simp] theorem Dev.setQueue_badFrames (d : Dev) (q : Nat) (x : QueueSt) : (d.setQueue q x).badFrames = d.badFrames := rfl
@[simp] theorem Dev.setQueue_planeCrcs (d : Dev) (q : Nat) (x : QueueSt) : (d.setQueue q x).planeCrcs = d.planeCrcs := rfl
@[simp] theorem Dev.setQueue_badPlanes (d : Dev) (q : Nat) (x : QueueSt) : (d.setQueue q x).badPlanes = d.badPlanes := rfl
@[simp] theorem Dev.setQueue_holds (d : Dev) (q : Nat) (x : QueueSt) : (d.setQueue q x).holds = d.holds := rfl
@[simp] theorem Dev.setQueue_toks (d : Dev) (q : Nat) (x : QueueSt) : (d.setQueue q x).toks = d.toks := rfl
@[simp] theorem Dev.setQueue_params (d : Dev) (q : Nat) (x : QueueSt) : (d.setQueue q x).params = d.params := rfl
@[simp] theorem Dev.setQueue_paramHeld (d : Dev) (q : Nat) (x : QueueSt) : (d.setQueue q x).paramHeld = d.paramHeld := rfl
@[simp] theorem Dev.setQueue_parks (d : Dev) (q : Nat) (x : QueueSt) : (d.setQueue q x).parks = d.parks := rfl
@[simp] theorem Dev.setQueue_rowRegs (d : Dev) (q : Nat) (x : QueueSt) : (d.setQueue q x).rowRegs = d.rowRegs := rfl
@[simp] theorem Dev.setQueue_rowReqs (d : Dev) (q : Nat) (x : QueueSt) : (d.setQueue q x).rowReqs = d.rowReqs := rfl
@[simp] theorem Dev.setQueue_moveTurn (d : Dev) (q : Nat) (x : QueueSt) : (d.setQueue q x).moveTurn = d.moveTurn := rfl
@[simp] theorem Dev.setQueue_bmem (d : Dev) (q : Nat) (x : QueueSt) : (d.setQueue q x).bmem = d.bmem := rfl
@[simp] theorem Dev.setQueue_bmemBack (d : Dev) (q : Nat) (x : QueueSt) : (d.setQueue q x).bmemBack = d.bmemBack := rfl
@[simp] theorem Dev.setQueue_memHolds (d : Dev) (q : Nat) (x : QueueSt) : (d.setQueue q x).memHolds = d.memHolds := rfl
@[simp] theorem Dev.setQueue_debugWait (d : Dev) (q : Nat) (x : QueueSt) : (d.setQueue q x).debugWait = d.debugWait := rfl
@[simp] theorem Dev.setQueue_undef (d : Dev) (q : Nat) (x : QueueSt) : (d.setQueue q x).undef = d.undef := rfl
@[simp] theorem Dev.setQueue_tileResets (d : Dev) (q : Nat) (x : QueueSt) : (d.setQueue q x).tileResets = d.tileResets := rfl
@[simp] theorem Dev.setQueue_portals (d : Dev) (q : Nat) (x : QueueSt) : (d.setQueue q x).portals = d.portals := rfl
@[simp] theorem Dev.setQueue_lateArrivals (d : Dev) (q : Nat) (x : QueueSt) : (d.setQueue q x).lateArrivals = d.lateArrivals := rfl
@[simp] theorem Dev.setQueue_remap (d : Dev) (q : Nat) (x : QueueSt) : (d.setQueue q x).remap = d.remap := rfl
@[simp] theorem Dev.setQueue_meter (d : Dev) (q : Nat) (x : QueueSt) : (d.setQueue q x).meter = d.meter := rfl
@[simp] theorem Dev.setQueue_tables (d : Dev) (q : Nat) (x : QueueSt) : (d.setQueue q x).tables = d.tables := rfl
@[simp] theorem Dev.setQueue_drains (d : Dev) (q : Nat) (x : QueueSt) : (d.setQueue q x).drains = d.drains := rfl
@[simp] theorem Dev.setQueue_stageWait (d : Dev) (q : Nat) (x : QueueSt) : (d.setQueue q x).stageWait = d.stageWait := rfl
@[simp] theorem Dev.setQueue_topWait (d : Dev) (q : Nat) (x : QueueSt) : (d.setQueue q x).topWait = d.topWait := rfl
@[simp] theorem Dev.setQueue_load (d : Dev) (q : Nat) (x : QueueSt) : (d.setQueue q x).load = d.load := rfl
@[simp] theorem Dev.setQueue_hostOp (d : Dev) (q : Nat) (x : QueueSt) : (d.setQueue q x).hostOp = d.hostOp := rfl
@[simp] theorem Dev.setQueue_nearVia (d : Dev) (q : Nat) (x : QueueSt) : (d.setQueue q x).nearVia = d.nearVia := rfl
@[simp] theorem Dev.setQueue_nvBlocks (d : Dev) (q : Nat) (x : QueueSt) : (d.setQueue q x).nvBlocks = d.nvBlocks := rfl
@[simp] theorem Dev.setQueue_nvWear (d : Dev) (q : Nat) (x : QueueSt) : (d.setQueue q x).nvWear = d.nvWear := rfl
@[simp] theorem Dev.setQueue_chainPos (d : Dev) (q : Nat) (x : QueueSt) : (d.setQueue q x).chainPos = d.chainPos := rfl
@[simp] theorem Dev.setQueue_chainTaken (d : Dev) (q : Nat) (x : QueueSt) : (d.setQueue q x).chainTaken = d.chainTaken := rfl
@[simp] theorem Dev.setQueue_groups (d : Dev) (q : Nat) (x : QueueSt) : (d.setQueue q x).groups = d.groups := rfl
@[simp] theorem Dev.setQueue_lines (d : Dev) (q : Nat) (x : QueueSt) : (d.setQueue q x).lines = d.lines := rfl
@[simp] theorem Dev.setQueue_prbs (d : Dev) (q : Nat) (x : QueueSt) : (d.setQueue q x).prbs = d.prbs := rfl
@[simp] theorem Dev.setQueue_xfers (d : Dev) (q : Nat) (x : QueueSt) : (d.setQueue q x).xfers = d.xfers := rfl
@[simp] theorem Dev.setQueue_dma (d : Dev) (q : Nat) (x : QueueSt) : (d.setQueue q x).dma = d.dma := rfl
@[simp] theorem Dev.setQueue_armers (d : Dev) (q : Nat) (x : QueueSt) : (d.setQueue q x).armers = d.armers := rfl
@[simp] theorem Dev.setQueue_dmaLog (d : Dev) (q : Nat) (x : QueueSt) : (d.setQueue q x).dmaLog = d.dmaLog := rfl
@[simp] theorem Dev.setQueue_dmaRedo (d : Dev) (q : Nat) (x : QueueSt) : (d.setQueue q x).dmaRedo = d.dmaRedo := rfl
@[simp] theorem Dev.setQueue_credits (d : Dev) (q : Nat) (x : QueueSt) : (d.setQueue q x).credits = d.credits := rfl
@[simp] theorem Dev.setQueue_markers (d : Dev) (q : Nat) (x : QueueSt) : (d.setQueue q x).markers = d.markers := rfl
@[simp] theorem Dev.setQueue_heldPackets (d : Dev) (q : Nat) (x : QueueSt) : (d.setQueue q x).heldPackets = d.heldPackets := rfl
@[simp] theorem Dev.setQueue_noc (d : Dev) (q : Nat) (x : QueueSt) : (d.setQueue q x).noc = d.noc := rfl
@[simp] theorem Dev.setQueue_capo (d : Dev) (q : Nat) (x : QueueSt) : (d.setQueue q x).capo = d.capo := rfl
@[simp] theorem Dev.setQueue_held (d : Dev) (q : Nat) (x : QueueSt) : (d.setQueue q x).held = d.held := rfl
@[simp] theorem Dev.setQueue_mon (d : Dev) (q : Nat) (x : QueueSt) : (d.setQueue q x).mon = d.mon := rfl
@[simp] theorem Dev.setQueue_time (d : Dev) (q : Nat) (x : QueueSt) : (d.setQueue q x).time = d.time := rfl
@[simp] theorem Dev.setQueue_opStep (d : Dev) (q : Nat) (x : QueueSt) : (d.setQueue q x).opStep = d.opStep := rfl
@[simp] theorem Dev.setQueue_wakePend (d : Dev) (q : Nat) (x : QueueSt) : (d.setQueue q x).wakePend = d.wakePend := rfl
@[simp] theorem Dev.setQueue_restLevels (d : Dev) (q : Nat) (x : QueueSt) : (d.setQueue q x).restLevels = d.restLevels := rfl
@[simp] theorem Dev.setQueue_lanesHeld (d : Dev) (q : Nat) (x : QueueSt) : (d.setQueue q x).lanesHeld = d.lanesHeld := rfl
@[simp] theorem Dev.setQueue_handovers (d : Dev) (q : Nat) (x : QueueSt) : (d.setQueue q x).handovers = d.handovers := rfl
@[simp] theorem Dev.setQueue_owners (d : Dev) (q : Nat) (x : QueueSt) : (d.setQueue q x).owners = d.owners := rfl
@[simp] theorem Dev.setQueue_evPulses (d : Dev) (q : Nat) (x : QueueSt) : (d.setQueue q x).evPulses = d.evPulses := rfl
@[simp] theorem Dev.setQueue_io (d : Dev) (q : Nat) (x : QueueSt) : (d.setQueue q x).io = d.io := rfl
@[simp] theorem Dev.setQueue_taps (d : Dev) (q : Nat) (x : QueueSt) : (d.setQueue q x).taps = d.taps := rfl
@[simp] theorem Dev.setQueue_replicas (d : Dev) (q : Nat) (x : QueueSt) : (d.setQueue q x).replicas = d.replicas := rfl
@[simp] theorem Dev.setQueue_uart (d : Dev) (q : Nat) (x : QueueSt) : (d.setQueue q x).uart = d.uart := rfl
@[simp] theorem Dev.setQueue_tap (d : Dev) (q : Nat) (x : QueueSt) : (d.setQueue q x).tap = d.tap := rfl
@[simp] theorem Dev.setQueue_keyOp (d : Dev) (q : Nat) (x : QueueSt) : (d.setQueue q x).keyOp = d.keyOp := rfl
@[simp] theorem Dev.setQueue_wrapShown (d : Dev) (q : Nat) (x : QueueSt) : (d.setQueue q x).wrapShown = d.wrapShown := rfl
@[simp] theorem Dev.setQueue_keyData (d : Dev) (q : Nat) (x : QueueSt) : (d.setQueue q x).keyData = d.keyData := rfl
@[simp] theorem Dev.setQueue_lcArmed (d : Dev) (q : Nat) (x : QueueSt) : (d.setQueue q x).lcArmed = d.lcArmed := rfl
@[simp] theorem Dev.setQueue_lcTarget (d : Dev) (q : Nat) (x : QueueSt) : (d.setQueue q x).lcTarget = d.lcTarget := rfl
@[simp] theorem Dev.setQueue_nvLc (d : Dev) (q : Nat) (x : QueueSt) : (d.setQueue q x).nvLc = d.nvLc := rfl
@[simp] theorem Dev.setQueue_nvSlots (d : Dev) (q : Nat) (x : QueueSt) : (d.setQueue q x).nvSlots = d.nvSlots := rfl
@[simp] theorem Dev.setQueue_nvKeys (d : Dev) (q : Nat) (x : QueueSt) : (d.setQueue q x).nvKeys = d.nvKeys := rfl
@[simp] theorem Dev.setQueue_nvGens (d : Dev) (q : Nat) (x : QueueSt) : (d.setQueue q x).nvGens = d.nvGens := rfl
@[simp] theorem Dev.setQueue_lcLost (d : Dev) (q : Nat) (x : QueueSt) : (d.setQueue q x).lcLost = d.lcLost := rfl
@[simp] theorem Dev.setQueue_vddio (d : Dev) (q : Nat) (x : QueueSt) : (d.setQueue q x).vddio = d.vddio := rfl
@[simp] theorem Dev.setQueue_dieResets (d : Dev) (q : Nat) (x : QueueSt) : (d.setQueue q x).dieResets = d.dieResets := rfl
@[simp] theorem Dev.setQueue_resetWarm (d : Dev) (q : Nat) (x : QueueSt) : (d.setQueue q x).resetWarm = d.resetWarm := rfl
@[simp] theorem Dev.setQueue_ports (d : Dev) (q : Nat) (x : QueueSt) : (d.setQueue q x).ports = d.ports := rfl

/-! Dev.setPort changes ports alone. -/

@[simp] theorem Dev.setPort_regs (d : Dev) (p : Port) (x : PortSt) : (d.setPort p x).regs = d.regs := rfl
@[simp] theorem Dev.setPort_free (d : Dev) (p : Port) (x : PortSt) : (d.setPort p x).free = d.free := rfl
@[simp] theorem Dev.setPort_out (d : Dev) (p : Port) (x : PortSt) : (d.setPort p x).out = d.out := rfl
@[simp] theorem Dev.setPort_queues (d : Dev) (p : Port) (x : PortSt) : (d.setPort p x).queues = d.queues := rfl
@[simp] theorem Dev.setPort_acceptTurns (d : Dev) (p : Port) (x : PortSt) : (d.setPort p x).acceptTurns = d.acceptTurns := rfl
@[simp] theorem Dev.setPort_issueTurns (d : Dev) (p : Port) (x : PortSt) : (d.setPort p x).issueTurns = d.issueTurns := rfl
@[simp] theorem Dev.setPort_barriers (d : Dev) (p : Port) (x : PortSt) : (d.setPort p x).barriers = d.barriers := rfl
@[simp] theorem Dev.setPort_errq (d : Dev) (p : Port) (x : PortSt) : (d.setPort p x).errq = d.errq := rfl
@[simp] theorem Dev.setPort_buckets (d : Dev) (p : Port) (x : PortSt) : (d.setPort p x).buckets = d.buckets := rfl
@[simp] theorem Dev.setPort_strings (d : Dev) (p : Port) (x : PortSt) : (d.setPort p x).strings = d.strings := rfl
@[simp] theorem Dev.setPort_retired (d : Dev) (p : Port) (x : PortSt) : (d.setPort p x).retired = d.retired := rfl
@[simp] theorem Dev.setPort_flipped (d : Dev) (p : Port) (x : PortSt) : (d.setPort p x).flipped = d.flipped := rfl
@[simp] theorem Dev.setPort_mem (d : Dev) (p : Port) (x : PortSt) : (d.setPort p x).mem = d.mem := rfl
@[simp] theorem Dev.setPort_sealedRows (d : Dev) (p : Port) (x : PortSt) : (d.setPort p x).sealedRows = d.sealedRows := rfl
@[simp] theorem Dev.setPort_writeBacks (d : Dev) (p : Port) (x : PortSt) : (d.setPort p x).writeBacks = d.writeBacks := rfl
@[simp] theorem Dev.setPort_bankWait (d : Dev) (p : Port) (x : PortSt) : (d.setPort p x).bankWait = d.bankWait := rfl
@[simp] theorem Dev.setPort_recWait (d : Dev) (p : Port) (x : PortSt) : (d.setPort p x).recWait = d.recWait := rfl
@[simp] theorem Dev.setPort_resetWait (d : Dev) (p : Port) (x : PortSt) : (d.setPort p x).resetWait = d.resetWait := rfl
@[simp] theorem Dev.setPort_buffers (d : Dev) (p : Port) (x : PortSt) : (d.setPort p x).buffers = d.buffers := rfl
@[simp] theorem Dev.setPort_kernels (d : Dev) (p : Port) (x : PortSt) : (d.setPort p x).kernels = d.kernels := rfl
@[simp] theorem Dev.setPort_ensembles (d : Dev) (p : Port) (x : PortSt) : (d.setPort p x).ensembles = d.ensembles := rfl
@[simp] theorem Dev.setPort_migrations (d : Dev) (p : Port) (x : PortSt) : (d.setPort p x).migrations = d.migrations := rfl
@[simp] theorem Dev.setPort_bufMoves (d : Dev) (p : Port) (x : PortSt) : (d.setPort p x).bufMoves = d.bufMoves := rfl
@[simp] theorem Dev.setPort_occ (d : Dev) (p : Port) (x : PortSt) : (d.setPort p x).occ = d.occ := rfl
@[simp] theorem Dev.setPort_replayEntry (d : Dev) (p : Port) (x : PortSt) : (d.setPort p x).replayEntry = d.replayEntry := rfl
@[simp] theorem Dev.setPort_replayEnd (d : Dev) (p : Port) (x : PortSt) : (d.setPort p x).replayEnd = d.replayEnd := rfl
@[simp] theorem Dev.setPort_recStop (d : Dev) (p : Port) (x : PortSt) : (d.setPort p x).recStop = d.recStop := rfl
@[simp] theorem Dev.setPort_lostJournals (d : Dev) (p : Port) (x : PortSt) : (d.setPort p x).lostJournals = d.lostJournals := rfl
@[simp] theorem Dev.setPort_rootLost (d : Dev) (p : Port) (x : PortSt) : (d.setPort p x).rootLost = d.rootLost := rfl
@[simp] theorem Dev.setPort_frames (d : Dev) (p : Port) (x : PortSt) : (d.setPort p x).frames = d.frames := rfl
@[simp] theorem Dev.setPort_badFrames (d : Dev) (p : Port) (x : PortSt) : (d.setPort p x).badFrames = d.badFrames := rfl
@[simp] theorem Dev.setPort_planeCrcs (d : Dev) (p : Port) (x : PortSt) : (d.setPort p x).planeCrcs = d.planeCrcs := rfl
@[simp] theorem Dev.setPort_badPlanes (d : Dev) (p : Port) (x : PortSt) : (d.setPort p x).badPlanes = d.badPlanes := rfl
@[simp] theorem Dev.setPort_holds (d : Dev) (p : Port) (x : PortSt) : (d.setPort p x).holds = d.holds := rfl
@[simp] theorem Dev.setPort_toks (d : Dev) (p : Port) (x : PortSt) : (d.setPort p x).toks = d.toks := rfl
@[simp] theorem Dev.setPort_params (d : Dev) (p : Port) (x : PortSt) : (d.setPort p x).params = d.params := rfl
@[simp] theorem Dev.setPort_paramHeld (d : Dev) (p : Port) (x : PortSt) : (d.setPort p x).paramHeld = d.paramHeld := rfl
@[simp] theorem Dev.setPort_parks (d : Dev) (p : Port) (x : PortSt) : (d.setPort p x).parks = d.parks := rfl
@[simp] theorem Dev.setPort_rowRegs (d : Dev) (p : Port) (x : PortSt) : (d.setPort p x).rowRegs = d.rowRegs := rfl
@[simp] theorem Dev.setPort_rowReqs (d : Dev) (p : Port) (x : PortSt) : (d.setPort p x).rowReqs = d.rowReqs := rfl
@[simp] theorem Dev.setPort_moveTurn (d : Dev) (p : Port) (x : PortSt) : (d.setPort p x).moveTurn = d.moveTurn := rfl
@[simp] theorem Dev.setPort_bmem (d : Dev) (p : Port) (x : PortSt) : (d.setPort p x).bmem = d.bmem := rfl
@[simp] theorem Dev.setPort_bmemBack (d : Dev) (p : Port) (x : PortSt) : (d.setPort p x).bmemBack = d.bmemBack := rfl
@[simp] theorem Dev.setPort_memHolds (d : Dev) (p : Port) (x : PortSt) : (d.setPort p x).memHolds = d.memHolds := rfl
@[simp] theorem Dev.setPort_debugWait (d : Dev) (p : Port) (x : PortSt) : (d.setPort p x).debugWait = d.debugWait := rfl
@[simp] theorem Dev.setPort_undef (d : Dev) (p : Port) (x : PortSt) : (d.setPort p x).undef = d.undef := rfl
@[simp] theorem Dev.setPort_tileResets (d : Dev) (p : Port) (x : PortSt) : (d.setPort p x).tileResets = d.tileResets := rfl
@[simp] theorem Dev.setPort_portals (d : Dev) (p : Port) (x : PortSt) : (d.setPort p x).portals = d.portals := rfl
@[simp] theorem Dev.setPort_lateArrivals (d : Dev) (p : Port) (x : PortSt) : (d.setPort p x).lateArrivals = d.lateArrivals := rfl
@[simp] theorem Dev.setPort_remap (d : Dev) (p : Port) (x : PortSt) : (d.setPort p x).remap = d.remap := rfl
@[simp] theorem Dev.setPort_meter (d : Dev) (p : Port) (x : PortSt) : (d.setPort p x).meter = d.meter := rfl
@[simp] theorem Dev.setPort_tables (d : Dev) (p : Port) (x : PortSt) : (d.setPort p x).tables = d.tables := rfl
@[simp] theorem Dev.setPort_drains (d : Dev) (p : Port) (x : PortSt) : (d.setPort p x).drains = d.drains := rfl
@[simp] theorem Dev.setPort_stageWait (d : Dev) (p : Port) (x : PortSt) : (d.setPort p x).stageWait = d.stageWait := rfl
@[simp] theorem Dev.setPort_topWait (d : Dev) (p : Port) (x : PortSt) : (d.setPort p x).topWait = d.topWait := rfl
@[simp] theorem Dev.setPort_load (d : Dev) (p : Port) (x : PortSt) : (d.setPort p x).load = d.load := rfl
@[simp] theorem Dev.setPort_hostOp (d : Dev) (p : Port) (x : PortSt) : (d.setPort p x).hostOp = d.hostOp := rfl
@[simp] theorem Dev.setPort_nearVia (d : Dev) (p : Port) (x : PortSt) : (d.setPort p x).nearVia = d.nearVia := rfl
@[simp] theorem Dev.setPort_nvBlocks (d : Dev) (p : Port) (x : PortSt) : (d.setPort p x).nvBlocks = d.nvBlocks := rfl
@[simp] theorem Dev.setPort_nvWear (d : Dev) (p : Port) (x : PortSt) : (d.setPort p x).nvWear = d.nvWear := rfl
@[simp] theorem Dev.setPort_chainPos (d : Dev) (p : Port) (x : PortSt) : (d.setPort p x).chainPos = d.chainPos := rfl
@[simp] theorem Dev.setPort_chainTaken (d : Dev) (p : Port) (x : PortSt) : (d.setPort p x).chainTaken = d.chainTaken := rfl
@[simp] theorem Dev.setPort_groups (d : Dev) (p : Port) (x : PortSt) : (d.setPort p x).groups = d.groups := rfl
@[simp] theorem Dev.setPort_lines (d : Dev) (p : Port) (x : PortSt) : (d.setPort p x).lines = d.lines := rfl
@[simp] theorem Dev.setPort_prbs (d : Dev) (p : Port) (x : PortSt) : (d.setPort p x).prbs = d.prbs := rfl
@[simp] theorem Dev.setPort_xfers (d : Dev) (p : Port) (x : PortSt) : (d.setPort p x).xfers = d.xfers := rfl
@[simp] theorem Dev.setPort_dma (d : Dev) (p : Port) (x : PortSt) : (d.setPort p x).dma = d.dma := rfl
@[simp] theorem Dev.setPort_armers (d : Dev) (p : Port) (x : PortSt) : (d.setPort p x).armers = d.armers := rfl
@[simp] theorem Dev.setPort_dmaLog (d : Dev) (p : Port) (x : PortSt) : (d.setPort p x).dmaLog = d.dmaLog := rfl
@[simp] theorem Dev.setPort_dmaRedo (d : Dev) (p : Port) (x : PortSt) : (d.setPort p x).dmaRedo = d.dmaRedo := rfl
@[simp] theorem Dev.setPort_credits (d : Dev) (p : Port) (x : PortSt) : (d.setPort p x).credits = d.credits := rfl
@[simp] theorem Dev.setPort_markers (d : Dev) (p : Port) (x : PortSt) : (d.setPort p x).markers = d.markers := rfl
@[simp] theorem Dev.setPort_heldPackets (d : Dev) (p : Port) (x : PortSt) : (d.setPort p x).heldPackets = d.heldPackets := rfl
@[simp] theorem Dev.setPort_noc (d : Dev) (p : Port) (x : PortSt) : (d.setPort p x).noc = d.noc := rfl
@[simp] theorem Dev.setPort_capo (d : Dev) (p : Port) (x : PortSt) : (d.setPort p x).capo = d.capo := rfl
@[simp] theorem Dev.setPort_held (d : Dev) (p : Port) (x : PortSt) : (d.setPort p x).held = d.held := rfl
@[simp] theorem Dev.setPort_mon (d : Dev) (p : Port) (x : PortSt) : (d.setPort p x).mon = d.mon := rfl
@[simp] theorem Dev.setPort_time (d : Dev) (p : Port) (x : PortSt) : (d.setPort p x).time = d.time := rfl
@[simp] theorem Dev.setPort_opStep (d : Dev) (p : Port) (x : PortSt) : (d.setPort p x).opStep = d.opStep := rfl
@[simp] theorem Dev.setPort_wakePend (d : Dev) (p : Port) (x : PortSt) : (d.setPort p x).wakePend = d.wakePend := rfl
@[simp] theorem Dev.setPort_restLevels (d : Dev) (p : Port) (x : PortSt) : (d.setPort p x).restLevels = d.restLevels := rfl
@[simp] theorem Dev.setPort_lanesHeld (d : Dev) (p : Port) (x : PortSt) : (d.setPort p x).lanesHeld = d.lanesHeld := rfl
@[simp] theorem Dev.setPort_handovers (d : Dev) (p : Port) (x : PortSt) : (d.setPort p x).handovers = d.handovers := rfl
@[simp] theorem Dev.setPort_owners (d : Dev) (p : Port) (x : PortSt) : (d.setPort p x).owners = d.owners := rfl
@[simp] theorem Dev.setPort_evPulses (d : Dev) (p : Port) (x : PortSt) : (d.setPort p x).evPulses = d.evPulses := rfl
@[simp] theorem Dev.setPort_io (d : Dev) (p : Port) (x : PortSt) : (d.setPort p x).io = d.io := rfl
@[simp] theorem Dev.setPort_taps (d : Dev) (p : Port) (x : PortSt) : (d.setPort p x).taps = d.taps := rfl
@[simp] theorem Dev.setPort_replicas (d : Dev) (p : Port) (x : PortSt) : (d.setPort p x).replicas = d.replicas := rfl
@[simp] theorem Dev.setPort_uart (d : Dev) (p : Port) (x : PortSt) : (d.setPort p x).uart = d.uart := rfl
@[simp] theorem Dev.setPort_tap (d : Dev) (p : Port) (x : PortSt) : (d.setPort p x).tap = d.tap := rfl
@[simp] theorem Dev.setPort_keyOp (d : Dev) (p : Port) (x : PortSt) : (d.setPort p x).keyOp = d.keyOp := rfl
@[simp] theorem Dev.setPort_wrapShown (d : Dev) (p : Port) (x : PortSt) : (d.setPort p x).wrapShown = d.wrapShown := rfl
@[simp] theorem Dev.setPort_keyData (d : Dev) (p : Port) (x : PortSt) : (d.setPort p x).keyData = d.keyData := rfl
@[simp] theorem Dev.setPort_lcArmed (d : Dev) (p : Port) (x : PortSt) : (d.setPort p x).lcArmed = d.lcArmed := rfl
@[simp] theorem Dev.setPort_lcTarget (d : Dev) (p : Port) (x : PortSt) : (d.setPort p x).lcTarget = d.lcTarget := rfl
@[simp] theorem Dev.setPort_nvLc (d : Dev) (p : Port) (x : PortSt) : (d.setPort p x).nvLc = d.nvLc := rfl
@[simp] theorem Dev.setPort_nvSlots (d : Dev) (p : Port) (x : PortSt) : (d.setPort p x).nvSlots = d.nvSlots := rfl
@[simp] theorem Dev.setPort_nvKeys (d : Dev) (p : Port) (x : PortSt) : (d.setPort p x).nvKeys = d.nvKeys := rfl
@[simp] theorem Dev.setPort_nvGens (d : Dev) (p : Port) (x : PortSt) : (d.setPort p x).nvGens = d.nvGens := rfl
@[simp] theorem Dev.setPort_lcLost (d : Dev) (p : Port) (x : PortSt) : (d.setPort p x).lcLost = d.lcLost := rfl
@[simp] theorem Dev.setPort_vddio (d : Dev) (p : Port) (x : PortSt) : (d.setPort p x).vddio = d.vddio := rfl
@[simp] theorem Dev.setPort_dieResets (d : Dev) (p : Port) (x : PortSt) : (d.setPort p x).dieResets = d.dieResets := rfl
@[simp] theorem Dev.setPort_resetWarm (d : Dev) (p : Port) (x : PortSt) : (d.setPort p x).resetWarm = d.resetWarm := rfl

/-! Dev.setBucket changes buckets alone. -/

@[simp] theorem Dev.setBucket_regs (d : Dev) (k : UnitKind) (u : Nat) (b : Bucket) : (d.setBucket k u b).regs = d.regs := rfl
@[simp] theorem Dev.setBucket_free (d : Dev) (k : UnitKind) (u : Nat) (b : Bucket) : (d.setBucket k u b).free = d.free := rfl
@[simp] theorem Dev.setBucket_out (d : Dev) (k : UnitKind) (u : Nat) (b : Bucket) : (d.setBucket k u b).out = d.out := rfl
@[simp] theorem Dev.setBucket_queues (d : Dev) (k : UnitKind) (u : Nat) (b : Bucket) : (d.setBucket k u b).queues = d.queues := rfl
@[simp] theorem Dev.setBucket_acceptTurns (d : Dev) (k : UnitKind) (u : Nat) (b : Bucket) : (d.setBucket k u b).acceptTurns = d.acceptTurns := rfl
@[simp] theorem Dev.setBucket_issueTurns (d : Dev) (k : UnitKind) (u : Nat) (b : Bucket) : (d.setBucket k u b).issueTurns = d.issueTurns := rfl
@[simp] theorem Dev.setBucket_barriers (d : Dev) (k : UnitKind) (u : Nat) (b : Bucket) : (d.setBucket k u b).barriers = d.barriers := rfl
@[simp] theorem Dev.setBucket_errq (d : Dev) (k : UnitKind) (u : Nat) (b : Bucket) : (d.setBucket k u b).errq = d.errq := rfl
@[simp] theorem Dev.setBucket_strings (d : Dev) (k : UnitKind) (u : Nat) (b : Bucket) : (d.setBucket k u b).strings = d.strings := rfl
@[simp] theorem Dev.setBucket_retired (d : Dev) (k : UnitKind) (u : Nat) (b : Bucket) : (d.setBucket k u b).retired = d.retired := rfl
@[simp] theorem Dev.setBucket_flipped (d : Dev) (k : UnitKind) (u : Nat) (b : Bucket) : (d.setBucket k u b).flipped = d.flipped := rfl
@[simp] theorem Dev.setBucket_mem (d : Dev) (k : UnitKind) (u : Nat) (b : Bucket) : (d.setBucket k u b).mem = d.mem := rfl
@[simp] theorem Dev.setBucket_sealedRows (d : Dev) (k : UnitKind) (u : Nat) (b : Bucket) : (d.setBucket k u b).sealedRows = d.sealedRows := rfl
@[simp] theorem Dev.setBucket_writeBacks (d : Dev) (k : UnitKind) (u : Nat) (b : Bucket) : (d.setBucket k u b).writeBacks = d.writeBacks := rfl
@[simp] theorem Dev.setBucket_bankWait (d : Dev) (k : UnitKind) (u : Nat) (b : Bucket) : (d.setBucket k u b).bankWait = d.bankWait := rfl
@[simp] theorem Dev.setBucket_recWait (d : Dev) (k : UnitKind) (u : Nat) (b : Bucket) : (d.setBucket k u b).recWait = d.recWait := rfl
@[simp] theorem Dev.setBucket_resetWait (d : Dev) (k : UnitKind) (u : Nat) (b : Bucket) : (d.setBucket k u b).resetWait = d.resetWait := rfl
@[simp] theorem Dev.setBucket_buffers (d : Dev) (k : UnitKind) (u : Nat) (b : Bucket) : (d.setBucket k u b).buffers = d.buffers := rfl
@[simp] theorem Dev.setBucket_kernels (d : Dev) (k : UnitKind) (u : Nat) (b : Bucket) : (d.setBucket k u b).kernels = d.kernels := rfl
@[simp] theorem Dev.setBucket_ensembles (d : Dev) (k : UnitKind) (u : Nat) (b : Bucket) : (d.setBucket k u b).ensembles = d.ensembles := rfl
@[simp] theorem Dev.setBucket_migrations (d : Dev) (k : UnitKind) (u : Nat) (b : Bucket) : (d.setBucket k u b).migrations = d.migrations := rfl
@[simp] theorem Dev.setBucket_bufMoves (d : Dev) (k : UnitKind) (u : Nat) (b : Bucket) : (d.setBucket k u b).bufMoves = d.bufMoves := rfl
@[simp] theorem Dev.setBucket_occ (d : Dev) (k : UnitKind) (u : Nat) (b : Bucket) : (d.setBucket k u b).occ = d.occ := rfl
@[simp] theorem Dev.setBucket_replayEntry (d : Dev) (k : UnitKind) (u : Nat) (b : Bucket) : (d.setBucket k u b).replayEntry = d.replayEntry := rfl
@[simp] theorem Dev.setBucket_replayEnd (d : Dev) (k : UnitKind) (u : Nat) (b : Bucket) : (d.setBucket k u b).replayEnd = d.replayEnd := rfl
@[simp] theorem Dev.setBucket_recStop (d : Dev) (k : UnitKind) (u : Nat) (b : Bucket) : (d.setBucket k u b).recStop = d.recStop := rfl
@[simp] theorem Dev.setBucket_lostJournals (d : Dev) (k : UnitKind) (u : Nat) (b : Bucket) : (d.setBucket k u b).lostJournals = d.lostJournals := rfl
@[simp] theorem Dev.setBucket_rootLost (d : Dev) (k : UnitKind) (u : Nat) (b : Bucket) : (d.setBucket k u b).rootLost = d.rootLost := rfl
@[simp] theorem Dev.setBucket_frames (d : Dev) (k : UnitKind) (u : Nat) (b : Bucket) : (d.setBucket k u b).frames = d.frames := rfl
@[simp] theorem Dev.setBucket_badFrames (d : Dev) (k : UnitKind) (u : Nat) (b : Bucket) : (d.setBucket k u b).badFrames = d.badFrames := rfl
@[simp] theorem Dev.setBucket_planeCrcs (d : Dev) (k : UnitKind) (u : Nat) (b : Bucket) : (d.setBucket k u b).planeCrcs = d.planeCrcs := rfl
@[simp] theorem Dev.setBucket_badPlanes (d : Dev) (k : UnitKind) (u : Nat) (b : Bucket) : (d.setBucket k u b).badPlanes = d.badPlanes := rfl
@[simp] theorem Dev.setBucket_holds (d : Dev) (k : UnitKind) (u : Nat) (b : Bucket) : (d.setBucket k u b).holds = d.holds := rfl
@[simp] theorem Dev.setBucket_toks (d : Dev) (k : UnitKind) (u : Nat) (b : Bucket) : (d.setBucket k u b).toks = d.toks := rfl
@[simp] theorem Dev.setBucket_params (d : Dev) (k : UnitKind) (u : Nat) (b : Bucket) : (d.setBucket k u b).params = d.params := rfl
@[simp] theorem Dev.setBucket_paramHeld (d : Dev) (k : UnitKind) (u : Nat) (b : Bucket) : (d.setBucket k u b).paramHeld = d.paramHeld := rfl
@[simp] theorem Dev.setBucket_parks (d : Dev) (k : UnitKind) (u : Nat) (b : Bucket) : (d.setBucket k u b).parks = d.parks := rfl
@[simp] theorem Dev.setBucket_rowRegs (d : Dev) (k : UnitKind) (u : Nat) (b : Bucket) : (d.setBucket k u b).rowRegs = d.rowRegs := rfl
@[simp] theorem Dev.setBucket_rowReqs (d : Dev) (k : UnitKind) (u : Nat) (b : Bucket) : (d.setBucket k u b).rowReqs = d.rowReqs := rfl
@[simp] theorem Dev.setBucket_moveTurn (d : Dev) (k : UnitKind) (u : Nat) (b : Bucket) : (d.setBucket k u b).moveTurn = d.moveTurn := rfl
@[simp] theorem Dev.setBucket_bmem (d : Dev) (k : UnitKind) (u : Nat) (b : Bucket) : (d.setBucket k u b).bmem = d.bmem := rfl
@[simp] theorem Dev.setBucket_bmemBack (d : Dev) (k : UnitKind) (u : Nat) (b : Bucket) : (d.setBucket k u b).bmemBack = d.bmemBack := rfl
@[simp] theorem Dev.setBucket_memHolds (d : Dev) (k : UnitKind) (u : Nat) (b : Bucket) : (d.setBucket k u b).memHolds = d.memHolds := rfl
@[simp] theorem Dev.setBucket_debugWait (d : Dev) (k : UnitKind) (u : Nat) (b : Bucket) : (d.setBucket k u b).debugWait = d.debugWait := rfl
@[simp] theorem Dev.setBucket_undef (d : Dev) (k : UnitKind) (u : Nat) (b : Bucket) : (d.setBucket k u b).undef = d.undef := rfl
@[simp] theorem Dev.setBucket_tileResets (d : Dev) (k : UnitKind) (u : Nat) (b : Bucket) : (d.setBucket k u b).tileResets = d.tileResets := rfl
@[simp] theorem Dev.setBucket_portals (d : Dev) (k : UnitKind) (u : Nat) (b : Bucket) : (d.setBucket k u b).portals = d.portals := rfl
@[simp] theorem Dev.setBucket_lateArrivals (d : Dev) (k : UnitKind) (u : Nat) (b : Bucket) : (d.setBucket k u b).lateArrivals = d.lateArrivals := rfl
@[simp] theorem Dev.setBucket_remap (d : Dev) (k : UnitKind) (u : Nat) (b : Bucket) : (d.setBucket k u b).remap = d.remap := rfl
@[simp] theorem Dev.setBucket_meter (d : Dev) (k : UnitKind) (u : Nat) (b : Bucket) : (d.setBucket k u b).meter = d.meter := rfl
@[simp] theorem Dev.setBucket_tables (d : Dev) (k : UnitKind) (u : Nat) (b : Bucket) : (d.setBucket k u b).tables = d.tables := rfl
@[simp] theorem Dev.setBucket_drains (d : Dev) (k : UnitKind) (u : Nat) (b : Bucket) : (d.setBucket k u b).drains = d.drains := rfl
@[simp] theorem Dev.setBucket_stageWait (d : Dev) (k : UnitKind) (u : Nat) (b : Bucket) : (d.setBucket k u b).stageWait = d.stageWait := rfl
@[simp] theorem Dev.setBucket_topWait (d : Dev) (k : UnitKind) (u : Nat) (b : Bucket) : (d.setBucket k u b).topWait = d.topWait := rfl
@[simp] theorem Dev.setBucket_load (d : Dev) (k : UnitKind) (u : Nat) (b : Bucket) : (d.setBucket k u b).load = d.load := rfl
@[simp] theorem Dev.setBucket_hostOp (d : Dev) (k : UnitKind) (u : Nat) (b : Bucket) : (d.setBucket k u b).hostOp = d.hostOp := rfl
@[simp] theorem Dev.setBucket_nearVia (d : Dev) (k : UnitKind) (u : Nat) (b : Bucket) : (d.setBucket k u b).nearVia = d.nearVia := rfl
@[simp] theorem Dev.setBucket_nvBlocks (d : Dev) (k : UnitKind) (u : Nat) (b : Bucket) : (d.setBucket k u b).nvBlocks = d.nvBlocks := rfl
@[simp] theorem Dev.setBucket_nvWear (d : Dev) (k : UnitKind) (u : Nat) (b : Bucket) : (d.setBucket k u b).nvWear = d.nvWear := rfl
@[simp] theorem Dev.setBucket_chainPos (d : Dev) (k : UnitKind) (u : Nat) (b : Bucket) : (d.setBucket k u b).chainPos = d.chainPos := rfl
@[simp] theorem Dev.setBucket_chainTaken (d : Dev) (k : UnitKind) (u : Nat) (b : Bucket) : (d.setBucket k u b).chainTaken = d.chainTaken := rfl
@[simp] theorem Dev.setBucket_groups (d : Dev) (k : UnitKind) (u : Nat) (b : Bucket) : (d.setBucket k u b).groups = d.groups := rfl
@[simp] theorem Dev.setBucket_lines (d : Dev) (k : UnitKind) (u : Nat) (b : Bucket) : (d.setBucket k u b).lines = d.lines := rfl
@[simp] theorem Dev.setBucket_prbs (d : Dev) (k : UnitKind) (u : Nat) (b : Bucket) : (d.setBucket k u b).prbs = d.prbs := rfl
@[simp] theorem Dev.setBucket_xfers (d : Dev) (k : UnitKind) (u : Nat) (b : Bucket) : (d.setBucket k u b).xfers = d.xfers := rfl
@[simp] theorem Dev.setBucket_dma (d : Dev) (k : UnitKind) (u : Nat) (b : Bucket) : (d.setBucket k u b).dma = d.dma := rfl
@[simp] theorem Dev.setBucket_armers (d : Dev) (k : UnitKind) (u : Nat) (b : Bucket) : (d.setBucket k u b).armers = d.armers := rfl
@[simp] theorem Dev.setBucket_dmaLog (d : Dev) (k : UnitKind) (u : Nat) (b : Bucket) : (d.setBucket k u b).dmaLog = d.dmaLog := rfl
@[simp] theorem Dev.setBucket_dmaRedo (d : Dev) (k : UnitKind) (u : Nat) (b : Bucket) : (d.setBucket k u b).dmaRedo = d.dmaRedo := rfl
@[simp] theorem Dev.setBucket_credits (d : Dev) (k : UnitKind) (u : Nat) (b : Bucket) : (d.setBucket k u b).credits = d.credits := rfl
@[simp] theorem Dev.setBucket_markers (d : Dev) (k : UnitKind) (u : Nat) (b : Bucket) : (d.setBucket k u b).markers = d.markers := rfl
@[simp] theorem Dev.setBucket_heldPackets (d : Dev) (k : UnitKind) (u : Nat) (b : Bucket) : (d.setBucket k u b).heldPackets = d.heldPackets := rfl
@[simp] theorem Dev.setBucket_noc (d : Dev) (k : UnitKind) (u : Nat) (b : Bucket) : (d.setBucket k u b).noc = d.noc := rfl
@[simp] theorem Dev.setBucket_capo (d : Dev) (k : UnitKind) (u : Nat) (b : Bucket) : (d.setBucket k u b).capo = d.capo := rfl
@[simp] theorem Dev.setBucket_held (d : Dev) (k : UnitKind) (u : Nat) (b : Bucket) : (d.setBucket k u b).held = d.held := rfl
@[simp] theorem Dev.setBucket_mon (d : Dev) (k : UnitKind) (u : Nat) (b : Bucket) : (d.setBucket k u b).mon = d.mon := rfl
@[simp] theorem Dev.setBucket_time (d : Dev) (k : UnitKind) (u : Nat) (b : Bucket) : (d.setBucket k u b).time = d.time := rfl
@[simp] theorem Dev.setBucket_opStep (d : Dev) (k : UnitKind) (u : Nat) (b : Bucket) : (d.setBucket k u b).opStep = d.opStep := rfl
@[simp] theorem Dev.setBucket_wakePend (d : Dev) (k : UnitKind) (u : Nat) (b : Bucket) : (d.setBucket k u b).wakePend = d.wakePend := rfl
@[simp] theorem Dev.setBucket_restLevels (d : Dev) (k : UnitKind) (u : Nat) (b : Bucket) : (d.setBucket k u b).restLevels = d.restLevels := rfl
@[simp] theorem Dev.setBucket_lanesHeld (d : Dev) (k : UnitKind) (u : Nat) (b : Bucket) : (d.setBucket k u b).lanesHeld = d.lanesHeld := rfl
@[simp] theorem Dev.setBucket_handovers (d : Dev) (k : UnitKind) (u : Nat) (b : Bucket) : (d.setBucket k u b).handovers = d.handovers := rfl
@[simp] theorem Dev.setBucket_owners (d : Dev) (k : UnitKind) (u : Nat) (b : Bucket) : (d.setBucket k u b).owners = d.owners := rfl
@[simp] theorem Dev.setBucket_evPulses (d : Dev) (k : UnitKind) (u : Nat) (b : Bucket) : (d.setBucket k u b).evPulses = d.evPulses := rfl
@[simp] theorem Dev.setBucket_io (d : Dev) (k : UnitKind) (u : Nat) (b : Bucket) : (d.setBucket k u b).io = d.io := rfl
@[simp] theorem Dev.setBucket_taps (d : Dev) (k : UnitKind) (u : Nat) (b : Bucket) : (d.setBucket k u b).taps = d.taps := rfl
@[simp] theorem Dev.setBucket_replicas (d : Dev) (k : UnitKind) (u : Nat) (b : Bucket) : (d.setBucket k u b).replicas = d.replicas := rfl
@[simp] theorem Dev.setBucket_uart (d : Dev) (k : UnitKind) (u : Nat) (b : Bucket) : (d.setBucket k u b).uart = d.uart := rfl
@[simp] theorem Dev.setBucket_tap (d : Dev) (k : UnitKind) (u : Nat) (b : Bucket) : (d.setBucket k u b).tap = d.tap := rfl
@[simp] theorem Dev.setBucket_keyOp (d : Dev) (k : UnitKind) (u : Nat) (b : Bucket) : (d.setBucket k u b).keyOp = d.keyOp := rfl
@[simp] theorem Dev.setBucket_wrapShown (d : Dev) (k : UnitKind) (u : Nat) (b : Bucket) : (d.setBucket k u b).wrapShown = d.wrapShown := rfl
@[simp] theorem Dev.setBucket_keyData (d : Dev) (k : UnitKind) (u : Nat) (b : Bucket) : (d.setBucket k u b).keyData = d.keyData := rfl
@[simp] theorem Dev.setBucket_lcArmed (d : Dev) (k : UnitKind) (u : Nat) (b : Bucket) : (d.setBucket k u b).lcArmed = d.lcArmed := rfl
@[simp] theorem Dev.setBucket_lcTarget (d : Dev) (k : UnitKind) (u : Nat) (b : Bucket) : (d.setBucket k u b).lcTarget = d.lcTarget := rfl
@[simp] theorem Dev.setBucket_nvLc (d : Dev) (k : UnitKind) (u : Nat) (b : Bucket) : (d.setBucket k u b).nvLc = d.nvLc := rfl
@[simp] theorem Dev.setBucket_nvSlots (d : Dev) (k : UnitKind) (u : Nat) (b : Bucket) : (d.setBucket k u b).nvSlots = d.nvSlots := rfl
@[simp] theorem Dev.setBucket_nvKeys (d : Dev) (k : UnitKind) (u : Nat) (b : Bucket) : (d.setBucket k u b).nvKeys = d.nvKeys := rfl
@[simp] theorem Dev.setBucket_nvGens (d : Dev) (k : UnitKind) (u : Nat) (b : Bucket) : (d.setBucket k u b).nvGens = d.nvGens := rfl
@[simp] theorem Dev.setBucket_lcLost (d : Dev) (k : UnitKind) (u : Nat) (b : Bucket) : (d.setBucket k u b).lcLost = d.lcLost := rfl
@[simp] theorem Dev.setBucket_vddio (d : Dev) (k : UnitKind) (u : Nat) (b : Bucket) : (d.setBucket k u b).vddio = d.vddio := rfl
@[simp] theorem Dev.setBucket_dieResets (d : Dev) (k : UnitKind) (u : Nat) (b : Bucket) : (d.setBucket k u b).dieResets = d.dieResets := rfl
@[simp] theorem Dev.setBucket_resetWarm (d : Dev) (k : UnitKind) (u : Nat) (b : Bucket) : (d.setBucket k u b).resetWarm = d.resetWarm := rfl
@[simp] theorem Dev.setBucket_ports (d : Dev) (k : UnitKind) (u : Nat) (b : Bucket) : (d.setBucket k u b).ports = d.ports := rfl

/-! Dev.setWord changes mem alone. -/

@[simp] theorem Dev.setWord_regs (d : Dev) (w : Nat) (data res : List Byte) : (d.setWord w data res).regs = d.regs := rfl
@[simp] theorem Dev.setWord_free (d : Dev) (w : Nat) (data res : List Byte) : (d.setWord w data res).free = d.free := rfl
@[simp] theorem Dev.setWord_out (d : Dev) (w : Nat) (data res : List Byte) : (d.setWord w data res).out = d.out := rfl
@[simp] theorem Dev.setWord_queues (d : Dev) (w : Nat) (data res : List Byte) : (d.setWord w data res).queues = d.queues := rfl
@[simp] theorem Dev.setWord_acceptTurns (d : Dev) (w : Nat) (data res : List Byte) : (d.setWord w data res).acceptTurns = d.acceptTurns := rfl
@[simp] theorem Dev.setWord_issueTurns (d : Dev) (w : Nat) (data res : List Byte) : (d.setWord w data res).issueTurns = d.issueTurns := rfl
@[simp] theorem Dev.setWord_barriers (d : Dev) (w : Nat) (data res : List Byte) : (d.setWord w data res).barriers = d.barriers := rfl
@[simp] theorem Dev.setWord_errq (d : Dev) (w : Nat) (data res : List Byte) : (d.setWord w data res).errq = d.errq := rfl
@[simp] theorem Dev.setWord_buckets (d : Dev) (w : Nat) (data res : List Byte) : (d.setWord w data res).buckets = d.buckets := rfl
@[simp] theorem Dev.setWord_strings (d : Dev) (w : Nat) (data res : List Byte) : (d.setWord w data res).strings = d.strings := rfl
@[simp] theorem Dev.setWord_retired (d : Dev) (w : Nat) (data res : List Byte) : (d.setWord w data res).retired = d.retired := rfl
@[simp] theorem Dev.setWord_flipped (d : Dev) (w : Nat) (data res : List Byte) : (d.setWord w data res).flipped = d.flipped := rfl
@[simp] theorem Dev.setWord_sealedRows (d : Dev) (w : Nat) (data res : List Byte) : (d.setWord w data res).sealedRows = d.sealedRows := rfl
@[simp] theorem Dev.setWord_writeBacks (d : Dev) (w : Nat) (data res : List Byte) : (d.setWord w data res).writeBacks = d.writeBacks := rfl
@[simp] theorem Dev.setWord_bankWait (d : Dev) (w : Nat) (data res : List Byte) : (d.setWord w data res).bankWait = d.bankWait := rfl
@[simp] theorem Dev.setWord_recWait (d : Dev) (w : Nat) (data res : List Byte) : (d.setWord w data res).recWait = d.recWait := rfl
@[simp] theorem Dev.setWord_resetWait (d : Dev) (w : Nat) (data res : List Byte) : (d.setWord w data res).resetWait = d.resetWait := rfl
@[simp] theorem Dev.setWord_buffers (d : Dev) (w : Nat) (data res : List Byte) : (d.setWord w data res).buffers = d.buffers := rfl
@[simp] theorem Dev.setWord_kernels (d : Dev) (w : Nat) (data res : List Byte) : (d.setWord w data res).kernels = d.kernels := rfl
@[simp] theorem Dev.setWord_ensembles (d : Dev) (w : Nat) (data res : List Byte) : (d.setWord w data res).ensembles = d.ensembles := rfl
@[simp] theorem Dev.setWord_migrations (d : Dev) (w : Nat) (data res : List Byte) : (d.setWord w data res).migrations = d.migrations := rfl
@[simp] theorem Dev.setWord_bufMoves (d : Dev) (w : Nat) (data res : List Byte) : (d.setWord w data res).bufMoves = d.bufMoves := rfl
@[simp] theorem Dev.setWord_occ (d : Dev) (w : Nat) (data res : List Byte) : (d.setWord w data res).occ = d.occ := rfl
@[simp] theorem Dev.setWord_replayEntry (d : Dev) (w : Nat) (data res : List Byte) : (d.setWord w data res).replayEntry = d.replayEntry := rfl
@[simp] theorem Dev.setWord_replayEnd (d : Dev) (w : Nat) (data res : List Byte) : (d.setWord w data res).replayEnd = d.replayEnd := rfl
@[simp] theorem Dev.setWord_recStop (d : Dev) (w : Nat) (data res : List Byte) : (d.setWord w data res).recStop = d.recStop := rfl
@[simp] theorem Dev.setWord_lostJournals (d : Dev) (w : Nat) (data res : List Byte) : (d.setWord w data res).lostJournals = d.lostJournals := rfl
@[simp] theorem Dev.setWord_rootLost (d : Dev) (w : Nat) (data res : List Byte) : (d.setWord w data res).rootLost = d.rootLost := rfl
@[simp] theorem Dev.setWord_frames (d : Dev) (w : Nat) (data res : List Byte) : (d.setWord w data res).frames = d.frames := rfl
@[simp] theorem Dev.setWord_badFrames (d : Dev) (w : Nat) (data res : List Byte) : (d.setWord w data res).badFrames = d.badFrames := rfl
@[simp] theorem Dev.setWord_planeCrcs (d : Dev) (w : Nat) (data res : List Byte) : (d.setWord w data res).planeCrcs = d.planeCrcs := rfl
@[simp] theorem Dev.setWord_badPlanes (d : Dev) (w : Nat) (data res : List Byte) : (d.setWord w data res).badPlanes = d.badPlanes := rfl
@[simp] theorem Dev.setWord_holds (d : Dev) (w : Nat) (data res : List Byte) : (d.setWord w data res).holds = d.holds := rfl
@[simp] theorem Dev.setWord_toks (d : Dev) (w : Nat) (data res : List Byte) : (d.setWord w data res).toks = d.toks := rfl
@[simp] theorem Dev.setWord_params (d : Dev) (w : Nat) (data res : List Byte) : (d.setWord w data res).params = d.params := rfl
@[simp] theorem Dev.setWord_paramHeld (d : Dev) (w : Nat) (data res : List Byte) : (d.setWord w data res).paramHeld = d.paramHeld := rfl
@[simp] theorem Dev.setWord_parks (d : Dev) (w : Nat) (data res : List Byte) : (d.setWord w data res).parks = d.parks := rfl
@[simp] theorem Dev.setWord_rowRegs (d : Dev) (w : Nat) (data res : List Byte) : (d.setWord w data res).rowRegs = d.rowRegs := rfl
@[simp] theorem Dev.setWord_rowReqs (d : Dev) (w : Nat) (data res : List Byte) : (d.setWord w data res).rowReqs = d.rowReqs := rfl
@[simp] theorem Dev.setWord_moveTurn (d : Dev) (w : Nat) (data res : List Byte) : (d.setWord w data res).moveTurn = d.moveTurn := rfl
@[simp] theorem Dev.setWord_bmem (d : Dev) (w : Nat) (data res : List Byte) : (d.setWord w data res).bmem = d.bmem := rfl
@[simp] theorem Dev.setWord_bmemBack (d : Dev) (w : Nat) (data res : List Byte) : (d.setWord w data res).bmemBack = d.bmemBack := rfl
@[simp] theorem Dev.setWord_memHolds (d : Dev) (w : Nat) (data res : List Byte) : (d.setWord w data res).memHolds = d.memHolds := rfl
@[simp] theorem Dev.setWord_debugWait (d : Dev) (w : Nat) (data res : List Byte) : (d.setWord w data res).debugWait = d.debugWait := rfl
@[simp] theorem Dev.setWord_undef (d : Dev) (w : Nat) (data res : List Byte) : (d.setWord w data res).undef = d.undef := rfl
@[simp] theorem Dev.setWord_tileResets (d : Dev) (w : Nat) (data res : List Byte) : (d.setWord w data res).tileResets = d.tileResets := rfl
@[simp] theorem Dev.setWord_portals (d : Dev) (w : Nat) (data res : List Byte) : (d.setWord w data res).portals = d.portals := rfl
@[simp] theorem Dev.setWord_lateArrivals (d : Dev) (w : Nat) (data res : List Byte) : (d.setWord w data res).lateArrivals = d.lateArrivals := rfl
@[simp] theorem Dev.setWord_remap (d : Dev) (w : Nat) (data res : List Byte) : (d.setWord w data res).remap = d.remap := rfl
@[simp] theorem Dev.setWord_meter (d : Dev) (w : Nat) (data res : List Byte) : (d.setWord w data res).meter = d.meter := rfl
@[simp] theorem Dev.setWord_tables (d : Dev) (w : Nat) (data res : List Byte) : (d.setWord w data res).tables = d.tables := rfl
@[simp] theorem Dev.setWord_drains (d : Dev) (w : Nat) (data res : List Byte) : (d.setWord w data res).drains = d.drains := rfl
@[simp] theorem Dev.setWord_stageWait (d : Dev) (w : Nat) (data res : List Byte) : (d.setWord w data res).stageWait = d.stageWait := rfl
@[simp] theorem Dev.setWord_topWait (d : Dev) (w : Nat) (data res : List Byte) : (d.setWord w data res).topWait = d.topWait := rfl
@[simp] theorem Dev.setWord_load (d : Dev) (w : Nat) (data res : List Byte) : (d.setWord w data res).load = d.load := rfl
@[simp] theorem Dev.setWord_hostOp (d : Dev) (w : Nat) (data res : List Byte) : (d.setWord w data res).hostOp = d.hostOp := rfl
@[simp] theorem Dev.setWord_nearVia (d : Dev) (w : Nat) (data res : List Byte) : (d.setWord w data res).nearVia = d.nearVia := rfl
@[simp] theorem Dev.setWord_nvBlocks (d : Dev) (w : Nat) (data res : List Byte) : (d.setWord w data res).nvBlocks = d.nvBlocks := rfl
@[simp] theorem Dev.setWord_nvWear (d : Dev) (w : Nat) (data res : List Byte) : (d.setWord w data res).nvWear = d.nvWear := rfl
@[simp] theorem Dev.setWord_chainPos (d : Dev) (w : Nat) (data res : List Byte) : (d.setWord w data res).chainPos = d.chainPos := rfl
@[simp] theorem Dev.setWord_chainTaken (d : Dev) (w : Nat) (data res : List Byte) : (d.setWord w data res).chainTaken = d.chainTaken := rfl
@[simp] theorem Dev.setWord_groups (d : Dev) (w : Nat) (data res : List Byte) : (d.setWord w data res).groups = d.groups := rfl
@[simp] theorem Dev.setWord_lines (d : Dev) (w : Nat) (data res : List Byte) : (d.setWord w data res).lines = d.lines := rfl
@[simp] theorem Dev.setWord_prbs (d : Dev) (w : Nat) (data res : List Byte) : (d.setWord w data res).prbs = d.prbs := rfl
@[simp] theorem Dev.setWord_xfers (d : Dev) (w : Nat) (data res : List Byte) : (d.setWord w data res).xfers = d.xfers := rfl
@[simp] theorem Dev.setWord_dma (d : Dev) (w : Nat) (data res : List Byte) : (d.setWord w data res).dma = d.dma := rfl
@[simp] theorem Dev.setWord_armers (d : Dev) (w : Nat) (data res : List Byte) : (d.setWord w data res).armers = d.armers := rfl
@[simp] theorem Dev.setWord_dmaLog (d : Dev) (w : Nat) (data res : List Byte) : (d.setWord w data res).dmaLog = d.dmaLog := rfl
@[simp] theorem Dev.setWord_dmaRedo (d : Dev) (w : Nat) (data res : List Byte) : (d.setWord w data res).dmaRedo = d.dmaRedo := rfl
@[simp] theorem Dev.setWord_credits (d : Dev) (w : Nat) (data res : List Byte) : (d.setWord w data res).credits = d.credits := rfl
@[simp] theorem Dev.setWord_markers (d : Dev) (w : Nat) (data res : List Byte) : (d.setWord w data res).markers = d.markers := rfl
@[simp] theorem Dev.setWord_heldPackets (d : Dev) (w : Nat) (data res : List Byte) : (d.setWord w data res).heldPackets = d.heldPackets := rfl
@[simp] theorem Dev.setWord_noc (d : Dev) (w : Nat) (data res : List Byte) : (d.setWord w data res).noc = d.noc := rfl
@[simp] theorem Dev.setWord_capo (d : Dev) (w : Nat) (data res : List Byte) : (d.setWord w data res).capo = d.capo := rfl
@[simp] theorem Dev.setWord_held (d : Dev) (w : Nat) (data res : List Byte) : (d.setWord w data res).held = d.held := rfl
@[simp] theorem Dev.setWord_mon (d : Dev) (w : Nat) (data res : List Byte) : (d.setWord w data res).mon = d.mon := rfl
@[simp] theorem Dev.setWord_time (d : Dev) (w : Nat) (data res : List Byte) : (d.setWord w data res).time = d.time := rfl
@[simp] theorem Dev.setWord_opStep (d : Dev) (w : Nat) (data res : List Byte) : (d.setWord w data res).opStep = d.opStep := rfl
@[simp] theorem Dev.setWord_wakePend (d : Dev) (w : Nat) (data res : List Byte) : (d.setWord w data res).wakePend = d.wakePend := rfl
@[simp] theorem Dev.setWord_restLevels (d : Dev) (w : Nat) (data res : List Byte) : (d.setWord w data res).restLevels = d.restLevels := rfl
@[simp] theorem Dev.setWord_lanesHeld (d : Dev) (w : Nat) (data res : List Byte) : (d.setWord w data res).lanesHeld = d.lanesHeld := rfl
@[simp] theorem Dev.setWord_handovers (d : Dev) (w : Nat) (data res : List Byte) : (d.setWord w data res).handovers = d.handovers := rfl
@[simp] theorem Dev.setWord_owners (d : Dev) (w : Nat) (data res : List Byte) : (d.setWord w data res).owners = d.owners := rfl
@[simp] theorem Dev.setWord_evPulses (d : Dev) (w : Nat) (data res : List Byte) : (d.setWord w data res).evPulses = d.evPulses := rfl
@[simp] theorem Dev.setWord_io (d : Dev) (w : Nat) (data res : List Byte) : (d.setWord w data res).io = d.io := rfl
@[simp] theorem Dev.setWord_taps (d : Dev) (w : Nat) (data res : List Byte) : (d.setWord w data res).taps = d.taps := rfl
@[simp] theorem Dev.setWord_replicas (d : Dev) (w : Nat) (data res : List Byte) : (d.setWord w data res).replicas = d.replicas := rfl
@[simp] theorem Dev.setWord_uart (d : Dev) (w : Nat) (data res : List Byte) : (d.setWord w data res).uart = d.uart := rfl
@[simp] theorem Dev.setWord_tap (d : Dev) (w : Nat) (data res : List Byte) : (d.setWord w data res).tap = d.tap := rfl
@[simp] theorem Dev.setWord_keyOp (d : Dev) (w : Nat) (data res : List Byte) : (d.setWord w data res).keyOp = d.keyOp := rfl
@[simp] theorem Dev.setWord_wrapShown (d : Dev) (w : Nat) (data res : List Byte) : (d.setWord w data res).wrapShown = d.wrapShown := rfl
@[simp] theorem Dev.setWord_keyData (d : Dev) (w : Nat) (data res : List Byte) : (d.setWord w data res).keyData = d.keyData := rfl
@[simp] theorem Dev.setWord_lcArmed (d : Dev) (w : Nat) (data res : List Byte) : (d.setWord w data res).lcArmed = d.lcArmed := rfl
@[simp] theorem Dev.setWord_lcTarget (d : Dev) (w : Nat) (data res : List Byte) : (d.setWord w data res).lcTarget = d.lcTarget := rfl
@[simp] theorem Dev.setWord_nvLc (d : Dev) (w : Nat) (data res : List Byte) : (d.setWord w data res).nvLc = d.nvLc := rfl
@[simp] theorem Dev.setWord_nvSlots (d : Dev) (w : Nat) (data res : List Byte) : (d.setWord w data res).nvSlots = d.nvSlots := rfl
@[simp] theorem Dev.setWord_nvKeys (d : Dev) (w : Nat) (data res : List Byte) : (d.setWord w data res).nvKeys = d.nvKeys := rfl
@[simp] theorem Dev.setWord_nvGens (d : Dev) (w : Nat) (data res : List Byte) : (d.setWord w data res).nvGens = d.nvGens := rfl
@[simp] theorem Dev.setWord_lcLost (d : Dev) (w : Nat) (data res : List Byte) : (d.setWord w data res).lcLost = d.lcLost := rfl
@[simp] theorem Dev.setWord_vddio (d : Dev) (w : Nat) (data res : List Byte) : (d.setWord w data res).vddio = d.vddio := rfl
@[simp] theorem Dev.setWord_dieResets (d : Dev) (w : Nat) (data res : List Byte) : (d.setWord w data res).dieResets = d.dieResets := rfl
@[simp] theorem Dev.setWord_resetWarm (d : Dev) (w : Nat) (data res : List Byte) : (d.setWord w data res).resetWarm = d.resetWarm := rfl
@[simp] theorem Dev.setWord_ports (d : Dev) (w : Nat) (data res : List Byte) : (d.setWord w data res).ports = d.ports := rfl

/-! Dev.offNetwork changes noc alone. -/

@[simp] theorem Dev.offNetwork_regs (d : Dev) (p : Packet) : (d.offNetwork p).regs = d.regs := rfl
@[simp] theorem Dev.offNetwork_free (d : Dev) (p : Packet) : (d.offNetwork p).free = d.free := rfl
@[simp] theorem Dev.offNetwork_out (d : Dev) (p : Packet) : (d.offNetwork p).out = d.out := rfl
@[simp] theorem Dev.offNetwork_queues (d : Dev) (p : Packet) : (d.offNetwork p).queues = d.queues := rfl
@[simp] theorem Dev.offNetwork_acceptTurns (d : Dev) (p : Packet) : (d.offNetwork p).acceptTurns = d.acceptTurns := rfl
@[simp] theorem Dev.offNetwork_issueTurns (d : Dev) (p : Packet) : (d.offNetwork p).issueTurns = d.issueTurns := rfl
@[simp] theorem Dev.offNetwork_barriers (d : Dev) (p : Packet) : (d.offNetwork p).barriers = d.barriers := rfl
@[simp] theorem Dev.offNetwork_errq (d : Dev) (p : Packet) : (d.offNetwork p).errq = d.errq := rfl
@[simp] theorem Dev.offNetwork_buckets (d : Dev) (p : Packet) : (d.offNetwork p).buckets = d.buckets := rfl
@[simp] theorem Dev.offNetwork_strings (d : Dev) (p : Packet) : (d.offNetwork p).strings = d.strings := rfl
@[simp] theorem Dev.offNetwork_retired (d : Dev) (p : Packet) : (d.offNetwork p).retired = d.retired := rfl
@[simp] theorem Dev.offNetwork_flipped (d : Dev) (p : Packet) : (d.offNetwork p).flipped = d.flipped := rfl
@[simp] theorem Dev.offNetwork_mem (d : Dev) (p : Packet) : (d.offNetwork p).mem = d.mem := rfl
@[simp] theorem Dev.offNetwork_sealedRows (d : Dev) (p : Packet) : (d.offNetwork p).sealedRows = d.sealedRows := rfl
@[simp] theorem Dev.offNetwork_writeBacks (d : Dev) (p : Packet) : (d.offNetwork p).writeBacks = d.writeBacks := rfl
@[simp] theorem Dev.offNetwork_bankWait (d : Dev) (p : Packet) : (d.offNetwork p).bankWait = d.bankWait := rfl
@[simp] theorem Dev.offNetwork_recWait (d : Dev) (p : Packet) : (d.offNetwork p).recWait = d.recWait := rfl
@[simp] theorem Dev.offNetwork_resetWait (d : Dev) (p : Packet) : (d.offNetwork p).resetWait = d.resetWait := rfl
@[simp] theorem Dev.offNetwork_buffers (d : Dev) (p : Packet) : (d.offNetwork p).buffers = d.buffers := rfl
@[simp] theorem Dev.offNetwork_kernels (d : Dev) (p : Packet) : (d.offNetwork p).kernels = d.kernels := rfl
@[simp] theorem Dev.offNetwork_ensembles (d : Dev) (p : Packet) : (d.offNetwork p).ensembles = d.ensembles := rfl
@[simp] theorem Dev.offNetwork_migrations (d : Dev) (p : Packet) : (d.offNetwork p).migrations = d.migrations := rfl
@[simp] theorem Dev.offNetwork_bufMoves (d : Dev) (p : Packet) : (d.offNetwork p).bufMoves = d.bufMoves := rfl
@[simp] theorem Dev.offNetwork_occ (d : Dev) (p : Packet) : (d.offNetwork p).occ = d.occ := rfl
@[simp] theorem Dev.offNetwork_replayEntry (d : Dev) (p : Packet) : (d.offNetwork p).replayEntry = d.replayEntry := rfl
@[simp] theorem Dev.offNetwork_replayEnd (d : Dev) (p : Packet) : (d.offNetwork p).replayEnd = d.replayEnd := rfl
@[simp] theorem Dev.offNetwork_recStop (d : Dev) (p : Packet) : (d.offNetwork p).recStop = d.recStop := rfl
@[simp] theorem Dev.offNetwork_lostJournals (d : Dev) (p : Packet) : (d.offNetwork p).lostJournals = d.lostJournals := rfl
@[simp] theorem Dev.offNetwork_rootLost (d : Dev) (p : Packet) : (d.offNetwork p).rootLost = d.rootLost := rfl
@[simp] theorem Dev.offNetwork_frames (d : Dev) (p : Packet) : (d.offNetwork p).frames = d.frames := rfl
@[simp] theorem Dev.offNetwork_badFrames (d : Dev) (p : Packet) : (d.offNetwork p).badFrames = d.badFrames := rfl
@[simp] theorem Dev.offNetwork_planeCrcs (d : Dev) (p : Packet) : (d.offNetwork p).planeCrcs = d.planeCrcs := rfl
@[simp] theorem Dev.offNetwork_badPlanes (d : Dev) (p : Packet) : (d.offNetwork p).badPlanes = d.badPlanes := rfl
@[simp] theorem Dev.offNetwork_holds (d : Dev) (p : Packet) : (d.offNetwork p).holds = d.holds := rfl
@[simp] theorem Dev.offNetwork_toks (d : Dev) (p : Packet) : (d.offNetwork p).toks = d.toks := rfl
@[simp] theorem Dev.offNetwork_params (d : Dev) (p : Packet) : (d.offNetwork p).params = d.params := rfl
@[simp] theorem Dev.offNetwork_paramHeld (d : Dev) (p : Packet) : (d.offNetwork p).paramHeld = d.paramHeld := rfl
@[simp] theorem Dev.offNetwork_parks (d : Dev) (p : Packet) : (d.offNetwork p).parks = d.parks := rfl
@[simp] theorem Dev.offNetwork_rowRegs (d : Dev) (p : Packet) : (d.offNetwork p).rowRegs = d.rowRegs := rfl
@[simp] theorem Dev.offNetwork_rowReqs (d : Dev) (p : Packet) : (d.offNetwork p).rowReqs = d.rowReqs := rfl
@[simp] theorem Dev.offNetwork_moveTurn (d : Dev) (p : Packet) : (d.offNetwork p).moveTurn = d.moveTurn := rfl
@[simp] theorem Dev.offNetwork_bmem (d : Dev) (p : Packet) : (d.offNetwork p).bmem = d.bmem := rfl
@[simp] theorem Dev.offNetwork_bmemBack (d : Dev) (p : Packet) : (d.offNetwork p).bmemBack = d.bmemBack := rfl
@[simp] theorem Dev.offNetwork_memHolds (d : Dev) (p : Packet) : (d.offNetwork p).memHolds = d.memHolds := rfl
@[simp] theorem Dev.offNetwork_debugWait (d : Dev) (p : Packet) : (d.offNetwork p).debugWait = d.debugWait := rfl
@[simp] theorem Dev.offNetwork_undef (d : Dev) (p : Packet) : (d.offNetwork p).undef = d.undef := rfl
@[simp] theorem Dev.offNetwork_tileResets (d : Dev) (p : Packet) : (d.offNetwork p).tileResets = d.tileResets := rfl
@[simp] theorem Dev.offNetwork_portals (d : Dev) (p : Packet) : (d.offNetwork p).portals = d.portals := rfl
@[simp] theorem Dev.offNetwork_lateArrivals (d : Dev) (p : Packet) : (d.offNetwork p).lateArrivals = d.lateArrivals := rfl
@[simp] theorem Dev.offNetwork_remap (d : Dev) (p : Packet) : (d.offNetwork p).remap = d.remap := rfl
@[simp] theorem Dev.offNetwork_meter (d : Dev) (p : Packet) : (d.offNetwork p).meter = d.meter := rfl
@[simp] theorem Dev.offNetwork_tables (d : Dev) (p : Packet) : (d.offNetwork p).tables = d.tables := rfl
@[simp] theorem Dev.offNetwork_drains (d : Dev) (p : Packet) : (d.offNetwork p).drains = d.drains := rfl
@[simp] theorem Dev.offNetwork_stageWait (d : Dev) (p : Packet) : (d.offNetwork p).stageWait = d.stageWait := rfl
@[simp] theorem Dev.offNetwork_topWait (d : Dev) (p : Packet) : (d.offNetwork p).topWait = d.topWait := rfl
@[simp] theorem Dev.offNetwork_load (d : Dev) (p : Packet) : (d.offNetwork p).load = d.load := rfl
@[simp] theorem Dev.offNetwork_hostOp (d : Dev) (p : Packet) : (d.offNetwork p).hostOp = d.hostOp := rfl
@[simp] theorem Dev.offNetwork_nearVia (d : Dev) (p : Packet) : (d.offNetwork p).nearVia = d.nearVia := rfl
@[simp] theorem Dev.offNetwork_nvBlocks (d : Dev) (p : Packet) : (d.offNetwork p).nvBlocks = d.nvBlocks := rfl
@[simp] theorem Dev.offNetwork_nvWear (d : Dev) (p : Packet) : (d.offNetwork p).nvWear = d.nvWear := rfl
@[simp] theorem Dev.offNetwork_chainPos (d : Dev) (p : Packet) : (d.offNetwork p).chainPos = d.chainPos := rfl
@[simp] theorem Dev.offNetwork_chainTaken (d : Dev) (p : Packet) : (d.offNetwork p).chainTaken = d.chainTaken := rfl
@[simp] theorem Dev.offNetwork_groups (d : Dev) (p : Packet) : (d.offNetwork p).groups = d.groups := rfl
@[simp] theorem Dev.offNetwork_lines (d : Dev) (p : Packet) : (d.offNetwork p).lines = d.lines := rfl
@[simp] theorem Dev.offNetwork_prbs (d : Dev) (p : Packet) : (d.offNetwork p).prbs = d.prbs := rfl
@[simp] theorem Dev.offNetwork_xfers (d : Dev) (p : Packet) : (d.offNetwork p).xfers = d.xfers := rfl
@[simp] theorem Dev.offNetwork_dma (d : Dev) (p : Packet) : (d.offNetwork p).dma = d.dma := rfl
@[simp] theorem Dev.offNetwork_armers (d : Dev) (p : Packet) : (d.offNetwork p).armers = d.armers := rfl
@[simp] theorem Dev.offNetwork_dmaLog (d : Dev) (p : Packet) : (d.offNetwork p).dmaLog = d.dmaLog := rfl
@[simp] theorem Dev.offNetwork_dmaRedo (d : Dev) (p : Packet) : (d.offNetwork p).dmaRedo = d.dmaRedo := rfl
@[simp] theorem Dev.offNetwork_credits (d : Dev) (p : Packet) : (d.offNetwork p).credits = d.credits := rfl
@[simp] theorem Dev.offNetwork_markers (d : Dev) (p : Packet) : (d.offNetwork p).markers = d.markers := rfl
@[simp] theorem Dev.offNetwork_heldPackets (d : Dev) (p : Packet) : (d.offNetwork p).heldPackets = d.heldPackets := rfl
@[simp] theorem Dev.offNetwork_capo (d : Dev) (p : Packet) : (d.offNetwork p).capo = d.capo := rfl
@[simp] theorem Dev.offNetwork_held (d : Dev) (p : Packet) : (d.offNetwork p).held = d.held := rfl
@[simp] theorem Dev.offNetwork_mon (d : Dev) (p : Packet) : (d.offNetwork p).mon = d.mon := rfl
@[simp] theorem Dev.offNetwork_time (d : Dev) (p : Packet) : (d.offNetwork p).time = d.time := rfl
@[simp] theorem Dev.offNetwork_opStep (d : Dev) (p : Packet) : (d.offNetwork p).opStep = d.opStep := rfl
@[simp] theorem Dev.offNetwork_wakePend (d : Dev) (p : Packet) : (d.offNetwork p).wakePend = d.wakePend := rfl
@[simp] theorem Dev.offNetwork_restLevels (d : Dev) (p : Packet) : (d.offNetwork p).restLevels = d.restLevels := rfl
@[simp] theorem Dev.offNetwork_lanesHeld (d : Dev) (p : Packet) : (d.offNetwork p).lanesHeld = d.lanesHeld := rfl
@[simp] theorem Dev.offNetwork_handovers (d : Dev) (p : Packet) : (d.offNetwork p).handovers = d.handovers := rfl
@[simp] theorem Dev.offNetwork_owners (d : Dev) (p : Packet) : (d.offNetwork p).owners = d.owners := rfl
@[simp] theorem Dev.offNetwork_evPulses (d : Dev) (p : Packet) : (d.offNetwork p).evPulses = d.evPulses := rfl
@[simp] theorem Dev.offNetwork_io (d : Dev) (p : Packet) : (d.offNetwork p).io = d.io := rfl
@[simp] theorem Dev.offNetwork_taps (d : Dev) (p : Packet) : (d.offNetwork p).taps = d.taps := rfl
@[simp] theorem Dev.offNetwork_replicas (d : Dev) (p : Packet) : (d.offNetwork p).replicas = d.replicas := rfl
@[simp] theorem Dev.offNetwork_uart (d : Dev) (p : Packet) : (d.offNetwork p).uart = d.uart := rfl
@[simp] theorem Dev.offNetwork_tap (d : Dev) (p : Packet) : (d.offNetwork p).tap = d.tap := rfl
@[simp] theorem Dev.offNetwork_keyOp (d : Dev) (p : Packet) : (d.offNetwork p).keyOp = d.keyOp := rfl
@[simp] theorem Dev.offNetwork_wrapShown (d : Dev) (p : Packet) : (d.offNetwork p).wrapShown = d.wrapShown := rfl
@[simp] theorem Dev.offNetwork_keyData (d : Dev) (p : Packet) : (d.offNetwork p).keyData = d.keyData := rfl
@[simp] theorem Dev.offNetwork_lcArmed (d : Dev) (p : Packet) : (d.offNetwork p).lcArmed = d.lcArmed := rfl
@[simp] theorem Dev.offNetwork_lcTarget (d : Dev) (p : Packet) : (d.offNetwork p).lcTarget = d.lcTarget := rfl
@[simp] theorem Dev.offNetwork_nvLc (d : Dev) (p : Packet) : (d.offNetwork p).nvLc = d.nvLc := rfl
@[simp] theorem Dev.offNetwork_nvSlots (d : Dev) (p : Packet) : (d.offNetwork p).nvSlots = d.nvSlots := rfl
@[simp] theorem Dev.offNetwork_nvKeys (d : Dev) (p : Packet) : (d.offNetwork p).nvKeys = d.nvKeys := rfl
@[simp] theorem Dev.offNetwork_nvGens (d : Dev) (p : Packet) : (d.offNetwork p).nvGens = d.nvGens := rfl
@[simp] theorem Dev.offNetwork_lcLost (d : Dev) (p : Packet) : (d.offNetwork p).lcLost = d.lcLost := rfl
@[simp] theorem Dev.offNetwork_vddio (d : Dev) (p : Packet) : (d.offNetwork p).vddio = d.vddio := rfl
@[simp] theorem Dev.offNetwork_dieResets (d : Dev) (p : Packet) : (d.offNetwork p).dieResets = d.dieResets := rfl
@[simp] theorem Dev.offNetwork_resetWarm (d : Dev) (p : Packet) : (d.offNetwork p).resetWarm = d.resetWarm := rfl
@[simp] theorem Dev.offNetwork_ports (d : Dev) (p : Packet) : (d.offNetwork p).ports = d.ports := rfl

end Sys2Proof.Machine
end

