-- ==== Sys2Proof/Laws/Regs.lean ====
section
/-!
SUPPORT. Sparse maps and register fields: what is found after listing or unlisting a key, that the canonical form of keys is
kept, and what a field reads after a write.
-/
namespace Sys2Proof.Machine

/-! Sparse maps. -/

@[simp] theorem KMap.find_put {V : Type} (m : KMap V) (k : Nat) (v : V) (j : Nat) :
    KMap.find (KMap.put m k v) j = if k = j then some v else KMap.find m j := by
  induction m with
  | nil => rfl
  | cons x t ih =>
    obtain ⟨a, w⟩ := x
    simp only [KMap.put]
    split
    · simp [KMap.find]
    · split
      · subst_vars; simp only [KMap.find]; split <;> rfl
      · simp only [KMap.find, ih]
        by_cases h1 : a = j
        · subst h1; simp_all
        · simp [h1]

@[simp] theorem KMap.find_del {V : Type} (m : KMap V) (k j : Nat) :
    KMap.find (KMap.del m k) j = if k = j then none else KMap.find m j := by
  induction m with
  | nil => simp [KMap.del, KMap.find]
  | cons x t ih =>
    obtain ⟨a, w⟩ := x
    simp only [KMap.del]
    split
    · subst_vars; rw [ih]; simp only [KMap.find]; split <;> simp_all
    · simp only [KMap.find, ih]
      by_cases h1 : a = j
      · subst h1; simp only [if_true]; rw [if_neg]; omega
      · simp [h1]

@[simp] theorem KMap.get_put {V : Type} (m : KMap V) (k : Nat) (v : V) (j : Nat) (e : V) :
    KMap.get (KMap.put m k v) j e = if k = j then v else KMap.get m j e := by
  simp only [KMap.get, KMap.find_put]; split <;> rfl

@[simp] theorem KMap.get_del {V : Type} (m : KMap V) (k j : Nat) (e : V) :
    KMap.get (KMap.del m k) j e = if k = j then e else KMap.get m j e := by
  simp only [KMap.get, KMap.find_del]; split <;> rfl

/-- A list of pairs in canonical form: the first key lies below every later key. -/
theorem KMap.rising_cons {V : Type} (a : Nat) (w : V) (t : KMap V) :
    KMap.rising ((a, w) :: t) = true ↔ (∀ x ∈ t, a < x.1) ∧ KMap.rising t = true := by
  induction t generalizing a w with
  | nil => simp [KMap.rising]
  | cons y t ih =>
    obtain ⟨b, v⟩ := y
    simp only [KMap.rising, Bool.and_eq_true, decide_eq_true_eq]
    constructor
    · rintro ⟨hab, hm, ht⟩
      refine ⟨?_, hm, ht⟩
      intro x hx
      rcases List.mem_cons.mp hx with rfl | hx
      · exact hab
      · have := ((ih b v).mp (by simp only [KMap.rising, Bool.and_eq_true]; exact ⟨hm, ht⟩)).1 x hx
        omega
    · rintro ⟨h, hm, ht⟩
      exact ⟨h (b, v) (by simp), hm, ht⟩

theorem KMap.mem_put {V : Type} {m : KMap V} {k : Nat} {v : V} {x : Nat × V} (h : x ∈ KMap.put m k v) :
    x = (k, v) ∨ x ∈ m := by
  induction m with
  | nil => simp [KMap.put] at h; exact .inl h
  | cons y t ih =>
    obtain ⟨a, w⟩ := y
    simp only [KMap.put] at h
    split at h
    · rcases List.mem_cons.mp h with h | h
      · exact .inl h
      · exact .inr h
    · split at h
      · rcases List.mem_cons.mp h with h | h
        · exact .inl h
        · exact .inr (List.mem_cons_of_mem _ h)
      · rcases List.mem_cons.mp h with h | h
        · exact .inr (by simp [h])
        · rcases ih h with h | h
          · exact .inl h
          · exact .inr (List.mem_cons_of_mem _ h)

theorem KMap.mem_del {V : Type} {m : KMap V} {k : Nat} {x : Nat × V} (h : x ∈ KMap.del m k) : x ∈ m := by
  induction m with
  | nil => simp [KMap.del] at h
  | cons y t ih =>
    obtain ⟨a, w⟩ := y
    simp only [KMap.del] at h
    split at h
    · exact List.mem_cons_of_mem _ (ih h)
    · rcases List.mem_cons.mp h with h | h
      · simp [h]
      · exact List.mem_cons_of_mem _ (ih h)

/-- Listing a value keeps the keys rising. -/
theorem KMap.rising_put {V : Type} (m : KMap V) (k : Nat) (v : V) (h : KMap.rising m = true) :
    KMap.rising (KMap.put m k v) = true := by
  induction m with
  | nil => rfl
  | cons y t ih =>
    obtain ⟨a, w⟩ := y
    have ⟨hlt, ht⟩ := (KMap.rising_cons a w t).mp h
    simp only [KMap.put]
    split
    · rw [KMap.rising_cons]
      refine ⟨?_, h⟩
      intro x hx
      rcases List.mem_cons.mp hx with rfl | hx
      · assumption
      · have := hlt x hx; omega
    · split
      · subst_vars; rw [KMap.rising_cons]; exact ⟨hlt, ht⟩
      · rw [KMap.rising_cons]
        refine ⟨?_, ih ht⟩
        intro x hx
        rcases KMap.mem_put hx with rfl | hx
        · simp only; omega
        · exact hlt x hx

/-- Unlisting a key keeps the keys rising. -/
theorem KMap.rising_del {V : Type} (m : KMap V) (k : Nat) (h : KMap.rising m = true) : KMap.rising (KMap.del m k) = true := by
  induction m with
  | nil => rfl
  | cons y t ih =>
    obtain ⟨a, w⟩ := y
    have ⟨hlt, ht⟩ := (KMap.rising_cons a w t).mp h
    simp only [KMap.del]
    split
    · exact ih ht
    · rw [KMap.rising_cons]; exact ⟨fun x hx => hlt x (KMap.mem_del hx), ih ht⟩

/-- Keeping some of the pairs keeps the keys rising. -/
theorem KMap.rising_filter {V : Type} (m : KMap V) (p : Nat × V → Bool) (h : KMap.rising m = true) :
    KMap.rising (m.filter p) = true := by
  induction m with
  | nil => rfl
  | cons y t ih =>
    obtain ⟨a, w⟩ := y
    have ⟨hlt, ht⟩ := (KMap.rising_cons a w t).mp h
    rw [List.filter_cons]
    split
    · rw [KMap.rising_cons]; exact ⟨fun x hx => hlt x (List.mem_of_mem_filter hx), ih ht⟩
    · exact ih ht

/-! Register fields. -/

/-- A field reads what was last written to its place, cut to its width; every other field reads as before. -/
@[simp] theorem Dev.rd_wr (d : Dev) (f : Field) (v : Nat) (g : Field) :
    (d.wr f v).rd g = if f.key = g.key then v % 2 ^ f.width else d.rd g := by
  simp only [Dev.rd, Dev.wr, KMap.get_put]

@[simp] theorem Dev.on_wr (d : Dev) (f : Field) (v : Nat) (g : Field) :
    (d.wr f v).on g = if f.key = g.key then v % 2 ^ f.width % 2 == 1 else d.on g := by
  simp only [Dev.on, Dev.rd_wr]; split <;> rfl

@[simp] theorem Dev.bit_wr (d : Dev) (f : Field) (v : Nat) (g : Field) (i : Nat) :
    (d.wr f v).bit g i = if f.key = g.key then (v % 2 ^ f.width).testBit i else d.bit g i := by
  simp only [Dev.bit, Dev.rd_wr]; split <;> rfl

theorem Dev.rd_wr_ne (d : Dev) {f g : Field} (v : Nat) (h : f.key ≠ g.key) : (d.wr f v).rd g = d.rd g := by
  simp only [Dev.rd_wr, if_neg h]

theorem Dev.rd_wr_same (d : Dev) (f : Field) (v : Nat) : (d.wr f v).rd f = v % 2 ^ f.width := by
  simp only [Dev.rd_wr, if_true]

theorem Dev.on_wr_ne (d : Dev) {f g : Field} (v : Nat) (h : f.key ≠ g.key) : (d.wr f v).on g = d.on g := by
  simp only [Dev.on, Dev.rd_wr_ne d v h]

/-- What a write gives a field depends on that field alone. -/
theorem Dev.wval_wr_ne (d : Dev) {f g : Field} (v : Nat) (w : RegWr) (h : f.key ≠ g.key) :
    (d.wr f v).wval w g = d.wval w g := by
  simp only [Dev.wval, Dev.rd_wr_ne d v h]

/-- Registers are read from the listing alone. -/
theorem Dev.rd_congr {d t : Dev} (h : t.regs = d.regs) (f : Field) : t.rd f = d.rd f := by simp only [Dev.rd, h]

@[simp] theorem Dev.rd_emit (d : Dev) (e : OutEvent) (g : Field) : (d.emit e).rd g = d.rd g := rfl
@[simp] theorem Dev.on_emit (d : Dev) (e : OutEvent) (g : Field) : (d.emit e).on g = d.on g := rfl
@[simp] theorem Dev.bit_emit (d : Dev) (e : OutEvent) (g : Field) (i : Nat) : (d.emit e).bit g i = d.bit g i := rfl
@[simp] theorem Dev.rd_burn (d : Dev) (g : Field) : (d.burn).rd g = d.rd g := rfl
@[simp] theorem Dev.on_burn (d : Dev) (g : Field) : (d.burn).on g = d.on g := rfl
@[simp] theorem Dev.bit_burn (d : Dev) (g : Field) (i : Nat) : (d.burn).bit g i = d.bit g i := rfl
@[simp] theorem Dev.rd_setQueue (d : Dev) (q : Nat) (x : QueueSt) (g : Field) : (d.setQueue q x).rd g = d.rd g := rfl
@[simp] theorem Dev.on_setQueue (d : Dev) (q : Nat) (x : QueueSt) (g : Field) : (d.setQueue q x).on g = d.on g := rfl
@[simp] theorem Dev.bit_setQueue (d : Dev) (q : Nat) (x : QueueSt) (g : Field) (i : Nat) : (d.setQueue q x).bit g i = d.bit g i := rfl
@[simp] theorem Dev.rd_setPort (d : Dev) (p : Port) (x : PortSt) (g : Field) : (d.setPort p x).rd g = d.rd g := rfl
@[simp] theorem Dev.on_setPort (d : Dev) (p : Port) (x : PortSt) (g : Field) : (d.setPort p x).on g = d.on g := rfl
@[simp] theorem Dev.bit_setPort (d : Dev) (p : Port) (x : PortSt) (g : Field) (i : Nat) : (d.setPort p x).bit g i = d.bit g i := rfl
@[simp] theorem Dev.rd_setBucket (d : Dev) (k : UnitKind) (u : Nat) (b : Bucket) (g : Field) : (d.setBucket k u b).rd g = d.rd g := rfl
@[simp] theorem Dev.on_setBucket (d : Dev) (k : UnitKind) (u : Nat) (b : Bucket) (g : Field) : (d.setBucket k u b).on g = d.on g := rfl
@[simp] theorem Dev.bit_setBucket (d : Dev) (k : UnitKind) (u : Nat) (b : Bucket) (g : Field) (i : Nat) : (d.setBucket k u b).bit g i = d.bit g i := rfl
@[simp] theorem Dev.rd_setWord (d : Dev) (w : Nat) (data res : List Byte) (g : Field) : (d.setWord w data res).rd g = d.rd g := rfl
@[simp] theorem Dev.on_setWord (d : Dev) (w : Nat) (data res : List Byte) (g : Field) : (d.setWord w data res).on g = d.on g := rfl
@[simp] theorem Dev.bit_setWord (d : Dev) (w : Nat) (data res : List Byte) (g : Field) (i : Nat) : (d.setWord w data res).bit g i = d.bit g i := rfl

/-! Queues and ports. -/

@[simp] theorem Dev.queue_setQueue (d : Dev) (q : Nat) (x : QueueSt) (p : Nat) :
    (d.setQueue q x).queue p = if q = p then x else d.queue p := by
  simp only [Dev.queue, Dev.setQueue, KMap.get_put]

@[simp] theorem Dev.queue_wr (d : Dev) (f : Field) (v : Nat) (q : Nat) : (d.wr f v).queue q = d.queue q := rfl
@[simp] theorem Dev.queue_emit (d : Dev) (e : OutEvent) (q : Nat) : (d.emit e).queue q = d.queue q := rfl
@[simp] theorem Dev.queue_burn (d : Dev) (q : Nat) : d.burn.queue q = d.queue q := rfl
@[simp] theorem Dev.journal_wr (d : Dev) (f : Field) (v : Nat) (q : Nat) : (d.wr f v).journal q = d.journal q := rfl
@[simp] theorem Dev.journal_emit (d : Dev) (e : OutEvent) (q : Nat) : (d.emit e).journal q = d.journal q := rfl
@[simp] theorem Dev.journal_burn (d : Dev) (q : Nat) : d.burn.journal q = d.journal q := rfl

@[simp] theorem Dev.port_setPort (d : Dev) (p : Port) (x : PortSt) (r : Port) :
    (d.setPort p x).port r = if p = r then x else d.port r := by
  simp only [Dev.port, Dev.setPort, KMap.get_put]
  cases p <;> cases r <;> simp [Port.num]

/-- A bucket reads what was last put there. -/
theorem Dev.bucket_setBucket (d : Dev) (k : UnitKind) (u : Nat) (b : Bucket) : (d.setBucket k u b).bucket k u = b := by
  simp [Dev.bucket, Dev.setBucket]

end Sys2Proof.Machine
end

