-- ==== Sys2Proof/Laws/Memory.lean ====
section
/-!
SUPPORT. The store's listing: every memory operation keeps the canonical form; a byte reads what was last written to it, and
every other byte as before.
-/
namespace Sys2Proof.Machine

/-- The canonical form in two parts. -/
theorem Memory.wf_iff (m : List Host.Cell) :
    Memory.wf m = true ↔ KMap.rising m = true ∧ ∀ c ∈ m, c.2 ≠ memDefault c.1 := by
  simp [Memory.wf]

theorem Memory.wf_nil : Memory.wf [] = true := rfl

/-- Writing one byte keeps the canonical form. -/
theorem Memory.wf_put (m : List Host.Cell) (a : Nat) (b : Byte) (h : Memory.wf m = true) : Memory.wf (memPut m a b) = true := by
  rw [Memory.wf_iff] at h ⊢
  unfold memPut
  split
  · exact ⟨KMap.rising_del m a h.1, fun c hc => h.2 c (KMap.mem_del hc)⟩
  · refine ⟨KMap.rising_put m a b h.1, fun c hc => ?_⟩
    rcases KMap.mem_put hc with rfl | hc
    · assumption
    · exact h.2 c hc

/-- Writing consecutive bytes keeps the canonical form. -/
theorem Memory.wf_putList (l : List Byte) (m : List Host.Cell) (a : Nat) (h : Memory.wf m = true) :
    Memory.wf (memPutList m a l) = true := by
  induction l generalizing m a with
  | nil => exact h
  | cons b t ih => exact ih _ _ (Memory.wf_put m a b h)

/-- Unlisting any entries keeps the canonical form. -/
theorem Memory.wf_filter (m : List Host.Cell) (p : Host.Cell → Bool) (h : Memory.wf m = true) :
    Memory.wf (m.filter p) = true := by
  rw [Memory.wf_iff] at h ⊢
  exact ⟨KMap.rising_filter m p h.1, fun c hc => h.2 c (List.mem_of_mem_filter hc)⟩

/-- Losing a range of addresses keeps the canonical form. -/
theorem Memory.wf_wipe (m : List Host.Cell) (lo hi : Nat) (h : Memory.wf m = true) : Memory.wf (memWipe m lo hi) = true :=
  Memory.wf_filter m _ h

theorem Dev.wf_setWord (d : Dev) (w : Nat) (data res : List Byte) (h : Memory.wf d.mem = true) :
    Memory.wf (d.setWord w data res).mem = true :=
  Memory.wf_putList _ _ _ (Memory.wf_putList _ _ _ h)

theorem Dev.wf_poisonWord (d : Dev) (w : Nat) (h : Memory.wf d.mem = true) : Memory.wf (d.poisonWord w).mem = true :=
  Memory.wf_wipe _ _ _ (Memory.wf_wipe _ _ _ h)

theorem Dev.wf_poisonRow (d : Dev) (r : Nat) (h : Memory.wf d.mem = true) : Memory.wf (d.poisonRow r).mem = true :=
  Memory.wf_wipe _ _ _ (Memory.wf_wipe _ _ _ h)

theorem Dev.wf_poisonBank (d : Dev) (n : Nat) (h : Memory.wf d.mem = true) : Memory.wf (d.poisonBank n).mem = true :=
  Memory.wf_wipe _ _ _ (Memory.wf_wipe _ _ _ h)

/-! Reading. -/

/-- A byte reads what was last written to it, and every other byte reads as before. -/
@[simp] theorem memGet_put (m : List Host.Cell) (a : Nat) (b : Byte) (x : Nat) :
    memGet (memPut m a b) x = if a = x then b else memGet m x := by
  unfold memPut memGet
  split
  · rw [KMap.find_del]
    by_cases h : a = x
    · subst h; simp_all
    · simp [h]
  · rw [KMap.find_put]
    by_cases h : a = x <;> simp [h]

/-- Consecutive bytes that were written are read back, and every byte outside them reads as before. -/
theorem memGet_putList (l : List Byte) (m : List Host.Cell) (a x : Nat) :
    memGet (memPutList m a l) x = if a ≤ x ∧ x < a + l.length then l.getD (x - a) 0 else memGet m x := by
  induction l generalizing m a with
  | nil => rw [if_neg (by simp)]; rfl
  | cons b t ih =>
    rw [memPutList, ih, memGet_put]
    simp only [List.length_cons]
    by_cases h : a = x
    · subst h
      rw [if_neg (by omega), if_pos rfl, if_pos (by omega)]
      simp
    · by_cases h2 : a + 1 ≤ x ∧ x < a + 1 + t.length
      · rw [if_pos h2, if_pos (by omega)]
        obtain ⟨k, hk⟩ : ∃ k, x - a = k + 1 := ⟨x - a - 1, by omega⟩
        rw [hk, List.getD_cons_succ]
        congr 1
        omega
      · rw [if_neg h2, if_neg h, if_neg (by omega)]

/-- A listing filtered by address reads as before where the address is kept, and as nothing listed elsewhere. -/
theorem KMap.find_filter {V : Type} (m : KMap V) (p : Nat → Bool) (x : Nat) :
    KMap.find (m.filter fun c => p c.1) x = if p x then KMap.find m x else none := by
  induction m with
  | nil => simp [KMap.find]
  | cons y t ih =>
    obtain ⟨a, w⟩ := y
    rw [List.filter_cons]
    by_cases h : a = x
    · subst h
      by_cases hp : p a = true
      · simp [hp, KMap.find]
      · simp only [hp, Bool.false_eq_true, if_false, ih]
    · by_cases hp : p a = true
      · simp only [hp, if_true, KMap.find, h, if_false, ih]
      · simp only [hp, Bool.false_eq_true, if_false, KMap.find, h, ih]

/-- After a range is lost, its addresses read as nothing listed; every other one reads as before. -/
theorem memGet_wipe (m : List Host.Cell) (lo hi x : Nat) :
    memGet (memWipe m lo hi) x = if lo ≤ x ∧ x < hi then memDefault x else memGet m x := by
  unfold memGet memWipe
  rw [KMap.find_filter m (fun a => decide (a < lo ∨ hi ≤ a)) x]
  by_cases h : lo ≤ x ∧ x < hi
  · rw [if_neg (by simp; omega), if_pos h]; rfl
  · rw [if_pos (by simp; omega), if_neg h]

/-- A word stored is read back with its residue, when both have their lengths. -/
theorem Dev.byteAt_setWord (d : Dev) (w : Nat) (data res : List Byte) (x : Nat) (hx : x < residueBase) :
    (d.setWord w data res).byteAt x = if 32 * w ≤ x ∧ x < 32 * w + data.length then data.getD (x - 32 * w) 0 else d.byteAt x := by
  unfold Dev.byteAt Dev.setWord
  simp only
  rw [memGet_putList, if_neg (by omega), memGet_putList]

end Sys2Proof.Machine
end

