-- ==== Sys2Proof/Laws/Claims.lean ====
section
/-!
SUPPORT. The terms of Safety.lean: changes of register fields alone, one after another; where a served write goes on.
-/
namespace Sys2Proof.Machine

theorem Dev.regsOnly_refl (d : Dev) (fs : List Field) : d.regsOnly d fs := ⟨rfl, fun _ _ => rfl⟩

/-- One more write of a listed field. -/
theorem Dev.regsOnly_wr {d t : Dev} {fs : List Field} {f : Field} (h : d.regsOnly t fs) (hf : f ∈ fs) (v : Nat) :
    d.regsOnly (t.wr f v) fs :=
  ⟨h.1, fun g hg => by rw [Dev.rd_wr_ne _ _ (hg f hf)]; exact h.2 g hg⟩

/-- A served write has its effect. -/
theorem Dev.onWrite_ok {d : Dev} {w : RegWr} {off : Nat} (h : d.reaches w off) (i : Instr) (f : Dev → Dev) : d.onWrite i w.src off f = f d := by
  unfold Dev.reaches at h
  simp only [Dev.onWrite, h]

/-- A write of its queue's range by the owning port has its effect. -/
theorem Dev.onQueueWrite_ok {d : Dev} {q : Nat} {w : RegWr} {off : Nat} (h : d.ownWrite q w off) (i : Instr) (f : Dev → Dev) :
    d.onQueueWrite i q w.src off f = f d := by
  rw [Dev.onQueueWrite, Dev.onWrite_ok h.1, if_pos h.2]

end Sys2Proof.Machine
end

