-- ==== Sys2Proof/Laws/Submit.lean ====
section
/-!
SUPPORT. A command submitted to a queue that takes it at once (Dev.ready): its words are taken whole, its entry stands alone in the
journal, and it works on the device Dev.begun; the proofs about commands cite these and unfold the accept stage no more.
-/
namespace Sys2Proof.Machine

/-! Places. -/

/-- Steps along a ring or a list add up. -/
theorem Place.plus_plus (p : Place) (m n : Nat) : (p.plus m).plus n = p.plus (m + n) := by
  cases p with
  | ring i => simp only [Place.plus]; congr 1; omega
  | list b a => simp only [Place.plus]; congr 1; omega

/-- The path passes over nothing that is not seen. -/
theorem Dev.nextPlace_unseen {d : Dev} {q : Nat} {p : Place} (h : d.seen q p = false) : d.nextPlace q p = p := by
  simp [Dev.nextPlace, h]

/-- Words that no one has taken follow one another on the path. -/
theorem Dev.pathPlaces_fresh (d : Dev) (q : Nat) : ∀ (n : Nat) (p : Place), p.plus 0 = p →
    (∀ x ∈ placesFrom p n, d.seen q x = false) → d.pathPlaces q n p = placesFrom p n
  | 0, p, _, _ => rfl
  | n + 1, p, hp, h => by
    have h0 : d.seen q p = false := h p (by simp only [placesFrom, List.mem_map]; exact ⟨0, by simp, hp⟩)
    have ih := Dev.pathPlaces_fresh d q n (p.plus 1) (by rw [Place.plus_plus]) (by
      intro x hx
      simp only [placesFrom, List.mem_map, List.mem_range] at hx
      obtain ⟨i, hi, rfl⟩ := hx
      exact h _ (by simp only [placesFrom, List.mem_map, List.mem_range]; exact ⟨1 + i, by omega, by rw [Place.plus_plus]⟩))
    simp only [Dev.pathPlaces, Dev.nextPlace_unseen h0, ih]
    simp only [placesFrom, List.range_succ_eq_map, List.map_cons, List.map_map, hp]
    congr 1
    apply List.map_congr_left
    intro i _
    simp [Place.plus_plus, Nat.add_comm]

/-- Fresh words agree with the queue. -/
theorem Dev.agrees_fresh {d : Dev} {q : Nat} {ws : List Word} (h : d.freshWords q ws.length) : d.agrees q ws = true := by
  obtain ⟨ha, hp, hw⟩ := h
  simp only [Dev.agrees, Dev.pathPlaces_fresh d q _ _ hp (fun x hx => (hw x hx).1), List.all_eq_true]
  rintro ⟨p, w⟩ hx
  have hm := (List.of_mem_zip hx).1
  simp [Dev.wordAt, (hw p hm).1, (hw p hm).2, ha]


/-! The accept stage. -/

/-- With nothing offered to a twin the accept stage sees the queue as it stands. -/
theorem Dev.atPath_plain {d : Dev} {q : Nat} (h : (d.queue q).snaps = []) : d.atPath q = d := by simp [Dev.atPath, h]

/-- A device that tells no twin is no Paired Lead. -/
theorem Dev.pairedLead_telling {d : Dev} (h : d.telling = false) : d.pairedLead = false := by
  simp only [Dev.telling, Bool.and_eq_false_iff, Bool.or_eq_false_iff] at h
  simp only [Dev.pairedLead, Bool.and_eq_false_iff]
  rcases h with h | h
  · exact .inl h.2
  · exact .inr h

/-- A command's words reach the accept stage of a queue that takes them at once. -/
theorem Dev.acceptWords_ready {d : Dev} {q : Nat} {ws : List Word} (h : d.ready q ws.length) (hw : ws ≠ []) :
    d.acceptWords q ws = (d.wr (QU_STAT_JWAIT q) 0).takeWords q ws := by
  obtain ⟨ha, _, hs, hf, hr, _, _⟩ := h
  simp only [Dev.acceptWords, ha, Dev.atPath_plain hs, Dev.agrees_fresh hf, hr]
  simp [hw]

/-- Nothing but the path of one queue, with its journal, and FETCH, differ. -/
def Dev.pathOnly (d t : Dev) (q : Nat) : Prop :=
  (∃ rs qs, t = { d with regs := rs, queues := qs }) ∧ (∀ g : Field, (QU_HEAD_FETCH q).key ≠ g.key → t.rd g = d.rd g) ∧
    (∀ p, p ≠ q → t.queue p = d.queue p) ∧ t.journal q = d.journal q ∧ (t.queue q).snaps = (d.queue q).snaps

/-- A path that goes on changes the path alone. -/
theorem Dev.goTo_pathOnly (d : Dev) (q : Nat) (p : Place) : d.pathOnly (d.goTo q p) q ∧ ((d.goTo q p).queue q).pos = p := by
  cases p <;>
  refine ⟨⟨⟨_, _, rfl⟩, ?_, ?_, ?_, ?_⟩, ?_⟩ <;>
  first
  | (intro g hg; simp [Dev.goTo, Dev.rd_wr_ne _ _ hg])
  | (intro r hr; simp only [Dev.goTo, Dev.queue_wr, Dev.queue_setQueue]; rw [if_neg (fun h => hr h.symm)])
  | simp [Dev.goTo, Dev.journal]

/-- Such changes add up. -/
theorem Dev.pathOnly_trans {d t u : Dev} {q : Nat} (h : d.pathOnly t q) (k : t.pathOnly u q) : d.pathOnly u q := by
  obtain ⟨h1, h2, h3, h4, h5⟩ := h
  obtain ⟨k1, k2, k3, k4, k5⟩ := k
  refine ⟨?_, fun g hg => (k2 g hg).trans (h2 g hg), fun p hp => (k3 p hp).trans (h3 p hp), k4.trans h4, k5.trans h5⟩
  obtain ⟨r1, q1, rfl⟩ := h1
  obtain ⟨r2, q2, rfl⟩ := k1
  exact ⟨r2, q2, rfl⟩

/-- A queue whose journal stays changes its path alone. -/
theorem Dev.setQueue_pathOnly (d : Dev) (q : Nat) (x : QueueSt) (hj : x.journal = d.journal q) (hs : x.snaps = (d.queue q).snaps) :
    d.pathOnly (d.setQueue q x) q :=
  ⟨⟨_, _, rfl⟩, fun _ _ => rfl, fun p hp => by simp only [Dev.queue_setQueue]; rw [if_neg (fun h => hp h.symm)], by simp [Dev.journal] at *; exact hj,
    by simp [hs]⟩

/-- The path of a queue whose next command is none of the sequencer's. -/
theorem Dev.follow_plain (d : Dev) (q : Nat) (ws : List Word) (h : seqOpcode (opcodeOf (ws.getD 0 0)) = false) :
    (d.follow q ws).1 = none ∧ d.pathOnly (d.follow q ws).2.2 q ∧
      ((d.follow q ws).2.2.queue q).pos = ((d.pathPlaces q ws.length (d.queue q).pos).getLast?.getD (d.nextPlace q (d.queue q).pos)).plus 1 := by
  simp only [Dev.follow, h, Bool.false_eq_true, if_false]
  refine ⟨trivial, ?_, ?_⟩
  · refine Dev.pathOnly_trans ?_ (Dev.goTo_pathOnly _ q _).1
    apply Dev.setQueue_pathOnly
    · simp only [Dev.journal]
    · simp only []
  · exact (Dev.goTo_pathOnly _ q _).2

/-- Telling the twin depends on two fields alone. -/
theorem Dev.telling_congr {d t : Dev} (h1 : t.rd TWIN_STAT_STATE = d.rd TWIN_STAT_STATE) (h2 : t.rd TWIN_STAT_ROLE = d.rd TWIN_STAT_ROLE) :
    t.telling = d.telling := by simp [Dev.telling, h1, h2]


/-- A changed path leaves fields outside the queues' range alone. -/
theorem Dev.pathOnly_rd {d t : Dev} {q : Nat} (h : d.pathOnly t q) {g : Field} (hg : g.off < 0x50000 ∨ 0x400000 ≤ g.off) (hq : q < 64)
    (hl : g.lo < 64) : t.rd g = d.rd g := by
  refine h.2.1 g ?_
  show (0x50010 + 0x100 * q) * 8 + 0 ≠ g.off * 8 + g.lo
  omega

/-- A changed path does not change telling. -/
theorem Dev.pathOnly_telling {d t : Dev} {q : Nat} (h : d.pathOnly t q) (hq : q < 64) : t.telling = d.telling :=
  Dev.telling_congr (h.2.1 _ (by show (0x50010 + 0x100 * q) * 8 + 0 ≠ 0x400008 * 8 + 2; omega))
    (h.2.1 _ (by show (0x50010 + 0x100 * q) * 8 + 0 ≠ 0x400008 * 8 + 1; omega))

/-- What the accept stage leaves of a command that is none of the sequencer's: its entry at the journal's end. -/
theorem Dev.takeWords_plain {d : Dev} {q : Nat} {ws : List Word} (hqq : q < 64) (hs : (d.queue q).snaps = []) (ht : d.telling = false)
    (hq : seqOpcode (opcodeOf (ws.getD 0 0)) = false) :
    ∃ t idx, d.pathOnly t q ∧ (d.follow q ws).2.1 = idx ∧ (t.queue q).pos = ((d.pathPlaces q ws.length (d.queue q).pos).getLast?.getD (d.nextPlace q (d.queue q).pos)).plus 1 ∧ 
    d.takeWords q ws =
      (t.setQueue q { t.queue q with
        journal := d.journal q ++ [d.newEntry q (seqNext (d.lastSeq q)) (d.rd (QU_EPOCH_EPOCH q)) ws] }).showAccept q
          (seqNext (d.lastSeq q)) idx (decodeCmd ws == some .halt) := by
  have hp := Dev.pairedLead_telling ht
  obtain ⟨hf, hpo, hpos⟩ := Dev.follow_plain d q ws hq
  refine ⟨(d.follow q ws).2.2, _, hpo, rfl, hpos, ?_⟩
  simp only [Dev.takeWords, Dev.atPath_plain hs, hp]
  generalize d.follow q ws = r at *
  obtain ⟨fin, idx, t⟩ := r
  simp only at hf; subst hf
  have htt : t.telling = false := (Dev.pathOnly_telling hpo hqq).trans ht
  have hj : (t.queue q).journal = d.journal q := hpo.2.2.2.1
  have : (t.setQueue q { t.queue q with journal := d.journal q ++ [d.newEntry q (seqNext (d.lastSeq q)) (d.rd (QU_EPOCH_EPOCH q)) ws] }).telling = false := htt
  simp only [hj, Bool.false_eq_true, if_false]
  have he : ({ d.newEntry q (seqNext (d.lastSeq q)) (d.rd (QU_EPOCH_EPOCH q)) ws with stage := .accepted, fin := none, aux := [] } : Entry) =
    d.newEntry q (seqNext (d.lastSeq q)) (d.rd (QU_EPOCH_EPOCH q)) ws := rfl
  rw [he, if_neg (by rw [this]; simp)]
  rfl

/-- Acceptance shows in the queues' range alone. -/
theorem Dev.rd_showAccept_ne (d : Dev) (q seq : Nat) (i : Option Nat) (h : Bool) (g : Field) (hq : q < 64)
    (hg : g.off < 0x50000 ∨ 0x400000 ≤ g.off) (hl : g.lo < 64) : (d.showAccept q seq i h).rd g = d.rd g := by
  have k1 : (ACCEPT_INDEX_INDEX q).key ≠ g.key := by
    show (0x50018 + 0x100 * q) * 8 + 0 ≠ g.off * 8 + g.lo; omega
  have k2 : (QU_ACCEPT_SEQ_SEQ q).key ≠ g.key := by
    show (0x50020 + 0x100 * q) * 8 + 0 ≠ g.off * 8 + g.lo; omega
  have k3 : (QU_CTL_EN q).key ≠ g.key := by
    show (0x50030 + 0x100 * q) * 8 + 0 ≠ g.off * 8 + g.lo; omega
  cases i <;> cases h <;> simp [Dev.showAccept, Dev.rd_wr_ne _ _ k1, Dev.rd_wr_ne _ _ k2, Dev.rd_wr_ne _ _ k3]

/-- Acceptance shows in registers alone. -/
theorem Dev.showAccept_only (d : Dev) (q seq : Nat) (i : Option Nat) (h : Bool) :
    ∃ rs, d.showAccept q seq i h = { d with regs := rs } := by
  cases i <;> cases h <;> exact ⟨_, rfl⟩

/-- The device once a queue has accepted a command that is none of the sequencer's. -/
theorem Dev.accepted_plain {d : Dev} {q : Nat} {ws : List Word} {c : Cmd} (hqq : q < 64) (h : d.ready q ws.length) (hw : ws ≠ [])
    (hd : decodeCmd ws = some c) (hq : seqOpcode (opcodeOf (ws.getD 0 0)) = false) :
    ∃ a e, d.acceptWords q ws = a ∧ a = (d.wr (QU_STAT_JWAIT q) 0).takeWords q ws ∧ a.journal q = [e] ∧ e.seq = d.nextSeq q ∧
      e.stage = .accepted ∧ e.cmd = some c ∧ e.fin = none ∧ e = (d.wr (QU_STAT_JWAIT q) 0).newEntry q (d.nextSeq q) (d.rd (QU_EPOCH_EPOCH q)) ws ∧
      (∃ rs qs, a = { d with regs := rs, queues := qs }) ∧ (∀ p, p ≠ q → a.queue p = d.queue p) ∧
      (∀ g : Field, g.off < 0x50000 ∨ 0x400000 ≤ g.off → g.lo < 64 → a.rd g = d.rd g) := by
  have hr := Dev.acceptWords_ready h hw
  obtain ⟨ha, hj, hs, hf, _, ht, _⟩ := h
  have kj : ∀ g : Field, g.off < 0x50000 ∨ 0x400000 ≤ g.off → g.lo < 64 → (QU_STAT_JWAIT q).key ≠ g.key := by
    intro g hg hl
    show (0x50038 + 0x100 * q) * 8 + 7 ≠ g.off * 8 + g.lo
    omega
  have ht' : (d.wr (QU_STAT_JWAIT q) 0).telling = false := by
    rw [← ht]; exact Dev.telling_congr (Dev.rd_wr_ne _ _ (kj _ (by decide) (by decide))) (Dev.rd_wr_ne _ _ (kj _ (by decide) (by decide)))
  obtain ⟨t, idx, hpo, _, _, hk⟩ := Dev.takeWords_plain (d := d.wr (QU_STAT_JWAIT q) 0) hqq hs ht' hq
  have hseq : seqNext ((d.wr (QU_STAT_JWAIT q) 0).lastSeq q) = d.nextSeq q := by
    simp only [Dev.nextSeq, Dev.lastSeq, Dev.journal_wr, hj, List.getLast?_nil]
    rw [Dev.rd_wr_ne]
    show (0x50038 + 0x100 * q) * 8 + 7 ≠ (0x50020 + 0x100 * q) * 8 + 0
    omega
  have hep : (d.wr (QU_STAT_JWAIT q) 0).rd (QU_EPOCH_EPOCH q) = d.rd (QU_EPOCH_EPOCH q) := by
    rw [Dev.rd_wr_ne]
    show (0x50038 + 0x100 * q) * 8 + 7 ≠ _
    simp only [QU_EPOCH_EPOCH, Field.key]
    omega
  rw [hseq, hep] at hk
  obtain ⟨rs, hrs⟩ := Dev.showAccept_only (t.setQueue q { t.queue q with
        journal := (d.wr (QU_STAT_JWAIT q) 0).journal q ++ [(d.wr (QU_STAT_JWAIT q) 0).newEntry q (d.nextSeq q) (d.rd (QU_EPOCH_EPOCH q)) ws] }) q (d.nextSeq q) idx (decodeCmd ws == some .halt)
  refine ⟨_, _, hr, rfl, ?_, rfl, rfl, hd, rfl, rfl, ?_, ?_, ?_⟩
  · rw [hk, hrs]
    simp only [Dev.journal_wr, hj, List.nil_append]
    show ((t.setQueue q _).queue q).journal = _
    simp only [Dev.queue_setQueue, if_true]
  · rw [hk, hrs]
    obtain ⟨⟨r1, q1, rfl⟩, _⟩ := hpo
    exact ⟨_, _, rfl⟩
  · intro p hp
    rw [hk, hrs]
    show (t.setQueue q _).queue p = _
    simp only [Dev.queue_setQueue]
    rw [if_neg (fun h => hp h.symm), hpo.2.2.1 p hp]
    rfl
  · intro g hg hl
    rw [hk, Dev.rd_showAccept_ne _ _ _ _ _ _ hqq hg hl]
    rw [Dev.rd_setQueue, Dev.pathOnly_rd hpo hg hqq hl, Dev.rd_wr_ne _ _ (kj g hg hl)]

/-! The start. -/

/-- The only command of a journal may start. -/
theorem Dev.startable_single {d : Dev} {q : Nat} {e : Entry} (hj : d.journal q = [e]) (hs : e.stage = .accepted) :
    d.startable q = some e := by
  simp [Dev.startable, hj, hs]

/-- It is found by its number. -/
theorem Dev.entry_single {d : Dev} {q : Nat} {e : Entry} (hj : d.journal q = [e]) : d.entry q e.seq = some e := by
  simp [Dev.entry, hj]

/-- What a changed entry leaves of the journals. -/
theorem Dev.journal_updEntry (d : Dev) (q seq : Nat) (f : Entry → Entry) (p : Nat) :
    (d.updEntry q seq f).journal p = if q = p then (d.journal q).map (fun e => if e.seq == seq then f e else e) else d.journal p := by
  simp only [Dev.updEntry, Dev.journal, Dev.queue_setQueue]
  split <;> simp_all

/-- A command that is none of the sequencer's, submitted to a queue that takes it at once: it is in progress and works, or it names a
handle that is not allocated. -/
theorem Dev.submit_ready {d : Dev} {q : Nat} {c : Cmd} {f : CmdFlags} {env : CmdEnv} (hqq : q < 64) (h : d.ready q (encodeCmd c f).length)
    (hin : c.inRange = true) (hd : decodeCmd (encodeCmd c f) = some c) (hw : encodeCmd c f ≠ [])
    (hq : seqOpcode (opcodeOf ((encodeCmd c f).getD 0 0)) = false) (hl : lacksImage c env = false) :
    d.submit q c f env = if ((d.wr (QU_STAT_JWAIT q) 0).takeWords q (encodeCmd c f)).handles q (d.nextSeq q) c = .gone
      then (d.begun q c f env).settle q (d.nextSeq q) (some (.invalid, 0)) else (d.begun q c f env).runCmd q (d.nextSeq q) := by
  obtain ⟨a, e, hacc, ha, hj, hes, hst, hec, hfin, hen, ⟨rs, qs, hrs⟩, hpq, hrd⟩ := Dev.accepted_plain hqq h hw hd hq
  obtain ⟨hok, _⟩ := h
  have hheld : a.held = d.held := by rw [hrs]
  clear hrs hpq
  have hset : ∀ x : Dev, x.held = d.held → (∀ g : Field, g.off < 0x50000 ∨ 0x400000 ≤ g.off → g.lo < 64 → x.rd g = d.rd g) →
      (!x.running || !x.gateServes 5 || x.shadowing || x.rd TWIN_STAT_STATE == 5) = false := by
    intro x hx hr
    simp only [Dev.accepting, Bool.and_eq_true, Bool.not_eq_true', bne_iff_ne, ne_eq] at hok
    simp only [Dev.running, Dev.gateServes, Dev.shadowing, Dev.bit] at hok ⊢
    rw [hr RESET_STAT_PHASE (by decide) (by decide), hr CLK_REST_STATE (by decide) (by decide), hr CLK_GATE0_GATE (by decide) (by decide),
      hr CLK_GATE_PEND_PEND (by decide) (by decide), hr TWIN_STAT_ROLE (by decide) (by decide), hr TWIN_STAT_STATE (by decide) (by decide), hx]
    simp only [hok]
    simp [hok]
  have hstart := Dev.startable_single hj hst
  have hlast : a.lastSeq q = d.nextSeq q := by simp [Dev.lastSeq, hj, hes]
  have hent : a.entry q e.seq = some e := Dev.entry_single hj
  have hb : a.updEntry q e.seq (fun x => { x with stage := .started, started := a.stamp, epoch := a.rd (QU_EPOCH_EPOCH q), env := env }) =
      d.begun q c f env := by
    simp only [Dev.begun, hes, ← ha]
  have hbe : (d.begun q c f env).entry q e.seq = some { e with stage := .started, started := a.stamp, epoch := a.rd (QU_EPOCH_EPOCH q), env := env } := by
    rw [← hb]
    simp [Dev.entry, Dev.journal_updEntry, hj]
  have hgo : a.startRun q env = if a.handles q (d.nextSeq q) c = .gone then (d.begun q c f env).settle q (d.nextSeq q) (some (.invalid, 0))
      else (d.begun q c f env).runCmd q (d.nextSeq q) := by
    rw [hes] at hbe
    rw [Dev.startRun, Dev.startNext, hset a hheld hrd, hstart]
    rw [if_neg Bool.false_ne_true]
    dsimp only
    rw [Dev.startCmd, hec]
    dsimp only
    simp only [hin, hl, Bool.not_true, Bool.false_or, Bool.and_false, Bool.false_eq_true, if_false, hb]
    simp only [hes, hbe, decide_eq_true_eq]
  have hn : seqNext (d.lastSeq q) = d.nextSeq q := by simp only [Dev.nextSeq]
  have key : d.submit q c f env = a.startRun q env := by
    generalize hz : a.startRun q env = z
    unfold Dev.submit
    simp only [hacc, hn, hstart]
    rw [hes, hlast, beq_self_eq_true, Bool.and_self]
    exact hz
  rw [key, hgo, ha]

/-- The entry of a command that has been accepted and started, as its queue takes it at once. -/
theorem Dev.begun_entry {d : Dev} {q : Nat} {c : Cmd} {f : CmdFlags} {env : CmdEnv} (hqq : q < 64) (h : d.ready q (encodeCmd c f).length)
    (hd : decodeCmd (encodeCmd c f) = some c) (hw : encodeCmd c f ≠ []) (hq : seqOpcode (opcodeOf ((encodeCmd c f).getD 0 0)) = false) :
    ∃ e, (d.begun q c f env).journal q = [e] ∧ e.seq = d.nextSeq q ∧ e.stage = .started ∧ e.fin = none ∧ e.cmd = some c ∧ e.aux = [] ∧
      e.staged = [] ∧ e.delta = [] ∧ e.wrote = [] ∧ e.mute = false ∧ e.replay = false ∧ e.env = env ∧ e.words = encodeCmd c f ∧
      e.epoch = (d.begun q c f env).rd (QU_EPOCH_EPOCH q) := by
  obtain ⟨a, e, hacc, ha, hj, hes, hst, hec, hfin, hen, _⟩ := Dev.accepted_plain hqq h hw hd hq
  refine ⟨{ e with stage := .started, started := a.stamp, epoch := a.rd (QU_EPOCH_EPOCH q), env := env }, ?_, hes, rfl, hfin, hec, ?_, ?_, ?_, ?_, ?_,
    ?_, rfl, ?_, ?_⟩
  · simp only [Dev.begun, ← ha, Dev.journal_updEntry, hj, if_true, List.map_cons, List.map_nil, hes, beq_self_eq_true]
  · rw [hen]; rfl
  · rw [hen]; rfl
  · rw [hen]; rfl
  · rw [hen]; rfl
  · rw [hen]; rfl
  · rw [hen]; rfl
  · rw [hen]; rfl
  · simp only [Dev.begun, ← ha]; rfl

/-- A begun command goes on to its work. -/
theorem Dev.runCmd_work {d : Dev} {q seq : Nat} {e : Entry} {c : Cmd} (he : d.entry q seq = some e) (hs : e.stage = .started) (hf : e.fin = none)
    (hc : e.cmd = some c) (hh : allocates c = true ∨ d.handles q seq c = .ok) :
    d.runCmd q seq = (d.work q e c).2.settle q seq (d.work q e c).1 := by
  have : (if allocates c then Handles.ok else d.handles q seq c) = .ok := by
    rcases hh with h | h
    · simp [h]
    · simp [h]
  unfold Dev.runCmd
  simp only [he, hs, hf, hc, this]
  simp

end Sys2Proof.Machine
end

