-- ==== Sys2Proof/WellFormed.lean ====
section
/-!
DEFINITION. Which command terms can stand for a command or event of the device: the lengths and ranges that the operand
types do not say.
-/
namespace Sys2Proof

/-- A packet carries 0 to 16 data flits of 32 bytes, one enable for each byte (R299 to R301). -/
def Packet.wf (p : Packet) : Bool :=
  p.data.length % 32 == 0 && decide (p.data.length ≤ 512) && p.enables.length == p.data.length

/-- A frame's payload is at most 512 bytes and its sequence fields have their widths (R370). -/
def LlpFrame.wf (f : LlpFrame) : Bool := decide (f.payload.length ≤ 512)

/-- A tally descriptor packet comes in 16-byte pieces; an image's kernel extension has W·H entries, doubled for both
dies, and a full image at most 32 regions (R328). -/
def Desc.wf : Desc → Bool
  | .full _ regions => decide (regions.length ≤ 32)
  | .part _ => true
  | .kernel w h both _ _ _ _ _ _ _ tiles =>
    tiles.length == (w.toNat + 1) * (h.toNat + 1) * (if both then 2 else 1)

/-- An image command's records are as many as its count says (R332, R335). -/
def ImgCmd.wf : ImgCmd → Bool
  | .fwrite zero n records => if zero then records.isEmpty else records.length == n.toNat
  | .mwrite _ _ words _ => words.length == 1024
  | _ => true

/-- An image whose parts are well formed. -/
def Image.wf (i : Image) : Bool := i.desc.wf && i.body.all ImgCmd.wf

/-- A placement environment whose image is well formed. -/
def CmdEnv.wf : CmdEnv → Bool
  | .image i _ => i.wf
  | _ => true

/-- The well-formed commands. -/
def Instr.wf : Instr → Bool
  | .krotate _ _ stop entries env => env.wf && (if stop then entries.length == 1 && entries.all (fun e => e.dwell == 0) else decide (1 ≤ entries.length ∧ entries.length ≤ 8))
  | .kadmit _ _ _ _ _ _ _ _ _ _ env => env.wf
  | .commandStart _ env => env.wf
  | .commandAccept _ fetched _ => decide (fetched.length ≤ 8)
  | .placementRecordEntryRead words _ => words.length == 4
  | .rd p => p.wf | .wr p => p.wf | .wrp p => p.wf | .top p => p.wf | .msg p => p.wf
  | .lfr p => p.wf | .mir p => p.wf | .ctl p => p.wf | .cpl p => p.wf | .cpld p => p.wf
  | .fwrite zero n records => (ImgCmd.fwrite zero n records).wf
  | .mwrite mem tile words crc => (ImgCmd.mwrite mem tile words crc).wf
  | .cfgFullLoad _ i => i.wf
  | .cfgPartialLoad _ i => i.wf
  | .image _ i _ _ => i.wf
  | .dataFrame _ fr _ => fr.wf
  | .hostStoreAccess _ write _ len data enables _ =>
    decide (len.toNat ≤ 4096) && (if write then data.length == len.toNat && enables.length == len.toNat else data.isEmpty)
  | .hostPortalAccess _ write _ len data _ =>
    decide (len.toNat ≤ 4096) && (if write then data.length == len.toNat else data.isEmpty)
  | .tallyOpwinWrite _ _ _ data => decide (data.length ≤ 512)
  | .imageRecord _ _ i _ _ => i.wf
  | _ => true

end Sys2Proof
end

