-- ==== Sys2Proof/Tests/Slice0.lean ====
section
/-!
SUPPORT. Tests: for the clauses of each statement, a device and operands that meet the hypotheses together, at the ends of
their ranges; ill-formed commands; words of commands; the state after reset.
-/
open Sys2Proof Sys2Proof.Machine
namespace Sys2Proof.Tests
set_option Elab.async false

/-! Small devices. -/

/-- A device with some register fields written. -/
abbrev at_ (d : Dev) (fs : List (Field × Nat)) : Dev := fs.foldl (fun d x => d.wr x.1 x.2) d
/-- A device after start-up: phase 9, every gate open, both ports up. -/
def up : Dev := at_ {} [(RESET_STAT_PHASE, 9), (CLK_GATE0_GATE, 2 ^ 24 - 1), (CLK_GATE1_GATE, 2 ^ 36 - 1), (PORT_STAT_LINKUP 0, 1),
  (PORT_STAT_LINKUP 1, 1), (PORT_STAT_INRESET 0, 0), (PORT_STAT_INRESET 1, 0), (PORT_STAT_BME 0, 1), (PORT_STAT_BME 1, 1)]
/-- Queue 0 of a started device takes commands from a rung ring of 16 KB at 0. -/
def rung : Dev := at_ up [(QU_CTL_EN 0, 1), (QU_RING_SIZE 0, 10), (QU_DOORBELL_TAIL 0, 64)]
/-- A register write by the host at port A. -/
abbrev byA (data : Word) (half : Half) : RegWr := ⟨.host .a, half, data⟩
/-- A register write by the host at port B. -/
abbrev byB (data : Word) (half : Half) : RegWr := ⟨.host .b, half, data⟩
def f0 : CmdFlags := ⟨false, false, false, false, false⟩
/-- One buffer of one row, at bank 0. -/
def buf1 : Buffer := ⟨true, false, false, false, 0, 512, 1, [some 0], false, 0⟩
/-- A rung queue with buffer 0xFFFFFF. -/
def one : Dev := { at_ rung [(BANK_OWN_PSTATE 0, 1)] with buffers := [(0xFFFFFF, buf1)] }
/-- A rung queue whose path has passed three words of the ring. -/
def stacked : Dev := { rung with queues := [(0, {stack := List.replicate 7 (.ring 5, 0)})] }
def looped : Dev := { at_ rung [(QU_S_VALUE 0 15, 2)] with queues := [(0, { pos := .ring 3, window := [⟨.ring 2, 1⟩] })] }
def two : Dev := { at_ rung [(BANK_OWN_PSTATE 0, 1)] with
  buffers := [(0xFFFFFE, { buf1 with rows := [some 1] }), (0xFFFFFF, buf1)] }
/-- A kernel of one tile with a row port: tile 0, fret 0. -/
def kern1 : Kernel := ⟨true, false, false, false, false, 0, 0, 1, 1, false, 0, 0, 0, false, false, 1, [⟨0, true, false, true, 0⟩],
  ⟨true, 0, 0, 255⟩, [], [], none⟩
def ens1 : Ensemble := ⟨1, 1, false, 1, none, [], [], 0, false, none⟩
/-- A started device with kernel 0x1FFF, whose fret declares slot 15 for a read buffer and slot 0 for lanes. -/
def kdev : Dev := { one with
  kernels := [(0x1FFF, kern1)], ensembles := [(0, ens1)]
  frames := [(3, BitVec.ofNat 27136 (2 ^ 27000 + 2 ^ 26882))] }
def kdevRun : Dev := { kdev with kernels := [(0x1FFF, { kern1 with run := some ⟨5, 1, true, none, none⟩ })] }
def img1 : Image := ⟨.ok, true, 0x9240, 0xFFFF, 255, 255, true, 7, .kernel 0 0 false false false 0 1 0 0 32 [⟨0, false, false, true, 0⟩],
  [.endImage]⟩
def entry1 : Entry := ⟨1, encodeCmd (.mark 7) f0, some (.mark 7), 8, f0, 0, .accepted, .ok, 0, 0, 0, 0, .a, true, false, none, [], [], [], [], false, .none⟩
/-- A frame from (value, bit position) pairs. -/
def fr (xs : List (Nat × Nat)) : BitVec 27136 := .ofNat _ (xs.foldl (fun n x => n + x.1 * 2 ^ x.2) 0)
/-- Kernel kern1 on a started fabric with these frames of fret 0, tile 0, and these tokens. -/
def fabD (frames : KMap (BitVec 27136)) (toks : KMap Tok) (holds : KMap Hold) : Dev :=
  { at_ kdev [(CFG_STAT_DONE, 1)] with frames := frames, toks := toks, holds := holds }
def entryL : Entry := { entry1 with cmd := some (.lbind 0x1FFF 0 false 126 1 3), words := encodeCmd (.lbind 0x1FFF 0 false 126 1 3) f0, stage := .started, aux := [1] }
def heldD : Dev := { up with ports := [(1, { held := [⟨true, 0xF000000010, 0, [], [], some (.registerWrite (.host .b) 16 64 5 false)⟩], perst := false })] }
def alDev : Dev := at_ rung [(BANK_OWN_PSTATE 0, 1)]
def full2 : Dev := (two.storeWrite .device 0 512 (List.replicate 32 0x5A) (List.replicate 32 true)).2
def cp : Dev := full2.begun 0 (.bcopy 0xFFFFFF 0xFFFFFE 0 0 32) f0 .none
def cpRead := cp.bufRead 0xFFFFFE 0 32
def fl : Dev := one.begun 0 (.bfill 0xFFFFFF 480 32 0x0102030405060708) f0 .none
def one1 : Dev := at_ one [(PLACE_CTL_MODE, 1)]
def kern1Run : Kernel := { kern1 with run := some ⟨5, 1, true, none, none⟩ }
def kdev1 : Dev := at_ kdev [(FRET_STAT_SHOWN 0, 7)]
def badImg : Image := { img1 with formOk := false }
def alOff : Dev := at_ alDev [(BANK_OWN_PSTATE 0, 0)]
def fillData : List Byte := (List.replicate 4 [8,7,6,5,4,3,2,1]).flatten
def flNoted := (fl.updEntry 0 1 fun e => { e with wrote := (0xFFFFFF, 480, 32) :: e.wrote }).bufWrite 0xFFFFFF 480 fillData (List.replicate 32 true)
def one2 : Dev := at_ one [(PLACE_CTL_MODE, 2)]
def kernW : Kernel := { kern1 with w := 2, tiles := [⟨0, true, false, true, 0⟩, ⟨0, true, false, true, 0⟩] }
def kdevW : Dev := { kdev with kernels := [(0x1FFF, kernW)], ensembles := [(0, { ens1 with w := 2 })] }
def hostD (i : Image) : Dev := rung.begun 0 (.kadmit 0x1FFF 0 false false false 0 0x100000000000 4096) f0 (.image i [])
def admS : Dev := rung.begun 0 (.kadmit 0x1FFF 0 false false false 0 0x1000 64) f0 (.image img1 [])
def admI := admS.imageAt 0x1000 (some 64) img1
def admCode : Nat := admI.2.headerCode admI.1 (· == 2)
def adm1 : Admission := ⟨0, false, false, none, ⟨true, 0x100000000000, 4096, 255⟩, bitsOf ((encodeCmd (.kadmit 0x1FFF 0 false false false 0 0x100000000000 4096) f0).getD 0 0).toNat 0 32⟩
def admK := (adm1.kernel img1.desc).getD kern1
def admP := (hostD img1).placeKernel 0x1FFF admK img1.desc 7 none false []
def admGet : Placed → Option Nat × Nat × Nat
  | .at_ e x f => (e, x, f)
  | _ => (none, 0, 0)
/-- Table 7 in column 0: one primary row and one spill row in bank 0, one entry of key 5. -/
def tab7 : TableSt := ⟨[(0, [1, 2])], false⟩
def tdev0 : Dev := { at_ one [(TALLY_TBL_CFG_VALID 7, 1), (TALLY_TBL_CFG_KBITS 7, 8), (TALLY_TBL_CFG_E 7, 6), (TALLY_TBL_COLS_MASK 7, 1)] with tables := [(7, tab7)] }
def tdev : Dev := { tdev0 with mem := ((List.range 32).map fun i => (480 + i, 1)) ++ [(677, 3), (679, 16)] ++ ((List.range 33).map fun w => (List.range 3).map fun j => (2 ^ 28 + 4 * (15 + w) + j, 0)).flatten }
def tdr := (tdev.begun 0 (.tdrain 7 true 0xFFFFFF 496) f0 .none).note 0 1 [1]
def tda := tdr.drainAll 7 tab7
def tdw := tda.2.2.cmdWrite 0 1 0xFFFFFF 496 buf1 tda.2.1 (tda.2.1.length / 16)
def hostRing : Dev := at_ rung [(QU_RING_BASE 0, 2 ^ 38)]
def fetched8 : List Word := encodeCmd (.mark 7) f0 ++ List.replicate 7 0
def tight : Dev := { at_ hostRing [(QU_CTL_WINDOW 0, 1)] with queues := [(0, { journal := [entry1] })] }
def acqMissing : Dev := { hostRing with queues := [(0, { ahead := [(.ring 0, some ((encodeCmd (.sets 1 5) f0).getD 0 0))], ringFront := 0 })] }
def half8 : List Word := []
def acc1 : Dev := { rung with queues := [(0, { journal := [entry1] })] }
def entryW : Entry := { entry1 with cmd := some (.waittime true 5), words := encodeCmd (.waittime true 5) f0 }
def acc3 : Dev := { rung with queues := [(0, { journal := [entryW] })] }
def entryM : Entry := { entry1 with cmd := some (.bfree 0xFFFFFF), words := encodeCmd (.bfree 0xFFFFFF) f0 }
def accM : Dev := { one with queues := [(0, { journal := [entryM] })] }
def entryRm : Entry := { entry1 with cmd := some (.rowmove 0x1FFF 0xFFFFFF 0 false 0 1), words := encodeCmd (.rowmove 0x1FFF 0xFFFFFF 0 false 0 1) f0 }
def accRm : Dev := { kdev with queues := [(0, { journal := [entryRm] })] }
def entryRz : Entry := { entry1 with cmd := some (.rowmove 0x1FFE 0xFFFFFF 0 false 0 1), words := encodeCmd (.rowmove 0x1FFE 0xFFFFFF 0 false 0 1) f0 }
def accRz : Dev := { kdev with queues := [(0, { journal := [entryRz] })] }
def entryKs : Entry := { entry1 with cmd := some (.kstop 0x1FFF), words := encodeCmd (.kstop 0x1FFF) f0 }
def accKs : Dev := { kdev with queues := [(0, { journal := [entryKs] })] }
def entryS : Entry := { entry1 with stage := .started }
def accS : Dev := { rung with queues := [(0, { journal := [entryS] })] }
def entryF : Entry := { entryS with fin := some (.ok, 7) }
def accF : Dev := { rung with queues := [(0, { journal := [entryF] })] }
def entryS2 : Entry := { entryS with seq := 2 }
def entryA3 : Entry := { entry1 with seq := 3 }
def entryS4 : Entry := { entryS with seq := 4 }
def failing : Dev := { at_ rung [(QU_CTL_STOP_ON_ERR 0, 1)] with queues := [(0, { journal := [entryS, entryS2, entryA3, entryS4] })] }
def failing0 : Dev := at_ failing [(QU_CTL_STOP_ON_ERR 0, 0)]
def entryC : Entry := { entry1 with stage := .completed }
def postD : Dev := { at_ rung [(CQ_RING_BASE 0, 2 ^ 39), (CQ_TAIL_TAIL 0, 15)] with queues := [(0, { journal := [entryC] })] }
def entryR : Entry := { entryC with flags := { f0 with record := true } }
def postR : Dev := { postD with queues := [(0, { journal := [entryR] })] }
def postS : Dev := at_ postR [(CQ_RING_BASE 0, 0), (BANK_OWN_OWNER 0, 1), (BANK_OWN_PSTATE 0, 1)]
def pegA : Dev := at_ up [(PEG_STAT_HELD 63, 1)]
def entryP : Entry := { entryS with cmd := some (.pegtake 63 true) }
def pegW : Dev := { pegA with queues := [(0, { journal := [entryP] })] }
def replay : Dev := at_ up [(PLACE_CTL_MODE, 2), (PLACE_REC_PTR_PTR, 1), (PLACE_REC_SIZE_SIZE, 2), (PLACE_REC_BASE_BASE, 2 ^ 38)]
def replayE : Dev := { at_ replay [(PLACE_CTL_TMO, 1)] with replayEntry := some [0x601, 0, 0, 0] }
def hotT : List ColTemp := []
def kauto : Dev := at_ kdev [(PLACE_CTL_AUTOMIG, 1), (PLACE_CTL_HYST, 0), (PLACE_SLOW_SLOW 0, 1), (FABRIC_TILE_SPEED_PCT 0, 800), (FABRIC_TILE_SPEED_PCT 1, 1000)]
def mig (st : Nat) (p m : List Nat) : Migration := ⟨0x1FFF, 0, 255, 2, st, p, m⟩
def mig0 : Dev := { kauto with migrations := [(0, { mig 0 [] [] with dst := 256 })] }
def bestA : Nat := (kauto.bestMove [] 0 ens1).getD 0
def bauto : Dev := at_ one [(PLACE_CTL_AUTOMIG, 1), (PLACE_CTL_HYST, 0)]
def bplan : List (Option Nat) := (bauto.planMove buf1 (2 ^ 63)).getD []
def mig1 : Dev := { kdev with migrations := [(0, mig 1 [] [])] }
def mig2 : Dev := { kdev with migrations := [(0, mig 1 [0] [])] }
def mig3 : Dev := { kdev with migrations := [(0, mig 1 [0] [0])] }
def mig4 : Dev := { kdev with migrations := [(0, mig 3 [0] [0])] }
def bmv : BufMove := ⟨2 ^ 63, 1, [some 516608]⟩
def bmD : Dev := { at_ one [(BANK_OWN_PSTATE 1009, 1)] with bufMoves := [(0xFFFFFF, bmv)] }
def bmS : Dev := { one with bufMoves := [(0xFFFFFF, bmv)] }
def slowD : Dev := at_ up [(FABRIC_TILE_SPEED_PCT 255, 849)]
def fastD : Dev := at_ up [(FABRIC_TILE_SPEED_PCT 255, 900), (PLACE_SLOW_SLOW 3, 2 ^ 63 + 1)]
def kdev4 : Dev := { kdev with ensembles := [(0, { ens1 with phase := 4 })] }
/-- Cells 0 to 5 of cluster 0, head 0's token register, a spine driver, and a tap in cluster 5. -/
def cells : KMap (BitVec 27136) := [(0, fr [(2 + 2^14, 0), (17, 288), (2, 36), (17, 348), (2, 54), (18, 378), (2 + 2^14, 72), (17, 408), (9, 768), (1, 4976), (2, 4160), (12, 4448)]),
  (1, fr [(2, 0)]), (3, fr [(1, 26752), (1, 26753), (1, 26759)])]
def fabA : Dev := fabD cells [(1, ⟨[true], []⟩)] []
def cellsN : KMap (BitVec 27136) := [(0, fr [(2, 36), (17, 348)])]
def fabB : Dev := fabD cells [] [(4, ⟨true, true⟩)]
def fabBy : Dev := fabD cells [(4, ⟨[true, false], [7]⟩)] [(4, ⟨true, true⟩)]
def fabC : Dev := fabD cells [] [(0, ⟨true, true⟩)]
def fabM (l : List Nat) : Dev := { fabD [(0, fr [(2 + 2^14, 0), (17, 288)])] [(0, ⟨[true, false], l⟩)] [] with meter := 1 }
/-- Memory 0's port A: a reader of 1,024 words; a writer of single bits, whose pins take what cell 15 offers. -/
def pinsA (n p : Nat) : List (Nat × Nat) := (List.range n).map fun i => (31, 288 + 5 * (6 * i + p))
def memR : Dev := fabD [(0, fr ([(1, 26624), (11, 26625), (1, 26629)] ++ pinsA 15 0))] [(tokKey 5 0 15, ⟨[true], []⟩)] []
def memW : Dev := fabD [(0, fr ([(1, 26624), (11, 26625), (2, 26629)] ++ pinsA 15 0 ++ pinsA 1 1))] [(tokKey 5 0 15, ⟨[true], []⟩)] []
def bmb : Dev := { up with bmem := [(1024 * 16 * 255 + 1024 * 15 + 1023, 1)], bmemBack := [1024 * 16 * 255 + 1024 * 15 + 1023] }
def raw : Dev := at_ bmb [(FABRIC_BMEM_CTL_DBG_RAW 255, 1)]
def rawHeld : Dev := { raw with memHolds := [(memKey 255 15 false, ⟨0, false, 0, false, false, false⟩)] }
def krunE : Entry := { entry1 with cmd := some (.krun 0x1FFF), words := encodeCmd (.krun 0x1FFF) f0, stage := .started, epoch := 7 }
def kernB15 : Kernel := { kern1 with binds := [(15, ⟨1, 0xFFFFFF⟩)] }
def kernB14 : Kernel := { kern1 with binds := [(14, ⟨2, 255⟩)] }
def kernR : Kernel := { kern1 with run := some ⟨0, 1, true, none, none⟩ }
/-- The portal's pins take what cells 14 and 15 of their cluster offer: a descriptor of KIND 0, VC 3, tile 0 stands on DOUT. -/
def doutF : KMap (BitVec 27136) := (List.range 9).map fun u =>
  (u, fr (((List.range 2).map fun j => (List.range 16).map fun i =>
    (if u = 0 && j = 1 && !(i = 4 || i = 5) then 30 else 31, 832 * (30 + j) + 288 + 30 * i)).flatten ++ if u = 2 then [(1, 26624)] else []))
def doutT : KMap Tok := (tokKey 5 0 (16 * 31 + 14), ⟨[false], []⟩) :: ((List.range 9).map fun u => (List.range 2).map fun j =>
  (tokKey 5 0 (512 * u + 16 * (30 + j) + 15), (⟨[u = 0 && j = 1], []⟩ : Tok))).flatten
def doutD (x : PortalSt) : Dev := { fabD doutF (doutT.foldl (fun m y => KMap.put m y.1 y.2) []) [] with
  kernels := [(0x1FFF, kernR)], queues := [(0, { journal := [krunE] })], portals := [(0, x)] }
def pkt (vc : BitVec 2) : Packet := ⟨0, 2, 5, 4, 0x81, 0, 0, 0, false, vc, 0, 0, 0, List.replicate 32 1, List.replicate 32 true⟩
def outP (n : Nat) : OutPkt := ⟨pkt 0, 0x1FFF, none, n⟩
def portD : Dev := { fabD [(2, fr [(1, 26624)])] [] [] with kernels := [(0x1FFF, kernR)], queues := [(0, { journal := [krunE] })] }
def parked : Dev := { portD with parks := [(0, [pkt 1])] }
def landed : Dev := { portD with portals := [(0, { portD.portal 0 with landing := [pkt 3] })] }
def landed1 : Dev := { portD with portals := [(0, { portD.portal 0 with landing := [pkt 3, pkt 1] })] }
/-- The row port of tile 0, driven by its kernel through slot 15. -/
def pinsC (n p : Nat) : List (Nat × Nat) := (List.range n).map fun i => (31, 832 * 29 + 288 + 5 * (6 * i + p))
def rowD : Dev := { fabD [(2, fr [(1, 26880), (1, 26881), (15, 26882)]), (8, fr (pinsC 16 0 ++ pinsC 1 1)), (9, fr (pinsC 4 0))]
  [(tokKey 5 0 4575, ⟨[true], []⟩), (tokKey 5 0 5087, ⟨[true], []⟩)] [] with kernels := [(0x1FFF, kernB15)] }
def req1 (adm toBank : Bool) : RowReq := ⟨0xFFFFFF, 0, toBank, none, adm, 0⟩
def rowR : Dev := { rowD with rowReqs := [(0, req1 false false)] }
def reg8 : RowReg := ⟨true, 8, List.replicate 512 0, [0], 0⟩
def rowW : Dev := { rowD with rowReqs := [(0, req1 false true)], rowRegs := [(0, reg8)] }
def mvE (n : Nat) : Entry := { entry1 with cmd := some (.rowmove 0x1FFF 0xFFFFFF 0 true 0 1), words := encodeCmd (.rowmove 0x1FFF 0xFFFFFF 0 true 0 1) f0, stage := .started, aux := [n, 0] }
def mvR : RowReq := ⟨0xFFFFFF, 0, true, some (0, 1), false, 0⟩
def rowO : Dev := { rowW with rowReqs := [(0, mvR)], queues := [(0, { journal := [mvE 0] })] }
def rowS : Dev := { fabD ((2, fr [(1, 26880)]) :: (List.range 16).map fun u => (16 + u, fr ((List.range 32).map fun i => (31, 832 * (30 + i / 16) + 288 + 30 * (i % 16)))))
  (((List.range 16).map fun u => [(tokKey 5 0 (512 * (16 + u) + 16 * 30 + 15), ⟨[true], []⟩), (tokKey 5 0 (512 * (16 + u) + 16 * 31 + 15), ⟨[true], []⟩)]).flatten) [] with
  rowRegs := [(0, ⟨true, 7, List.replicate 448 0, [0], 0⟩)] }
/-- The control port of tile 0. -/
def ctlF : KMap (BitVec 27136) := (List.range 4).map fun u =>
  (u, fr (pinsC 16 0 ++ pinsC 16 1 ++ (if u = 0 then pinsC 16 2 else []) ++ if u = 3 then [(3, 26624)] else []))
def ctlT : KMap Tok := (List.range 4).map fun u => (tokKey 5 0 (512 * u + 16 * 29 + 15), ⟨[true], []⟩)
def ctlK (k : Kernel) : Dev := { fabD ctlF ctlT [] with kernels := [(0x1FFF, { k with binds := [(14, ⟨2, 255⟩)] })], queues := [(0, { journal := [krunE] })] }
def ctlD : Dev := ctlK kernR
/-- Its parameter pins take what a token register of the cluster below holds. -/
def ctlP : Dev := { ctlD with
  frames := [(0, fr ((9, 24068) :: (List.range 4).map fun i => (1, 832 * 29 + 288 + 30 * i))), (3, fr [(1, 26624)])]
  toks := [(tokKey 3 0 337, ⟨[true], []⟩)] }
def kernRB : Kernel := { kernR with binds := [(14, ⟨2, 255⟩)] }
def ctlN : Dev := ctlK kern1
def ensD (e : Ensemble) : Dev := { kdev with ensembles := [(0, e)] }
def ensQ : Ensemble := { ens1 with waiting := [.toFret 7 none, .park] }
def ensQ0 : Ensemble := { ens1 with waiting := [.toFret 0 none, .park] }
def ensT : Ensemble := { ens1 with phase := 3, cur := some (.toFret 7 none) }
/-- A cell whose token waits keeps the tile from rest. -/
def ensL : Ensemble := { ens1 with phase := 2, cur := some (.toFret 7 none) }
def limD : Dev := { fabD [(0, fr [(2^14, 0), (2, 18), (16, 288 + 30)])] [(tokKey 0 0 5, ⟨[true], []⟩)] [(0, ⟨true, true⟩)] with ensembles := [(0, ensL)] }
def ensP : Ensemble := { ens1 with preload := some 7 }
def reqD : Dev := { fabD [(3, fr [(1, 26752), (32, 26753), (1, 26759)])] [(1, ⟨[true], []⟩), (tokKey 4 0 32, ⟨[true], []⟩)] [] with
  kernels := [(0x1FFE, { kern1 with fret := 3, run := some ⟨0, 1, false, none, none⟩ }), (0x1FFF, kern1)] }
def ensR : Ensemble := { ens1 with rotating := true, rot := [⟨0x1FFF, 1⟩, ⟨0x1FFE, 1⟩] }
def rotD : Dev := { reqD with ensembles := [(0, ensR)] }
def freeBank : Dev := at_ up [(BANK_OWN_OWNER 1023, 0), (BANK_OWN_PSTATE 1023, 0)]
def queuedBank : Dev := { freeBank with bankWait := [⟨.device, 0, true, 2 ^ 18 * 1023, 32, [], [], .none⟩] }
def ownBank : Dev := at_ up [(BANK_OWN_OWNER 1023, 2)]
def waking : Dev := at_ up [(BANK_OWN_PSTATE 1023, 3)]
/-- A store whose row 0 of bank 0 holds good words of zeros but for word k, one bit of whose first check symbol is flipped. -/
def flipped (k : Nat) : Dev :=
  let d := ((at_ up [(BANK_OWN_PSTATE 0, 1), (STORE_CTL_PATROL, 1), (ERR_BKT_CFG_THRESH 1, 0)]).emptyWords (List.range 16))
  { d with mem := memPut d.mem (2 ^ 28 + 4 * k) 1 }
def wbD : Dev := { flipped 15 with writeBacks := [15] }
def good : Dev := (at_ up [(BANK_OWN_PSTATE 0, 1), (STORE_CTL_PATROL, 1)]).emptyWords [0]
def armedF : Dev := at_ up [(STORE_FLIP_CTL_ARM, 1)]
def rstS : Dev := at_ up [(STORE_STAT_RESETTING, 1)]
def insDesc (k v : Nat) : List Byte := bytesLE 8 (7 + 7 * 2^6 + k * 2^16) ++ bytesLE 8 v
def tdevA : Dev := ({ at_ up [(BANK_OWN_PSTATE 0, 1), (TALLY_TBL_CFG_VALID 7, 1), (TALLY_TBL_CFG_KBITS 7, 8), (TALLY_TBL_CFG_E 7, 6), (TALLY_TBL_COLS_MASK 7, 1)]
  with tables := [(7, ⟨[(0, [1, 2])], false⟩)] } : Dev).emptyWords (tableWords [1, 2])
def opw := tdevA.tallyRun (.port .a) 0 63 none (descsOf (insDesc 5 3)) 0 []
def opb := tdevA.tallyRun (.port .a) 0 63 none (descsOf (List.replicate 16 0xFF)) 0 []
def tfx : TDesc := ⟨(7 + 7 * 2^6 + 5 * 2^16 : Nat), 3⟩
def tf := tdevA.tallyDo (.kern 0x1FFF) 0 0 none tfx
/-- A packet from port A's endpoint to an endpoint. -/
def pk (dcol : BitVec 6) (dep : BitVec 4) (cmd : BitVec 8) (vc : BitVec 2) (a : Word) (rlen : BitVec 10) (data : List Byte) : Packet :=
  ⟨dcol, dep, 31, 10, cmd, 0, 3, 0, false, vc, 0, a, rlen, data, List.replicate data.length true⟩
def b32 : List Byte := List.replicate 32 0x5A
def cred : Dev := { up with credits := [(creditKey 0 63 4 0, 4)] }
def marks : Dev := { at_ up [(NOC_STAT_ROUTECHG, 1)] with markers := [(0, 63), (1, 63)] }
def waD : Dev := { up with ports := [(1, { writes := [(7, 2 ^ 38)], perst := false })] }
def hr : HostRead := ⟨2^32, 32, [(1023, 0, 32)], [], .ok⟩
def hrD : Dev := { at_ up [(PORT_CTL_RDTMO 0, 1)] with ports := [(0, { reads := [hr], perst := false })] }
def hcD : Dev := { up with ports := [(0, { dev := [(1023, pk 63 4 1 0 0x100000000000 32 [])], perst := false })] }
def boot8 : Dev := at_ up [(RESET_STAT_PHASE, 8)]
def prD : Dev := { at_ up [(PORT_STAT_INRESET 1, 1)] with ports := [(1, { perst := false })], mon := { up.mon with ready := true, delay := true } }
def dmaW (w : Nat) : Word := BitVec.ofNat 64 w
def dm1 : Dev := at_ up [(DMA_CH_CNT_CNT 63, 64)]
def armW := byA (2 ^ (DMA_CH_SCTL_ARM 63).lo) .all
def dm2 : Dev := at_ up [(DMA_CH_CTL_GO 63, 1), (DMA_CH_SCNT_CNT 63, 64)]
def xf (done : Bool) : Xfer := ⟨.a, 0, 0, 0x1000, 64, if done then 64 else 0, [], [], [], if done then [(0, 64)] else [], none⟩
def dm3 : Dev := { dm2 with xfers := [(63, xf true)] }
def dm4 : Dev := { at_ dm3 [(DMA_CH_SCTL_ARM 63, 1)] with armers := [(63, ⟨.a, 0, none⟩)] }
def dm5 : Dev := (({ at_ dm2 [(BANK_OWN_OWNER 0, 1), (BANK_OWN_PSTATE 0, 1)] with xfers := [(63, xf false)] } : Dev).storeWrite (.port .a) 0 0 (List.replicate 64 7) (List.replicate 64 true)).2
def dr := dm5.storeRead (.port .a) 0 0 64
def xa : Xfer := ⟨.a, 0, 0, 0x1000, 64, 64, [], [(0, List.replicate 64 7)], [], [], none⟩
def dm6 : Dev := { dm5 with xfers := [(63, xa)] }
def dw := (dm6.setXfer 63 { xa with arrived := [] }).storeWrite (.port .a) 0 0x1000 (List.replicate 64 7) (List.replicate 64 true)
/-- A load of a one-tile kernel at tile 255, fret 7. -/
def ld0 : Load := ⟨.host, .kernel 0 0 false false false 0 0 0 0 32 [⟨0, false, false, true, 0⟩], 0x1FFF, some { kern1 with anchor := 255, fret := 7 }, none, 255, 7, 255, true, .ok, 7, 0,
  0, [], [], 0xFFFFFFFF, none, none, 0, 0xFFFF, false, ⟨true, 0, 0, 255⟩⟩
def ldD (l : Load) : Dev := { up with load := some l }
def ld1 : Load := ld0.step (ldD ld0) (.fwrite true 32 [])
def opw_8 (op arg : Nat) : RegWr := byA (.ofNat 64 (op * 2 ^ CFG_CTL_OP.lo + arg * 2 ^ CFG_CTL_ARG.lo)) .all
def imgF : Image := { img1 with desc := .full 7 [], body := [.endImage] }
def man0 : Manifest := ⟨false, 0, []⟩
def busyD : Dev := at_ up [(CFG_STAT_BUSY, 1)]
def regionP : Region := ⟨0x1FFF, 255, 0, 0, false, 0, 0⟩
def imgP : Image := { img1 with desc := .part regionP, body := [] }
def nvD : Dev := { at_ busyD [(CFG_SRC_ADDR, 2 ^ 38)] with hostOp := some ⟨3, 2047, 0⟩, nvWear := [(2047, 10000)] }
def gotF : SrcRead := ⟨.ok, List.replicate 65536 7⟩
def nvGot := ({ nvD.wr CFG_STAT_BUSY 0 with hostOp := none } : Dev).nvData gotF.data
def bootD (src : Nat) : Dev := at_ up [(RESET_STAT_PHASE, 6), (PIN_STRAP_BOOT_SRC, src)]
def chainD (n : Nat) : Dev := { at_ (bootD 1) [(CFG_STAT_POS, 3)] with chainPos := true, chainTaken := n }
def img4 : Image := { imgF with chain := 4 }
def img3 : Image := { imgF with chain := 3, desc := .full 0 [], body := [.faddr 0, .fwrite true 8192 [], .fcommit, .endImage] }
def chainD1 : Dev := { chainD 0 with chainTaken := 1 }
def lane (p : Nat) : Dev := at_ up [(LANE_STAT_PSTATE 143, p)]
def prbs : Dev := at_ (lane 2) [(LANE_PRBS_RUN 143, 1)]
/-- A group of two lanes, 126 and 127, Active and in sync. -/
def grp (x : GroupSt) : Dev := { at_ up [(LANE_STAT_PSTATE 126, 2), (LANE_STAT_SYNC 126, 1), (LANE_STAT_PSTATE 127, 2), (LANE_STAT_SYNC 127, 1), (CLK_GATE1_GATE, 2^36-1)] with
  groups := [(126, x)] }
def gx : GroupSt := { kern := 0x1FFF, width := 1 }
def tset_9 : TrainSet := ⟨0x3F, true, 1, 126, 5, []⟩
def g7 : GroupSt := { gx with ts1 := 7 }
def g8 : GroupSt := { gx with ts1 := 8, phase := 1, farRates := 0x3F }
def g9 : GroupSt := { g8 with ts2 := 7 }
def g3 : GroupSt := { gx with phase := 3, rate := 1, common := 3 }
def g4 : GroupSt := { g3 with phase := 4, mine := some true }
def gRe : GroupSt := { g3 with bound := true }
def gRc : GroupSt := { gRe with cmd := some (0, 1) }
def g0c : GroupSt := { gx with cmd := some (0, 1) }
def grpC : Dev := { grp g0c with queues := [(0, { journal := [entryL] })] }
def g0b : GroupSt := { gx with bound := true }
def gu : GroupSt := { gx with phase := 5, bound := true, gotInit := true }
def gi : GroupSt := { gu with gotInit := false }
def frm (seq : BitVec 16) : LlpFrame := ⟨true, 0, seq, 3, 0, List.replicate 5 1⟩
def fcrc (f : LlpFrame) : BitVec 32 := .ofNat 32 (frameCrc 1 f)
def grpK : Dev := { at_ (grp gu) [(LLP_GRP_STAT_RXSEQ 126, 65535)] with kernels := [(0x1FFF, { kern1 with lanes := [(0, (126, 126))] })], ensembles := [(0, ens1)], frames := [(2, fr [(1, 26624)])] }
def gt : GroupSt := { gu with tx := [(frm 65535, 4), (frm 0, 1)] }
def gn : GroupSt := { gu with unbind := true }
/-- A device whose Capo link is up: state and role as given. -/
def pairD (st role : Nat) (c : CapoSt) : Dev := { at_ up [(TWIN_STAT_CAPOUP, 1), (TWIN_STAT_STATE, st), (TWIN_STAT_ROLE, role), (TWIN_CTL_EN, 1)] with capo := c }
def rk : List Byte := List.replicate 32 0
def cap : CapoSt := { keyIn := true, keyOut := true, rxCtr := 5, replay := [⟨7, 1, [0x11, 1, 2]⟩, ⟨8, 2, [0x12, 3]⟩], tickets := 2, rxKey := rk, partner := some (true, 3) }
def tg1 : BitVec 128 := 140773623266553019386872748906832471752
def tg2 : BitVec 128 := 257704391120568907639146828421511055094
def tg3 : BitVec 128 := 270146286308132541178452968114975802588
def tgA : BitVec 128 := 282498277166962162880608967062039700002
def ackP : List Byte := [74, 99, 147, 22, 107, 208, 74, 163, 158, 252, 170, 175, 159, 160, 200, 139]
def capN : CapoSt := { cap with partner := none }
/-- Slot 0 is filled, with a key of zeros. -/
def keyed (d : Dev) : Dev := { at_ d [(SEC_SLOTS_FILLED, 1)] with nvKeys := [(0, rk)] }
def hp : List Byte := [11, 8, 136, 168, 189, 47, 30, 152, 235, 94, 57, 207, 112, 177, 107, 210, 193, 189, 67, 253, 158, 222, 119, 25, 239, 43, 205, 161, 75, 30, 77, 198, 82, 21, 122, 85, 191, 33, 176, 136]
def hc : BitVec 32 := 1663375249
def cap6 : CapoSt := { cap with syncTo := 6, replay := [⟨7, 7, [0x11, 1, 2]⟩], tickets := 7 }
def shD (e : List Entry) : Dev := { pairD 3 1 cap with queues := [(63, { journal := e })], buffers := [(0xFFFFFF, buf1)] }
def mk7 : List Word := encodeCmd (.mark 7) f0
def jr := (shD []).follow 63 mk7
def entryN : Entry := { entry1 with cmd := some .nop, words := encodeCmd .nop f0 }
def entryB : Entry := { entry1 with status := .busError }
def buf1s : Buffer := { buf1 with sealed := true, key := 1 }
def imgX : Image := { img1 with formOk := false }
def entryO : Entry := { entry1 with stage := .offered, aux := [2] }
def snapO : Snap := ⟨.ring 0, 0, 0, [], [], []⟩
def ldPair : Dev := { pairD 3 0 cap with queues := [(63, { journal := [entryO], snaps := [snapO] })] }
def entryD : Entry := { entry1 with stage := .completed, durable := false }
def ldPair2 : Dev := { pairD 3 0 { cap with commits := [(63, 1)] } with queues := [(63, { journal := [entryD] })] }
def capR : CapoSt := { cap with recovering := true }
def capF : CapoSt := { cap with fenceOut := true }
def twW (f : Field) : RegWr := byA (.ofNat 64 (2 ^ f.lo + 2 ^ TWIN_CTL_EN.lo)) .all
def heldD_9 : Dev := { pairD 6 0 cap with held := true }
def er1 : ErrRec := ⟨.crimson, 0x11, 2, 3, 4⟩
def erD (fs : List (Field × Nat)) : Dev := { at_ up (fs ++ [(ERR_RING_BASE, 2 ^ 39)]) with errq := [er1] }
def erS (p : Nat) : Dev := at_ (erD [(ERR_CTL_EN, 1), (ERR_TAIL_TAIL, 1023)]) [(ERR_RING_BASE, 0), (BANK_OWN_PSTATE 0, p)]
def bw (f : Field) (k uid : Nat) (kf uf : Field) : RegWr := byA (.ofNat 64 (2 ^ f.lo + k * 2 ^ kf.lo + uid * 2 ^ uf.lo)) .all
def upRet : Dev := { up with retired := [(.tile, 255)] }
def bkD : Dev := { up with buckets := [(255, ⟨3, 0⟩)], time := { up.time with sec := 4000000 } }
def thr0 : Dev := at_ up [(ERR_BKT_CFG_THRESH 4, 0), (SCRUB_CTL_BOND_EN, 1)]
def scD (fs : List (Field × Nat)) (bad : List Nat) : Dev := { at_ kdev (fs ++ [(CFG_STAT_DONE, 1)]) with badFrames := bad }
/-- The kernel's frames come from a source outside the device, or from a programmed block that holds no image. -/
def scS (b n : Nat) : Dev := { scD [] [0] with kernels := [(0x1FFF, { kern1 with src := ⟨false, b, n, 255⟩ })], nvBlocks := [(2047, List.replicate 16 0)] }
def kw (op slot kek : Nat) : RegWr := byA (.ofNat 64 (op * 2 ^ SEC_KEYCTL_OP.lo + slot * 2 ^ SEC_KEYCTL_SLOT.lo + kek * 2 ^ SEC_KEYCTL_KEK.lo)) .all
def busyK : Dev := at_ up [(SEC_STAT_BUSY, 1)]
def koD (op : Nat) : Dev := { at_ busyK [(SEC_SLOTS_FILLED, if op = 1 then 1 else 2 ^ 63 + 1)] with keyOp := some ⟨op, 63, 64⟩, keyData := [(0, 1)] }
def lw (arm conf : Bool) (t nonce : Nat) : RegWr := byA (.ofNat 64 ((if arm then 2 ^ SEC_LC_REQ_ARM.lo else 0) + (if conf then 2 ^ SEC_LC_REQ_CONFIRM.lo else 0) + t * 2 ^ SEC_LC_REQ_TARGET.lo + nonce * 2 ^ SEC_LC_REQ_NONCE.lo)) .all
def lcD : Dev := { at_ up [(SEC_LC_NONCE_NONCE, 77), (SEC_LC_NONCE_ARMED, 1)] with lcArmed := some 3 }
def lcT : Dev := { at_ up [(SEC_LC_PENDING, 1), (SEC_SLOTS_FILLED, 7)] with lcTarget := some 3, nvSlots := 7 }
def ph (n : Nat) (m : MonSt) : Dev := { at_ {} [(RESET_STAT_PHASE, n), (CLK_STAT_ARMED, if n = 1 then 0 else 1)] with mon := m }
def refD : Dev := at_ up [(CLK_STAT_ARMED, 1), (CLK_STAT_REFGOOD, 1), (LANE_STAT_PSTATE 143, 2)]
def lockD : Dev := at_ {} [(RESET_STAT_PHASE, 4), (CLK_STAT_REFGOOD, 1)]
def coastD : Dev := at_ refD [(CLK_STAT_COAST, 1)]
def pendD (i : Nat) : Dev := at_ up [(CLK_GATE_PEND_PEND, 2 ^ i)]
def pendX : Dev := { pendD 6 with xfers := [(0, ⟨.a, 0, 0, 0, 64, 0, [], [], [], [], none⟩)] }
def pm : Dev := at_ up [(PIN_FUNC_PMB, 1), (CLK_PMBUS_EN, 1)]
def opD (x : OpStep) : Dev := { at_ pm [(CLK_OP_BUSY, 1), (CLK_OP_CUR, 3), (CLK_OP_TARGET, x.goal)] with opStep := some x }
def gov (fs : List (Field × Nat)) : Dev := at_ up ([(GOV_CTL_EN, 1), (GOV_CTL_CAP, 40)] ++ fs)
def restW (wake : Bool) : RegWr := byA (.ofNat 64 (2 ^ (if wake then CLK_REST_WAKE.lo else CLK_REST_ENTER.lo))) .all
def rest1 : Dev := { at_ up [(CLK_REST_STATE, 1), (BANK_OWN_PSTATE 1023, 1), (LANE_STAT_PSTATE 143, 2)] with ensembles := [(0, { ens1 with phase := 3 })] }
def rest2 (fs : List (Field × Nat)) : Dev := at_ up (fs ++ [(CLK_REST_STATE, 2)])
def rest3 : Dev := at_ up [(CLK_REST_STATE, 3), (BANK_OWN_PSTATE 1023, 2)]
def tbW : RegWr := byA (.ofNat 64 (2 ^ TB_CTL_SET.lo + 2 ^ TB_CTL_PPS_EN.lo)) .all
def tmD (t : TimeSt) (fs : List (Field × Nat)) : Dev := { at_ up fs with time := { t with run := true } }
def tbW2 : RegWr := byA 0 .all
def ppD (fs : List (Field × Nat)) (t : TimeSt) : Dev := { at_ up ([(TB_CTL_PPS_EN, 1)] ++ fs) with time := { t with run := true } }
def evD (dir : Nat) (n : Nat) : Dev := { at_ up [(PIN_FUNC_EV, 255), (SVC_EVCFG_EV 7, 255), (SVC_EVCFG_DIR 7, dir)] with evPulses := [(7, n)], owners := [(31, 1)] }
def hand47 : Dev := { up with handovers := [(47, ⟨false, some true, some true⟩)] }
def svW (per : Nat) : RegWr := byA (.ofNat 64 (2 ^ SVC_XFER_GO.lo + per * 2 ^ SVC_XFER_PER.lo + 32 * 2 ^ SVC_XFER_WLEN.lo)) .all
def uaD (n : Nat) : Dev := { at_ up [(PIN_FUNC_UART, 1)] with uart := List.replicate n 0, owners := [(10, 2)] }
def ioD (fs : List (Field × Nat)) (x : IoSt) : Dev := { at_ up ([(IOCELL_EN 383, 1), (CFG_STAT_DONE, 1), (CLK_IOCLK_EN 0, 1), (IOBANK_VOK 11, 1)] ++ fs) with io := [(383, x)], time := {run := true} }
abbrev smp (u : Bool) : IoSample := { level := true, fault := false, unresolved := u }
def ioT : Dev := ioD [(IOCELL_DIR 383, 1)] {tx0 := [true, false]}
def calD : Dev := ioD [(IOBANK_CAL_EN 11, 1), (IOCELL_DELAY 383, 255)] {}
def nvOne : Dev := { one with nvLc := 2, nvGens := [(5, 6)], nvSlots := 9 }
def nvRead : Dev := { at_ {} [(RESET_STAT_PHASE, 5)] with nvLc := 2, nvSlots := 9 }
def bareK : Dev := { kdev with buffers := [], queues := [] }
def warmD : Dev := { at_ up [(STORE_STAT_RESETTING, 1), (RESET_STAT_PHASE, 10)] with resetWarm := true }
def die2 : Dev := { at_ up [(RESET_STAT_DIEBUSY, 1)] with dieResets := [2] }
def rstW (k : Nat) : RegWr := byA (.ofNat 64 (2 ^ RESET_CTL_WARM.lo + k * 2 ^ RESET_CTL_KEY.lo)) .all
def dieW (k n : Nat) : RegWr := byA (.ofNat 64 (2 ^ RESET_DIE_GO.lo + k * 2 ^ RESET_DIE_KEY.lo + n * 2 ^ RESET_DIE_DIE.lo)) .all
def wb : List Byte := (List.range 32).map fun i => .ofNat 8 (7 * i + 1)

/-! Witnesses of the hypotheses, clause by clause. -/

theorem witness_StepRunsFront :
  (({ : Dev }.heldRow = none)) ∧
  ((heldD.heldRow = some (Port.b, Instr.registerWrite (Src.host Port.b) 16 64 5 false, { up with ports := [(1, { perst := false, serving := true : PortSt })] : Dev }))) := by decide +kernel

theorem witness_DoorbellRule :
  ((rung.ownWrite 0 (byA 65536 Half.all) (327688 + 256 * 0)) ∧
    ((byA 65536 Half.all).touches (QU_DOORBELL_TAIL 0) = true) ∧
    ((rung.rd (QU_DOORBELL_TAIL 0) + 2 ^ 32 - rung.rd (ACCEPT_INDEX_INDEX 0)) % 2 ^ 32 ≤ (rung.wval (byA 65536 Half.all) (QU_DOORBELL_TAIL 0) + 2 ^ 32 - rung.rd (ACCEPT_INDEX_INDEX 0)) % 2 ^ 32 ∧ (rung.wval (byA 65536 Half.all) (QU_DOORBELL_TAIL 0) + 2 ^ 32 - rung.rd (ACCEPT_INDEX_INDEX 0)) % 2 ^ 32 ≤ rung.ringSize 0)) ∧
  ((rung.ownWrite 0 (byA 65537 Half.all) (327688 + 256 * 0)) ∧
    ((byA 65537 Half.all).touches (QU_DOORBELL_TAIL 0) = true) ∧
    (¬((rung.rd (QU_DOORBELL_TAIL 0) + 2 ^ 32 - rung.rd (ACCEPT_INDEX_INDEX 0)) % 2 ^ 32 ≤ (rung.wval (byA 65537 Half.all) (QU_DOORBELL_TAIL 0) + 2 ^ 32 - rung.rd (ACCEPT_INDEX_INDEX 0)) % 2 ^ 32 ∧ (rung.wval (byA 65537 Half.all) (QU_DOORBELL_TAIL 0) + 2 ^ 32 - rung.rd (ACCEPT_INDEX_INDEX 0)) % 2 ^ 32 ≤ rung.ringSize 0))) := by decide +kernel

theorem witness_QueueRegisterWrites_1 :
  ((up.ownWrite 63 (byB 2882303761517117504 Half.all) (327680 + 256 * 63))) ∧
  ((rung.ownWrite 0 (byA 11529215046068469824 Half.all) (327680 + 256 * 0))) ∧
  ((up.ownWrite 63 (byB 3458764513820540992 Half.all) (327752 + 256 * 63))) ∧
  ((up.ownWrite 63 (byB 3 Half.all) (327808 + 256 * 63 + 8 * 15))) ∧
  (((at_ rung [(QU_STAT_ERRSTOP 0, 1), (QU_STAT_FAULT 0, 1)]).ownWrite 0 (byA 65535 Half.all) (327728 + 256 * 0))) ∧
  (((at_ rung [(CQ_TAIL_TAIL 0, 17), (QU_STAT_CQFULL 0, 1)]).ownWrite 0 (byA 1 Half.all) (327760 + 256 * 0)) ∧
    ((byA 1 Half.all).touches (CQ_HEAD_HEAD 0) = true)) := by decide +kernel

theorem witness_QueueRegisterWrites_2 :
  (((at_ rung [(CQ_TAIL_TAIL 0, 17), (QU_STAT_CQFULL 0, 1)]).ownWrite 0 (byA 0 Half.all) (327760 + 256 * 0)) ∧
    ((byA 0 Half.all).touches (CQ_HEAD_HEAD 0) = true)) ∧
  (((at_ rung [(EV_COUNT_OVF 255, 1)]).reaches (byA 131071 Half.all) (352256 + 8 * 255))) := by decide +kernel

theorem witness_PlainCommands :
  ((rung.ready 0 1)) ∧
  (((at_ rung [(QU_EPOCH_EPOCH 0, 255)]).ready 0 1)) ∧
  ((one.ready 0 1) ∧
    (one.buffer 16777215 = some buf1) ∧
    (buf1.ready = true)) := by decide +kernel

theorem witness_SequencerCommands_1 :
  ((rung.ready 0 2)) ∧
  (((at_ rung [(QU_S_VALUE 0 15, 2), (QU_S_VALUE 0 14, 2 ^ 64 - 1)]).ready 0 1)) ∧
  (((at_ rung [(QU_S_VALUE 0 15, 1)]).ready 0 1) ∧
    (1 ≤ 256) ∧
    (256 ≤ 256) ∧
    (((at_ rung [(QU_S_VALUE 0 15, 1)]).rd (QU_S_VALUE 0 15) + 2 ^ 64 - 1) % 2 ^ 64 = 0)) := by decide +kernel

theorem witness_SequencerCommands_2 :
  ((looped.ready 0 1) ∧
    (1 ≤ 1) ∧
    (1 ≤ 256) ∧
    ((looped.rd (QU_S_VALUE 0 15) + 2 ^ 64 - 1) % 2 ^ 64 ≠ 0) ∧
    ((looped.queue 0).pos.minus 1 = some (Place.ring 2)) ∧
    ((looped.queue 0).inWindow (Place.ring 2) = true)) ∧
  ((rung.ready 0 1) ∧
    (0 < branchOfs 2) ∧
    ((rung.queue 0).pos = Place.ring 0) ∧ (branchOfs 2 < ↑(rung.ringSize 0))) ∧
  ((stacked.ready 0 1) ∧
    ((stacked.queue 0).stack.length < 8) ∧
    (stacked.inRing 0 (8 * 131072) = false)) := by decide +kernel

theorem witness_SequencerCommands_3 :
  ((stacked.ready 0 1) ∧
    ((stacked.queue 0).stack = List.replicate 6 (Place.ring 5, 0) ++ [(Place.ring 5, 0)])) := by decide +kernel

theorem witness_SynchronisingCommands_1 :
  (((at_ rung [(EV_COUNT_COUNT 255, 65535)]).ready 0 1) ∧
    ((at_ rung [(EV_COUNT_COUNT 255, 65535)]).waits 255 = [])) ∧
  ((rung.ready 0 1) ∧
    (rung.waits 255 = [])) ∧
  (((at_ rung [(EV_COUNT_COUNT 255, 65534)]).ready 0 1) ∧
    ((at_ rung [(EV_COUNT_COUNT 255, 65534)]).waits 255 = []) ∧
    ((at_ rung [(EV_COUNT_COUNT 255, 65534)]).rd (EV_COUNT_COUNT 255) < 65535)) := by decide +kernel

theorem witness_SynchronisingCommands_2 :
  ((rung.ready 0 2) ∧
    (rung.barriers.find 15 = none) ∧
    (rung.runningCmds = []) ∧
    (Nat.testBit 1 0 = true) ∧
    (1 = 2 ^ 0)) ∧
  ((rung.ready 0 2) ∧
    (rung.barriers.find 15 = none) ∧
    (rung.runningCmds = []) ∧
    (Nat.testBit 9223372036854775809 0 = true) ∧
    (9223372036854775809 ≠ 2 ^ 0)) ∧
  ((rung.ready 0 2) ∧
    ((Cmd.waittime true 0).inRange = true)) := by decide +kernel

theorem witness_SynchronisingCommands_3 :
  ((rung.ready 0 2) ∧
    ((Cmd.waittime true 1).inRange = true)) ∧
  ((rung.ready 0 1) ∧
    (rung.pegWaiters 63 = []) ∧
    (rung.on (PEG_STAT_HELD 63) = false)) ∧
  (((at_ rung [(PEG_STAT_HELD 63, 1)]).ready 0 1) ∧
    ((at_ rung [(PEG_STAT_HELD 63, 1)]).pegWaiters 63 = []) ∧
    ((at_ rung [(PEG_STAT_HELD 63, 1)]).on (PEG_STAT_HELD 63) = true)) := by decide +kernel

theorem witness_SynchronisingCommands_4 :
  (((at_ rung [(PEG_STAT_HELD 63, 1)]).ready 0 1) ∧
    ((at_ rung [(PEG_STAT_HELD 63, 1)]).pegWaiters 63 = []) ∧
    ((at_ rung [(PEG_STAT_HELD 63, 1)]).holdsPeg 63 ((at_ rung [(PEG_STAT_HELD 63, 1)]).queuePort 0) = true)) := by decide +kernel

theorem witness_BufferCommands_1 :
  ((alDev.openCmds = []) ∧
    (alDev.ready 0 2) ∧
    ((Cmd.balloc 16777215 true false false 0 512).inRange = true) ∧
    (alDev.buffer 16777215 = none) ∧
    ((alDev.begun 0 (Cmd.balloc 16777215 true false false 0 512) f0 CmdEnv.none).keyOk 0 = true) ∧
    (alDev.rootLost = false) ∧
    ((alDev.begun 0 (Cmd.balloc 16777215 true false false 0 512) f0 CmdEnv.none).storeOpen = true) ∧
    (false = true → 0 ≠ 0 ∧ ((alDev.begun 0 (Cmd.balloc 16777215 true false false 0 512) f0 CmdEnv.none).generation 0).isSome = true) ∧
    ((alDev.begun 0 (Cmd.balloc 16777215 true false false 0 512) f0 CmdEnv.none).rd PLACE_CTL_MODE = 0) ∧
    ((alDev.begun 0 (Cmd.balloc 16777215 true false false 0 512) f0 CmdEnv.none).placeBuffer ((512 + 511) / 512) = some (1, [0])) ∧
    (∀ r ∈ [0], (alDev.begun 0 (Cmd.balloc 16777215 true false false 0 512) f0 CmdEnv.none).rd (BANK_OWN_PSTATE (r / 512)) = 1)) ∧
  ((alOff.openCmds = []) ∧
    (alOff.ready 0 2) ∧
    ((Cmd.balloc 16777215 true false false 0 512).inRange = true) ∧
    (alOff.buffer 16777215 = none) ∧
    ((alOff.begun 0 (Cmd.balloc 16777215 true false false 0 512) f0 CmdEnv.none).keyOk 0 = true) ∧
    (alOff.rootLost = false) ∧
    ((alOff.begun 0 (Cmd.balloc 16777215 true false false 0 512) f0 CmdEnv.none).storeOpen = true) ∧
    (false = true → 0 ≠ 0 ∧ ((alOff.begun 0 (Cmd.balloc 16777215 true false false 0 512) f0 CmdEnv.none).generation 0).isSome = true) ∧
    ((alOff.begun 0 (Cmd.balloc 16777215 true false false 0 512) f0 CmdEnv.none).rd PLACE_CTL_MODE = 0) ∧
    ((alOff.begun 0 (Cmd.balloc 16777215 true false false 0 512) f0 CmdEnv.none).placeBuffer ((512 + 511) / 512) = some (1, [0])) ∧
    (∃ r ∈ [0], (alOff.begun 0 (Cmd.balloc 16777215 true false false 0 512) f0 CmdEnv.none).rd (BANK_OWN_PSTATE (r / 512)) ≠ 1)) := by decide +kernel

theorem witness_BufferCommands_2 :
  ((one.openCmds = []) ∧
    (one.ready 0 1) ∧
    (one.buffer 16777215 = some buf1) ∧
    (buf1.ready = true) ∧
    (one.isBound 16777215 = false)) ∧
  ((full2.openCmds = []) ∧
    (full2.ready 0 3) ∧
    ((Cmd.bcopy 16777215 16777214 0 0 32).inRange = true) ∧
    (full2.buffer 16777215 = some buf1) ∧
    (full2.buffer 16777214 = some { buf1 with rows := [some 1] : Buffer }) ∧
    (buf1.ready = true) ∧
    (0 + 32 ≤ buf1.size) ∧
    (buf1.commit = true → rangeRows 0 32 ≤ 4096) ∧
    ((full2.begun 0 (Cmd.bcopy 16777215 16777214 0 0 32) f0 CmdEnv.none).keyOk buf1.key = true) ∧
    ((full2.begun 0 (Cmd.bcopy 16777215 16777214 0 0 32) f0 CmdEnv.none).reachesBuf 0 { buf1 with rows := [some 1] : Buffer } 0 32 = true) ∧
    ((full2.begun 0 (Cmd.bcopy 16777215 16777214 0 0 32) f0 CmdEnv.none).reachesBuf 0 buf1 0 32 = true) ∧
    ((full2.begun 0 (Cmd.bcopy 16777215 16777214 0 0 32) f0 CmdEnv.none).bufferOn { buf1 with rows := [some 1] : Buffer } = true) ∧
    ((full2.begun 0 (Cmd.bcopy 16777215 16777214 0 0 32) f0 CmdEnv.none).bufferOn buf1 = true) ∧
    ((full2.begun 0 (Cmd.bcopy 16777215 16777214 0 0 32) f0 CmdEnv.none).bufRead 16777214 0 32 = (cpRead.1, Outc.ok, cpRead.2.2))) := by decide +kernel

theorem witness_BufferCommands_3 :
  ((one.openCmds = []) ∧
    (one.ready 0 3) ∧
    ((Cmd.bfill 16777215 480 32 72623859790382856).inRange = true) ∧
    (one.buffer 16777215 = some buf1) ∧
    (buf1.ready = true) ∧
    (480 + 32 ≤ buf1.size) ∧
    (buf1.commit = true → rangeRows 480 32 ≤ 4096) ∧
    ((one.begun 0 (Cmd.bfill 16777215 480 32 72623859790382856) f0 CmdEnv.none).keyOk buf1.key = true) ∧
    ((one.begun 0 (Cmd.bfill 16777215 480 32 72623859790382856) f0 CmdEnv.none).reachesBuf 0 buf1 480 32 = true) ∧
    ((one.begun 0 (Cmd.bfill 16777215 480 32 72623859790382856) f0 CmdEnv.none).bufferOn buf1 = true)) ∧
  ((one.openCmds = []) ∧
    (buf1.commit = false) ∧
    (buf1.mirror = false) ∧
    ((fl.updEntry 0 (one.nextSeq 0) fun e => { e with wrote := (16777215, 480, fillData.length) :: e.wrote : Entry }).bufWrite 16777215 480 fillData (List.replicate fillData.length true) = (Outc.ok, flNoted.2))) := by decide +kernel

theorem witness_BufferCommands_4 :
  ((one.openCmds = []) ∧
    (one.ready 0 1) ∧
    (one.buffer 16777215 = some buf1) ∧
    (buf1.ready = true)) ∧
  ((one.openCmds = []) ∧
    (one.ready 0 1) ∧
    (one.buffer 16777215 = some buf1) ∧
    (buf1.ready = true) ∧
    (false = buf1.sealed) ∧
    (false = false ∨ 0 ≠ 0 ∧ 0 = buf1.key) ∧
    ((one.begun 0 (Cmd.bkey 16777215 0 false) f0 CmdEnv.none).keyOk 0 = true)) := by decide +kernel

theorem witness_BufferCommands_5 :
  ((one.openCmds = []) ∧
    (one.ready 0 1) ∧
    (one.buffer 16777215 = some buf1) ∧
    (buf1.ready = true) ∧
    (one.bufMoves.find 16777215 = none) ∧
    ((Cmd.bhint 16777215 63 true true false).inRange = true) ∧
    (one.rd PLACE_CTL_MODE = 0)) ∧
  ((one1.openCmds = []) ∧
    (one1.ready 0 1) ∧
    (one1.buffer 16777215 = some buf1) ∧
    (buf1.ready = true) ∧
    (one1.bufMoves.find 16777215 = none) ∧
    ((Cmd.bhint 16777215 0 false true false).inRange = true) ∧
    (one1.rd PLACE_CTL_MODE ≠ 0) ∧
    (false = false)) := by decide +kernel

theorem witness_BufferCommands_6 :
  ((one2.openCmds = []) ∧
    (one2.ready 0 1) ∧
    (one2.buffer 16777215 = some buf1) ∧
    (buf1.ready = true) ∧
    (one2.bufMoves.find 16777215 = none) ∧
    ((Cmd.bhint 16777215 0 false true false).inRange = true) ∧
    (one2.rd PLACE_CTL_MODE ≠ 0) ∧
    (false = false)) ∧
  (({ one1 with rootLost := true : Dev }.openCmds = []) ∧
    ({ one1 with rootLost := true : Dev }.ready 0 1) ∧
    ({ one1 with rootLost := true : Dev }.buffer 16777215 = some buf1) ∧
    (buf1.ready = true) ∧
    ({ one1 with rootLost := true : Dev }.bufMoves.find 16777215 = none) ∧
    ((Cmd.bhint 16777215 63 true true false).inRange = true) ∧
    ({ one1 with rootLost := true : Dev }.rd PLACE_CTL_MODE = 1) ∧
    ((true || false) = true) ∧
    (({ one1 with rootLost := true : Dev }.begun 0 (Cmd.bhint 16777215 63 true true false) f0 CmdEnv.none).planMove buf1 (({ one1 with rootLost := true : Dev }.begun 0 (Cmd.bhint 16777215 63 true true false) f0 CmdEnv.none).hintMask buf1 63 false) = none)) := by decide +kernel

theorem witness_BufferCommands_7 :
  ((one1.openCmds = []) ∧
    (one1.ready 0 1) ∧
    (one1.buffer 16777215 = some buf1) ∧
    (buf1.ready = true) ∧
    (one1.bufMoves.find 16777215 = none) ∧
    ((Cmd.bhint 16777215 0 true true false).inRange = true) ∧
    (one1.rd PLACE_CTL_MODE = 1) ∧
    ((true || false) = true) ∧
    ((one1.begun 0 (Cmd.bhint 16777215 0 true true false) f0 CmdEnv.none).planMove buf1 ((one1.begun 0 (Cmd.bhint 16777215 0 true true false) f0 CmdEnv.none).hintMask buf1 0 false) = some buf1.rows)) ∧
  ((one1.openCmds = []) ∧
    (one1.ready 0 1) ∧
    (one1.buffer 16777215 = some buf1) ∧
    (buf1.ready = true) ∧
    (one1.bufMoves.find 16777215 = none) ∧
    ((Cmd.bhint 16777215 63 true true false).inRange = true) ∧
    (one1.rd PLACE_CTL_MODE = 1) ∧
    ((true || false) = true) ∧
    ((one1.begun 0 (Cmd.bhint 16777215 63 true true false) f0 CmdEnv.none).planMove buf1 ((one1.begun 0 (Cmd.bhint 16777215 63 true true false) f0 CmdEnv.none).hintMask buf1 63 false) = some [some 516096]) ∧
    ([some 516096] ≠ buf1.rows)) := by decide +kernel

theorem witness_BufferCommands_8 :
  ((kdev.openCmds = []) ∧
    (kdev.ready 0 2) ∧
    ((Cmd.rowmove 8191 16777215 0 true 0 1).inRange = true) ∧
    (kdev.buffer 16777215 = some buf1) ∧
    (buf1.ready = true) ∧
    (buf1.sealed = false) ∧
    (kdev.kernel 8191 = some kern1) ∧
    (kern1.ready = true) ∧
    (kern1.released = false) ∧
    (kern1.rowTile 0 = some 0) ∧
    (0 + 1 ≤ buf1.rows.length) ∧
    ((kdev.begun 0 (Cmd.rowmove 8191 16777215 0 true 0 1) f0 CmdEnv.none).keyOk buf1.key = true) ∧
    (true = true → buf1.commit = true → 1 ≤ 4096) ∧
    ((kdev.begun 0 (Cmd.rowmove 8191 16777215 0 true 0 1) f0 CmdEnv.none).gate (if 0 < 128 then 11 else 12) = true)) := by decide +kernel

theorem witness_KernelCommands_1 :
  ((kdev.kernel 8191 = some kern1) ∧
    (kern1.ready = true) ∧
    (kdev.ready 0 1) ∧
    (kern1.released = false) ∧
    (kern1.run = none) ∧
    (kdev.diesOpen kern1.where = true) ∧
    ((kdev.ensembles.find (kdev.homeOf kern1)).map (·.phase) = some 1 ∧ kdev.shown kern1.anchor = kern1.fret ∧ kdev.migrations.find (kdev.homeOf kern1) = none)) := by decide +kernel

theorem witness_KernelCommands_2 :
  ((kdev1.kernel 8191 = some kern1) ∧
    (kern1.ready = true) ∧
    (kdev1.ready 0 1) ∧
    (kern1.released = false) ∧
    (kern1.run = none) ∧
    (kdev1.diesOpen kern1.where = true) ∧
    (¬((kdev1.ensembles.find (kdev1.homeOf kern1)).map (·.phase) = some 1 ∧ kdev1.shown kern1.anchor = kern1.fret ∧ kdev1.migrations.find (kdev1.homeOf kern1) = none))) := by decide +kernel

theorem witness_KernelCommands_3 :
  ((kdev.kernel 8191 = some kern1) ∧
    (kern1.ready = true) ∧
    (kdev.ready 0 1) ∧
    (kdev.openCmds = []) ∧
    (kern1.run = none) ∧
    (kdev.onTheMove kern1 = false)) := by decide +kernel

theorem witness_KernelCommands_4 :
  ((kdevRun.kernel 8191 = some kern1Run) ∧
    (kern1Run.ready = true) ∧
    (kdevRun.ready 0 1) ∧
    (kern1Run.run = some { q := 5, seq := 1, begun := true, done := none, err := none : Run }) ∧
    (true = true) ∧
    (kern1Run.released = false) ∧
    (kdevRun.onTheMove kern1Run = false) ∧
    (kdevRun.shown kern1Run.anchor = kern1Run.fret)) := by decide +kernel

theorem witness_KernelCommands_5 :
  ((kdev.kernel 8191 = some kern1) ∧
    (kern1.ready = true) ∧
    (kdev.ready 0 1) ∧
    (kern1.released = false) ∧
    (kern1.run = none) ∧
    ((Cmd.kbind 8191 15 0 16777215).inRange = true) ∧
    (kdev.slotType kern1 15 ≠ 0) ∧
    (0 ≠ 3 → kdev.slotType kern1 15 = 0 + 1) ∧
    (kdev.buffer 16777215 = some buf1 ∧ buf1.ready = true)) := by decide +kernel

theorem witness_KernelCommands_6 :
  ((kdev.kernel 8191 = some kern1) ∧
    (kern1.ready = true) ∧
    (kdev.ready 0 1) ∧
    (kern1.released = false) ∧
    (kern1.run = none) ∧
    ((Cmd.kbind 8191 15 3 0).inRange = true) ∧
    (kdev.slotType kern1 15 ≠ 0) ∧
    (3 ≠ 3 → kdev.slotType kern1 15 = 3 + 1) ∧
    (¬(3 = 0 ∨ 3 = 1))) := by decide +kernel

theorem witness_KernelCommands_7 :
  ((kdev.kernel 8191 = some kern1) ∧
    (kern1.ready = true) ∧
    (kdev.ready 0 2) ∧
    (kern1.released = false) ∧
    (kern1.run = none) ∧
    (kern1.fret < 8)) := by decide +kernel

theorem witness_KernelCommands_8 :
  ((kdev.kernel 8191 = some kern1) ∧
    (kern1.ready = true) ∧
    (kdev.ready 0 2) ∧
    (kern1.released = false) ∧
    (kern1.run = none) ∧
    (kern1.fret < 8) ∧
    (kern1.where = [0])) := by decide +kernel

theorem witness_KernelCommands_9 :
  ((kdevW.kernel 8191 = some kernW) ∧
    (kernW.ready = true) ∧
    (kdevW.ready 0 2) ∧
    (kernW.released = false) ∧
    (kernW.run = none) ∧
    (kernW.fret < 8)) := by decide +kernel

theorem witness_KernelCommands_10 :
  ((kdevW.kernel 8191 = some kernW) ∧
    (kernW.ready = true) ∧
    (kdevW.ready 0 2) ∧
    (kernW.released = false) ∧
    (kernW.run = none) ∧
    (kernW.fret < 8) ∧
    (kernW.where = [0, 8])) := by decide +kernel

theorem witness_KernelCommands_11 :
  ((kdev.kernel 8191 = some kern1) ∧
    (kern1.ready = true) ∧
    (kdev.ready 0 1) ∧
    (kern1.released = false) ∧
    (kdev.onTheMove kern1 = false) ∧
    (kdev.diesOpen kern1.where = true) ∧
    (kdev.ensembles.find (kdev.homeOf kern1) = some ens1) ∧
    (ens1.phase = 1) ∧
    (ens1.waiting = []) ∧
    (kdev.shown (kdev.homeOf kern1) = kern1.fret)) := by decide +kernel

theorem witness_KernelCommands_12 :
  ((kdev1.kernel 8191 = some kern1) ∧
    (kern1.ready = true) ∧
    (kdev1.ready 0 1) ∧
    (kern1.released = false) ∧
    (kdev1.onTheMove kern1 = false) ∧
    (kdev1.diesOpen kern1.where = true) ∧
    (kdev1.ensembles.find (kdev1.homeOf kern1) = some ens1) ∧
    (ens1.phase = 1) ∧
    (ens1.waiting = []) ∧
    (kdev1.shown (kdev1.homeOf kern1) ≠ kern1.fret)) := by decide +kernel

theorem witness_KernelCommands_13 :
  (((at_ kdev [(FRET_STAT_NEXTV 0, 1)]).kernel 8191 = some kern1) ∧
    (kern1.ready = true) ∧
    ((at_ kdev [(FRET_STAT_NEXTV 0, 1)]).ready 0 1) ∧
    (kern1.released = false) ∧
    ((at_ kdev [(FRET_STAT_NEXTV 0, 1)]).onTheMove kern1 = false) ∧
    ((at_ kdev [(FRET_STAT_NEXTV 0, 1)]).diesOpen kern1.where = true) ∧
    ((at_ kdev [(FRET_STAT_NEXTV 0, 1)]).ensembles.find ((at_ kdev [(FRET_STAT_NEXTV 0, 1)]).homeOf kern1) = some ens1) ∧
    (ens1.phase = 1) ∧
    (ens1.waiting = []) ∧
    ((at_ kdev [(FRET_STAT_NEXTV 0, 1)]).planeReady ((at_ kdev [(FRET_STAT_NEXTV 0, 1)]).homeOf kern1) kern1.fret = true)) := by decide +kernel

theorem witness_KernelCommands_14 :
  ((kdev1.kernel 8191 = some kern1) ∧
    (kern1.ready = true) ∧
    (kdev1.ready 0 1) ∧
    (kern1.released = false) ∧
    (kdev1.onTheMove kern1 = false) ∧
    (kdev1.diesOpen kern1.where = true) ∧
    (kdev1.ensembles.find (kdev1.homeOf kern1) = some ens1) ∧
    (ens1.phase = 1) ∧
    (ens1.waiting = []) ∧
    (kdev1.planeReady (kdev1.homeOf kern1) kern1.fret = false)) := by decide +kernel

theorem witness_KernelCommands_15 :
  ((kdev.kernel 8191 = some kern1) ∧
    (kern1.ready = true) ∧
    (kdev.ready 0 1) ∧
    (kdev.openCmds = []) ∧
    (kdev.kernelGroups 8191 = [])) := by decide +kernel

theorem witness_AdmissionCommands_1 :
  ((rung.openCmds = []) ∧
    (rung.ready 0 3) ∧
    ((Cmd.kadmit 8191 0 false false false 0 17592186044416 4096).inRange = true) ∧
    (rung.kernel 8191 = none) ∧
    (rung.load = none) ∧
    (addrSpace 17592186044416 = AddrSpace.host Port.a 0 ∧ rung.portUp Port.a = true ∧ badImg = badImg ∧ hostD badImg = rung.begun 0 (Cmd.kadmit 8191 0 false false false 0 17592186044416 4096) f0 (CmdEnv.image badImg [])) ∧
    (((hostD badImg).headerCode badImg fun x => x == 2) = 1) ∧
    (1 ≠ 0)) := by decide +kernel

theorem witness_AdmissionCommands_2 :
  ((rung.openCmds = []) ∧
    (rung.ready 0 3) ∧
    ((Cmd.kadmit 8191 0 false false false 0 4096 64).inRange = true) ∧
    (rung.kernel 8191 = none) ∧
    (rung.load = none) ∧
    (addrSpace 4096 = AddrSpace.store 4096 ∧ (rung.begun 0 (Cmd.kadmit 8191 0 false false false 0 4096 64) f0 (CmdEnv.image img1 [])).storeReady Ident.device 0 4096 64 = true ∧ (rung.begun 0 (Cmd.kadmit 8191 0 false false false 0 4096 64) f0 (CmdEnv.image img1 [])).imageAt 4096 (some 64) img1 = (admI.1, admI.2) ∧ admI.2.load = none) ∧
    ((admI.2.headerCode admI.1 fun x => x == 2) = admCode) ∧
    (admCode ≠ 0)) := by decide +kernel

theorem witness_AdmissionCommands_3 :
  ((rung.openCmds = []) ∧
    (rung.ready 0 3) ∧
    ((Cmd.kadmit 8191 0 false false false 0 17592186044416 4096).inRange = true) ∧
    (rung.kernel 8191 = none) ∧
    (rung.load = none) ∧
    (addrSpace 17592186044416 = AddrSpace.host Port.a 0 ∧ rung.portUp Port.a = true ∧ img1 = img1 ∧ hostD img1 = rung.begun 0 (Cmd.kadmit 8191 0 false false false 0 17592186044416 4096) f0 (CmdEnv.image img1 [])) ∧
    (((hostD img1).headerCode img1 fun x => x == 2) = 0) ∧
    ({ dies := 0, sole := false, nomigrate := false, hint := if false = true then some 0 else none, src := { host := true, addr := 17592186044416, bytes := 4096, keyslot := img1.keyslot.toNat : ImgSrc }, word0 := bitsOf (BitVec.toNat ((encodeCmd (Cmd.kadmit 8191 0 false false false 0 17592186044416 4096) f0).getD 0 0)) 0 32 : Admission }.kernel img1.desc = some admK) ∧
    ((hostD img1).placeKernel 8191 admK img1.desc img1.headerCrc.toNat (if false = true then some 0 else none) false [] = (Placed.at_ (admGet admP.1).1 (admGet admP.1).2.1 (admGet admP.1).2.2, admP.2))) := by decide +kernel

theorem witness_AdmissionCommands_4 :
  ((kdev.openCmds = []) ∧
    (kdev.ready 0 (1 + ([{ kern := 8191, dwell := 1 : RotEntry }, { kern := 8191, dwell := 65535 : RotEntry }].length + 1) / 2)) ∧
    ((Cmd.krotate false [{ kern := 8191, dwell := 1 : RotEntry }, { kern := 8191, dwell := 65535 : RotEntry }]).inRange = true) ∧
    (kdev.ensembles.find 0 = some ens1) ∧
    (kdev.migrations = []) ∧
    (∀ r ∈ [{ kern := 8191, dwell := 1 : RotEntry }, { kern := 8191, dwell := 65535 : RotEntry }], kdev.kernel r.kern.toNat = some kern1 ∧ kern1.ready = true ∧ kern1.released = false ∧ kern1.sole = false ∧ kern1.fixed = false ∧ kdev.homeOf kern1 = 0 ∧ kdev.diesOpen kern1.where = true)) := by decide +kernel

theorem witness_AdmissionCommands_5 :
  ((kdev.openCmds = []) ∧
    (kdev.ready 0 2) ∧
    (0 = 0) ∧
    (kdev.kernel 8191 = some kern1) ∧
    (kern1.ready = true) ∧
    (kern1.sole = false) ∧
    (kern1.fixed = false) ∧
    (kdev.homeOf kern1 = 0) ∧
    (kdev.ensembles.find 0 = some ens1) ∧
    (kdev.onTheMove kern1 = false) ∧
    (kdev.diesOpen kern1.where = true)) := by decide +kernel

theorem witness_EngineCommands_1 :
  ((kdev.openCmds = []) ∧
    (kdev.ready 0 2) ∧
    ((Cmd.lbind 8191 0 false 126 1 3).inRange = true) ∧
    (kdev.kernel 8191 = some kern1) ∧
    (kern1.ready = true) ∧
    (kern1.released = false) ∧
    (kdev.laneSlot kern1 0 = true) ∧
    (∀ x ∈ kdev.groups, ¬(x.2.kern = 8191 ∧ x.2.slot = 0)) ∧
    (126 + 2 ^ 1 ≤ 128) ∧
    (∀ L ∈ groupLanes 126 1, kdev.groupOf L = none ∧ kdev.on (LANE_STAT_RETIRED L) = false ∧ kdev.gateLane (L / 4) = true)) := by decide +kernel

theorem witness_EngineCommands_2 :
  ((rung.openCmds = []) ∧
    (rung.ready 0 1) ∧
    (1 = 1 ∨ 1 = 2 ∨ 1 = 7) ∧
    ((Cmd.lctl 126 1 1 0).inRange = true) ∧
    (126 + 2 ^ 1 ≤ 128) ∧
    (∀ L ∈ groupLanes 126 1, rung.groupOf L = none ∧ rung.on (LANE_STAT_RETIRED L) = false ∧ rung.gateLane (L / 4) = true)) := by decide +kernel

theorem witness_EngineCommands_3 :
  ((rung.openCmds = []) ∧
    (rung.ready 0 1) ∧
    (2 = 1 ∨ 2 = 2 ∨ 2 = 7) ∧
    ((Cmd.lctl 126 1 2 0).inRange = true) ∧
    (126 + 2 ^ 1 ≤ 128) ∧
    (∀ L ∈ groupLanes 126 1, rung.groupOf L = none ∧ rung.on (LANE_STAT_RETIRED L) = false ∧ rung.gateLane (L / 4) = true)) := by decide +kernel

theorem witness_EngineCommands_4 :
  ((rung.openCmds = []) ∧
    (rung.ready 0 1) ∧
    (7 = 1 ∨ 7 = 2 ∨ 7 = 7) ∧
    ((Cmd.lctl 126 1 7 0).inRange = true) ∧
    (126 + 2 ^ 1 ≤ 128) ∧
    (∀ L ∈ groupLanes 126 1, rung.groupOf L = none ∧ rung.on (LANE_STAT_RETIRED L) = false ∧ rung.gateLane (L / 4) = true)) := by decide +kernel

theorem witness_EngineCommands_5 :
  ((rung.openCmds = []) ∧
    (rung.ready 0 1) ∧
    (0 ≠ 3) ∧
    (0 ≠ 4) ∧
    ((Cmd.lctl 126 1 0 0).inRange = true) ∧
    (126 + 2 ^ 1 ≤ 128) ∧
    (∀ L ∈ groupLanes 126 1, rung.groupOf L = none ∧ rung.on (LANE_STAT_RETIRED L) = false ∧ rung.gateLane (L / 4) = true)) := by decide +kernel

theorem witness_EngineCommands_6 :
  ((rung.openCmds = []) ∧
    (rung.ready 0 1) ∧
    (5 ≠ 3) ∧
    (5 ≠ 4) ∧
    ((Cmd.lctl 126 1 5 1).inRange = true) ∧
    (126 + 2 ^ 1 ≤ 128) ∧
    (∀ L ∈ groupLanes 126 1, rung.groupOf L = none ∧ rung.on (LANE_STAT_RETIRED L) = false ∧ rung.gateLane (L / 4) = true)) := by decide +kernel

theorem witness_EngineCommands_7 :
  ((rung.openCmds = []) ∧
    (rung.ready 0 4) ∧
    ((Cmd.dmago 63 false 0 0 4096 64 255 true true 20 false 0).inRange = true) ∧
    ((rung.begun 0 (Cmd.dmago 63 false 0 0 4096 64 255 true true 20 false 0) f0 CmdEnv.none).keyOk 0 = true) ∧
    (rung.gate 6 = true) ∧
    (rung.on (DMA_CH_CTL_GO 63) = false)) := by decide +kernel

theorem witness_EngineCommands_8 :
  ((rung.openCmds = []) ∧
    (rung.ready 0 2) ∧
    ((Cmd.tsetup 7 48 false false 12 18446744073709551615).inRange = true) ∧
    (rung.table 7 = none) ∧
    (rung.gate 10 = true) ∧
    (rung.storeOpen = true) ∧
    (rung.rootLost = false) ∧
    (2 ^ 12 ≤ rung.tallyFree) ∧
    ((rung.begun 0 (Cmd.tsetup 7 48 false false 12 18446744073709551615) f0 CmdEnv.none).rd PLACE_CTL_MODE = 0) ∧
    (18446744073709551615 ≠ 0)) := by decide +kernel

theorem witness_EngineCommands_9 :
  ((tdev.openCmds = []) ∧
    (tdev.ready 0 1) ∧
    ((tdev.table 7).isSome = true) ∧
    (tdev.gate 10 = true) ∧
    (tdev.storeOpen = true)) := by decide +kernel

theorem witness_EngineCommands_10 :
  ((tdev.openCmds = []) ∧
    (tdev.ready 0 2) ∧
    ((Cmd.tdrain 7 true 16777215 496).inRange = true) ∧
    (tdev.table 7 = some tab7) ∧
    (tdev.buffer 16777215 = some buf1) ∧
    (buf1.ready = true) ∧
    (496 + 16 * ((((tdev.begun 0 (Cmd.tdrain 7 true 16777215 496) f0 CmdEnv.none).note 0 (tdev.nextSeq 0) [1]).tableUsed 7).1 + (((tdev.begun 0 (Cmd.tdrain 7 true 16777215 496) f0 CmdEnv.none).note 0 (tdev.nextSeq 0) [1]).tableUsed 7).2.1) ≤ buf1.size) ∧
    (buf1.commit = true → (((tdev.begun 0 (Cmd.tdrain 7 true 16777215 496) f0 CmdEnv.none).note 0 (tdev.nextSeq 0) [1]).tableUsed 7).1 + (((tdev.begun 0 (Cmd.tdrain 7 true 16777215 496) f0 CmdEnv.none).note 0 (tdev.nextSeq 0) [1]).tableUsed 7).2.1 ≤ 131072) ∧
    (((tdev.begun 0 (Cmd.tdrain 7 true 16777215 496) f0 CmdEnv.none).note 0 (tdev.nextSeq 0) [1]).keyOk buf1.key = true) ∧
    (((tdev.begun 0 (Cmd.tdrain 7 true 16777215 496) f0 CmdEnv.none).note 0 (tdev.nextSeq 0) [1]).gate 10 = true) ∧
    (((tdev.begun 0 (Cmd.tdrain 7 true 16777215 496) f0 CmdEnv.none).note 0 (tdev.nextSeq 0) [1]).bufferOn buf1 = true) ∧
    (((tdev.begun 0 (Cmd.tdrain 7 true 16777215 496) f0 CmdEnv.none).note 0 (tdev.nextSeq 0) [1]).reachesBuf 0 buf1 496 (16 * ((((tdev.begun 0 (Cmd.tdrain 7 true 16777215 496) f0 CmdEnv.none).note 0 (tdev.nextSeq 0) [1]).tableUsed 7).1 + (((tdev.begun 0 (Cmd.tdrain 7 true 16777215 496) f0 CmdEnv.none).note 0 (tdev.nextSeq 0) [1]).tableUsed 7).2.1)) = true) ∧
    ((tab7.cols.all fun c => ((tdev.begun 0 (Cmd.tdrain 7 true 16777215 496) f0 CmdEnv.none).note 0 (tdev.nextSeq 0) [1]).linked (engineCol 0) c.1) = true)) := by decide +kernel

theorem witness_Acceptance :
  ((up.accepting 0 = false ∨ up.hasTurn up.acceptTurns Dev.acceptReady 0 = false)) ∧
  ((hostRing.accepting 0 = true) ∧
    (hostRing.hasTurn hostRing.acceptTurns Dev.acceptReady 0 = true) ∧
    (((hostRing.fetchMore 0 fetched8 Outc.ok).queue 0).snaps = []) ∧
    ((hostRing.fetchMore 0 fetched8 Outc.ok).accepting 0 = true) ∧
    ((hostRing.fetchMore 0 fetched8 Outc.ok).telling = false) ∧
    ((hostRing.fetchMore 0 fetched8 Outc.ok).gather 0 = Got.words (encodeCmd (Cmd.mark 7) f0)) ∧
    ((Cmd.mark 7).inRange = true) ∧
    ((Cmd.mark 7).isSeq = false) ∧
    ((Cmd.mark 7).stopPlain = true) ∧
    ((hostRing.fetchMore 0 fetched8 Outc.ok).journalRoom 0 = true)) ∧
  ((tight.accepting 0 = true) ∧
    (tight.hasTurn tight.acceptTurns Dev.acceptReady 0 = true) ∧
    (((tight.fetchMore 0 fetched8 Outc.ok).queue 0).snaps = []) ∧
    ((tight.fetchMore 0 fetched8 Outc.ok).accepting 0 = true) ∧
    ((tight.fetchMore 0 fetched8 Outc.ok).telling = false) ∧
    ((tight.fetchMore 0 fetched8 Outc.ok).gather 0 = Got.words (encodeCmd (Cmd.mark 7) f0)) ∧
    ((Cmd.mark 7).inRange = true) ∧
    ((Cmd.mark 7).isSeq = false) ∧
    ((Cmd.mark 7).stopPlain = true) ∧
    ((tight.fetchMore 0 fetched8 Outc.ok).journalRoom 0 = false)) ∧
  ((hostRing.accepting 0 = true) ∧
    (hostRing.hasTurn hostRing.acceptTurns Dev.acceptReady 0 = true) ∧
    (((hostRing.fetchMore 0 [] Outc.busError).atPath 0).gather 0 = Got.failed (Place.ring 0))) ∧
  (((at_ hostRing [(QU_DOORBELL_TAIL 0, 0)]).accepting 0 = true) ∧
    ((at_ hostRing [(QU_DOORBELL_TAIL 0, 0)]).hasTurn (at_ hostRing [(QU_DOORBELL_TAIL 0, 0)]).acceptTurns Dev.acceptReady 0 = true) ∧
    ((((at_ hostRing [(QU_DOORBELL_TAIL 0, 0)]).fetchMore 0 [] Outc.ok).atPath 0).gather 0 = Got.missing)) ∧
  ((hostRing.nextBlock 0 = Place.ring 0 :: List.map (fun i => Place.ring (i + 1)) (List.range 7)) ∧
    (addrSpace (hostRing.placeAddr 0 (Place.ring 0)) = AddrSpace.host Port.a 0) ∧
    (hostRing.portUp Port.a = true) ∧
    (fetched8.length = (List.map (fun i => Place.ring (i + 1)) (List.range 7)).length + 1)) := by decide +kernel

theorem witness_StartAndComplete_1 :
  ((acc1.running = true) ∧
    (acc1.entry 0 entry1.seq = some entry1) ∧
    (entry1.cmd = some (Cmd.mark 7)) ∧
    ((Cmd.mark 7).inRange = true) ∧
    (entry1.seq < 2 ^ 48) ∧
    (acc1.gateServes 5 = true) ∧
    (acc1.shadowing = false) ∧
    (acc1.rd TWIN_STAT_STATE ≠ 5) ∧
    (acc1.startable 0 = some entry1) ∧
    (acc1.hasTurn acc1.issueTurns (fun d q => (d.startable q).isSome) 0 = true) ∧
    (acc1.handles 0 entry1.seq (Cmd.mark 7) ≠ Handles.gone) ∧
    (lacksImage (Cmd.mark 7) CmdEnv.none = false) ∧
    (atCompletion (Cmd.mark 7) = true)) ∧
  ((acc3.running = true) ∧
    (acc3.entry 0 entryW.seq = some entryW) ∧
    (entryW.cmd = some (Cmd.waittime true 5)) ∧
    ((Cmd.waittime true 5).inRange = true) ∧
    (entryW.seq < 2 ^ 48) ∧
    (acc3.gateServes 5 = true) ∧
    (acc3.shadowing = false) ∧
    (acc3.rd TWIN_STAT_STATE ≠ 5) ∧
    (acc3.startable 0 = some entryW) ∧
    (acc3.hasTurn acc3.issueTurns (fun d q => (d.startable q).isSome) 0 = true) ∧
    (acc3.handles 0 entryW.seq (Cmd.waittime true 5) ≠ Handles.gone) ∧
    (lacksImage (Cmd.waittime true 5) CmdEnv.none = false) ∧
    (atCompletion (Cmd.waittime true 5) = false) ∧
    (holdsOn (Cmd.waittime true 5) = true)) := by decide +kernel

theorem witness_StartAndComplete_2 :
  ((accRm.running = true) ∧
    (accRm.entry 0 entryRm.seq = some entryRm) ∧
    (entryRm.cmd = some (Cmd.rowmove 8191 16777215 0 false 0 1)) ∧
    ((Cmd.rowmove 8191 16777215 0 false 0 1).inRange = true) ∧
    (entryRm.seq < 2 ^ 48) ∧
    (accRm.gateServes 5 = true) ∧
    (accRm.shadowing = false) ∧
    (accRm.rd TWIN_STAT_STATE ≠ 5) ∧
    (accRm.startable 0 = some entryRm) ∧
    (accRm.hasTurn accRm.issueTurns (fun d q => (d.startable q).isSome) 0 = true) ∧
    (accRm.handles 0 entryRm.seq (Cmd.rowmove 8191 16777215 0 false 0 1) ≠ Handles.gone) ∧
    (lacksImage (Cmd.rowmove 8191 16777215 0 false 0 1) CmdEnv.none = false) ∧
    (atCompletion (Cmd.rowmove 8191 16777215 0 false 0 1) = false) ∧
    (holdsOn (Cmd.rowmove 8191 16777215 0 false 0 1) = false) ∧
    (allocates (Cmd.rowmove 8191 16777215 0 false 0 1) = true ∨ (accRm.updEntry 0 entryRm.seq fun e => { e with stage := Stage.started, started := accRm.stamp, epoch := accRm.rd (QU_EPOCH_EPOCH 0), env := CmdEnv.none : Entry }).handles 0 entryRm.seq (Cmd.rowmove 8191 16777215 0 false 0 1) = Handles.ok) ∧
    (((accRm.updEntry 0 entryRm.seq fun e => { e with stage := Stage.started, started := accRm.stamp, epoch := accRm.rd (QU_EPOCH_EPOCH 0), env := CmdEnv.none : Entry }).beginWork 0 { entryRm with stage := Stage.started, started := accRm.stamp, epoch := accRm.rd (QU_EPOCH_EPOCH 0), env := CmdEnv.none : Entry } (Cmd.rowmove 8191 16777215 0 false 0 1)).1 = none)) ∧
  ((accKs.running = true) ∧
    (accKs.entry 0 entryKs.seq = some entryKs) ∧
    (entryKs.cmd = some (Cmd.kstop 8191)) ∧
    ((Cmd.kstop 8191).inRange = true) ∧
    (entryKs.seq < 2 ^ 48) ∧
    (accKs.gateServes 5 = true) ∧
    (accKs.shadowing = false) ∧
    (accKs.rd TWIN_STAT_STATE ≠ 5) ∧
    (accKs.startable 0 = some entryKs) ∧
    (accKs.hasTurn accKs.issueTurns (fun d q => (d.startable q).isSome) 0 = true) ∧
    (accKs.handles 0 entryKs.seq (Cmd.kstop 8191) ≠ Handles.gone) ∧
    (lacksImage (Cmd.kstop 8191) CmdEnv.none = false) ∧
    (atCompletion (Cmd.kstop 8191) = false) ∧
    (holdsOn (Cmd.kstop 8191) = false) ∧
    (allocates (Cmd.kstop 8191) = true ∨ (accKs.updEntry 0 entryKs.seq fun e => { e with stage := Stage.started, started := accKs.stamp, epoch := accKs.rd (QU_EPOCH_EPOCH 0), env := CmdEnv.none : Entry }).handles 0 entryKs.seq (Cmd.kstop 8191) = Handles.ok) ∧
    (((accKs.updEntry 0 entryKs.seq fun e => { e with stage := Stage.started, started := accKs.stamp, epoch := accKs.rd (QU_EPOCH_EPOCH 0), env := CmdEnv.none : Entry }).beginWork 0 { entryKs with stage := Stage.started, started := accKs.stamp, epoch := accKs.rd (QU_EPOCH_EPOCH 0), env := CmdEnv.none : Entry } (Cmd.kstop 8191)).1 = some (Status.ok, 0))) := by decide +kernel

theorem witness_StartAndComplete_3 :
  ((accS.running = true) ∧
    (accS.entry 0 entryS.seq = some entryS) ∧
    (entryS.cmd = some (Cmd.mark 7)) ∧
    ((Cmd.mark 7).inRange = true) ∧
    (entryS.seq < 2 ^ 48) ∧
    (entryS.stage = Stage.started) ∧
    (entryS.fin = none) ∧
    (allocates (Cmd.mark 7) = true ∨ accS.handles 0 entryS.seq (Cmd.mark 7) = Handles.ok)) ∧
  ((accF.running = true) ∧
    (accF.entry 0 entryF.seq = some entryF) ∧
    (entryF.cmd = some (Cmd.mark 7)) ∧
    ((Cmd.mark 7).inRange = true) ∧
    (entryF.seq < 2 ^ 48) ∧
    (entryF.stage = Stage.started) ∧
    (entryF.fin = some (Status.ok, 7)) ∧
    (entryF.staged = []) ∧
    (entryF.delta = []) ∧
    (entryF.wrote = []) ∧
    ((Cmd.mark 7).opcode ≠ (Cmd.tdrain 0 true 0 0).opcode) ∧
    (accF.on (QU_CTL_STOP_ON_ERR 0) = false) ∧
    (accF.telling = false) ∧
    (accF.stageWait = [])) := by decide +kernel

theorem witness_FailureStopsQueue :
  ((failing.journal 0 = [entryS] ++ [entryS2, entryA3, entryS4]) ∧
    (List.Pairwise (fun a b => a.seq ≠ b.seq) (failing.journal 0)) ∧
    (entryS2.seq = 2) ∧
    (entryS2.stage = Stage.started) ∧
    (Status.busError.bad = true) ∧
    (failing.telling = false)) ∧
  ((failing0.journal 0 = [entryS] ++ [entryS2, entryA3, entryS4]) ∧
    (List.Pairwise (fun a b => a.seq ≠ b.seq) (failing0.journal 0)) ∧
    (entryS2.seq = 2) ∧
    (entryS2.stage = Stage.started) ∧
    (Status.busError.bad = true) ∧
    (failing0.telling = false)) ∧
  (((at_ rung [(QU_STAT_ERRSTOP 0, 1)]).ownWrite 0 (byA 4 Half.all) (327728 + 256 * 0)) ∧
    ((byA 4 Half.all).one (QU_CTL_RESUME 0) = true) ∧
    ((at_ rung [(QU_STAT_ERRSTOP 0, 1)]).telling = false)) := by decide +kernel

theorem witness_Posting_1 :
  (((postD.journal 0).head? = some entryC) ∧
    (entryC.stage = Stage.completed) ∧
    (entryC.durable = true) ∧
    (postD.on (QU_STAT_CQERR 0) = false) ∧
    (postD.running = true) ∧
    (postD.telling = false) ∧
    (postD.capo.swapping = false) ∧
    (postD.capo.frames = []) ∧
    (entryC.recordDue = false)) ∧
  ((((at_ postR [(CQ_TAIL_TAIL 0, 16)]).journal 0).head? = some entryR) ∧
    (entryR.stage = Stage.completed) ∧
    (entryR.durable = true) ∧
    ((at_ postR [(CQ_TAIL_TAIL 0, 16)]).on (QU_STAT_CQERR 0) = false) ∧
    ((at_ postR [(CQ_TAIL_TAIL 0, 16)]).running = true) ∧
    ((at_ postR [(CQ_TAIL_TAIL 0, 16)]).telling = false) ∧
    ((at_ postR [(CQ_TAIL_TAIL 0, 16)]).capo.swapping = false) ∧
    ((at_ postR [(CQ_TAIL_TAIL 0, 16)]).capo.frames = []) ∧
    (entryR.recordDue = true) ∧
    ((at_ postR [(CQ_TAIL_TAIL 0, 16)]).cqFull 0 = true)) ∧
  (((postR.journal 0).head? = some entryR) ∧
    (entryR.stage = Stage.completed) ∧
    (entryR.durable = true) ∧
    (postR.on (QU_STAT_CQERR 0) = false) ∧
    (postR.running = true) ∧
    (postR.telling = false) ∧
    (postR.capo.swapping = false) ∧
    (postR.capo.frames = []) ∧
    (entryR.recordDue = true) ∧
    (postR.cqFull 0 = false) ∧
    (addrSpace (postR.cqSlot 0) = AddrSpace.host Port.a 480) ∧
    (postR.portUp Port.a = true) ∧
    (postR.linked (engineCol 0) (portCol Port.a) = true)) := by decide +kernel

theorem witness_Posting_2 :
  ((((at_ postR [(PORT_STAT_LINKUP 0, 0)]).journal 0).head? = some entryR) ∧
    (entryR.stage = Stage.completed) ∧
    (entryR.durable = true) ∧
    ((at_ postR [(PORT_STAT_LINKUP 0, 0)]).on (QU_STAT_CQERR 0) = false) ∧
    ((at_ postR [(PORT_STAT_LINKUP 0, 0)]).running = true) ∧
    ((at_ postR [(PORT_STAT_LINKUP 0, 0)]).telling = false) ∧
    ((at_ postR [(PORT_STAT_LINKUP 0, 0)]).capo.swapping = false) ∧
    ((at_ postR [(PORT_STAT_LINKUP 0, 0)]).capo.frames = []) ∧
    (entryR.recordDue = true) ∧
    ((at_ postR [(PORT_STAT_LINKUP 0, 0)]).cqFull 0 = false) ∧
    (addrSpace ((at_ postR [(PORT_STAT_LINKUP 0, 0)]).cqSlot 0) = AddrSpace.host Port.a 480) ∧
    ((at_ postR [(PORT_STAT_LINKUP 0, 0)]).portUp Port.a = false)) ∧
  (((postR.journal 0).head? = some entryR) ∧
    (entryR.stage = Stage.completed) ∧
    (entryR.durable = true) ∧
    (postR.on (QU_STAT_CQERR 0) = false) ∧
    (postR.running = true) ∧
    (postR.telling = false) ∧
    (postR.capo.swapping = false) ∧
    (postR.capo.frames = []) ∧
    (entryR.recordDue = true) ∧
    (postR.cqFull 0 = false) ∧
    (addrSpace (postR.cqSlot 0) = AddrSpace.host Port.a 480) ∧
    (postR.portUp Port.a = true)) ∧
  (((postS.journal 0).head? = some entryR) ∧
    (entryR.stage = Stage.completed) ∧
    (entryR.durable = true) ∧
    (postS.on (QU_STAT_CQERR 0) = false) ∧
    (postS.running = true) ∧
    (postS.telling = false) ∧
    (postS.capo.swapping = false) ∧
    (postS.capo.frames = []) ∧
    (entryR.recordDue = true) ∧
    (postS.cqFull 0 = false) ∧
    (addrSpace (postS.cqSlot 0) = AddrSpace.store 480) ∧
    (postS.linked (engineCol 0) (480 / 2 ^ 22) = true) ∧
    (postS.storeReady (Ident.port (postS.queuePort 0)) 0 480 32 = true) ∧
    (postS.gateRow (Ident.port (postS.queuePort 0)) 0 (480 / 512) = Gate.serve)) := by decide +kernel

theorem witness_PegAndTransferRegisters_1 :
  ((up.access (Src.host Port.a) (262144 + 32 * 63) false = Access.ok)) ∧
  ((pegA.access (Src.host Port.a) (262144 + 32 * 63) false = Access.ok)) ∧
  ((Src.host Port.a = Src.host Port.a) ∧
    (pegA.reaches (byA 1 Half.all) (262152 + 32 * 63)) ∧
    ((byA 1 Half.all).one (PEG_GIVE_GIVE 63) = true) ∧
    (pegA.holdsPeg 63 Port.a = true) ∧
    (pegA.pegWaiters 63 = [])) ∧
  ((Src.host Port.a = Src.host Port.a) ∧
    (pegW.reaches (byA 1 Half.all) (262152 + 32 * 63)) ∧
    ((byA 1 Half.all).one (PEG_GIVE_GIVE 63) = true) ∧
    (pegW.holdsPeg 63 Port.a = true) ∧
    (pegW.pegWaiters 63 = [(0, 1, Port.a)])) ∧
  ((Src.host Port.a = Src.host Port.a) ∧
    (up.reaches (byA 1 Half.all) (262152 + 32 * 63)) ∧
    ((byA 1 Half.all).one (PEG_GIVE_GIVE 63) = true) ∧
    (up.holdsPeg 63 Port.a = false)) ∧
  ((Src.dma Port.a ≠ Src.host Port.a) ∧
    (Src.dma Port.a ≠ Src.host Port.b)) := by decide +kernel

theorem witness_PegAndTransferRegisters_2 :
  ((Src.host Port.a = Src.host Port.a) ∧
    (up.reaches (byA 192 Half.all) 266752) ∧
    ((byA 192 Half.all).one QU_XFER_GO = true) ∧
    ((byA 192 Half.all).one QU_XFER_REJ = false) ∧
    ((byA 192 Half.all).ones QU_XFER_TO ≠ (up.queuePort ((byA 192 Half.all).ones QU_XFER_QUEUE)).num)) ∧
  ((Src.host Port.b = Src.host Port.b) ∧
    (up.reaches (byB 192 Half.all) 266752) ∧
    ((byB 192 Half.all).one QU_XFER_GO = true) ∧
    ((byB 192 Half.all).one QU_XFER_REJ = false) ∧
    ((byB 192 Half.all).ones QU_XFER_TO ≠ (up.queuePort ((byB 192 Half.all).ones QU_XFER_QUEUE)).num)) ∧
  ((Src.host Port.a = Src.host Port.a) ∧
    (rung.reaches (byA 192 Half.all) 266752) ∧
    ((byA 192 Half.all).one QU_XFER_GO = true) ∧
    ((byA 192 Half.all).one QU_XFER_REJ = false) ∧
    ((byA 192 Half.all).ones QU_XFER_TO ≠ (rung.queuePort ((byA 192 Half.all).ones QU_XFER_QUEUE)).num)) := by decide +kernel

theorem witness_RegisterWrites :
  ((up.access (Src.host Port.a) 327808 true = Access.ok) ∧
    (inOpwin 327808 = false) ∧
    (hostOnly (327808 / 8 * 8) = false) ∧
    (¬(16646144 ≤ 327808 / 8 * 8 ∧ 327808 / 8 * 8 < 16654336)) ∧
    (regWrOf (Src.host Port.a) 327808 8 1 = some (byA 1 Half.all)) ∧
    (ownRange (327808 / 8 * 8) = some 0) ∧
    (writePort (Src.host Port.a) = up.queuePort 0)) ∧
  ((up.access (Src.host Port.b) 327808 true = Access.ok) ∧
    (inOpwin 327808 = false) ∧
    (hostOnly (327808 / 8 * 8) = false) ∧
    (¬(16646144 ≤ 327808 / 8 * 8 ∧ 327808 / 8 * 8 < 16654336)) ∧
    (regWrOf (Src.host Port.b) 327808 8 1 = some (byB 1 Half.all)) ∧
    (ownRange (327808 / 8 * 8) = some 0) ∧
    (writePort (Src.host Port.b) ≠ up.queuePort 0)) ∧
  ((up.access (Src.host Port.a) 3670016 true = Access.ok) ∧
    (inOpwin 3670016 = false) ∧
    (hostOnly (3670016 / 8 * 8) = false) ∧
    (¬(16646144 ≤ 3670016 / 8 * 8 ∧ 3670016 / 8 * 8 < 16654336)) ∧
    (regWrOf (Src.host Port.a) 3670016 4 1 = some (byA 1 Half.lo)) ∧
    (ownRange (3670016 / 8 * 8) = none)) ∧
  ((up.access (Src.host Port.a) 3670018 true = Access.ok) ∧
    (inOpwin 3670018 = false) ∧
    (hostOnly (3670018 / 8 * 8) = false) ∧
    (¬(16646144 ≤ 3670018 / 8 * 8 ∧ 3670018 / 8 * 8 < 16654336)) ∧
    (regWrOf (Src.host Port.a) 3670018 4 1 = none)) := by decide +kernel

theorem witness_PlacementRegisters :
  ((one.reaches (byA 1 Half.all) 655360) ∧
    (one.wval (byA 1 Half.all) PLACE_CTL_MODE ≠ one.rd PLACE_CTL_MODE ∧ (one.wval (byA 1 Half.all) PLACE_CTL_MODE = 1 ∨ one.wval (byA 1 Half.all) PLACE_CTL_MODE = 2)) ∧
    (one.empty = false)) ∧
  ((up.reaches (byA 2 Half.all) 655360) ∧
    (¬(up.wval (byA 2 Half.all) PLACE_CTL_MODE ≠ up.rd PLACE_CTL_MODE ∧ (up.wval (byA 2 Half.all) PLACE_CTL_MODE = 1 ∨ up.wval (byA 2 Half.all) PLACE_CTL_MODE = 2)) ∨ up.empty = true)) ∧
  ((one.reaches (byA 18446744073709551600 Half.all) 655360) ∧
    (¬(one.wval (byA 18446744073709551600 Half.all) PLACE_CTL_MODE ≠ one.rd PLACE_CTL_MODE ∧ (one.wval (byA 18446744073709551600 Half.all) PLACE_CTL_MODE = 1 ∨ one.wval (byA 18446744073709551600 Half.all) PLACE_CTL_MODE = 2)) ∨ one.empty = true)) ∧
  ((replay.rd PLACE_CTL_MODE = 2) ∧
    (replay.replayEnd = false) ∧
    (replay.replayEntry = none) ∧
    (replay.rd PLACE_REC_PTR_PTR < replay.rd PLACE_REC_SIZE_SIZE) ∧
    (addrSpace (64 * replay.rd PLACE_REC_BASE_BASE + 32 * replay.rd PLACE_REC_PTR_PTR) = AddrSpace.host Port.a 32) ∧
    (replay.portUp Port.a = true) ∧
    (replay.rd PLACE_REC_PTR_PTR ≠ 0) ∧
    (bitsOf (BitVec.toNat ([(1537 : Word), (0 : Word), (0 : Word), (0 : Word)].getD (0 : ℕ) (0 : Word))) (0 : ℕ) (8 : ℕ) ≠ (0 : ℕ)) ∧
    (¬((1 : ℕ) ≤ bitsOf (BitVec.toNat ([(1537 : Word), (0 : Word), (0 : Word), (0 : Word)].getD (0 : ℕ) (0 : Word))) (8 : ℕ) (8 : ℕ) ∧ bitsOf (BitVec.toNat ([(1537 : Word), (0 : Word), (0 : Word), (0 : Word)].getD (0 : ℕ) (0 : Word))) (8 : ℕ) (8 : ℕ) ≤ (5 : ℕ)))) ∧
  ((replayE.rd PLACE_CTL_MODE = 2) ∧
    (replayE.replayEntry.isSome = true) ∧
    (replayE.rd PLACE_CTL_TMO ≠ 0)) := by decide +kernel

theorem witness_Migrations_1 :
  ((kauto.kernel 8191 = some kern1) ∧
    (kern1.released = false) ∧
    (kauto.homeOf kern1 = 0) ∧
    (kauto.ensembles.find 0 = some ens1) ∧
    (kauto.bestMove [] 0 ens1 = some 1) ∧
    (kauto.migrations.find 0 = none) ∧
    (kauto.mayMigrate 1 (kauto.crippled 0 ens1) = true) ∧
    (kauto.rd PLACE_CTL_MODE ≠ 2) ∧
    (1 ≠ 2 → kauto.hasCause [] 0 ens1 1 1 = true ∧ kauto.ensCost [] 0 ens1 1 + kauto.rd PLACE_CTL_HYST ≤ kauto.ensCost [] 0 ens1 0)) ∧
  ((mig0.kernel 8191 = some kern1) ∧
    (kern1.released = false) ∧
    (mig0.homeOf kern1 = 0) ∧
    (mig0.ensembles.find 0 = some ens1) ∧
    (mig0.bestMove [] 0 ens1 = some 1) ∧
    (mig0.migrations.find 0 = some { (mig 0 [] []) with dst := 256 : Migration }) ∧
    (256 = 256)) := by decide +kernel

theorem witness_Migrations_2 :
  ((bauto.buffer 16777215 = some buf1) ∧
    (buf1.pin = false) ∧
    (bauto.bufMoves.find 16777215 = none) ∧
    (bauto.mayMigrate 5 false = true) ∧
    (5 ≠ 1) ∧
    (bauto.planMove buf1 9223372036854775808 = some bplan) ∧
    (bplan ≠ buf1.rows) ∧
    (bauto.bufferCost 16777215 bplan + bauto.rd PLACE_CTL_HYST ≤ bauto.bufferCost 16777215 buf1.rows)) ∧
  ((mig1.rootLost = false) ∧
    (mig1.migrations.find 0 = some (mig 1 [] [])) ∧
    (mig1.ensembles.find 0 = some ens1) ∧
    ((mig 1 [] []).dst < 256) ∧
    ((mig 1 [] []).stage = 1) ∧
    (0 ∈ Ensemble.where 0 ens1) ∧
    (0 ∉ (mig 1 [] []).planes)) := by decide +kernel

theorem witness_Migrations_3 :
  ((mig2.rootLost = false) ∧
    (mig2.migrations.find 0 = some (mig 1 [0] [])) ∧
    (mig2.ensembles.find 0 = some ens1) ∧
    ((mig 1 [0] []).dst < 256) ∧
    ((mig 1 [0] []).stage = 1) ∧
    (0 ∈ Ensemble.where 0 ens1) ∧
    (0 ∈ (mig 1 [0] []).planes) ∧
    (0 ∉ (mig 1 [0] []).mems)) ∧
  ((mig3.rootLost = false) ∧
    (mig3.migrations.find 0 = some (mig 1 [0] [0])) ∧
    (mig3.ensembles.find 0 = some ens1) ∧
    ((mig 1 [0] [0]).dst < 256) ∧
    ((mig 1 [0] [0]).stage = 1) ∧
    (∀ t ∈ Ensemble.where 0 ens1, t ∈ (mig 1 [0] [0]).mems)) := by decide +kernel

theorem witness_Migrations_4 :
  ((mig4.rootLost = false) ∧
    (mig4.migrations.find 0 = some (mig 3 [0] [0])) ∧
    (mig4.ensembles.find 0 = some ens1) ∧
    ((mig 3 [0] [0]).dst < 256) ∧
    ((mig 3 [0] [0]).stage = 3)) ∧
  ((bmD.rootLost = false) ∧
    (bmD.buffer 16777215 = some buf1) ∧
    (buf1.rows.getD 0 none = some 0) ∧
    (bmD.bufMoves.find 16777215 = some bmv) ∧
    (bmv.target.getD 0 none = some 516608) ∧
    (516608 ≠ 0) ∧
    (bmD.managed (516608 / 512) = true) ∧
    (bmD.bankOn (516608 / 512) = true)) := by decide +kernel

theorem witness_Migrations_5 :
  ((bmS.rootLost = false) ∧
    (bmS.buffer 16777215 = some buf1) ∧
    (buf1.rows.getD 0 none = some 0) ∧
    (bmS.bufMoves.find 16777215 = some bmv) ∧
    (bmv.target.getD 0 none = some 516608) ∧
    (516608 ≠ 0) ∧
    (bmS.managed (516608 / 512) = true) ∧
    (bmS.rd (BANK_OWN_PSTATE (516608 / 512)) = 0) ∧
    (bmv.target ≠ buf1.rows)) := by decide +kernel

theorem witness_TileSpeedsAndResets :
  ((slowD.bit (PLACE_SLOW_SLOW (255 / 64)) (255 % 64) = false) ∧
    (slowD.rd (FABRIC_TILE_SPEED_PCT 255) < 850)) ∧
  ((fastD.bit (PLACE_SLOW_SLOW (255 / 64)) (255 % 64) = true) ∧
    (900 ≤ fastD.rd (FABRIC_TILE_SPEED_PCT 255))) ∧
  ((kdev.reaches (byA (2 ^ RESET_TILE_GO.lo) Half.all) 131096) ∧
    ((byA (2 ^ RESET_TILE_GO.lo) Half.all).one RESET_TILE_GO = true) ∧
    (kdev.ensembleOf (kdev.phys ((byA (2 ^ RESET_TILE_GO.lo) Half.all).ones RESET_TILE_TILE)) = some (0, ens1)) ∧
    (ens1.phase = 1 ∨ ens1.phase = 2)) ∧
  ((kdev4.reaches (byA (2 ^ RESET_TILE_GO.lo) Half.all) 131096) ∧
    ((byA (2 ^ RESET_TILE_GO.lo) Half.all).one RESET_TILE_GO = true) ∧
    (kdev4.ensembleOf (kdev4.phys ((byA (2 ^ RESET_TILE_GO.lo) Half.all).ones RESET_TILE_TILE)) = some (0, { ens1 with phase := 4 : Ensemble })) ∧
    (4 ≠ 1) ∧
    (4 ≠ 2)) ∧
  ((kdev.reaches (byA (2 ^ CFG_METER_STAT_CLRA.lo) Half.all) 3670152) ∧
    ((byA (2 ^ CFG_METER_STAT_CLRA.lo) Half.all).one CFG_METER_STAT_CLRA = true) ∧
    ((byA (2 ^ CFG_METER_STAT_CLRA.lo) Half.all).one CFG_METER_STAT_CLRB = false)) ∧
  ((kdev.reaches (byA (2 ^ (FRET_QTIME_CLR 255).lo) Half.all) (3145760 + 1024 * 255)) ∧
    ((byA (2 ^ (FRET_QTIME_CLR 255).lo) Half.all).one (FRET_QTIME_CLR 255) = true)) := by decide +kernel

theorem witness_CellOperations_1 :
  ((fabA.live 0 = true) ∧
    ((fabA.iface (fabA.shown 0) 0 0).1 = Iface.none) ∧
    (fabA.triggersOf (fabA.shown 0) 0 0 ≠ []) ∧
    (∀ p ∈ fabA.triggersOf (fabA.shown 0) 0 0, fabA.offeredTo (fabA.shown 0) (fabA.pinSource (fabA.shown 0) 0 0 p) (loadCode 0 0 0 p) ≠ none) ∧
    (fabA.chainIn (fabA.shown 0) 0 0 = none) ∧
    (fabA.chainOut (fabA.shown 0) 0 0 = false) ∧
    (fabA.tok (tokKey 0 0 0) = none) ∧
    (fabA.tok (tokKey 6 0 0) = none) ∧
    (fabA.undefined 0 = false) ∧
    (oselQ (fabA.cellWord (fabA.shown 0) 0 0) = true) ∧
    (fabA.metered 0 = false) ∧
    ((fabA.hold (fabA.shown 0) 0 0).full = false)) ∧
  (({ fabA with holds := [(0, { full := true, val := true : Hold })] : Dev }.live 0 = true) ∧
    (({ fabA with holds := [(0, { full := true, val := true : Hold })] : Dev }.iface ({ fabA with holds := [(0, { full := true, val := true : Hold })] : Dev }.shown 0) 0 0).1 = Iface.none) ∧
    ({ fabA with holds := [(0, { full := true, val := true : Hold })] : Dev }.triggersOf ({ fabA with holds := [(0, { full := true, val := true : Hold })] : Dev }.shown 0) 0 0 ≠ []) ∧
    (∀ p ∈ { fabA with holds := [(0, { full := true, val := true : Hold })] : Dev }.triggersOf ({ fabA with holds := [(0, { full := true, val := true : Hold })] : Dev }.shown 0) 0 0, { fabA with holds := [(0, { full := true, val := true : Hold })] : Dev }.offeredTo ({ fabA with holds := [(0, { full := true, val := true : Hold })] : Dev }.shown 0) ({ fabA with holds := [(0, { full := true, val := true : Hold })] : Dev }.pinSource ({ fabA with holds := [(0, { full := true, val := true : Hold })] : Dev }.shown 0) 0 0 p) (loadCode 0 0 0 p) ≠ none) ∧
    ({ fabA with holds := [(0, { full := true, val := true : Hold })] : Dev }.chainIn ({ fabA with holds := [(0, { full := true, val := true : Hold })] : Dev }.shown 0) 0 0 = none) ∧
    ({ fabA with holds := [(0, { full := true, val := true : Hold })] : Dev }.chainOut ({ fabA with holds := [(0, { full := true, val := true : Hold })] : Dev }.shown 0) 0 0 = false) ∧
    ({ fabA with holds := [(0, { full := true, val := true : Hold })] : Dev }.tok (tokKey 0 0 0) = none) ∧
    ({ fabA with holds := [(0, { full := true, val := true : Hold })] : Dev }.tok (tokKey 6 0 0) = none) ∧
    ({ fabA with holds := [(0, { full := true, val := true : Hold })] : Dev }.undefined 0 = false) ∧
    (oselQ ({ fabA with holds := [(0, { full := true, val := true : Hold })] : Dev }.cellWord ({ fabA with holds := [(0, { full := true, val := true : Hold })] : Dev }.shown 0) 0 0) = true) ∧
    (({ fabA with holds := [(0, { full := true, val := true : Hold })] : Dev }.hold ({ fabA with holds := [(0, { full := true, val := true : Hold })] : Dev }.shown 0) 0 0).full = true ∨ { fabA with holds := [(0, { full := true, val := true : Hold })] : Dev }.metered 0 = true)) := by decide +kernel

theorem witness_CellOperations_2 :
  (({ fabA with meter := 1 : Dev }.live 0 = true) ∧
    (({ fabA with meter := 1 : Dev }.iface ({ fabA with meter := 1 : Dev }.shown 0) 0 0).1 = Iface.none) ∧
    ({ fabA with meter := 1 : Dev }.triggersOf ({ fabA with meter := 1 : Dev }.shown 0) 0 0 ≠ []) ∧
    (∀ p ∈ { fabA with meter := 1 : Dev }.triggersOf ({ fabA with meter := 1 : Dev }.shown 0) 0 0, { fabA with meter := 1 : Dev }.offeredTo ({ fabA with meter := 1 : Dev }.shown 0) ({ fabA with meter := 1 : Dev }.pinSource ({ fabA with meter := 1 : Dev }.shown 0) 0 0 p) (loadCode 0 0 0 p) ≠ none) ∧
    ({ fabA with meter := 1 : Dev }.chainIn ({ fabA with meter := 1 : Dev }.shown 0) 0 0 = none) ∧
    ({ fabA with meter := 1 : Dev }.chainOut ({ fabA with meter := 1 : Dev }.shown 0) 0 0 = false) ∧
    ({ fabA with meter := 1 : Dev }.tok (tokKey 0 0 0) = none) ∧
    ({ fabA with meter := 1 : Dev }.tok (tokKey 6 0 0) = none) ∧
    ({ fabA with meter := 1 : Dev }.undefined 0 = false) ∧
    (oselQ ({ fabA with meter := 1 : Dev }.cellWord ({ fabA with meter := 1 : Dev }.shown 0) 0 0) = true) ∧
    (({ fabA with meter := 1 : Dev }.hold ({ fabA with meter := 1 : Dev }.shown 0) 0 0).full = true ∨ { fabA with meter := 1 : Dev }.metered 0 = true)) ∧
  ((fabA.live 0 = true) ∧
    ((fabA.iface (fabA.shown 0) 0 2).1 = Iface.none) ∧
    (fabA.triggersOf (fabA.shown 0) 0 2 ≠ []) ∧
    (∀ p ∈ fabA.triggersOf (fabA.shown 0) 0 2, fabA.offeredTo (fabA.shown 0) (fabA.pinSource (fabA.shown 0) 0 2 p) (loadCode 0 0 2 p) ≠ none) ∧
    (fabA.chainIn (fabA.shown 0) 0 2 = none) ∧
    (fabA.chainOut (fabA.shown 0) 0 2 = false) ∧
    (fabA.tok (tokKey 0 0 2) = none) ∧
    (fabA.tok (tokKey 6 0 2) = none) ∧
    (fabA.undefined 0 = false) ∧
    (oselQ (fabA.cellWord (fabA.shown 0) 0 2) = false) ∧
    (fabA.outLoads (fabA.shown 0) 0 2 ≠ [])) := by decide +kernel

theorem witness_CellOperations_3 :
  (((fabD cellsN [(1, { vals := [true], acked := [] : Tok })] []).live 0 = true) ∧
    (((fabD cellsN [(1, { vals := [true], acked := [] : Tok })] []).iface ((fabD cellsN [(1, { vals := [true], acked := [] : Tok })] []).shown 0) 0 2).1 = Iface.none) ∧
    ((fabD cellsN [(1, { vals := [true], acked := [] : Tok })] []).triggersOf ((fabD cellsN [(1, { vals := [true], acked := [] : Tok })] []).shown 0) 0 2 ≠ []) ∧
    (∀ p ∈ (fabD cellsN [(1, { vals := [true], acked := [] : Tok })] []).triggersOf ((fabD cellsN [(1, { vals := [true], acked := [] : Tok })] []).shown 0) 0 2, (fabD cellsN [(1, { vals := [true], acked := [] : Tok })] []).offeredTo ((fabD cellsN [(1, { vals := [true], acked := [] : Tok })] []).shown 0) ((fabD cellsN [(1, { vals := [true], acked := [] : Tok })] []).pinSource ((fabD cellsN [(1, { vals := [true], acked := [] : Tok })] []).shown 0) 0 2 p) (loadCode 0 0 2 p) ≠ none) ∧
    ((fabD cellsN [(1, { vals := [true], acked := [] : Tok })] []).chainIn ((fabD cellsN [(1, { vals := [true], acked := [] : Tok })] []).shown 0) 0 2 = none) ∧
    ((fabD cellsN [(1, { vals := [true], acked := [] : Tok })] []).chainOut ((fabD cellsN [(1, { vals := [true], acked := [] : Tok })] []).shown 0) 0 2 = false) ∧
    ((fabD cellsN [(1, { vals := [true], acked := [] : Tok })] []).tok (tokKey 0 0 2) = none) ∧
    ((fabD cellsN [(1, { vals := [true], acked := [] : Tok })] []).tok (tokKey 6 0 2) = none) ∧
    ((fabD cellsN [(1, { vals := [true], acked := [] : Tok })] []).undefined 0 = false) ∧
    (oselQ ((fabD cellsN [(1, { vals := [true], acked := [] : Tok })] []).cellWord ((fabD cellsN [(1, { vals := [true], acked := [] : Tok })] []).shown 0) 0 2) = false) ∧
    ((fabD cellsN [(1, { vals := [true], acked := [] : Tok })] []).outLoads ((fabD cellsN [(1, { vals := [true], acked := [] : Tok })] []).shown 0) 0 2 = [])) := by decide +kernel

theorem witness_TokenMoves_1 :
  ((fabB.live 0 = true) ∧
    ((fabB.iface (fabB.shown 0) 0 4).1 = Iface.none) ∧
    (fabB.idleCell (fabB.shown 0) 0 4 = false) ∧
    (oselQ (fabB.cellWord (fabB.shown 0) 0 4) = true) ∧
    ((fabB.hold (fabB.shown 0) 0 4).full = true) ∧
    (∀ l ∈ fabB.outLoads (fabB.shown 0) 0 4, l ∈ fabB.ackedBy (fabB.shown 0) (Wire.out 0 4)) ∧
    (fabB.tok (tokKey 0 0 4) = none ∨ fabB.metered 0 = true)) ∧
  ((fabBy.live 0 = true) ∧
    ((fabBy.iface (fabBy.shown 0) 0 4).1 = Iface.none) ∧
    (fabBy.idleCell (fabBy.shown 0) 0 4 = false) ∧
    (oselQ (fabBy.cellWord (fabBy.shown 0) 0 4) = true) ∧
    ((fabBy.hold (fabBy.shown 0) 0 4).full = true) ∧
    (∀ l ∈ fabBy.outLoads (fabBy.shown 0) 0 4, l ∈ fabBy.ackedBy (fabBy.shown 0) (Wire.out 0 4)) ∧
    (fabBy.tok (tokKey 0 0 4) = some { vals := [true, false], acked := [7] : Tok }) ∧
    (fabBy.metered 0 = false)) ∧
  (({ fabBy with meter := 1 : Dev }.live 0 = true) ∧
    (({ fabBy with meter := 1 : Dev }.iface ({ fabBy with meter := 1 : Dev }.shown 0) 0 4).1 = Iface.none) ∧
    ({ fabBy with meter := 1 : Dev }.idleCell ({ fabBy with meter := 1 : Dev }.shown 0) 0 4 = false) ∧
    (oselQ ({ fabBy with meter := 1 : Dev }.cellWord ({ fabBy with meter := 1 : Dev }.shown 0) 0 4) = true) ∧
    (({ fabBy with meter := 1 : Dev }.hold ({ fabBy with meter := 1 : Dev }.shown 0) 0 4).full = true) ∧
    (∀ l ∈ { fabBy with meter := 1 : Dev }.outLoads ({ fabBy with meter := 1 : Dev }.shown 0) 0 4, l ∈ { fabBy with meter := 1 : Dev }.ackedBy ({ fabBy with meter := 1 : Dev }.shown 0) (Wire.out 0 4)) ∧
    ({ fabBy with meter := 1 : Dev }.tok (tokKey 0 0 4) = none ∨ { fabBy with meter := 1 : Dev }.metered 0 = true)) ∧
  ((fabC.live 0 = true) ∧
    (fabC.metered 0 = false) ∧
    (8 < fabC.headCode (fabC.shown 0) 0 0 0) ∧
    (fabC.tok (tokKey 3 0 (12 * 0 + 0)) = none) ∧
    (fabC.wireLoads (fabC.shown 0) 0 0 0 ≠ []) ∧
    (fabC.offeredTo (fabC.shown 0) (fabC.regSource (fabC.shown 0) 0 0 0) (loadCode 1 0 (12 * 0 + 0) 0) = some true)) ∧
  ((fabA.live 0 = true) ∧
    (fabA.spineDriver (fabA.shown 0) 0 0 = (true, 1, 1)) ∧
    (1 ∉ [0, 16, 32, 48]) ∧
    (fabA.ensembleOf 0 = some (0, ens1)) ∧
    (fabA.offeredTo (fabA.shown 0) (Wire.out 0 1) (loadCode 2 0 0 0) = some true) ∧
    (fabA.tok (tokKey 4 0 1) = none) ∧
    (fabA.spineLoads (fabA.shown 0) 0 1 ≠ [])) ∧
  ((fabA.waitingMems (b2n true) = []) ∧
    (fabA.meter.testBit (b2n true) = false)) := by decide +kernel

theorem witness_TokenMoves_2 :
  (((fabM []).waitingMems (b2n false) = []) ∧
    ((fabM []).meter.testBit (b2n false) = true) ∧
    ((fabM []).waitingRegs (b2n false) = []) ∧
    (((fabM []).waitingYs fun u => u / 128 == b2n false && (fabM []).live u && (fabM []).metered u) = [(0, 0)]) ∧
    ((fabM []).tok (tokKey 0 0 0) = some { vals := [true, false], acked := [] : Tok })) ∧
  (((fabM [7]).waitingMems (b2n false) = []) ∧
    ((fabM [7]).meter.testBit (b2n false) = true) ∧
    ((fabM [7]).waitingRegs (b2n false) = []) ∧
    (((fabM [7]).waitingYs fun u => u / 128 == b2n false && (fabM [7]).live u && (fabM [7]).metered u) = [(0, 0)]) ∧
    ((fabM [7]).tok (tokKey 0 0 0) = some { vals := [true, false], acked := [7] : Tok })) := by decide +kernel

theorem witness_BlockMemories :
  ((memR.live 0 = true) ∧
    (memR.metered 0 = false) ∧
    (memR.memReady (memR.shown 0) 0 0 false = true) ∧
    ((memR.memHeld 0 0 !false) = none) ∧
    ((memR.memRead (memR.shown 0) 0 0 false []).1.write = false)) ∧
  ((memW.live 0 = true) ∧
    (memW.metered 0 = false) ∧
    (memW.memReady (memW.shown 0) 0 0 false = true) ∧
    ((memW.memHeld 0 0 !false) = none)) ∧
  ((memW.live 0 = true) ∧
    (memW.metered 0 = false) ∧
    (memW.memReady (memW.shown 0) 0 0 false = true) ∧
    ((memW.memHeld 0 0 !false) = none) ∧
    ((memW.memRead (memW.shown 0) 0 0 false []).1.write = true)) ∧
  ((1024 * (16 * 255 + 15) + 1023 ∈ bmb.bmemBack) ∧
    (eccFind (bmb.bmemWord 255 15 1023) = RsFound.one 0 1)) ∧
  ((raw.debugWait = []) ∧
    (raw.debugOpen = true) ∧
    (8184 % 8 = 0) ∧
    (raw.on (FABRIC_BMEM_CTL_DBG_RAW (raw.phys 255)) = true) ∧
    (raw.debugWaits 255 15 = false)) ∧
  ((rawHeld.debugWait = []) ∧
    (rawHeld.debugOpen = true) ∧
    (8184 % 8 = 0) ∧
    (rawHeld.on (FABRIC_BMEM_CTL_DBG_RAW (rawHeld.phys 255)) = true) ∧
    (rawHeld.debugWaits 255 15 = true)) := by decide +kernel

set_option maxRecDepth 2000 in
theorem witness_PortalPackets_1 :
  (((doutD { skip := 1 : PortalSt }).live 0 = true) ∧
    ((doutD { skip := 1 : PortalSt }).portalOn 0 = true) ∧
    ((doutD { skip := 1 : PortalSt }).pinsReady ((doutD { skip := 1 : PortalSt }).shown 0) 0 Iface.portal ((doutD { skip := 1 : PortalSt }).doutPins ((doutD { skip := 1 : PortalSt }).shown 0) 0) = true) ∧
    ((doutD { skip := 1 : PortalSt }).shownKernel 0 = some (8191, kernR)) ∧
    (((doutD { skip := 1 : PortalSt }).portal 0).skip ≠ 0)) ∧
  (((doutD { outq := [outP 0, outP 1] : PortalSt }).live 0 = true) ∧
    ((doutD { outq := [outP 0, outP 1] : PortalSt }).portalOn 0 = true) ∧
    ((doutD { outq := [outP 0, outP 1] : PortalSt }).pinsReady ((doutD { outq := [outP 0, outP 1] : PortalSt }).shown 0) 0 Iface.portal ((doutD { outq := [outP 0, outP 1] : PortalSt }).doutPins ((doutD { outq := [outP 0, outP 1] : PortalSt }).shown 0) 0) = true) ∧
    ((doutD { outq := [outP 0, outP 1] : PortalSt }).shownKernel 0 = some (8191, kernR)) ∧
    (((doutD { outq := [outP 0, outP 1] : PortalSt }).portal 0).skip = 0) ∧
    (((doutD { outq := [outP 0, outP 1] : PortalSt }).portal 0).outq.reverse = [outP 1, outP 0]) ∧
    ((outP 1).left ≠ 0)) := by decide +kernel

set_option maxRecDepth 2000 in
theorem witness_PortalPackets_2 :
  (((doutD { outq := [outP 0] : PortalSt }).live 0 = true) ∧
    ((doutD { outq := [outP 0] : PortalSt }).portalOn 0 = true) ∧
    ((doutD { outq := [outP 0] : PortalSt }).pinsReady ((doutD { outq := [outP 0] : PortalSt }).shown 0) 0 Iface.portal ((doutD { outq := [outP 0] : PortalSt }).doutPins ((doutD { outq := [outP 0] : PortalSt }).shown 0) 0) = true) ∧
    ((doutD { outq := [outP 0] : PortalSt }).shownKernel 0 = some (8191, kernR)) ∧
    (((doutD { outq := [outP 0] : PortalSt }).portal 0).skip = 0) ∧
    (∀ o ∈ ((doutD { outq := [outP 0] : PortalSt }).portal 0).outq, o.left = 0) ∧
    ((portalDesc ((doutD { outq := [outP 0] : PortalSt }).pinsValue ((doutD { outq := [outP 0] : PortalSt }).shown 0) 0 Iface.portal 0 0 288 % 2 ^ 64)).kind = 0) ∧
    ((portalDesc ((doutD { outq := [outP 0] : PortalSt }).pinsValue ((doutD { outq := [outP 0] : PortalSt }).shown 0) 0 Iface.portal 0 0 288 % 2 ^ 64)).vc = 3) ∧
    ((portalDesc ((doutD { outq := [outP 0] : PortalSt }).pinsValue ((doutD { outq := [outP 0] : PortalSt }).shown 0) 0 Iface.portal 0 0 288 % 2 ^ 64)).cmd ≠ 1) ∧
    ((doutD { outq := [outP 0] : PortalSt }).descFits ((doutD { outq := [outP 0] : PortalSt }).shown 0) 0 kernR ((doutD { outq := [outP 0] : PortalSt }).pinsValue ((doutD { outq := [outP 0] : PortalSt }).shown 0) 0 Iface.portal 0 0 288 % 2 ^ 64) 0 = true) ∧
    (((doutD { outq := [outP 0] : PortalSt }).pinsTake ((doutD { outq := [outP 0] : PortalSt }).shown 0) 0 Iface.portal ((doutD { outq := [outP 0] : PortalSt }).doutPins ((doutD { outq := [outP 0] : PortalSt }).shown 0) 0)).runOf 8191 = some (0, krunE)) ∧
    (((doutD { outq := [outP 0] : PortalSt }).pinsTake ((doutD { outq := [outP 0] : PortalSt }).shown 0) 0 Iface.portal ((doutD { outq := [outP 0] : PortalSt }).doutPins ((doutD { outq := [outP 0] : PortalSt }).shown 0) 0)).descBad kernR (portalDesc ((doutD { outq := [outP 0] : PortalSt }).pinsValue ((doutD { outq := [outP 0] : PortalSt }).shown 0) 0 Iface.portal 0 0 288 % 2 ^ 64)) 0 = false)) ∧
  (({ portD with portals := [(0, { outq := [outP 0, outP 1] : PortalSt })] : Dev }.running = true) ∧
    (List.find? (fun o => o.pkt.vc.toNat == 0) ({ portD with portals := [(0, { outq := [outP 0, outP 1] : PortalSt })] : Dev }.portal 0).outq = some (outP 0)) ∧
    ((outP 0).left = 0) ∧
    (2 ∉ [4, 5, 8, 9])) := by decide +kernel

set_option maxRecDepth 2000 in
theorem witness_PortalPackets_3 :
  ((parked.portalTakes 0 = true) ∧
    ((parked.fillPortal 0).outsFree 0 Iface.portal 0 289 = true) ∧
    ((parked.fillPortal 0).park 0 ((parked.fillPortal 0).shown 0) = [pkt 1])) ∧
  ((landed.portalTakes 0 = true) ∧
    ((landed.fillPortal 0).outsFree 0 Iface.portal 0 289 = true) ∧
    ((landed.fillPortal 0).park 0 ((landed.fillPortal 0).shown 0) = []) ∧
    (∀ p ∈ ((landed.fillPortal 0).portal 0).inq, p.vc ≠ 1 ∧ p.vc ≠ 0) ∧
    (takeFirst 3 ((landed.fillPortal 0).portal 0).inq = some (pkt 3, [])) ∧
    (debugBound (pkt 3) = false) ∧
    ((landed.fillPortal 0).portalOn 0 = true)) := by decide +kernel

set_option maxRecDepth 2000 in
theorem witness_PortalPackets_4 :
  ((landed1.portalTakes 0 = true) ∧
    ((landed1.fillPortal 0).outsFree 0 Iface.portal 0 289 = true) ∧
    (pkt 1 ∈ ((landed1.fillPortal 0).portal 0).inq) ∧
    ((pkt 1).vc = 1)) := by decide +kernel

theorem witness_RowPort_1 :
  ((rowD.live 0 = true) ∧
    (rowD.phaseOf 0 = 1) ∧
    (rowD.kdrive 0 = true) ∧
    (rowD.rowReqs.find (8 * 0 + rowD.shown 0) = none) ∧
    (rowD.pinsReady (rowD.shown 0) 0 Iface.rowCtl (rowD.usedPins (rowD.shown 0) 0 Iface.rowCtl 20) = true) ∧
    (rowD.shownKernel 0 = some (8191, kernB15)) ∧
    (kernB15.binds.find (rowD.portBits (rowD.shown 0) 0 1282 4) = some { kind := 1, target := 16777215 : Machine.Bind })) ∧
  ((rowR.moveWaits 0 = true) ∧
    (rowR.moveColumn = some (colOfTile 0)) ∧
    (rowR.rowNext 0 = some (req1 false false))) := by decide +kernel

theorem witness_RowPort_2 :
  ((rowR.live 0 = true) ∧
    (rowR.rowPortOn 0 = true) ∧
    (rowR.storeOpen = true) ∧
    (rowR.rowNext 0 = some (req1 false false)) ∧
    (rowR.buffer (req1 false false).buf = some buf1) ∧
    (buf1.sealed = false) ∧
    (buf1.rows.getD (req1 false false).row none = some 0) ∧
    (0 / 8192 = colOfTile 0) ∧
    (rowR.gateRow Ident.device buf1.key 0 = Gate.serve) ∧
    ((req1 false false).toBank = false) ∧
    (rowR.rowRegFree 0 = true) ∧
    (rowR.phaseOf 0 = 1)) ∧
  ((rowW.live 0 = true) ∧
    (rowW.rowPortOn 0 = true) ∧
    (rowW.storeOpen = true) ∧
    (rowW.rowNext 0 = some (req1 false true)) ∧
    (rowW.buffer (req1 false true).buf = some buf1) ∧
    (buf1.sealed = false) ∧
    (buf1.rows.getD (req1 false true).row none = some 0) ∧
    (0 / 8192 = colOfTile 0) ∧
    (rowW.gateRow Ident.device buf1.key 0 = Gate.serve) ∧
    ((req1 false true).toBank = true) ∧
    (rowW.rowReg 0 = some reg8) ∧
    (reg8.toBank = true) ∧
    (reg8.slices = 8) ∧
    (buf1.commit = false) ∧
    (rowW.moveOwner 0 (req1 false true) = none)) := by decide +kernel

theorem witness_RowPort_3 :
  ((rowO.live 0 = true) ∧
    (rowO.rowPortOn 0 = true) ∧
    (rowO.storeOpen = true) ∧
    (rowO.rowNext 0 = some mvR) ∧
    (rowO.buffer mvR.buf = some buf1) ∧
    (buf1.sealed = false) ∧
    (buf1.rows.getD mvR.row none = some 0) ∧
    (0 / 8192 = colOfTile 0) ∧
    (rowO.gateRow Ident.device buf1.key 0 = Gate.serve) ∧
    (mvR.toBank = true) ∧
    (rowO.rowReg 0 = some reg8) ∧
    (reg8.toBank = true) ∧
    (reg8.slices = 8) ∧
    (buf1.commit = false) ∧
    (rowO.moveOwner 0 mvR = some (0, mvE 0))) ∧
  ((mvR.cmd = some (0, 1)) ∧
    (({ (rowO.wr (FABRIC_ROWP_STAT_ROWS 0) (rowO.rd (FABRIC_ROWP_STAT_ROWS 0) + 1)) with rowReqs := rowO.rowReqs.del (8 * 0 + rowO.shown 0) : Dev }.updEntry 0 1 fun e => { e with aux := e.aux.set 0 (e.aux.getD 0 0 + 1) : Entry }).entry 0 1 = some (mvE 1)) ∧
    ((mvE 1).cmd = some (Cmd.rowmove 8191 16777215 0 true 0 1)) ∧
    ((mvE 1).aux.getD 0 0 = 1) ∧
    ((mvE 1).aux.getD 1 0 = 0)) := by decide +kernel

theorem witness_RowPort_4 :
  ((rowS.live 0 = true) ∧
    (rowS.rowPortOn 0 = true) ∧
    (rowS.rowReg 0 = some { toBank := true, slices := 7, bytes := List.replicate 448 0, res := [0], srow := 0 : RowReg }) ∧
    (true = true) ∧
    (7 < 8) ∧
    (rowS.pinsReady (rowS.shown 0) 0 Iface.rowData (rowS.usedPins (rowS.shown 0) 0 Iface.rowData 512) = true)) := by decide +kernel

theorem witness_ControlPort :
  ((ctlP.live 0 = true) ∧
    (ctlP.phaseOf 0 = 1) ∧
    (ctlP.portBits (ctlP.shown 0) 0 1536 1 = 1) ∧
    (ctlP.pinsReady (ctlP.shown 0) 0 Iface.control (List.map (fun n => (n, 0)) (List.range 4)) = true) ∧
    (ctlP.outsFree 0 Iface.control 0 64 = true)) ∧
  ((ctlD.live 0 = true) ∧
    (ctlD.controlKernel 0 = some (8191, kernRB)) ∧
    (ctlD.pinsReady (ctlD.shown 0) 0 Iface.control (List.map (fun n => (n, 1)) (List.range 64)) = true) ∧
    (kernRB.run = some { q := 0, seq := 1, begun := true, done := none, err := none : Run }) ∧
    (true = true)) ∧
  ((ctlN.live 0 = true) ∧
    (ctlN.controlKernel 0 = some (8191, kernB14)) ∧
    (ctlN.pinsReady (ctlN.shown 0) 0 Iface.control (List.map (fun n => (n, 1)) (List.range 64)) = true) ∧
    (kernB14.run = none)) ∧
  ((ctlD.live 0 = true) ∧
    (ctlD.controlKernel 0 = some (8191, kernRB)) ∧
    (ctlD.pinsReady (ctlD.shown 0) 0 Iface.control [(14, 2)] = true) ∧
    (kernRB.binds.find 14 = some { kind := 2, target := 255 : Machine.Bind })) := by decide +kernel

theorem witness_FretSwitching_1 :
  (((ensD ensQ).ensembles.find 0 = some ensQ) ∧
    (ensQ.phase = 1) ∧
    (ensQ.both = false) ∧
    ((ensD ensQ).settling = true) ∧
    ((ensD ensQ).gateServes (if 0 < 128 then 11 else 12) = true) ∧
    (2 ∉ (ensD ensQ).dieResets) ∧
    ((ensD ensQ).nextTrigger 0 ensQ = some (Trigger.toFret 7 none, [Trigger.park])) ∧
    ((Trigger.toFret 7 none).fret? ≠ some ((ensD ensQ).shown 0)) ∧
    ((ensD ensQ).tok (tokKey 4 0 32) = none) ∧
    ((ensD ensQ).waitingYs (Ensemble.where 0 ensQ).contains = [])) ∧
  (((ensD ensQ0).ensembles.find 0 = some ensQ0) ∧
    (ensQ0.phase = 1) ∧
    (ensQ0.both = false) ∧
    ((ensD ensQ0).settling = true) ∧
    ((ensD ensQ0).gateServes (if 0 < 128 then 11 else 12) = true) ∧
    (2 ∉ (ensD ensQ0).dieResets) ∧
    ((ensD ensQ0).nextTrigger 0 ensQ0 = some (Trigger.toFret 0 none, [Trigger.park])) ∧
    ((Trigger.toFret 0 none).fret? = some ((ensD ensQ0).shown 0))) ∧
  (((ensD ensQ).ensembles.find 0 = some ensQ) ∧
    (7 < 8) ∧
    (rectFits 0 ensQ.w ensQ.h ensQ.both = true) ∧
    ((ensD ensQ).shown 0 < 8) ∧
    ((ensD ensQ).runningCmds = []) ∧
    (0 ∈ Ensemble.where 0 ensQ)) ∧
  (((ensD ensT).ensembles.find 0 = some ensT) ∧
    (ensT.cur = some (Trigger.toFret 7 none)) ∧
    ((Trigger.toFret 7 none).fret? = some 7) ∧
    (ensT.phase = 3 ∨ ensT.phase = 2 ∧ (ensD ensT).atRest 0 = true) ∧
    (ensT.preload ≠ some 7)) ∧
  ((limD.ensembles.find 0 = some ensL) ∧
    (ensL.phase = 2) ∧
    (limD.atRest 0 = false) ∧
    (limD.memHolds = []) ∧
    (limD.ensKernel 0 = some (8191, kern1)) ∧
    (8191 ≠ 0)) ∧
  (((ensD ensP).ensembles.find 0 = some ensP) ∧
    (ensP.preload = some 7) ∧
    (7 < 8) ∧
    ((ensD ensP).runningCmds = []) ∧
    (rectFits 0 ensP.w ensP.h ensP.both = true)) := by decide +kernel

theorem witness_FretSwitching_2 :
  ((reqD.ensembles.find 0 = some ens1) ∧
    (ens1.phase = 1) ∧
    (ens1.rotating = false) ∧
    (reqD.tok (tokKey 4 0 32) = some { vals := [true], acked := [] : Tok }) ∧
    ((reqD.takeRequest 0).waitingFret 0 = some 3)) ∧
  ((rotD.ensembles.find 0 = some ensR) ∧
    (ensR.phase = 1) ∧
    (ensR.rotating = true) ∧
    (rotD.migrations.find 0 = none) ∧
    (rotD.nextEntry ensR = some (1, 3)) ∧
    (Trigger.toFret 3 none ∉ ensR.waiting)) := by decide +kernel

theorem witness_Banks_1 :
  ((freeBank.reaches (byB 2 Half.all) (2101248 + 8 * 1023)) ∧
    (Src.host Port.b = Src.host Port.b) ∧
    ((byB 2 Half.all).touches (BANK_OWN_OWNER 1023) = true) ∧
    (freeBank.wval (byB 2 Half.all) (BANK_OWN_OWNER 1023) = Port.b.num + 1) ∧
    (∀ q ∈ freeBank.bankWait, 1023 ∉ q.banks) ∧
    (freeBank.owner 1023 = 0) ∧
    (freeBank.isRetired UnitKind.bank 1023 = false) ∧
    (freeBank.rd (BANK_OWN_PSTATE 1023) = 0)) ∧
  ((queuedBank.reaches (byB 2 Half.all) (2101248 + 8 * 1023)) ∧
    (Src.host Port.b = Src.host Port.b) ∧
    ((byB 2 Half.all).touches (BANK_OWN_OWNER 1023) = true) ∧
    (queuedBank.wval (byB 2 Half.all) (BANK_OWN_OWNER 1023) = Port.b.num + 1) ∧
    ({ ident := Ident.device, key := 0, write := true, addr := 2 ^ 18 * 1023, len := 32, data := [], enables := [], reply := ReplyTo.none : StoreReq } ∈ queuedBank.bankWait) ∧
    (1023 ∈ { ident := Ident.device, key := 0, write := true, addr := 2 ^ 18 * 1023, len := 32, data := [], enables := [], reply := ReplyTo.none : StoreReq }.banks)) ∧
  ((ownBank.reaches (byB 2 Half.all) (2101248 + 8 * 1023)) ∧
    (Src.host Port.b = Src.host Port.b) ∧
    ((byB 2 Half.all).touches (BANK_OWN_OWNER 1023) = true) ∧
    (ownBank.wval (byB 2 Half.all) (BANK_OWN_OWNER 1023) = Port.b.num + 1) ∧
    (∀ q ∈ ownBank.bankWait, 1023 ∉ q.banks) ∧
    (ownBank.owner 1023 = Port.b.num + 1)) ∧
  ((ownBank.reaches (byA 1 Half.all) (2101248 + 8 * 1023)) ∧
    (Src.host Port.a = Src.host Port.a) ∧
    ((byA 1 Half.all).touches (BANK_OWN_OWNER 1023) = true) ∧
    (ownBank.wval (byA 1 Half.all) (BANK_OWN_OWNER 1023) = Port.a.num + 1) ∧
    (∀ q ∈ ownBank.bankWait, 1023 ∉ q.banks) ∧
    (ownBank.owner 1023 ≠ 0) ∧
    (ownBank.owner 1023 ≠ 3) ∧
    (ownBank.owner 1023 ≠ Port.a.num + 1) ∧
    (ownBank.isRetired UnitKind.bank 1023 = false)) ∧
  (((waking.port Port.a).held = []) ∧
    ((waking.port Port.b).held = []) ∧
    (waking.rd (BANK_OWN_PSTATE 1023) = 3) ∧
    (waking.storeOpen = true) ∧
    (waking.bankWait = []) ∧
    (waking.recWait = [])) ∧
  (((wbD.port Port.a).held = []) ∧
    ((wbD.port Port.b).held = []) ∧
    (List.find? (fun x => x / 2 ^ 13 == 0) wbD.writeBacks = some 15) ∧
    (wbD.isSealed (15 / 16) = false) ∧
    (wbD.findWord 15 = Found.fixed (List.replicate 32 0) 32)) := by decide +kernel

theorem witness_Banks_2 :
  (((good.port Port.a).held = []) ∧
    ((good.port Port.b).held = []) ∧
    (good.on STORE_CTL_PATROL = true) ∧
    (good.bankOn 0 = true) ∧
    (good.storeOpen = true) ∧
    (good.isSealed (512 * 0 + 0) = false) ∧
    (∀ k < 16, (good.findWord (16 * (512 * 0 + 0) + k)).isGood = true ∨ good.findWord (16 * (512 * 0 + 0) + k) = Found.poison)) ∧
  ((((flipped 15).port Port.a).held = []) ∧
    (((flipped 15).port Port.b).held = []) ∧
    ((flipped 15).on STORE_CTL_PATROL = true) ∧
    ((flipped 15).bankOn 0 = true) ∧
    ((flipped 15).storeOpen = true) ∧
    ((flipped 15).isSealed (512 * 0 + 0) = false) ∧
    (15 < 16) ∧
    (∀ j < 16, j ≠ 15 → ((flipped 15).findWord (16 * (512 * 0 + 0) + j)).isGood = true) ∧
    ((flipped 15).findWord (16 * (512 * 0 + 0) + 15) = Found.fixed (List.replicate 32 0) 32) ∧
    ((flipped 15).thresh UnitKind.bank = 0)) ∧
  (((up.port Port.a).held = []) ∧
    ((up.port Port.b).held = []) ∧
    (up.reaches (byA 2047 Half.all) 2097192)) ∧
  (((armedF.port Port.a).held = []) ∧
    ((armedF.port Port.b).held = []) ∧
    (armedF.reaches (byA 2047 Half.all) 2097192)) ∧
  (((rstS.port Port.a).held = []) ∧
    ((rstS.port Port.b).held = []) ∧
    (rstS.storeOpen = false) ∧
    (rstS.resetWait = []) ∧
    (rstS.topWait = []) ∧
    (rstS.recWait = [])) := by decide +kernel

theorem witness_TallyRows_1 :
  ((tdevA.access (Src.host Port.a) (2625536 + 512 * 63 + 496) true = Access.ok) ∧
    (insDesc 5 3 ≠ []) ∧
    ((insDesc 5 3).length % 16 = 0) ∧
    (496 % 16 = 0) ∧
    (496 + (insDesc 5 3).length ≤ 512) ∧
    (tdevA.linked controlCol 63 = true) ∧
    (tdevA.storeOpen = true) ∧
    (tdevA.stageWait = []) ∧
    (∀ x ∈ descsOf (insDesc 5 3), tdevA.mirrorHeld false x = false) ∧
    (tdevA.tallyRun (Ident.port (writePort (Src.host Port.a))) 0 63 none (descsOf (insDesc 5 3)) 0 [] = (opw.1, opw.2.1, opw.2.2.1, opw.2.2.2))) ∧
  ((tdevA.access (Src.host Port.a) (2625536 + 512 * 63 + 496) true = Access.ok) ∧
    (List.replicate 16 255 ≠ []) ∧
    ((List.replicate 16 255).length % 16 = 0) ∧
    (496 % 16 = 0) ∧
    (496 + (List.replicate 16 255).length ≤ 512) ∧
    (tdevA.linked controlCol 63 = true) ∧
    (tdevA.storeOpen = true) ∧
    (tdevA.stageWait = []) ∧
    (∀ x ∈ descsOf (List.replicate 16 255), tdevA.mirrorHeld false x = false) ∧
    (tdevA.tallyRun (Ident.port (writePort (Src.host Port.a))) 0 63 none (descsOf (List.replicate 16 255)) 0 [] = (opb.1, opb.2.1, opb.2.2.1, opb.2.2.2))) := by decide +kernel

theorem witness_TallyRows_2 :
  ((tdevA.table (bitsOf (BitVec.toNat tfx.w0) 6 3) = some { cols := [(0, [1, 2])], releasing := false : TableSt }) ∧
    (bitsOf (BitVec.toNat tfx.w0) 0 4 = 7) ∧
    ((tdevA.tallySpot (bitsOf (BitVec.toNat tfx.w0) 6 3) { cols := [(0, [1, 2])], releasing := false : TableSt } (tallyHash (tdevA.kbits (bitsOf (BitVec.toNat tfx.w0) 6 3)) (bitsOf (BitVec.toNat tfx.w0) 16 48))).col ≠ 63) ∧
    (tdevA.gateServes 10 = true) ∧
    (tdevA.storeOpen = true) ∧
    (tdevA.running = true) ∧
    (tdevA.descsHeld ((tdevA.kernel 8191).bind fun k => Option.map (fun r => (r.q, r.seq)) k.run) [tfx] = false) ∧
    (tdevA.tallyDo (Ident.kern 8191) 0 (tdevA.tallySpot (bitsOf (BitVec.toNat tfx.w0) 6 3) { cols := [(0, [1, 2])], releasing := false : TableSt } (tallyHash (tdevA.kbits (bitsOf (BitVec.toNat tfx.w0) 6 3)) (bitsOf (BitVec.toNat tfx.w0) 16 48))).col ((tdevA.kernel 8191).bind fun k => Option.map (fun r => (r.q, r.seq)) k.run) tfx = (tf.1, tf.2.1, tf.2.2))) ∧
  ((tdevA.reaches (byA (2 ^ (TALLY_TBL_CFG_RELEASE 7).lo) Half.all) (2621440 + 64 * 7)) ∧
    ((byA (2 ^ (TALLY_TBL_CFG_RELEASE 7).lo) Half.all).one (TALLY_TBL_CFG_RELEASE 7) = true) ∧
    (tdevA.telling = false) ∧
    (tdevA.openCmds = []) ∧
    (tdevA.tables = [(7, { cols := [(0, [1, 2])], releasing := false : TableSt })])) := by decide +kernel

theorem witness_TallyRows_3 :
  ((up.reaches (byA 4294967295 Half.all) 2621952)) := by decide +kernel

theorem witness_PacketsArrive_1 :
  ((up.running = true) ∧
    ((31, 63) ∉ up.markers) ∧
    ((routeOver up.deadLinks 31 63).isSome = true) ∧
    (packetFits (pk 63 4 1 0 268435424 32 []) = true) ∧
    (10 = 10) ∧
    (up.overtakes (pk 63 4 1 0 268435424 32 []) = false) ∧
    (4 = 4) ∧
    (BitVec.toNat (pk 63 4 1 0 268435424 32 []).operand < 2 ^ 28) ∧
    (BitVec.toNat (pk 63 4 1 0 268435424 32 []).operand / 2 ^ 22 = 63) ∧
    ((BitVec.toNat (pk 63 4 1 0 268435424 32 []).operand + max (if 1 = 1 then (pk 63 4 1 0 268435424 32 []).rlen.toNat else (pk 63 4 1 0 268435424 32 []).data.length) 1 - 1) / 2 ^ 22 = 63) ∧
    ((up.offNetwork (pk 63 4 1 0 268435424 32 [])).storeOpen = true) ∧
    ((up.offNetwork (pk 63 4 1 0 268435424 32 [])).stageWait = []) ∧
    (1 = 1)) ∧
  ((up.running = true) ∧
    ((31, 63) ∉ up.markers) ∧
    ((routeOver up.deadLinks 31 63).isSome = true) ∧
    (packetFits (pk 63 4 2 0 268435424 0 b32) = true) ∧
    (10 = 10) ∧
    (up.overtakes (pk 63 4 2 0 268435424 0 b32) = false) ∧
    (4 = 4) ∧
    (BitVec.toNat (pk 63 4 2 0 268435424 0 b32).operand < 2 ^ 28) ∧
    (BitVec.toNat (pk 63 4 2 0 268435424 0 b32).operand / 2 ^ 22 = 63) ∧
    ((BitVec.toNat (pk 63 4 2 0 268435424 0 b32).operand + max (if 2 = 1 then (pk 63 4 2 0 268435424 0 b32).rlen.toNat else (pk 63 4 2 0 268435424 0 b32).data.length) 1 - 1) / 2 ^ 22 = 63) ∧
    ((up.offNetwork (pk 63 4 2 0 268435424 0 b32)).storeOpen = true) ∧
    ((up.offNetwork (pk 63 4 2 0 268435424 0 b32)).stageWait = []) ∧
    (2 = 2)) ∧
  ((up.running = true) ∧
    ((31, 63) ∉ up.markers) ∧
    ((routeOver up.deadLinks 31 63).isSome = true) ∧
    (packetFits (pk 63 4 3 3 268435424 0 b32) = true) ∧
    (10 = 10) ∧
    (up.overtakes (pk 63 4 3 3 268435424 0 b32) = false) ∧
    (4 = 4) ∧
    (BitVec.toNat (pk 63 4 3 3 268435424 0 b32).operand < 2 ^ 28) ∧
    (BitVec.toNat (pk 63 4 3 3 268435424 0 b32).operand / 2 ^ 22 = 63) ∧
    ((BitVec.toNat (pk 63 4 3 3 268435424 0 b32).operand + max (if 3 = 1 then (pk 63 4 3 3 268435424 0 b32).rlen.toNat else (pk 63 4 3 3 268435424 0 b32).data.length) 1 - 1) / 2 ^ 22 = 63) ∧
    ((up.offNetwork (pk 63 4 3 3 268435424 0 b32)).storeOpen = true) ∧
    ((up.offNetwork (pk 63 4 3 3 268435424 0 b32)).stageWait = []) ∧
    (3 = 3)) := by decide +kernel

theorem witness_PacketsArrive_2 :
  ((up.running = true) ∧
    ((31, 63) ∉ up.markers) ∧
    ((routeOver up.deadLinks 31 63).isSome = true) ∧
    (packetFits (pk 63 5 16 3 0 0 b32) = true) ∧
    (10 = 10) ∧
    (up.overtakes (pk 63 5 16 3 0 0 b32) = false) ∧
    (5 = 5) ∧
    (16 = 16) ∧
    ((up.offNetwork (pk 63 5 16 3 0 0 b32)).storeOpen = true) ∧
    ((up.offNetwork (pk 63 5 16 3 0 0 b32)).gate 10 = true) ∧
    ((up.offNetwork (pk 63 5 16 3 0 0 b32)).stageWait = []) ∧
    (∀ x ∈ descsOf (pk 63 5 16 3 0 0 b32).data, (up.offNetwork (pk 63 5 16 3 0 0 b32)).mirrorHeld false x = false)) ∧
  ((up.running = true) ∧
    ((31, 63) ∉ up.markers) ∧
    ((routeOver up.deadLinks 31 63).isSome = true) ∧
    (packetFits (pk 63 3 32 3 0 0 b32) = true) ∧
    (10 = 10) ∧
    (up.overtakes (pk 63 3 32 3 0 0 b32) = false) ∧
    (3 < 4) ∧
    (32 = 32) ∧
    ((up.offNetwork (pk 63 3 32 3 0 0 b32)).migrations = []) ∧
    ((up.offNetwork (pk 63 3 32 3 0 0 b32)).lateArrivals = []) ∧
    ((up.offNetwork (pk 63 3 32 3 0 0 b32)).gate (if tileOfCol 63 3 < 128 then 11 else 12) = true)) ∧
  ((up.running = true) ∧
    ((31, 63) ∉ up.markers) ∧
    ((routeOver up.deadLinks 31 63).isSome = true) ∧
    (packetFits (pk 63 9 48 3 0 0 b32) = true) ∧
    (10 = 10) ∧
    (up.overtakes (pk 63 9 48 3 0 0 b32) = false) ∧
    (9 = 8 ∨ 9 = 9) ∧
    (63 / 8 = 0 ∨ 63 / 8 = 7) ∧
    (48 = 48) ∧
    ((up.offNetwork (pk 63 9 48 3 0 0 b32)).gateLane (bridgeQuad 63 9) = true)) := by decide +kernel

theorem witness_PacketsArrive_3 :
  ((up.running = true) ∧
    ((31, 24) ∉ up.markers) ∧
    ((routeOver up.deadLinks 31 24).isSome = true) ∧
    (packetFits (pk 24 11 96 2 0 0 b32) = true) ∧
    (10 = 10) ∧
    (up.overtakes (pk 24 11 96 2 0 0 b32) = false) ∧
    (11 = 11) ∧
    (24 = 24) ∧
    (96 = 96)) ∧
  ((up.running = true) ∧
    ((31, 63) ∉ up.markers) ∧
    ((routeOver up.deadLinks 31 63).isSome = true) ∧
    (packetFits (pk 63 4 97 2 0 0 b32) = true) ∧
    (10 = 10) ∧
    (up.overtakes (pk 63 4 97 2 0 0 b32) = false) ∧
    (4 = 4) ∧
    (97 = 97)) ∧
  ((up.running = true) ∧
    ((31, 31) ∉ up.markers) ∧
    ((routeOver up.deadLinks 31 31).isSome = true) ∧
    (packetFits (pk 31 10 128 1 0 0 []) = true) ∧
    (10 = 10) ∧
    (up.overtakes (pk 31 10 128 1 0 0 []) = false) ∧
    (31 = 31) ∧
    (128 = 128)) := by decide +kernel

theorem witness_PacketsArrive_4 :
  ((up.running = true) ∧
    ((31, 31) ∉ up.markers) ∧
    ((routeOver up.deadLinks 31 31).isSome = true) ∧
    (packetFits (pk 31 10 129 1 0 0 b32) = true) ∧
    (10 = 10) ∧
    (up.overtakes (pk 31 10 129 1 0 0 b32) = false) ∧
    (31 = 31) ∧
    (129 = 129)) ∧
  ((up.running = true) ∧
    ((31, 32) ∉ up.markers) ∧
    ((routeOver up.deadLinks 31 32).isSome = true) ∧
    (packetFits (pk 32 8 1 0 0 8 []) = true) ∧
    (10 = 10) ∧
    (up.overtakes (pk 32 8 1 0 0 8 []) = false) ∧
    (endpointAt 32 8 = false) ∧
    (1 = 1)) := by decide +kernel

theorem witness_NetworkEvents :
  ((up.grants 63 4 0 = true) ∧
    (up.creditsOut 63 4 0 < 4) ∧
    (up.running = true) ∧
    ((routeOver up.deadLinks 0 63).isSome = true) ∧
    (up.credits.get (creditKey 0 63 4 0) 0 ≤ up.creditsUsed 0 63 4 0) ∧
    (up.grantTurn 0 63 4 0 = true)) ∧
  ((4 ≤ cred.creditsOut 63 4 0)) ∧
  ((cred.creditsUsed 0 63 4 0 < cred.credits.get (creditKey 0 63 4 0) 0)) ∧
  ((up.on (NOC_LINK_RETIRED 127) = false) ∧
    (up.running = true)) ∧
  (((0, 63) ∈ marks.markers) ∧
    (marks.heldPackets = [])) := by decide +kernel

theorem witness_HostRequests :
  ((up.portHears Port.a = true) ∧
    (268435424 + 32 ≤ 2 ^ 28) ∧
    (up.rd (PORT_STAT_DSTATE Port.a.num) ≠ 3) ∧
    (up.shadowing = false) ∧
    (up.running = true) ∧
    ((up.port Port.a).held = []) ∧
    (up.hostBusy Port.a = [])) ∧
  ((up.portHears Port.b = true) ∧
    (4294967264 + 32 ≤ 2 ^ 32) ∧
    (up.rd (PORT_STAT_DSTATE Port.b.num) ≠ 3) ∧
    (up.shadowing = false) ∧
    (up.running = true) ∧
    ((up.port Port.b).held = []) ∧
    (up.hostBusy Port.b = []) ∧
    ((up.port Port.b).usedTags.length + (packetPieces (2 ^ 32 + 4294967264) 32).length ≤ 1024)) ∧
  ((waD.portHears Port.b = true) ∧
    (waD.rd (PORT_STAT_DSTATE Port.b.num) ≠ 3) ∧
    ((waD.port Port.b).serving = false) ∧
    (waD.writesAhead Port.b = true)) ∧
  ((up.portHears Port.b = true)) ∧
  ((hrD.portHears Port.a = true) ∧
    (List.find? (fun r => r.parts.any fun q => q.1 == 1023) (hrD.port Port.a).reads = some hr) ∧
    (hrD.rd (PORT_CTL_RDTMO Port.a.num) ≠ 0)) ∧
  ((hcD.portHears Port.a = true) ∧
    (List.find? (fun e => e.1 == 1023) (hcD.port Port.a).dev = some (1023, pk 63 4 1 0 17592186044416 32 [])) ∧
    ((pk 63 4 1 0 17592186044416 32 []).rlen.toNat ≤ b32.length)) := by decide +kernel

theorem witness_PortResets :
  ((up.portHears Port.a = true)) ∧
  ((boot8.on (PORT_STAT_LINKUP Port.a.num) = true) ∧
    (boot8.on (PORT_STAT_INRESET Port.a.num) = false) ∧
    (boot8.rd RESET_STAT_PHASE < 9)) ∧
  (((up.port Port.a).held = []) ∧
    ((up.port Port.a).dev = []) ∧
    ((up.port Port.a).devWait = []) ∧
    (up.barriers = []) ∧
    (up.bankWait = []) ∧
    (up.resetWait = []) ∧
    (∀ (n : Fin 64), up.holdsPeg (↑n) Port.a = false)) ∧
  (((up.port Port.b).held = []) ∧
    ((up.port Port.b).dev = []) ∧
    ((up.port Port.b).devWait = []) ∧
    (up.barriers = []) ∧
    (up.bankWait = []) ∧
    (up.resetWait = []) ∧
    (∀ (n : Fin 64), up.holdsPeg (↑n) Port.b = false)) ∧
  ((prD.on (PORT_STAT_INRESET Port.b.num) = true) ∧
    ((prD.port Port.b).perst = false) ∧
    (prD.armed = true) ∧
    (prD.gateServes (18 + Port.b.num) = true)) := by decide +kernel

theorem witness_DmaTransfers_1 :
  (((at_ up [(DMA_CH_CTL_GO 63, 1)]).reaches (byA 1 Half.all) (524312 + 64 * 63)) ∧
    ((at_ up [(DMA_CH_CTL_GO 63, 1)]).dmaBusy 63 = true)) ∧
  ((dm1.reaches (byA 1 Half.all) (524312 + 64 * 63)) ∧
    (dm1.dmaBusy 63 = false) ∧
    ((byA 1 Half.all).one (DMA_CH_CTL_GO 63) = true) ∧
    ((List.foldl (fun d x => d.take (byA 1 Half.all) x.1) dm1 (dmaCtl 63)).setGood (DMA_CH_CNT_CNT 63) (DMA_CH_CTL_SRC_WRAP 63) (DMA_CH_CTL_SRC_K 63) (DMA_CH_CTL_DST_WRAP 63) (DMA_CH_CTL_DST_K 63) = true)) ∧
  ((up.reaches (byA 1 Half.all) (524312 + 64 * 63)) ∧
    (up.dmaBusy 63 = false) ∧
    ((byA 1 Half.all).one (DMA_CH_CTL_GO 63) = true) ∧
    ((List.foldl (fun d x => d.take (byA 1 Half.all) x.1) up (dmaCtl 63)).setGood (DMA_CH_CNT_CNT 63) (DMA_CH_CTL_SRC_WRAP 63) (DMA_CH_CTL_SRC_K 63) (DMA_CH_CTL_DST_WRAP 63) (DMA_CH_CTL_DST_K 63) = false)) ∧
  (((at_ dm2 [(DMA_CH_SCTL_ARM 63, 1)]).reaches armW (524344 + 64 * 63)) ∧
    (armW.one (DMA_CH_SCTL_ARM 63) = true) ∧
    ((at_ dm2 [(DMA_CH_SCTL_ARM 63, 1)]).on (DMA_CH_SCTL_ARM 63) = true)) ∧
  ((dm2.reaches armW (524344 + 64 * 63)) ∧
    (armW.one (DMA_CH_SCTL_ARM 63) = true) ∧
    (dm2.on (DMA_CH_SCTL_ARM 63) = false) ∧
    (dm2.dmaBusy 63 = true) ∧
    ((List.foldl (fun d x => d.take armW x.2) dm2 (dmaCtl 63)).setGood (DMA_CH_SCNT_CNT 63) (DMA_CH_SCTL_SRC_WRAP 63) (DMA_CH_SCTL_SRC_K 63) (DMA_CH_SCTL_DST_WRAP 63) (DMA_CH_SCTL_DST_K 63) = true)) ∧
  ((dm3.xfer 63 = some (xf true)) ∧
    (dm3.dmaBusy 63 = true) ∧
    ((xf true).doneBytes = (xf true).total) ∧
    ((xf true).arrived = []) ∧
    ((xf true).cmd = none) ∧
    (dm3.on (DMA_CH_CTL_EVENT 63) = false) ∧
    (dm3.telling = false) ∧
    (dm3.dmaRedo = []) ∧
    (dm3.on (DMA_CH_SCTL_ARM 63) = false)) := by decide +kernel

theorem witness_DmaTransfers_2 :
  ((dm4.xfer 63 = some (xf true)) ∧
    (dm4.dmaBusy 63 = true) ∧
    ((xf true).doneBytes = (xf true).total) ∧
    ((xf true).arrived = []) ∧
    ((xf true).cmd = none) ∧
    (dm4.on (DMA_CH_CTL_EVENT 63) = false) ∧
    (dm4.telling = false) ∧
    (dm4.dmaRedo = []) ∧
    (dm4.on (DMA_CH_SCTL_ARM 63) = true)) ∧
  ((dm4.xfer 63 = some (xf true)) ∧
    (dm4.dmaBusy 63 = true) ∧
    (dm4.dmaRedo = [])) ∧
  ((dm5.xfer 63 = some (xf false)) ∧
    (dm5.dmaBusy 63 = true) ∧
    (dm5.running = true) ∧
    (dm5.gateServes 6 = true) ∧
    (dm5.keyOk (dm5.rd (DMA_CH_CTL_KEY 63)) = true) ∧
    ((xf false).issued < (xf false).total) ∧
    (dm5.dmaRoom 63 (xf false) = true) ∧
    (dm5.dmaNext dm5.dma.readLast dm5.readReady = some 63) ∧
    (inRange (xf false).src (dm5.dmaSrc 63 (xf false) (xf false).issued) = true) ∧
    (addrSpace (dm5.dmaSrc 63 (xf false) (xf false).issued) = AddrSpace.store 0) ∧
    (dm5.linked dmaCol (0 / 2 ^ 22) = true) ∧
    (dm5.storeReady (Ident.port (xf false).port) (dm5.rd (DMA_CH_CTL_KEY 63)) 0 (dm5.chunkLen 63 (xf false) (xf false).issued) = true) ∧
    (dm5.storeRead (Ident.port (xf false).port) (dm5.rd (DMA_CH_CTL_KEY 63)) 0 (dm5.chunkLen 63 (xf false) (xf false).issued) = (dr.1, Outc.ok, dr.2.2))) ∧
  ((dm6.xfer 63 = some xa) ∧
    (dm6.dmaBusy 63 = true) ∧
    (dm6.running = true) ∧
    (dm6.gateServes 6 = true) ∧
    (dm6.keyOk (dm6.rd (DMA_CH_CTL_KEY 63)) = true) ∧
    (List.find? (fun y => y.1 == 0) xa.arrived = some (0, List.replicate 64 7)) ∧
    (dm6.dmaNext dm6.dma.writeLast dm6.writeReady = some 63) ∧
    (dm6.chunkBlocked 63 xa 0 (List.replicate 64 7).length = false) ∧
    (inRange xa.dst (dm6.dmaDst 63 xa 0) = true) ∧
    (addrSpace (dm6.dmaDst 63 xa 0) = AddrSpace.store 4096) ∧
    (dm6.linked dmaCol (4096 / 2 ^ 22) = true) ∧
    (dm6.storeReady (Ident.port xa.port) (dm6.rd (DMA_CH_CTL_KEY 63)) 4096 (List.replicate 64 7).length = true) ∧
    (dm6.mirrorFull = false) ∧
    ((dm6.setXfer 63 { xa with arrived := List.filter (fun y => y.1 != 0) xa.arrived : Xfer }).storeWrite (Ident.port xa.port) (dm6.rd (DMA_CH_CTL_KEY 63)) 4096 (List.replicate 64 7) (List.replicate (List.replicate 64 7).length true) = (Outc.ok, dw.2))) := by decide +kernel

theorem witness_ImageCommands :
  (((ldD ld0).load = some ld0) ∧
    (ld0.committed = false) ∧
    (ld0.ecode = 0)) ∧
  (((ldD ld0).load = some ld0) ∧
    (ld0.committed = false) ∧
    (ld0.ecode = 0) ∧
    ((Load.step (ldD ld0) ld0 (ImgCmd.fwrite true 32 [])).ecode = 0)) ∧
  (((ldD ld0).load = some ld0) ∧
    (ld0.committed = false) ∧
    (ld0.ecode = 0) ∧
    (0 = ld0.crc ^^^ 4294967295)) ∧
  (((ldD ld0).load = some ld0) ∧
    (ld0.committed = false) ∧
    (ld0.ecode = 0) ∧
    (1 ≠ ld0.crc ^^^ 4294967295)) ∧
  (((ldD ld1).load = some ld1) ∧
    (ld1.committed = false) ∧
    (ld1.ecode = 0) ∧
    ((Load.step (ldD ld1) ld1 ImgCmd.fcommit).ecode = 0)) ∧
  (((ldD ld0).load = some ld0) ∧
    (ld0.committed = false) ∧
    (ld0.ecode = 0) ∧
    ((Load.step (ldD ld0) ld0 ImgCmd.fcommit).ecode ≠ 0)) := by decide +kernel

theorem witness_LoaderOperations_1 :
  ((busyD.reaches (opw_8 3 4) 3670024) ∧
    (busyD.on CFG_STAT_BUSY = true ∨ busyD.load.isSome = true) ∧
    ((opw_8 3 4).touches CFG_CTL_OP = true)) ∧
  ((up.reaches (opw_8 1 0) 3670024) ∧
    (up.on CFG_STAT_BUSY = false) ∧
    (up.load = none) ∧
    (((up.wr CFG_CTL_ARG (up.wval (opw_8 1 0) CFG_CTL_ARG)).wr CFG_CTL_LEN (up.wval (opw_8 1 0) CFG_CTL_LEN)).mayFullLoad = true)) ∧
  ((one.reaches (opw_8 1 0) 3670024) ∧
    (one.on CFG_STAT_BUSY = false) ∧
    (one.load = none) ∧
    (((one.wr CFG_CTL_ARG (one.wval (opw_8 1 0) CFG_CTL_ARG)).wr CFG_CTL_LEN (one.wval (opw_8 1 0) CFG_CTL_LEN)).mayFullLoad = false)) := by decide +kernel

theorem witness_LoaderOperations_2 :
  ((up.reaches (opw_8 2 8191) 3670024) ∧
    (up.on CFG_STAT_BUSY = false) ∧
    (up.load = none)) ∧
  ((up.reaches (opw_8 3 2047) 3670024) ∧
    (up.on CFG_STAT_BUSY = false) ∧
    (up.load = none) ∧
    (4 ≤ ((up.wr CFG_CTL_ARG (up.wval (opw_8 3 2047) CFG_CTL_ARG)).wr CFG_CTL_LEN (up.wval (opw_8 3 2047) CFG_CTL_LEN)).rd CFG_CTL_ARG) ∧
    (((up.wr CFG_CTL_ARG (up.wval (opw_8 3 2047) CFG_CTL_ARG)).wr CFG_CTL_LEN (up.wval (opw_8 3 2047) CFG_CTL_LEN)).rd CFG_CTL_ARG ≤ 2047)) ∧
  ((up.reaches (opw_8 3 3) 3670024) ∧
    (up.on CFG_STAT_BUSY = false) ∧
    (up.load = none) ∧
    (((up.wr CFG_CTL_ARG (up.wval (opw_8 3 3) CFG_CTL_ARG)).wr CFG_CTL_LEN (up.wval (opw_8 3 3) CFG_CTL_LEN)).rd CFG_CTL_ARG < 4)) := by decide +kernel

theorem witness_LoaderOperations_3 :
  ((up.reaches (opw_8 4 0) 3670024) ∧
    (up.on CFG_STAT_BUSY = false) ∧
    (up.load = none) ∧
    (((up.wr CFG_CTL_ARG (up.wval (opw_8 4 0) CFG_CTL_ARG)).wr CFG_CTL_LEN (up.wval (opw_8 4 0) CFG_CTL_LEN)).mayFullLoad = true)) ∧
  (((at_ up [(PIN_STRAP_BOOT_SRC, 1)]).reaches (opw_8 4 0) 3670024) ∧
    ((at_ up [(PIN_STRAP_BOOT_SRC, 1)]).on CFG_STAT_BUSY = false) ∧
    ((at_ up [(PIN_STRAP_BOOT_SRC, 1)]).load = none) ∧
    ((((at_ up [(PIN_STRAP_BOOT_SRC, 1)]).wr CFG_CTL_ARG ((at_ up [(PIN_STRAP_BOOT_SRC, 1)]).wval (opw_8 4 0) CFG_CTL_ARG)).wr CFG_CTL_LEN ((at_ up [(PIN_STRAP_BOOT_SRC, 1)]).wval (opw_8 4 0) CFG_CTL_LEN)).mayFullLoad = true)) ∧
  ((nvD.hostOp = some { op := 3, arg := 2047, addr := 0 : HostOp }) ∧
    ((nvD.wr CFG_STAT_BUSY 0).srcRead gotF.o = Outc.ok)) := by decide +kernel

theorem witness_LoaderOperations_4 :
  ((nvD.hostOp = some { op := 3, arg := 2047, addr := 0 : HostOp }) ∧
    ((nvD.wr CFG_STAT_BUSY 0).srcRead Outc.busError ≠ Outc.ok)) ∧
  ((up.access (Src.host Port.a) 3670096 false = Access.ok)) := by decide +kernel

theorem witness_Boots_1 :
  (((bootD 0).rd RESET_STAT_PHASE = 6) ∧
    ((bootD 0).chainBoot = false)) ∧
  (((bootD 1).booting = true) ∧
    ((bootD 1).chainBoot = true) ∧
    ((bootD 1).chainPos = false)) ∧
  (((chainD 0).booting = true) ∧
    ((chainD 0).chainBoot = true) ∧
    ((chainD 0).chainPos = true) ∧
    (forPosition ((chainD 0).rd CFG_STAT_POS) img4 = false)) ∧
  (((chainD 0).booting = true) ∧
    ((chainD 0).chainBoot = true) ∧
    ((chainD 0).chainPos = true) ∧
    ((chainD 0).chainTaken = 0) ∧
    (img3.chain.toNat = (chainD 0).rd CFG_STAT_POS)) ∧
  (((chainD 1).booting = true) ∧
    ((chainD 1).chainBoot = true) ∧
    ((chainD 1).chainPos = true) ∧
    ((chainD 1).chainTaken ≠ 0)) ∧
  (((chainD 1).booting = true) ∧
    ((chainD 1).chainBoot = true) ∧
    ((chainD 1).chainPos = true)) := by decide +kernel

theorem witness_Boots_2 :
  (((bootD 2).booting = true) ∧
    ((bootD 2).chainBoot = true) ∧
    ((bootD 2).chainPos = false)) := by decide +kernel

theorem witness_LaneEvents :
  (((lane 3).rd (LANE_STAT_PSTATE 143) = 3) ∧
    ((lane 3).on (LANE_STAT_RETIRED 143) = false) ∧
    ((lane 3).laneRuns 143 = true)) ∧
  (((lane 2).rd (LANE_STAT_PSTATE 143) = 2) ∧
    ((lane 2).on (LANE_PRBS_RUN 143) = false) ∧
    ((lane 2).laneRuns 143 = true)) ∧
  ((prbs.rd (LANE_STAT_PSTATE 143) = 2) ∧
    (prbs.on (LANE_PRBS_RUN 143) = true)) ∧
  (((lane 2).rd (LANE_STAT_PSTATE 143) = 2) ∧
    ((lane 2).laneRuns 143 = true)) := by decide +kernel

theorem witness_GroupTraining_1 :
  (((grp gx).group 126 = some gx) ∧
    (126 < 128) ∧
    (gx.phase = 0) ∧
    ((grp gx).groupSync 126 = true) ∧
    (tset_9.lanesOk = true ∧ tset_9.width.toNat = gx.width) ∧
    (gx.ts1 < 7)) ∧
  (((grp g7).group 126 = some g7) ∧
    (126 < 128) ∧
    (g7.phase = 0) ∧
    ((grp g7).groupSync 126 = true) ∧
    (tset_9.lanesOk = true ∧ tset_9.width.toNat = g7.width) ∧
    (g7.ts1 = 7)) ∧
  (((grp g8).group 126 = some g8) ∧
    (126 < 128) ∧
    (g8.phase = 1) ∧
    ((grp g8).groupSync 126 = true) ∧
    (tset_9.lanesOk = true ∧ tset_9.width.toNat = g8.width) ∧
    (g8.ts2 < 7)) ∧
  (((grp g9).group 126 = some g9) ∧
    (126 < 128) ∧
    (g9.phase = 1) ∧
    ((grp g9).groupSync 126 = true) ∧
    (tset_9.lanesOk = true ∧ tset_9.width.toNat = g9.width) ∧
    (g9.ts2 = 7)) ∧
  (((grp g3).group 126 = some g3) ∧
    (126 < 128) ∧
    (g3.phase = 3 ∨ g3.phase = 4) ∧
    (tset_9.lanesOk = true) ∧
    (g3.mine = none)) ∧
  (((grp g4).group 126 = some g4) ∧
    (126 < 128) ∧
    (g4.phase = 3 ∨ g4.phase = 4) ∧
    (tset_9.lanesOk = true) ∧
    (g4.mine = some true)) := by decide +kernel

theorem witness_GroupTraining_2 :
  (((grp g3).group 126 = some g3) ∧
    (126 < 128) ∧
    (g3.phase = 3) ∧
    ((grp g3).groupActive 126 = true) ∧
    (g3.far = none) ∧
    (∀ i < (groupLanes 126 g3.width).length, (List.map (fun x => x.toNat) ([0, 0] : List (BitVec 16))).getD i 0 ≤ (List.foldl (fun d i => (d.wr (LANE_PRBS_PATTERN (126 + i)) 3).incSat (LANE_PRBS_ERRORS (126 + i)) ((List.map (fun x => x.toNat) ([0, 0] : List (BitVec 16))).getD i 0)) (grp g3) (List.range (groupLanes 126 g3.width).length)).rd (LLP_GRP_CFG_DWELL_ERR 126))) ∧
  (((grp gRe).group 126 = some gRe) ∧
    (126 < 128) ∧
    (gRe.phase = 3 ∨ gRe.phase = 4) ∧
    (gRe.rate ≠ gRe.passed) ∧
    (gRe.bound = true) ∧
    (gRe.cmd = none)) ∧
  (({ (grp gRc) with queues := [(0, { journal := [entryL] : QueueSt })] : Dev }.group 126 = some gRc) ∧
    (126 < 128) ∧
    (gRc.phase = 3 ∨ gRc.phase = 4) ∧
    (gRc.rate ≠ gRc.passed) ∧
    (gRc.bound = true) ∧
    (gRc.cmd = some (0, 1))) ∧
  (((grp gx).group 126 = some gx) ∧
    (126 < 128) ∧
    (gx.phase < 3) ∧
    (gx.bound = false) ∧
    (gx.cmd = none)) ∧
  ((grpC.group 126 = some g0c) ∧
    (126 < 128) ∧
    (g0c.phase < 3) ∧
    (g0c.bound = false) ∧
    (g0c.cmd = some (0, 1))) ∧
  (((grp g0b).group 126 = some g0b) ∧
    (126 < 128) ∧
    (g0b.phase < 3) ∧
    (g0b.bound = true)) := by decide +kernel

theorem witness_LaneFrames_1 :
  (((grp gu).group 126 = some gu) ∧
    ((grp gu).groupUp 126 = true) ∧
    (gu.gotInit = true)) ∧
  (((grp gi).group 126 = some gi) ∧
    ((grp gi).groupUp 126 = true) ∧
    (gi.gotInit = false) ∧
    (gi.waiting = [])) ∧
  (((grp gi).group 126 = some gi) ∧
    ((grp gi).groupUp 126 = true) ∧
    (gi.gotInit = false)) ∧
  (((grp gu).group 126 = some gu) ∧
    ((grp gu).groupUp 126 = true) ∧
    (gu.gotInit = true) ∧
    (gu.rx = [])) ∧
  (((grp gu).group 126 = some gu) ∧
    ((grp gu).groupUp 126 = true) ∧
    (gu.rx = []) ∧
    ((frm 1).payload.length ≤ 512) ∧
    ((fcrc (frm 1) ^^^ 1).toNat ≠ frameCrc 1 (frm 1))) ∧
  (((grp gu).group 126 = some gu) ∧
    ((grp gu).groupUp 126 = true) ∧
    (gu.rx = []) ∧
    ((frm 32767).payload.length ≤ 512) ∧
    ((fcrc (frm 32767)).toNat = frameCrc 1 (frm 32767)) ∧
    (0 < ((frm 32767).seq.toNat + 65536 - (grp gu).rd (LLP_GRP_STAT_RXSEQ 126)) % 65536) ∧
    (((frm 32767).seq.toNat + 65536 - (grp gu).rd (LLP_GRP_STAT_RXSEQ 126)) % 65536 < 32768)) := by decide +kernel

theorem witness_LaneFrames_2 :
  (((grp gu).group 126 = some gu) ∧
    ((grp gu).groupUp 126 = true) ∧
    (gu.rx = []) ∧
    ((frm 32768).payload.length ≤ 512) ∧
    ((fcrc (frm 32768)).toNat = frameCrc 1 (frm 32768)) ∧
    (32768 ≤ ((frm 32768).seq.toNat + 65536 - (grp gu).rd (LLP_GRP_STAT_RXSEQ 126)) % 65536)) ∧
  ((grpK.group 126 = some gu) ∧
    (grpK.groupUp 126 = true) ∧
    (gu.rx = []) ∧
    ((frm 65535).payload.length ≤ 512) ∧
    ((fcrc (frm 65535)).toNat = frameCrc 1 (frm 65535)) ∧
    (((frm 65535).seq.toNat + 65536 - grpK.rd (LLP_GRP_STAT_RXSEQ 126)) % 65536 = 0) ∧
    (gu.acksDue < 15) ∧
    (grpK.channelTile gu.kern (frm 65535).channel.toNat = some 0) ∧
    (0 < 256) ∧
    ((grpK.portal 0).landing = [])) ∧
  (((grp gt).group 126 = some gt) ∧
    ((grp gt).groupUp 126 = true) ∧
    (gt.tx = [(frm 65535, 4), (frm 0, 1)]) ∧
    ((0 + 65536 - (frm 65535).seq.toNat) % 65536 + 1 ≤ gt.tx.length) ∧
    (gt.unbind = false) ∧
    (gt.waiting = [])) ∧
  (((grp gt).group 126 = some gt) ∧
    ((grp gt).groupUp 126 = true) ∧
    (∀ e ∈ gt.tx, e.1.seq ≠ 5)) ∧
  (((grp gt).group 126 = some gt) ∧
    ((grp gt).groupUp 126 = true) ∧
    (gt.tx = [(frm 65535, 4)] ++ [(frm 0, 1)]) ∧
    (∀ e ∈ [(frm 65535, 4)], e.1.seq ≠ 0) ∧
    ((frm 0).seq = 0) ∧
    (1 < 4)) ∧
  (((grp gu).group 126 = some gu) ∧
    ((grp gu).groupUp 126 = true) ∧
    (gu.tx = [])) := by decide +kernel

theorem witness_LaneFrames_3 :
  (((grp gt).group 126 = some gt) ∧
    ((grp gt).groupUp 126 = true) ∧
    (gt.tx = [(frm 65535, 4), (frm 0, 1)]) ∧
    (4 ≤ 4)) ∧
  (((grp gn).group 126 = some gn) ∧
    ((grp gn).groupUp 126 = true) ∧
    (gn.unbind = true)) := by decide +kernel

theorem witness_PairFrames_1 :
  (((pairD 3 0 cap).on TWIN_STAT_CAPOUP = true) ∧
    ((pairD 3 0 cap).held = false) ∧
    ((pairD 3 0 cap).capo.keyIn = true) ∧
    (0 ≠ capoCrc (1, 0, Instr.capoData 6 ([7] ++ bytesLE 16 9) 0).1 (1, 0, Instr.capoData 6 ([7] ++ bytesLE 16 9) 0).2.1 6 [7] (bytesLE 16 9))) ∧
  (((pairD 3 0 cap).on TWIN_STAT_CAPOUP = true) ∧
    ((pairD 3 0 cap).held = false) ∧
    ((pairD 3 0 cap).capo.keyIn = true) ∧
    (104183123 = capoCrc (3, 1, Instr.hb 6 true [] 9 104183123).1 (3, 1, Instr.hb 6 true [] 9 104183123).2.1 6 [] (bytesLE 16 9)) ∧
    (bytesLE 16 9 ≠ capoTag (pairD 3 0 cap).capo.rxKey (3, 1, Instr.hb 6 true [] 9 104183123).1 (3, 1, Instr.hb 6 true [] 9 104183123).2.1 6 [])) ∧
  (((pairD 3 0 cap).on TWIN_STAT_CAPOUP = true) ∧
    ((pairD 3 0 cap).held = false) ∧
    ((pairD 3 0 cap).capo.keyIn = true) ∧
    (118552644 = capoCrc (2, 0, Instr.capoAck 7 [] tg2 118552644).1 (2, 0, Instr.capoAck 7 [] tg2 118552644).2.1 7 [] (bytesLE 16 tg2.toNat)) ∧
    (bytesLE 16 tg2.toNat = capoTag (pairD 3 0 cap).capo.rxKey (2, 0, Instr.capoAck 7 [] tg2 118552644).1 (2, 0, Instr.capoAck 7 [] tg2 118552644).2.1 7 []) ∧
    (7 ≠ (pairD 3 0 cap).capo.rxCtr + 1)) ∧
  (((pairD 3 0 cap).on TWIN_STAT_CAPOUP = true) ∧
    ((pairD 3 0 cap).held = false) ∧
    ((pairD 3 0 cap).capo.keyIn = true) ∧
    (6 = (pairD 3 0 cap).capo.rxCtr + 1) ∧
    ((pairD 3 0 cap).capo.acksDue < 15) ∧
    (3617062582 = capoCrc 1 0 6 [] (bytesLE 16 tg1.toNat) ∧ bytesLE 16 tg1.toNat = capoTag (pairD 3 0 cap).capo.rxKey 1 0 6 [])) ∧
  (((pairD 3 0 cap).on TWIN_STAT_CAPOUP = true) ∧
    ((pairD 3 0 cap).held = false) ∧
    ((pairD 3 0 cap).capo.keyIn = true) ∧
    (6 = (pairD 3 0 cap).capo.rxCtr + 1) ∧
    ((pairD 3 0 cap).capo.acksDue < 15) ∧
    (577248316 = capoCrc 3 (b2n true) 6 [] (bytesLE 16 tg3.toNat) ∧ bytesLE 16 tg3.toNat = capoTag (pairD 3 0 cap).capo.rxKey 3 (b2n true) 6 [])) ∧
  (((pairD 3 0 cap).on TWIN_STAT_CAPOUP = true) ∧
    ((pairD 3 0 cap).held = false) ∧
    ((pairD 3 0 cap).capo.keyIn = true) ∧
    (6 = (pairD 3 0 cap).capo.rxCtr + 1) ∧
    ((pairD 3 0 cap).capo.acksDue < 15) ∧
    (3897201846 = capoCrc 2 0 6 ackP (bytesLE 16 tgA.toNat) ∧ bytesLE 16 tgA.toNat = capoTag (pairD 3 0 cap).capo.rxKey 2 0 6 ackP) ∧
    ((pairD 3 0 cap).capo.queue = []) ∧
    ((pairD 3 0 cap).bankWait = []) ∧
    ((pairD 3 0 cap).recWait = []) ∧
    ((pairD 3 0 cap).stageWait = [])) := by decide +kernel

theorem witness_PairFrames_2 :
  (((pairD 3 0 capN).on TWIN_STAT_CAPOUP = true) ∧
    ((pairD 3 0 capN).held = false) ∧
    ((pairD 3 0 capN).capo.keyIn = true) ∧
    ((pairD 3 0 capN).capo.keyOut = true) ∧
    ((pairD 3 0 capN).capo.partner = none)) ∧
  (((pairD 3 0 cap).on TWIN_STAT_CAPOUP = true) ∧
    ((pairD 3 0 cap).held = false) ∧
    ((pairD 3 0 cap).capo.keyIn = true) ∧
    ((pairD 3 0 cap).capo.keyOut = true) ∧
    ((pairD 3 0 cap).capo.partner = some (true, 3))) ∧
  (((pairD 3 0 cap).on TWIN_STAT_CAPOUP = true) ∧
    ((pairD 3 0 cap).held = false) ∧
    ((pairD 3 0 cap).capo.keyIn = true) ∧
    ((pairD 3 0 cap).capo.keyOut = true)) := by decide +kernel

theorem witness_Pairing_1 :
  (((pairD 1 0 capN).held = false) ∧
    ((pairD 1 0 capN).on TWIN_STAT_CAPOUP = true) ∧
    ((pairD 1 0 capN).on TWIN_CTL_EN = true) ∧
    (0 ≠ capoCrc 0 0 0 [1] (List.replicate 16 0))) ∧
  (((pairD 1 0 capN).held = false) ∧
    ((pairD 1 0 capN).on TWIN_STAT_CAPOUP = true) ∧
    ((pairD 1 0 capN).on TWIN_CTL_EN = true) ∧
    (hc.toNat = capoCrc 0 0 0 hp (List.replicate 16 0)) ∧
    (((pairD 1 0 capN).helloKey hp).2 = false)) ∧
  (((keyed (pairD 1 0 capN)).held = false) ∧
    ((keyed (pairD 1 0 capN)).on TWIN_STAT_CAPOUP = true) ∧
    ((keyed (pairD 1 0 capN)).on TWIN_CTL_EN = true) ∧
    (hc.toNat = capoCrc 0 0 0 hp (List.replicate 16 0)) ∧
    ((keyed (pairD 1 0 capN)).capo.keyOut = true) ∧
    ((keyed (pairD 1 0 capN)).rd TWIN_STAT_STATE = 1) ∧
    ((keyed (pairD 1 0 capN)).rd TWIN_STAT_ROLE = 0) ∧
    (true = true)) ∧
  (((keyed (pairD 1 1 capN)).held = false) ∧
    ((keyed (pairD 1 1 capN)).on TWIN_STAT_CAPOUP = true) ∧
    ((keyed (pairD 1 1 capN)).on TWIN_CTL_EN = true) ∧
    (hc.toNat = capoCrc 0 0 0 hp (List.replicate 16 0)) ∧
    ((keyed (pairD 1 1 capN)).capo.keyOut = true) ∧
    ((keyed (pairD 1 1 capN)).rd TWIN_STAT_STATE = 1) ∧
    ((keyed (pairD 1 1 capN)).rd TWIN_STAT_ROLE = 1) ∧
    (true = true)) ∧
  (((keyed (pairD 1 0 capN)).held = false) ∧
    ((keyed (pairD 1 0 capN)).on TWIN_STAT_CAPOUP = true) ∧
    ((keyed (pairD 1 0 capN)).on TWIN_CTL_EN = true) ∧
    (hc.toNat = capoCrc 0 0 0 hp (List.replicate 16 0)) ∧
    ((keyed (pairD 1 0 capN)).capo.keyOut = true) ∧
    ((keyed (pairD 1 0 capN)).rd TWIN_STAT_STATE = 1) ∧
    ((keyed (pairD 1 0 capN)).rd TWIN_STAT_ROLE = 0) ∧
    (false = false) ∧
    (1 ≠ 3) ∧
    (1 ≠ 4) ∧
    ((keyed (pairD 1 0 capN)).capo.everPaired = false)) ∧
  (((pairD 2 0 cap6).held = false) ∧
    ((pairD 2 0 cap6).rd TWIN_STAT_STATE = 2) ∧
    ((pairD 2 0 cap6).rd TWIN_STAT_ROLE = 0 → ∀ x ∈ (pairD 2 0 cap6).capo.frames, (pairD 2 0 cap6).capo.syncTo < x.ticket)) := by decide +kernel

theorem witness_Pairing_2 :
  ((up.held = false) ∧
    (6 ≤ up.rd RESET_STAT_PHASE) ∧
    (up.on TWIN_STAT_CAPOUP = false)) ∧
  (((pairD 3 0 cap).held = false) ∧
    (6 ≤ (pairD 3 0 cap).rd RESET_STAT_PHASE) ∧
    ((pairD 3 0 cap).on TWIN_STAT_CAPOUP = true) ∧
    ((pairD 3 0 cap).capo.keyOut = true) ∧
    ((pairD 3 0 cap).capo.keyIn = true)) ∧
  (((pairD 3 0 cap).held = false)) ∧
  (((pairD 3 1 cap).held = false) ∧
    ((pairD 3 1 cap).rd TWIN_STAT_STATE = 3) ∧
    ((pairD 3 1 cap).capo.fenceOut = false) ∧
    ((pairD 3 1 cap).rd TWIN_STAT_ROLE = 1)) ∧
  (((pairD 3 0 cap).held = false) ∧
    ((pairD 3 0 cap).rd TWIN_STAT_STATE = 3) ∧
    ((pairD 3 0 cap).capo.fenceOut = false) ∧
    ((pairD 3 0 cap).rd TWIN_STAT_ROLE = 0)) ∧
  (((pairD 3 0 cap).held = false) ∧
    ((pairD 3 0 cap).rd TWIN_STAT_STATE = 3) ∧
    ((pairD 3 0 cap).capo.fenceOut = false) ∧
    ((pairD 3 0 cap).on TWIN_STAT_PIN_SILENT = false)) := by decide +kernel

theorem witness_Pairing_3 :
  (((pairD 3 0 cap).held = false) ∧
    ((pairD 3 0 cap).rd TWIN_STAT_STATE = 3) ∧
    ((pairD 3 0 cap).capo.fenceOut = false)) := by decide +kernel

theorem witness_PairRecords_1 :
  (((shD []).mirroring = true) ∧
    ((shD []).newEntry 63 1 255 mk7 = (shD []).newEntry 63 1 255 mk7) ∧
    ((shD []).follow 63 mk7 = (none, jr.2.1, jr.2.2)) ∧
    (((shD []).newEntry 63 1 255 mk7).cmd ≠ some Cmd.halt)) ∧
  (((shD [entry1]).mirroring = true) ∧
    ((shD [entry1]).entry 63 1 = some entry1) ∧
    (Status.busError.bad = true)) ∧
  (((shD [entryN]).mirroring = true) ∧
    ((shD [entryN]).entry 63 1 = some entryN) ∧
    (Status.ok.bad = false) ∧
    (entryN.cmd = some Cmd.nop)) ∧
  (((shD [entry1]).mirroring = true) ∧
    ((shD [entry1]).entry 63 1 = some entry1) ∧
    (entry1.recordDue = false)) ∧
  (((shD [entryB]).mirroring = true) ∧
    ((shD [entryB]).entry 63 1 = some entryB) ∧
    (entryB.recordDue = true)) ∧
  (((shD []).mirroring = true) ∧
    ((shD []).buffer 16777215 = some buf1) ∧
    (buf1.sealed = false)) := by decide +kernel

theorem witness_PairRecords_2 :
  (({ (shD []) with buffers := [(16777215, buf1s)] : Dev }.mirroring = true) ∧
    ({ (shD []) with buffers := [(16777215, buf1s)] : Dev }.buffer 16777215 = some buf1s) ∧
    (buf1s.sealed = true) ∧
    ((List.replicate 560 1).length = 560) ∧
    (buf1s.rows.getD (0 / 512) none = some 0)) ∧
  (((shD []).mirroring = true) ∧
    ((shD []).kernel 8191 = none) ∧
    (((shD []).admitTwin 8191 7 imgX ((shD []).capo.placed.find 8191) []).kernel 8191 = none)) ∧
  (((shD []).mirroring = true) ∧
    (bitsOf (BitVec.toNat (1 + 8191 * 65536 : BitVec 64)) 0 8 = 1)) ∧
  (((shD []).mirroring = true)) ∧
  (((shD []).mirroring = true) ∧
    ((shD []).rd (EV_COUNT_COUNT 255) < 65535) ∧
    ((shD []).rd PIN_FUNC_EV = 0)) ∧
  ((ldPair.pairedLead = true) ∧
    (List.find? (fun e => e.stage == Stage.offered) (ldPair.journal 63) = some entryO) ∧
    (entryO.seq = 1) ∧
    (entryO.fin = none) ∧
    (entryO.cmd ≠ some Cmd.halt) ∧
    ((ldPair.queue 63).snaps = [snapO]) ∧
    (((((ldPair.updEntry 63 1 fun e => { e with stage := Stage.accepted, aux := [] : Entry }).withPath 63 snapO).setQueue 63 (((ldPair.updEntry 63 1 fun e => { e with stage := Stage.accepted, aux := [] : Entry }).withPath 63 snapO).queue 63)).showAccept 63 1 entryO.aux.head? false).on (QU_STAT_ERRSTOP 63) = false)) := by decide +kernel

theorem witness_PairRecords_3 :
  ((ldPair2.telling = true) ∧
    (ldPair2.entry 63 1 = some entryD) ∧
    (entryD.stage = Stage.completed)) := by decide +kernel

theorem witness_Takeover_1 :
  (((lane 2).rd TWIN_STAT_ROLE = 0) ∧
    ((lane 2).capo.fenceOut = false) ∧
    ((lane 2).held = false)) ∧
  (((pairD 3 1 capR).pairedShadow = true) ∧
    ((pairD 3 1 capR).capo.fenceOut = false) ∧
    ((pairD 3 1 capR).capo.recovering = true)) ∧
  (((pairD 3 1 capF).rd TWIN_STAT_ROLE = 1) ∧
    ((pairD 3 1 capF).capo.fenceOut = true) ∧
    ((pairD 3 1 capF).queues = []) ∧
    ((pairD 3 1 capF).dmaLog = []) ∧
    ((pairD 3 1 capF).capo.standby = []) ∧
    ((pairD 3 1 capF).capo.cold = []) ∧
    (∀ (n : Fin 64), (pairD 3 1 capF).on (PEG_STAT_HELD ↑n) = false)) ∧
  (((pairD 5 0 cap).rd TWIN_STAT_STATE = 5) ∧
    ((pairD 5 0 cap).capo.standby = [])) ∧
  (((pairD 3 0 cap).reaches (twW TWIN_CTL_SWAP) 4194304) ∧
    ((List.foldl (fun d f => d.take (twW TWIN_CTL_SWAP) f) (pairD 3 0 cap) [TWIN_CTL_EN, TWIN_CTL_KEYSLOT, TWIN_CTL_AUTOJOIN, TWIN_CTL_WARM_LIMIT, TWIN_CTL_VEC]).on TWIN_CTL_EN = (pairD 3 0 cap).on TWIN_CTL_EN) ∧
    ((twW TWIN_CTL_SWAP).one TWIN_CTL_SWAP = true) ∧
    ((twW TWIN_CTL_SWAP).one TWIN_CTL_FORCE = false) ∧
    ((twW TWIN_CTL_SWAP).one TWIN_CTL_UNFENCE = false) ∧
    ((pairD 3 0 cap).pairedLead = true)) ∧
  (((pairD 3 1 cap).reaches (twW TWIN_CTL_SWAP) 4194304) ∧
    ((List.foldl (fun d f => d.take (twW TWIN_CTL_SWAP) f) (pairD 3 1 cap) [TWIN_CTL_EN, TWIN_CTL_KEYSLOT, TWIN_CTL_AUTOJOIN, TWIN_CTL_WARM_LIMIT, TWIN_CTL_VEC]).on TWIN_CTL_EN = (pairD 3 1 cap).on TWIN_CTL_EN) ∧
    ((twW TWIN_CTL_SWAP).one TWIN_CTL_SWAP = true) ∧
    ((twW TWIN_CTL_SWAP).one TWIN_CTL_FORCE = false) ∧
    ((twW TWIN_CTL_SWAP).one TWIN_CTL_UNFENCE = false) ∧
    ((pairD 3 1 cap).pairedLead = false)) := by decide +kernel

theorem witness_Takeover_2 :
  (((pairD 3 1 cap).reaches (twW TWIN_CTL_FORCE) 4194304) ∧
    ((List.foldl (fun d f => d.take (twW TWIN_CTL_FORCE) f) (pairD 3 1 cap) [TWIN_CTL_EN, TWIN_CTL_KEYSLOT, TWIN_CTL_AUTOJOIN, TWIN_CTL_WARM_LIMIT, TWIN_CTL_VEC]).on TWIN_CTL_EN = (pairD 3 1 cap).on TWIN_CTL_EN) ∧
    ((twW TWIN_CTL_FORCE).one TWIN_CTL_SWAP = false) ∧
    ((twW TWIN_CTL_FORCE).one TWIN_CTL_FORCE = true) ∧
    ((twW TWIN_CTL_FORCE).one TWIN_CTL_UNFENCE = false) ∧
    ((pairD 3 1 cap).pairedShadow = true) ∧
    ((pairD 3 1 cap).capo.fenceOut = false)) ∧
  (((pairD 3 0 cap).reaches (twW TWIN_CTL_FORCE) 4194304) ∧
    ((List.foldl (fun d f => d.take (twW TWIN_CTL_FORCE) f) (pairD 3 0 cap) [TWIN_CTL_EN, TWIN_CTL_KEYSLOT, TWIN_CTL_AUTOJOIN, TWIN_CTL_WARM_LIMIT, TWIN_CTL_VEC]).on TWIN_CTL_EN = (pairD 3 0 cap).on TWIN_CTL_EN) ∧
    ((twW TWIN_CTL_FORCE).one TWIN_CTL_SWAP = false) ∧
    ((twW TWIN_CTL_FORCE).one TWIN_CTL_FORCE = true) ∧
    ((twW TWIN_CTL_FORCE).one TWIN_CTL_UNFENCE = false) ∧
    ((pairD 3 0 cap).pairedShadow = false)) ∧
  (((pairD 4 0 capF).reaches (twW TWIN_CTL_UNFENCE) 4194304) ∧
    ((List.foldl (fun d f => d.take (twW TWIN_CTL_UNFENCE) f) (pairD 4 0 capF) [TWIN_CTL_EN, TWIN_CTL_KEYSLOT, TWIN_CTL_AUTOJOIN, TWIN_CTL_WARM_LIMIT, TWIN_CTL_VEC]).on TWIN_CTL_EN = (pairD 4 0 capF).on TWIN_CTL_EN) ∧
    ((twW TWIN_CTL_UNFENCE).one TWIN_CTL_SWAP = false) ∧
    ((twW TWIN_CTL_UNFENCE).one TWIN_CTL_FORCE = false) ∧
    ((twW TWIN_CTL_UNFENCE).one TWIN_CTL_UNFENCE = true) ∧
    ((pairD 4 0 capF).held = false) ∧
    ((pairD 4 0 capF).capo.fenceOut = true) ∧
    ((pairD 4 0 capF).rd TWIN_STAT_ROLE = 0)) ∧
  ((heldD_9.held = true)) := by decide +kernel

theorem witness_ErrorRing_1 :
  (((erD [(ERR_CTL_EN, 1), (ERR_TAIL_TAIL, 1024)]).errq = [er1]) ∧
    ((erD [(ERR_CTL_EN, 1), (ERR_TAIL_TAIL, 1024)]).on ERR_CTL_EN = false ∨ 1024 ≤ ((erD [(ERR_CTL_EN, 1), (ERR_TAIL_TAIL, 1024)]).rd ERR_TAIL_TAIL + 2 ^ 32 - (erD [(ERR_CTL_EN, 1), (ERR_TAIL_TAIL, 1024)]).rd ERR_HEAD_HEAD) % 2 ^ 32)) ∧
  (((erD [(ERR_CTL_EN, 1), (ERR_TAIL_TAIL, 1023)]).errq = [er1]) ∧
    ((erD [(ERR_CTL_EN, 1), (ERR_TAIL_TAIL, 1023)]).on ERR_CTL_EN = true) ∧
    (¬1024 ≤ ((erD [(ERR_CTL_EN, 1), (ERR_TAIL_TAIL, 1023)]).rd ERR_TAIL_TAIL + 2 ^ 32 - (erD [(ERR_CTL_EN, 1), (ERR_TAIL_TAIL, 1023)]).rd ERR_HEAD_HEAD) % 2 ^ 32) ∧
    (addrSpace (32 * (erD [(ERR_CTL_EN, 1), (ERR_TAIL_TAIL, 1023)]).rd ERR_RING_BASE + 32 * ((erD [(ERR_CTL_EN, 1), (ERR_TAIL_TAIL, 1023)]).rd ERR_TAIL_TAIL % 1024)) = AddrSpace.host Port.a 32736) ∧
    ((erD [(ERR_CTL_EN, 1), (ERR_TAIL_TAIL, 1023)]).linked controlCol (portCol Port.a) = true) ∧
    ((erD [(ERR_CTL_EN, 1), (ERR_TAIL_TAIL, 1023)]).portUp Port.a = true)) ∧
  (((erD [(ERR_CTL_EN, 1), (ERR_TAIL_TAIL, 1023)]).errq = [er1]) ∧
    ((erD [(ERR_CTL_EN, 1), (ERR_TAIL_TAIL, 1023)]).on ERR_CTL_EN = true) ∧
    (¬1024 ≤ ((erD [(ERR_CTL_EN, 1), (ERR_TAIL_TAIL, 1023)]).rd ERR_TAIL_TAIL + 2 ^ 32 - (erD [(ERR_CTL_EN, 1), (ERR_TAIL_TAIL, 1023)]).rd ERR_HEAD_HEAD) % 2 ^ 32) ∧
    (addrSpace (32 * (erD [(ERR_CTL_EN, 1), (ERR_TAIL_TAIL, 1023)]).rd ERR_RING_BASE + 32 * ((erD [(ERR_CTL_EN, 1), (ERR_TAIL_TAIL, 1023)]).rd ERR_TAIL_TAIL % 1024)) = AddrSpace.host Port.a 32736) ∧
    (Outc.busError ≠ Outc.ok)) ∧
  (((erS 3).errq = [er1]) ∧
    ((erS 3).on ERR_CTL_EN = true) ∧
    (¬1024 ≤ ((erS 3).rd ERR_TAIL_TAIL + 2 ^ 32 - (erS 3).rd ERR_HEAD_HEAD) % 2 ^ 32) ∧
    (addrSpace (32 * (erS 3).rd ERR_RING_BASE + 32 * ((erS 3).rd ERR_TAIL_TAIL % 1024)) = AddrSpace.store 32736) ∧
    ((erS 3).linked controlCol (32736 / 2 ^ 22) = true) ∧
    ((erS 3).storeReady Ident.device 0 32736 32 = false)) ∧
  (((erS 1).errq = [er1]) ∧
    ((erS 1).on ERR_CTL_EN = true) ∧
    (¬1024 ≤ ((erS 1).rd ERR_TAIL_TAIL + 2 ^ 32 - (erS 1).rd ERR_HEAD_HEAD) % 2 ^ 32) ∧
    (addrSpace (32 * (erS 1).rd ERR_RING_BASE + 32 * ((erS 1).rd ERR_TAIL_TAIL % 1024)) = AddrSpace.store 32736) ∧
    ((erS 1).linked controlCol (32736 / 2 ^ 22) = true) ∧
    ((erS 1).storeReady Ident.device 0 32736 32 = true) ∧
    ((erS 1).gateRow Ident.device 0 (32736 / 512) = Gate.serve)) ∧
  (((at_ up [(ERR_TAIL_TAIL, 7), (ERR_HEAD_HEAD, 7)]).reaches (byA 4294967295 Half.all) 3932160)) := by decide +kernel

theorem witness_ErrorRing_2 :
  (((at_ up [(ERR_TAIL_TAIL, 1030)]).reaches (byA 5 Half.all) 3932176) ∧
    ((byA 5 Half.all).touches ERR_HEAD_HEAD = true)) ∧
  (((at_ up [(ERR_TAIL_TAIL, 1030)]).reaches (byA 6 Half.all) 3932176) ∧
    ((byA 6 Half.all).touches ERR_HEAD_HEAD = true)) ∧
  (((at_ up [(ERR_DROP_OCHRE, 7)]).reaches (byA (BitVec.ofNat 64 (2 ^ ERR_DROP_CLR.lo)) Half.all) 3932208) ∧
    ((byA (BitVec.ofNat 64 (2 ^ ERR_DROP_CLR.lo)) Half.all).one ERR_DROP_CLR = true)) := by decide +kernel

theorem witness_UnitsAndBuckets_1 :
  ((upRet.isRetired UnitKind.tile 255 = true)) ∧
  ((bkD.isRetired UnitKind.tile 255 = false)) ∧
  ((bkD.reaches (bw ERR_BKT_Q_CLR 0 255 ERR_BKT_Q_KIND ERR_BKT_Q_UID) 3932264) ∧
    ((bw ERR_BKT_Q_CLR 0 255 ERR_BKT_Q_KIND ERR_BKT_Q_UID).one ERR_BKT_Q_CLR = true) ∧
    (kindOf (((bkD.take (bw ERR_BKT_Q_CLR 0 255 ERR_BKT_Q_KIND ERR_BKT_Q_UID) ERR_BKT_Q_KIND).take (bw ERR_BKT_Q_CLR 0 255 ERR_BKT_Q_KIND ERR_BKT_Q_UID) ERR_BKT_Q_UID).rd ERR_BKT_Q_KIND) = some UnitKind.tile)) ∧
  ((up.reaches (byA 18446744073709551615 Half.all) (3932224 + 8 * 4)) ∧
    (up.buckets = [])) ∧
  ((up.reaches (bw ERR_RETIRE_GO 0 255 ERR_RETIRE_KIND ERR_RETIRE_UID) 3932280) ∧
    ((bw ERR_RETIRE_GO 0 255 ERR_RETIRE_KIND ERR_RETIRE_UID).one ERR_RETIRE_GO = true) ∧
    (kindOf ((bw ERR_RETIRE_GO 0 255 ERR_RETIRE_KIND ERR_RETIRE_UID).ones ERR_RETIRE_KIND) = some UnitKind.tile) ∧
    (UnitKind.tile ≠ UnitKind.string) ∧
    ((bw ERR_RETIRE_GO 0 255 ERR_RETIRE_KIND ERR_RETIRE_UID).ones ERR_RETIRE_UID < unitCount UnitKind.tile) ∧
    (up.isRetired UnitKind.tile ((bw ERR_RETIRE_GO 0 255 ERR_RETIRE_KIND ERR_RETIRE_UID).ones ERR_RETIRE_UID) = false)) ∧
  ((up.reaches (bw ERR_RETIRE_GO 4 0 ERR_RETIRE_KIND ERR_RETIRE_UID) 3932280) ∧
    ((bw ERR_RETIRE_GO 4 0 ERR_RETIRE_KIND ERR_RETIRE_UID).one ERR_RETIRE_GO = true) ∧
    (kindOf ((bw ERR_RETIRE_GO 4 0 ERR_RETIRE_KIND ERR_RETIRE_UID).ones ERR_RETIRE_KIND) = some UnitKind.string) ∧
    ((stringOf ((bw ERR_RETIRE_GO 4 0 ERR_RETIRE_KIND ERR_RETIRE_UID).ones ERR_RETIRE_UID)).isSome = true) ∧
    (up.isRetired UnitKind.string ((bw ERR_RETIRE_GO 4 0 ERR_RETIRE_KIND ERR_RETIRE_UID).ones ERR_RETIRE_UID) = false) ∧
    ((up.string ((bw ERR_RETIRE_GO 4 0 ERR_RETIRE_KIND ERR_RETIRE_UID).ones ERR_RETIRE_UID)).exhausted = false)) := by decide +kernel

theorem witness_UnitsAndBuckets_2 :
  ((up.reaches (bw ERR_RETIRE_GO 0 256 ERR_RETIRE_KIND ERR_RETIRE_UID) 3932280) ∧
    ((bw ERR_RETIRE_GO 0 256 ERR_RETIRE_KIND ERR_RETIRE_UID).one ERR_RETIRE_GO = true) ∧
    (Option.all (fun k => !unitNamed k ((bw ERR_RETIRE_GO 0 256 ERR_RETIRE_KIND ERR_RETIRE_UID).ones ERR_RETIRE_UID) || up.isRetired k ((bw ERR_RETIRE_GO 0 256 ERR_RETIRE_KIND ERR_RETIRE_UID).ones ERR_RETIRE_UID)) (kindOf ((bw ERR_RETIRE_GO 0 256 ERR_RETIRE_KIND ERR_RETIRE_UID).ones ERR_RETIRE_KIND)) = true)) ∧
  ((63 < 64) ∧
    ((stringOf 0).isSome = true) ∧
    (thr0.string 0 = { : StringSt }) ∧
    (thr0.thresh UnitKind.string = 0)) := by decide +kernel

theorem witness_Scrubbing_1 :
  (((scD [(SCRUB_CTL_STORED_EN, 1)] []).on SCRUB_CTL_STORED_EN = true) ∧
    ((scD [(SCRUB_CTL_STORED_EN, 1)] []).scrubs = true) ∧
    ((scD [(SCRUB_CTL_STORED_EN, 1)] []).load = none) ∧
    (8192 * 7 + 32 * 255 + 31 ∉ (scD [(SCRUB_CTL_STORED_EN, 1)] []).badFrames)) ∧
  (((scD [(SCRUB_CTL_STORED_EN, 1)] []).on SCRUB_CTL_STORED_EN = true) ∧
    ((scD [(SCRUB_CTL_STORED_EN, 1)] []).scrubs = true) ∧
    ((scD [(SCRUB_CTL_STORED_EN, 1)] []).load = none) ∧
    ((scD [(SCRUB_CTL_STORED_EN, 1)] []).shown 0 ≠ 7)) ∧
  (({ (scD [(SCRUB_CTL_LATCH_EN, 1)] []) with ensembles := [(0, { ens1 with phase := 3 : Ensemble })] : Dev }.readbackYields 0 = true)) ∧
  ((65535 ∈ (scD [] [65535]).badFrames) ∧
    ((scD [] [65535]).fretHandle (65535 / 32 % 256) (65535 / 8192) = 0)) ∧
  ((0 ∈ (scS 6 0).badFrames) ∧
    ((scS 6 0).fretHandle (0 / 32 % 256) (0 / 8192) ≠ 0) ∧
    ((scS 6 0).recordAt ((scS 6 0).fretHandle (0 / 32 % 256) (0 / 8192)) 0 Outc.ok = none) ∧
    (Outc.ok = Outc.ok ∧ true = true)) ∧
  ((0 ∈ (scS 6 16).badFrames) ∧
    ((scS 6 16).fretHandle (0 / 32 % 256) (0 / 8192) ≠ 0) ∧
    ((scS 6 16).recordAt ((scS 6 16).fretHandle (0 / 32 % 256) (0 / 8192)) 0 Outc.busError = none) ∧
    (¬(Outc.busError = Outc.ok ∧ true = true))) := by decide +kernel

theorem witness_Scrubbing_2 :
  ((0 ∈ (scS 2047 16).badFrames) ∧
    ((scS 2047 16).fretHandle (0 / 32 % 256) (0 / 8192) ≠ 0) ∧
    ((scS 2047 16).recordAt ((scS 2047 16).fretHandle (0 / 32 % 256) (0 / 8192)) 0 Outc.ok = some (false, scS 2047 16))) ∧
  (((scD [(SCRUB_CTL_LATCH_EN, 1)] []).on SCRUB_CTL_LATCH_EN = true) ∧
    ((scD [(SCRUB_CTL_LATCH_EN, 1)] []).scrubs = true) ∧
    ((scD [(SCRUB_CTL_LATCH_EN, 1)] []).readbackYields 0 = false) ∧
    ((scD [(SCRUB_CTL_LATCH_EN, 1)] []).badFrames = [])) ∧
  (((scD [(SCRUB_CTL_LATCH_EN, 1), (FRET_STAT_NEXTV 0, 1), (FRET_STAT_NEXT 0, 7)] []).on SCRUB_CTL_LATCH_EN = true) ∧
    ((scD [(SCRUB_CTL_LATCH_EN, 1), (FRET_STAT_NEXTV 0, 1), (FRET_STAT_NEXT 0, 7)] []).scrubs = true) ∧
    ((scD [(SCRUB_CTL_LATCH_EN, 1), (FRET_STAT_NEXTV 0, 1), (FRET_STAT_NEXT 0, 7)] []).readbackYields 0 = false) ∧
    ((scD [(SCRUB_CTL_LATCH_EN, 1), (FRET_STAT_NEXTV 0, 1), (FRET_STAT_NEXT 0, 7)] []).badFrames = []) ∧
    ((scD [(SCRUB_CTL_LATCH_EN, 1), (FRET_STAT_NEXTV 0, 1), (FRET_STAT_NEXT 0, 7)] []).on (FRET_STAT_NEXTV 0) = true)) ∧
  (((scD [(SCRUB_CTL_LATCH_EN, 1)] []).on SCRUB_CTL_LATCH_EN = true) ∧
    ((scD [(SCRUB_CTL_LATCH_EN, 1)] []).scrubs = true) ∧
    ((scD [(SCRUB_CTL_LATCH_EN, 1)] []).readbackYields 0 = false) ∧
    ((scD [(SCRUB_CTL_LATCH_EN, 1)] []).badFrames = []) ∧
    ((scD [(SCRUB_CTL_LATCH_EN, 1)] []).ensembleOf 0 = some (0, ens1)) ∧
    ((scD [(SCRUB_CTL_LATCH_EN, 1)] []).fretHandle 0 ((scD [(SCRUB_CTL_LATCH_EN, 1)] []).shown 0) ≠ 0)) ∧
  ((TriWord.lifeCycle ≠ TriWord.scrubber)) := by decide +kernel

theorem witness_Security_1 :
  ((busyK.reaches (kw 3 63 64) 4063264) ∧
    (1 ≤ (kw 3 63 64).ones SEC_KEYCTL_OP) ∧
    ((kw 3 63 64).ones SEC_KEYCTL_OP ≤ 3) ∧
    (busyK.on SEC_STAT_BUSY = true)) ∧
  ((up.reaches (kw 2 63 64) 4063264) ∧
    (1 ≤ (kw 2 63 64).ones SEC_KEYCTL_OP) ∧
    ((kw 2 63 64).ones SEC_KEYCTL_OP ≤ 3) ∧
    (up.on SEC_STAT_BUSY = false) ∧
    (((up.endWrap.take (kw 2 63 64) SEC_KEYCTL_SLOT).take (kw 2 63 64) SEC_KEYCTL_KEK).keyRefusal ((kw 2 63 64).ones SEC_KEYCTL_OP) (((up.endWrap.take (kw 2 63 64) SEC_KEYCTL_SLOT).take (kw 2 63 64) SEC_KEYCTL_KEK).rd SEC_KEYCTL_SLOT) (((up.endWrap.take (kw 2 63 64) SEC_KEYCTL_SLOT).take (kw 2 63 64) SEC_KEYCTL_KEK).rd SEC_KEYCTL_KEK) = some 1)) ∧
  ((up.reaches (kw 1 63 64) 4063264) ∧
    (1 ≤ (kw 1 63 64).ones SEC_KEYCTL_OP) ∧
    ((kw 1 63 64).ones SEC_KEYCTL_OP ≤ 3) ∧
    (up.on SEC_STAT_BUSY = false) ∧
    (((up.endWrap.take (kw 1 63 64) SEC_KEYCTL_SLOT).take (kw 1 63 64) SEC_KEYCTL_KEK).keyRefusal ((kw 1 63 64).ones SEC_KEYCTL_OP) (((up.endWrap.take (kw 1 63 64) SEC_KEYCTL_SLOT).take (kw 1 63 64) SEC_KEYCTL_KEK).rd SEC_KEYCTL_SLOT) (((up.endWrap.take (kw 1 63 64) SEC_KEYCTL_SLOT).take (kw 1 63 64) SEC_KEYCTL_KEK).rd SEC_KEYCTL_KEK) = none)) ∧
  ((up.reaches (kw 3 63 64) 4063264) ∧
    (1 ≤ (kw 3 63 64).ones SEC_KEYCTL_OP) ∧
    ((kw 3 63 64).ones SEC_KEYCTL_OP ≤ 3) ∧
    (up.on SEC_STAT_BUSY = false) ∧
    (((up.endWrap.take (kw 3 63 64) SEC_KEYCTL_SLOT).take (kw 3 63 64) SEC_KEYCTL_KEK).keyRefusal ((kw 3 63 64).ones SEC_KEYCTL_OP) (((up.endWrap.take (kw 3 63 64) SEC_KEYCTL_SLOT).take (kw 3 63 64) SEC_KEYCTL_KEK).rd SEC_KEYCTL_SLOT) (((up.endWrap.take (kw 3 63 64) SEC_KEYCTL_SLOT).take (kw 3 63 64) SEC_KEYCTL_KEK).rd SEC_KEYCTL_KEK) = none)) ∧
  (((koD 1).reaches (kw 3 63 64) 4063264) ∧
    ((koD 1).keyOp = some { op := 1, slot := 63, kek := 64 : KeyOp }) ∧
    (63 < 64)) ∧
  (((koD 2).reaches (kw 3 63 64) 4063264) ∧
    ((koD 2).keyOp = some { op := 2, slot := 63, kek := 64 : KeyOp }) ∧
    (63 < 64)) := by decide +kernel

theorem witness_Security_2 :
  (((koD 3).reaches (kw 3 63 64) 4063264) ∧
    ((koD 3).keyOp = some { op := 3, slot := 63, kek := 64 : KeyOp }) ∧
    (63 < 64)) ∧
  ((Src.host Port.a = Src.host Port.a) ∧
    (up.reaches (lw true false 3 0) 4063240) ∧
    ((lw true false 3 0).one SEC_LC_REQ_ARM = true) ∧
    ((lw true false 3 0).one SEC_LC_REQ_CONFIRM = false) ∧
    (up.lcArmed = none) ∧
    ((lw true false 3 0).ones SEC_LC_REQ_TARGET ∈ lcPermits up.lc) ∧
    ((lw true false 3 0).ones SEC_LC_REQ_TARGET = 3 ∨ up.empty = true ∧ (up.rd TWIN_STAT_STATE = 0 ∨ up.rd TWIN_STAT_STATE = 4))) ∧
  ((Src.host Port.a = Src.host Port.a) ∧
    (up.reaches (lw true false 2 0) 4063240) ∧
    ((lw true false 2 0).one SEC_LC_REQ_ARM = true) ∧
    ((lw true false 2 0).one SEC_LC_REQ_CONFIRM = false) ∧
    (up.lcArmed ≠ none ∨ (lw true false 2 0).ones SEC_LC_REQ_TARGET ∉ lcPermits up.lc)) ∧
  ((Src.host Port.a = Src.host Port.a) ∧
    (lcD.reaches (lw false true 3 77) 4063240) ∧
    ((lw false true 3 77).one SEC_LC_REQ_ARM = false) ∧
    ((lw false true 3 77).one SEC_LC_REQ_CONFIRM = true) ∧
    (lcD.lcArmed = some ((lw false true 3 77).ones SEC_LC_REQ_TARGET) ∧ (lw false true 3 77).ones SEC_LC_REQ_NONCE = lcD.rd SEC_LC_NONCE_NONCE ∧ lcD.rd SEC_LC_NONCE_APORT = Port.a.num)) ∧
  ((Src.host Port.a = Src.host Port.a) ∧
    (lcD.reaches (lw false true 3 78) 4063240) ∧
    ((lw false true 3 78).one SEC_LC_REQ_ARM = false) ∧
    ((lw false true 3 78).one SEC_LC_REQ_CONFIRM = true) ∧
    (¬(lcD.lcArmed = some ((lw false true 3 78).ones SEC_LC_REQ_TARGET) ∧ (lw false true 3 78).ones SEC_LC_REQ_NONCE = lcD.rd SEC_LC_NONCE_NONCE ∧ lcD.rd SEC_LC_NONCE_APORT = Port.a.num))) ∧
  ((Src.host Port.a = Src.host Port.a) ∧
    (up.reaches (lw false true 3 77) 4063240) ∧
    (up.lcArmed = none)) := by decide +kernel

theorem witness_Security_3 :
  ((Src.host Port.a = Src.host Port.a) ∧
    (lcD.reaches (lw false true 3 77) 4063240) ∧
    (lcD.lcArmed = some 3)) ∧
  ((Src.host Port.a = Src.host Port.a) ∧
    (lcT.reaches (lw false true 3 77) 4063240) ∧
    (lcT.lcTarget = some 3) ∧
    (3 < 4)) := by decide +kernel

theorem witness_ClocksAndGates_1 :
  (((ph 1 { : MonSt }).rd RESET_STAT_PHASE ≠ 0)) ∧
  (((ph 1 { ready := true : MonSt }).rd RESET_STAT_PHASE = 1) ∧
    ((ph 1 { ready := true : MonSt }).mon.ready = true)) ∧
  (((ph 1 { : MonSt }).rd RESET_STAT_PHASE = 1) ∧
    ((ph 1 { : MonSt }).mon.ready = false)) ∧
  (((ph 1 { : MonSt }).on CLK_STAT_ARMED = false)) ∧
  (((ph 2 { good := 2 : MonSt }).on CLK_STAT_ARMED = true) ∧
    (768 ≤ 768 ∧ 768 ≤ 1280) ∧
    ((ph 2 { good := 2 : MonSt }).mon.good < 3)) ∧
  (((ph 2 { good := 3 : MonSt }).on CLK_STAT_ARMED = true) ∧
    (768 ≤ 1280 ∧ 1280 ≤ 1280) ∧
    (3 ≤ (ph 2 { good := 3 : MonSt }).mon.good) ∧
    ((ph 2 { good := 3 : MonSt }).rd RESET_STAT_PHASE = 2)) := by decide +kernel

theorem witness_ClocksAndGates_2 :
  (((ph 2 { good := 3 : MonSt }).on CLK_STAT_ARMED = true) ∧
    (false = true ∨ ¬(768 ≤ 1281 ∧ 1281 ≤ 1280)) ∧
    ((ph 2 { good := 3 : MonSt }).on CLK_STAT_REFGOOD = false)) ∧
  ((refD.on CLK_STAT_ARMED = true) ∧
    (false = true ∨ ¬(768 ≤ 767 ∧ 767 ≤ 1280)) ∧
    (refD.on CLK_STAT_REFGOOD = true) ∧
    (refD.rd RESET_STAT_PHASE = 9) ∧
    (refD.on CLK_STAT_COAST = false)) ∧
  ((lockD.rd RESET_STAT_PHASE = 4) ∧
    (lockD.on CLK_STAT_REFGOOD = true)) ∧
  ((coastD.on CLK_STAT_COAST = true) ∧
    (coastD.on CLK_STAT_REFGOOD = true) ∧
    (coastD.rd CLK_REST_STATE = 0) ∧
    (coastD.lanesHeld = [])) ∧
  ((up.reaches (byA 0 Half.lo) (if true = true then 65552 else 65544))) ∧
  ((up.gateBit 55 = true) ∧
    (closable 55 = true) ∧
    (55 < 56)) := by decide +kernel

theorem witness_ClocksAndGates_3 :
  ((closable 5 = false)) ∧
  ((55 < 56) ∧
    (55 ≠ 11) ∧
    (55 ≠ 12)) ∧
  (((pendD 6).bit CLK_GATE_PEND_PEND 6 = true) ∧
    (6 < 56) ∧
    ((pendD 6).blockIdle 6 = true) ∧
    (6 ≠ 11) ∧
    (6 ≠ 12) ∧
    (6 ≠ 18) ∧
    (6 ≠ 19)) ∧
  (((pendD 12).bit CLK_GATE_PEND_PEND 12 = true) ∧
    (12 = 11 ∨ 12 = 12) ∧
    ((pendD 12).blockIdle 12 = true)) ∧
  (((pendD 19).bit CLK_GATE_PEND_PEND 19 = true) ∧
    (19 = 18 ∨ 19 = 19) ∧
    ((pendD 19).blockIdle 19 = true)) ∧
  ((pendX.blockIdle 6 = false)) := by decide +kernel

theorem witness_PowerControl_1 :
  ((pm.reaches (byA 6 Half.all) 65568) ∧
    ((byA 6 Half.all).touches CLK_OP_TARGET = true) ∧
    (5 < pm.wval (byA 6 Half.all) CLK_OP_TARGET ∨ pm.wval (byA 6 Half.all) CLK_OP_TARGET ≠ 0 ∧ pm.pmbusUp = false)) ∧
  ((up.reaches (byA 1 Half.all) 65568) ∧
    ((byA 1 Half.all).touches CLK_OP_TARGET = true) ∧
    (5 < up.wval (byA 1 Half.all) CLK_OP_TARGET ∨ up.wval (byA 1 Half.all) CLK_OP_TARGET ≠ 0 ∧ up.pmbusUp = false)) ∧
  (((opD { goal := 4, ramp := false, next := none : OpStep }).reaches (byA 5 Half.all) 65568) ∧
    ((byA 5 Half.all).touches CLK_OP_TARGET = true) ∧
    ((opD { goal := 4, ramp := false, next := none : OpStep }).wval (byA 5 Half.all) CLK_OP_TARGET ≤ 5) ∧
    ((opD { goal := 4, ramp := false, next := none : OpStep }).wval (byA 5 Half.all) CLK_OP_TARGET = 0 ∨ (opD { goal := 4, ramp := false, next := none : OpStep }).pmbusUp = true) ∧
    ((opD { goal := 4, ramp := false, next := none : OpStep }).opStep = some { goal := 4, ramp := false, next := none : OpStep })) ∧
  ((pm.reaches (byA 5 Half.all) 65568) ∧
    ((byA 5 Half.all).touches CLK_OP_TARGET = true) ∧
    (pm.wval (byA 5 Half.all) CLK_OP_TARGET ≤ 5) ∧
    (pm.pmbusUp = true) ∧
    (pm.opStep = none) ∧
    (pm.rd CLK_OP_CUR < pm.wval (byA 5 Half.all) CLK_OP_TARGET)) ∧
  (((at_ pm [(CLK_OP_CUR, 5)]).reaches (byA 0 Half.all) 65568) ∧
    ((byA 0 Half.all).touches CLK_OP_TARGET = true) ∧
    ((at_ pm [(CLK_OP_CUR, 5)]).wval (byA 0 Half.all) CLK_OP_TARGET ≤ 5) ∧
    ((at_ pm [(CLK_OP_CUR, 5)]).pmbusUp = true) ∧
    ((at_ pm [(CLK_OP_CUR, 5)]).opStep = none) ∧
    ((at_ pm [(CLK_OP_CUR, 5)]).wval (byA 0 Half.all) CLK_OP_TARGET < (at_ pm [(CLK_OP_CUR, 5)]).rd CLK_OP_CUR)) ∧
  (((opD { goal := 4, ramp := false, next := none : OpStep }).opStep = some { goal := 4, ramp := false, next := none : OpStep }) ∧
    (false = false)) := by decide +kernel

theorem witness_PowerControl_2 :
  (((opD { goal := 2, ramp := true, next := none : OpStep }).opStep = some { goal := 2, ramp := true, next := none : OpStep }) ∧
    (true = true) ∧
    (2 ≤ 5) ∧
    ((opD { goal := 2, ramp := true, next := none : OpStep }).rd CLK_OP_TARGET = 2) ∧
    (2 < (opD { goal := 2, ramp := true, next := none : OpStep }).rd CLK_OP_CUR)) ∧
  (((opD { goal := 4, ramp := true, next := none : OpStep }).opStep = some { goal := 4, ramp := true, next := none : OpStep }) ∧
    (true = true) ∧
    (4 ≤ 5) ∧
    ((opD { goal := 4, ramp := true, next := none : OpStep }).rd CLK_OP_TARGET = 4) ∧
    ((opD { goal := 4, ramp := true, next := none : OpStep }).rd CLK_OP_CUR < 4)) ∧
  (((opD { goal := 4, ramp := true, next := none : OpStep }).reaches (byA 5 Half.all) 65576) ∧
    ((opD { goal := 4, ramp := true, next := none : OpStep }).on CLK_OP_BUSY = true ∨ (opD { goal := 4, ramp := true, next := none : OpStep }).on CLK_FABV_BUSY = true)) ∧
  ((pm.reaches (byA 4294967295 Half.all) 65576) ∧
    (pm.on CLK_OP_BUSY = false) ∧
    (pm.on CLK_FABV_BUSY = false) ∧
    (pm.on CLK_PMBUS_EN = true)) ∧
  ((pm.reaches (byA 42 Half.all) 65584)) ∧
  (((at_ pm [(CLK_FABV_BUSY, 1), (CLK_FABV_EFF, 39), (CLK_FABV_TARGET, 40)]).on CLK_FABV_BUSY = true) ∧
    ((at_ pm [(CLK_FABV_BUSY, 1), (CLK_FABV_EFF, 39), (CLK_FABV_TARGET, 40)]).rd CLK_FABV_EFF < 64)) := by decide +kernel

theorem witness_PowerControl_3 :
  (((at_ pm [(CLK_FABV_BUSY, 1), (CLK_FABV_EFF, 63), (CLK_FABV_TARGET, 40)]).on CLK_FABV_BUSY = true) ∧
    ((at_ pm [(CLK_FABV_BUSY, 1), (CLK_FABV_EFF, 63), (CLK_FABV_TARGET, 40)]).rd CLK_FABV_EFF < 64)) ∧
  ((168 < 169) ∧
    ((gov []).on GOV_CTL_EN = false ∨ 400 ≤ (gov []).cap)) ∧
  ((168 < 169) ∧
    ((gov []).on GOV_CTL_EN = true) ∧
    ((gov []).cap < 401) ∧
    ((gov []).rd GOV_STAT_STEP = 0) ∧
    ((gov []).rd GOV_CTL_RMMIN < (gov []).rd GOV_CTL_RMBUD) ∧
    ((gov []).rd GOV_CTL_RMBUD < 2 ^ GOV_STAT_RMEFF.width)) ∧
  (((gov [(GOV_STAT_EST, 379)]).on GOV_STAT_THERM = false) ∧
    (100 * (gov [(GOV_STAT_EST, 379)]).rd GOV_STAT_EST < 95 * (gov [(GOV_STAT_EST, 379)]).cap) ∧
    ((gov [(GOV_STAT_EST, 379)]).rd GOV_STAT_STEP = 0)) ∧
  (((gov [(GOV_STAT_EST, 379), (GOV_STAT_STEP, 1)]).on GOV_STAT_THERM = false) ∧
    (100 * (gov [(GOV_STAT_EST, 379), (GOV_STAT_STEP, 1)]).rd GOV_STAT_EST < 95 * (gov [(GOV_STAT_EST, 379), (GOV_STAT_STEP, 1)]).cap) ∧
    ((gov [(GOV_STAT_EST, 379), (GOV_STAT_STEP, 1)]).rd GOV_STAT_STEP = 1)) ∧
  (((gov [(GOV_STAT_EST, 379), (GOV_STAT_STEP, 3)]).on GOV_STAT_THERM = false) ∧
    (100 * (gov [(GOV_STAT_EST, 379), (GOV_STAT_STEP, 3)]).rd GOV_STAT_EST < 95 * (gov [(GOV_STAT_EST, 379), (GOV_STAT_STEP, 3)]).cap) ∧
    ((gov [(GOV_STAT_EST, 379), (GOV_STAT_STEP, 3)]).rd GOV_STAT_STEP = 3)) := by decide +kernel

theorem witness_PowerControl_4 :
  (((gov [(GOV_STAT_EST, 380)]).on GOV_STAT_THERM = true ∨ 95 * (gov [(GOV_STAT_EST, 380)]).cap ≤ 100 * (gov [(GOV_STAT_EST, 380)]).rd GOV_STAT_EST)) := by decide +kernel

theorem witness_RestAndWake_1 :
  ((rung.reaches (restW false) 65696) ∧
    ((restW false).one CLK_REST_ENTER = true) ∧
    ((restW false).one CLK_REST_WAKE = false) ∧
    ((rung.takeW1c (restW false) CLK_REST_REJ).restRefusal = some 0)) ∧
  ((up.reaches (restW false) 65696) ∧
    ((restW false).one CLK_REST_ENTER = true) ∧
    ((restW false).one CLK_REST_WAKE = false) ∧
    ((up.takeW1c (restW false) CLK_REST_REJ).restRefusal = none)) ∧
  ((rest1.rd CLK_REST_STATE = 1) ∧
    (∀ x ∈ rest1.ensembles, x.2.phase = 3) ∧
    (rest1.on CLK_PMBUS_EN = false) ∧
    (rest1.on CLK_STAT_COAST = false) ∧
    (rest1.wakePend = none) ∧
    (rest1.on TB_WAKE_EN = false)) ∧
  (((rest2 []).reaches (restW true) 65696) ∧
    ((restW true).one CLK_REST_ENTER = false) ∧
    ((restW true).one CLK_REST_WAKE = true) ∧
    ((rest2 []).rd CLK_REST_STATE = 2)) ∧
  (((rest2 [(TB_WAKE_EN, 1)]).on TB_WAKE_EN = true) ∧
    ((rest2 [(TB_WAKE_EN, 1)]).rd CLK_REST_STATE = 2) ∧
    ((rest2 [(TB_WAKE_EN, 1)]).rd TB_WAKE_SEC * 1000000000 + (rest2 [(TB_WAKE_EN, 1)]).rd TB_WAKE_NS ≤ (rest2 [(TB_WAKE_EN, 1)]).nowNs)) ∧
  (((rest2 [(TB_WAKE_EN, 1), (TB_WAKE_NS, 1)]).on TB_WAKE_EN = true) ∧
    ((rest2 [(TB_WAKE_EN, 1), (TB_WAKE_NS, 1)]).rd CLK_REST_STATE = 2) ∧
    ((rest2 [(TB_WAKE_EN, 1), (TB_WAKE_NS, 1)]).nowNs < (rest2 [(TB_WAKE_EN, 1), (TB_WAKE_NS, 1)]).rd TB_WAKE_SEC * 1000000000 + (rest2 [(TB_WAKE_EN, 1), (TB_WAKE_NS, 1)]).rd TB_WAKE_NS)) := by decide +kernel

theorem witness_RestAndWake_2 :
  (((rest2 [(GPIO_WAKE_PINS, 2 ^ 47)]).rd CLK_REST_STATE = 2) ∧
    ((rest2 [(GPIO_WAKE_PINS, 2 ^ 47)]).bit GPIO_WAKE_PINS 47 = true) ∧
    ((rest2 [(GPIO_WAKE_PINS, 2 ^ 47)]).bit GPIO_OE_PINS 47 = false) ∧
    ((rest2 [(GPIO_WAKE_PINS, 2 ^ 47)]).pinOwner 47 = 0)) ∧
  ((rest3.rd CLK_REST_STATE = 3) ∧
    (rest3.on CLK_STAT_COAST = false) ∧
    (rest3.on CLK_PMBUS_EN = false) ∧
    (rest3.bankWait = []) ∧
    (rest3.recWait = []) ∧
    (rest3.ensembles = []) ∧
    (rest3.lanesHeld = [])) := by decide +kernel

theorem witness_TimebaseRules_1 :
  (((at_ up [(TB_CTL_PPS_EN, 1), (TB_SET_NS, 999999999)]).reaches tbW 4325376) ∧
    (tbW.one TB_CTL_SET = true) ∧
    ((at_ up [(TB_CTL_PPS_EN, 1), (TB_SET_NS, 999999999)]).on TB_CTL_PPS_EN = true)) ∧
  (((at_ up [(TB_CTL_PPS_EN, 1), (TB_SET_NS, 1000000000)]).reaches tbW 4325376) ∧
    (tbW.one TB_CTL_SET = true) ∧
    ((at_ up [(TB_CTL_PPS_EN, 1), (TB_SET_NS, 1000000000)]).on TB_CTL_PPS_EN = true)) ∧
  (((tmD { load := true : TimeSt } [(TB_SET_SEC, 2 ^ 32 - 1), (TB_SET_NS, 999999999)]).time.load = true) ∧
    ((tmD { load := true : TimeSt } [(TB_SET_SEC, 2 ^ 32 - 1), (TB_SET_NS, 999999999)]).time.run = true) ∧
    ((tmD { load := true : TimeSt } [(TB_SET_SEC, 2 ^ 32 - 1), (TB_SET_NS, 999999999)]).runningCmds = []) ∧
    ((tmD { load := true : TimeSt } [(TB_SET_SEC, 2 ^ 32 - 1), (TB_SET_NS, 999999999)]).on TB_WAKE_EN = false)) ∧
  (((tmD { : TimeSt } []).access (Src.host Port.b) 4325392 false = Access.ok)) ∧
  (((ppD [] { ns := 5, lastPps := some 1 : TimeSt }).on TB_CTL_PPS_EN = true) ∧
    ((ppD [] { ns := 5, lastPps := some 1 : TimeSt }).pinOwner 40 = 6) ∧
    ((ppD [] { ns := 5, lastPps := some 1 : TimeSt }).time.run = true) ∧
    ((ppD [] { ns := 5, lastPps := some 1 : TimeSt }).ppsValid = false)) ∧
  (((ppD [] { sec := 2 ^ 32 - 1, ns := 999999999 : TimeSt }).on TB_CTL_PPS_EN = true) ∧
    ((ppD [] { sec := 2 ^ 32 - 1, ns := 999999999 : TimeSt }).pinOwner 40 = 6) ∧
    ((ppD [] { sec := 2 ^ 32 - 1, ns := 999999999 : TimeSt }).time.run = true) ∧
    ((ppD [] { sec := 2 ^ 32 - 1, ns := 999999999 : TimeSt }).ppsValid = true) ∧
    ((ppD [] { sec := 2 ^ 32 - 1, ns := 999999999 : TimeSt }).on TB_CTL_MODE = false) ∧
    ((ppD [] { sec := 2 ^ 32 - 1, ns := 999999999 : TimeSt }).runningCmds = []) ∧
    ((ppD [] { sec := 2 ^ 32 - 1, ns := 999999999 : TimeSt }).on TB_WAKE_EN = false) ∧
    ((ppD [] { sec := 2 ^ 32 - 1, ns := 999999999 : TimeSt }).time.ns < 1000000000)) := by decide +kernel

theorem witness_TimebaseRules_2 :
  (((ppD [] { sec := 7, ns := 500000000 : TimeSt }).on TB_CTL_PPS_EN = true) ∧
    ((ppD [] { sec := 7, ns := 500000000 : TimeSt }).pinOwner 40 = 6) ∧
    ((ppD [] { sec := 7, ns := 500000000 : TimeSt }).time.run = true) ∧
    ((ppD [] { sec := 7, ns := 500000000 : TimeSt }).ppsValid = true) ∧
    ((ppD [] { sec := 7, ns := 500000000 : TimeSt }).on TB_CTL_MODE = false) ∧
    ((ppD [] { sec := 7, ns := 500000000 : TimeSt }).runningCmds = []) ∧
    ((ppD [] { sec := 7, ns := 500000000 : TimeSt }).on TB_WAKE_EN = false) ∧
    ((ppD [] { sec := 7, ns := 500000000 : TimeSt }).time.ns < 1000000000)) ∧
  (((ppD [] { sec := 7, ns := 499999999 : TimeSt }).on TB_CTL_PPS_EN = true) ∧
    ((ppD [] { sec := 7, ns := 499999999 : TimeSt }).pinOwner 40 = 6) ∧
    ((ppD [] { sec := 7, ns := 499999999 : TimeSt }).time.run = true) ∧
    ((ppD [] { sec := 7, ns := 499999999 : TimeSt }).ppsValid = true) ∧
    ((ppD [] { sec := 7, ns := 499999999 : TimeSt }).on TB_CTL_MODE = false) ∧
    ((ppD [] { sec := 7, ns := 499999999 : TimeSt }).runningCmds = []) ∧
    ((ppD [] { sec := 7, ns := 499999999 : TimeSt }).on TB_WAKE_EN = false) ∧
    ((ppD [] { sec := 7, ns := 499999999 : TimeSt }).time.ns < 1000000000)) ∧
  (((ppD [] { sec := 7, ns := 100 : TimeSt }).on TB_CTL_PPS_EN = true) ∧
    ((ppD [] { sec := 7, ns := 100 : TimeSt }).pinOwner 40 = 6) ∧
    ((ppD [] { sec := 7, ns := 100 : TimeSt }).time.run = true) ∧
    ((ppD [] { sec := 7, ns := 100 : TimeSt }).ppsValid = true) ∧
    ((ppD [] { sec := 7, ns := 100 : TimeSt }).on TB_CTL_MODE = false) ∧
    ((ppD [] { sec := 7, ns := 100 : TimeSt }).runningCmds = []) ∧
    ((ppD [] { sec := 7, ns := 100 : TimeSt }).on TB_WAKE_EN = false) ∧
    ((ppD [] { sec := 7, ns := 100 : TimeSt }).time.ns < 1000000000)) ∧
  (((ppD [] { sec := 7, ns := 101 : TimeSt }).on TB_CTL_PPS_EN = true) ∧
    ((ppD [] { sec := 7, ns := 101 : TimeSt }).pinOwner 40 = 6) ∧
    ((ppD [] { sec := 7, ns := 101 : TimeSt }).time.run = true) ∧
    ((ppD [] { sec := 7, ns := 101 : TimeSt }).ppsValid = true) ∧
    ((ppD [] { sec := 7, ns := 101 : TimeSt }).on TB_CTL_MODE = false) ∧
    ((ppD [] { sec := 7, ns := 101 : TimeSt }).runningCmds = []) ∧
    ((ppD [] { sec := 7, ns := 101 : TimeSt }).on TB_WAKE_EN = false) ∧
    ((ppD [] { sec := 7, ns := 101 : TimeSt }).time.ns < 1000000000)) ∧
  (((ppD [] { sec := 2, ns := 100000000, lastPps := some 1000000000 : TimeSt }).on TB_CTL_PPS_EN = true) ∧
    ((ppD [] { sec := 2, ns := 100000000, lastPps := some 1000000000 : TimeSt }).on TB_STAT_HOLDOVER = false) ∧
    ((ppD [] { sec := 2, ns := 100000000, lastPps := some 1000000000 : TimeSt }).time.run = true) ∧
    ((ppD [] { sec := 2, ns := 100000000, lastPps := some 1000000000 : TimeSt }).time.lastPps = some 1000000000) ∧
    (1100000000 ≤ (ppD [] { sec := 2, ns := 100000000, lastPps := some 1000000000 : TimeSt }).since 1000000000)) ∧
  (((ppD [] { sec := 2, ns := 99999999, lastPps := some 1000000000 : TimeSt }).on TB_CTL_PPS_EN = true) ∧
    ((ppD [] { sec := 2, ns := 99999999, lastPps := some 1000000000 : TimeSt }).on TB_STAT_HOLDOVER = false) ∧
    ((ppD [] { sec := 2, ns := 99999999, lastPps := some 1000000000 : TimeSt }).time.run = true) ∧
    ((ppD [] { sec := 2, ns := 99999999, lastPps := some 1000000000 : TimeSt }).time.lastPps = some 1000000000) ∧
    ((ppD [] { sec := 2, ns := 99999999, lastPps := some 1000000000 : TimeSt }).since 1000000000 < 1100000000)) := by decide +kernel

theorem witness_Pins_1 :
  (((evD 0 0).eventPin 7 = true) ∧
    ((evD 0 0).on (SVC_EVCFG_DIR 7) = false) ∧
    (9 ≤ (evD 0 0).rd RESET_STAT_PHASE)) ∧
  (((evD 1 1).eventPin 7 = true) ∧
    ((evD 1 1).evPulses.get 7 0 = 0 + 1)) ∧
  (((at_ up [(SVC_XFER_BUSY, 1)]).reaches (svW 0) 197384) ∧
    ((svW 0).one SVC_XFER_GO = true) ∧
    ((at_ up [(SVC_XFER_BUSY, 1)]).on SVC_XFER_BUSY = true ∨ (at_ up [(SVC_XFER_BUSY, 1)]).perEnabled ((at_ up [(SVC_XFER_BUSY, 1)]).wval (svW 0) SVC_XFER_PER) = false)) ∧
  ((up.reaches (svW 1) 197384) ∧
    ((svW 1).one SVC_XFER_GO = true) ∧
    (up.on SVC_XFER_BUSY = true ∨ up.perEnabled (up.wval (svW 1) SVC_XFER_PER) = false)) ∧
  (((at_ up [(PIN_FUNC_I2C1, 1), (PIN_FUNC_SPI, 1), (PIN_FUNC_UART, 1)]).reaches (svW 0) 197384) ∧
    ((svW 0).one SVC_XFER_GO = true) ∧
    ((at_ up [(PIN_FUNC_I2C1, 1), (PIN_FUNC_SPI, 1), (PIN_FUNC_UART, 1)]).on SVC_XFER_BUSY = false) ∧
    ((at_ up [(PIN_FUNC_I2C1, 1), (PIN_FUNC_SPI, 1), (PIN_FUNC_UART, 1)]).perEnabled ((at_ up [(PIN_FUNC_I2C1, 1), (PIN_FUNC_SPI, 1), (PIN_FUNC_UART, 1)]).wval (svW 0) SVC_XFER_PER) = true)) ∧
  (((at_ up [(PIN_FUNC_I2C1, 1), (PIN_FUNC_SPI, 1), (PIN_FUNC_UART, 1)]).reaches (svW 1) 197384) ∧
    ((svW 1).one SVC_XFER_GO = true) ∧
    ((at_ up [(PIN_FUNC_I2C1, 1), (PIN_FUNC_SPI, 1), (PIN_FUNC_UART, 1)]).on SVC_XFER_BUSY = false) ∧
    ((at_ up [(PIN_FUNC_I2C1, 1), (PIN_FUNC_SPI, 1), (PIN_FUNC_UART, 1)]).perEnabled ((at_ up [(PIN_FUNC_I2C1, 1), (PIN_FUNC_SPI, 1), (PIN_FUNC_UART, 1)]).wval (svW 1) SVC_XFER_PER) = true)) := by decide +kernel

theorem witness_Pins_2 :
  (((at_ up [(SVC_XFER_BUSY, 1), (SVC_XFER_RLEN, 8)]).on SVC_XFER_BUSY = true) ∧
    ((at_ up [(SVC_XFER_BUSY, 1), (SVC_XFER_RLEN, 8)]).rd SVC_XFER_PER ≠ 2) ∧
    ((at_ up [(SVC_XFER_BUSY, 1), (SVC_XFER_RLEN, 8)]).rd SVC_XFER_RLEN = 8) ∧
    ([1, 2, 3, 4, 5, 6, 7, 8].length = 8)) ∧
  (((at_ up [(TB_CTL_PPS_EN, 1)]).owners.get 40 0 ≠ (at_ up [(TB_CTL_PPS_EN, 1)]).pinDriver 40) ∧
    ((at_ up [(TB_CTL_PPS_EN, 1)]).handovers.find 40 = none) ∧
    ((at_ up [(TB_CTL_PPS_EN, 1)]).tap ≠ 2)) ∧
  ((hand47.handovers.find 47 = some { level := false, out := some true, oe := some true : Handover })) ∧
  (((at_ up [(SVC_CFG_ANALOG 39, 1), (SVC_CFG_ANALOG 32, 1)]).pinOwner (32 + 7) = 7) ∧
    (1200000 ≤ 1200000)) ∧
  (((at_ up [(SVC_CFG_ANALOG 39, 1), (SVC_CFG_ANALOG 32, 1)]).pinOwner (32 + 0) = 7) ∧
    (0 ≤ 1200000)) ∧
  (((uaD 63).on PIN_FUNC_UART = true) ∧
    ((uaD 63).pinServes 10 2 = true) ∧
    ((uaD 63).uart.length < 64)) := by decide +kernel

theorem witness_Pins_3 :
  (((uaD 64).on PIN_FUNC_UART = true) ∧
    ((uaD 64).pinServes 10 2 = true) ∧
    (64 ≤ (uaD 64).uart.length)) ∧
  ((up.ioRuns 383 = false)) ∧
  ((ioT.ioRuns 383 = true) ∧
    ((smp false).fault = false) ∧
    ((ioT.pumpCell 383).rd (IOCELL_DIR 383) = 1) ∧
    (((ioT.pumpCell 383).ioAt 383).tx0 = [true, false])) ∧
  ((ioT.ioRuns 383 = true) ∧
    ((smp true).fault = false) ∧
    ((ioT.pumpCell 383).rd (IOCELL_DIR 383) = 1) ∧
    (((ioT.pumpCell 383).ioAt 383).tx0 = [true, false])) ∧
  (((ioD [(IOCELL_DIR 383, 1)] { : IoSt }).ioRuns 383 = true) ∧
    ((smp false).fault = false) ∧
    (((ioD [(IOCELL_DIR 383, 1)] { : IoSt }).pumpCell 383).rd (IOCELL_DIR 383) = 1) ∧
    ((((ioD [(IOCELL_DIR 383, 1)] { : IoSt }).pumpCell 383).ioAt 383).tx0 = [])) ∧
  (((ioD [] { rx0 := [true, false, true] : IoSt }).ioRuns 383 = true) ∧
    ((smp true).fault = false) ∧
    (((ioD [] { rx0 := [true, false, true] : IoSt }).pumpCell 383).rd (IOCELL_DIR 383) = 0)) := by decide +kernel

theorem witness_Pins_4 :
  (((ioD [] { rx0 := [true, false, true, true] : IoSt }).ioRuns 383 = true) ∧
    ((smp true).fault = false) ∧
    (((ioD [] { rx0 := [true, false, true, true] : IoSt }).pumpCell 383).rd (IOCELL_DIR 383) = 0)) ∧
  (((ioD [(IOCELL_DIR 383, 1)] { : IoSt }).ioRuns 383 = true) ∧
    ((ioD [(IOCELL_DIR 383, 1)] { : IoSt }).rd (IOCELL_DIR 383) = 1) ∧
    (((ioD [(IOCELL_DIR 383, 1)] { : IoSt }).ioAt 383).tx0 = [])) ∧
  (((ioD [] { rx0 := [true, false, true, true] : IoSt }).ioRuns 383 = true) ∧
    ((ioD [] { rx0 := [true, false, true, true] : IoSt }).rd (IOCELL_DIR 383) = 0) ∧
    (4 ≤ (ioD [] { rx0 := [true, false, true, true] : IoSt }).rxHeld 383 false)) ∧
  ((calD.time.run = true) ∧
    (calD.on (IOBANK_CAL_EN 11) = true) ∧
    (383 / 32 = 11)) := by decide +kernel

theorem witness_StartUp :
  (({ : Dev }.rd RESET_STAT_PHASE = 0)) ∧
  ((up.rd RESET_STAT_PHASE ≠ 0)) ∧
  ((nvRead.rd RESET_STAT_PHASE = 5) ∧
    (nvRead.nvGens = []) ∧
    (nvRead.lcTarget = none)) ∧
  (((at_ { : Dev } [(RESET_STAT_PHASE, 7)]).rd RESET_STAT_PHASE = 7)) ∧
  (((at_ { : Dev } [(RESET_STAT_PHASE, 8)]).rd RESET_STAT_PHASE = 8)) := by decide +kernel

theorem witness_Resets_1 :
  ((99 < 100)) ∧
  ((1000 ≤ 1000)) ∧
  ((up.reaches (rstW 165) 131072) ∧
    ((rstW 165).one RESET_CTL_WARM = true) ∧
    ((rstW 165).ones RESET_CTL_KEY = 165)) ∧
  ((up.reaches (rstW 164) 131072) ∧
    ((rstW 164).one RESET_CTL_WARM = true) ∧
    ((rstW 164).ones RESET_CTL_KEY ≠ 165)) ∧
  ((3 < 4) ∧
    (bareK.rd RESET_STAT_PHASE = 9) ∧
    (bareK.held = false) ∧
    (bareK.shadowing = false) ∧
    (bareK.load = none) ∧
    (bareK.buffers = []) ∧
    (bareK.groups = []) ∧
    (bareK.barriers = []) ∧
    (bareK.queues = []) ∧
    (bareK.bankWait = []) ∧
    (bareK.storeOpen = true) ∧
    (∀ (n : Fin 64), bareK.on (PEG_STAT_HELD ↑n) = false) ∧
    ((List.all bareK.kernels fun x => x.2.ready && x.2.run.isNone) = true)) ∧
  ((warmD.resetWarm = true) ∧
    (warmD.storeOpen = false) ∧
    (warmD.bankWait = []) ∧
    (warmD.recWait = []) ∧
    (warmD.resetWait = []) ∧
    (warmD.topWait = []) ∧
    (warmD.queues = []) ∧
    (warmD.lostJournals = []) ∧
    ((warmD.port Port.a).held = []) ∧
    ((warmD.port Port.b).held = [])) := by decide +kernel

theorem witness_Resets_2 :
  ((up.reaches (dieW 166 2) 131088) ∧
    ((dieW 166 2).one RESET_DIE_GO = true) ∧
    ((dieW 166 2).ones RESET_DIE_KEY ≠ 165)) ∧
  ((up.reaches (dieW 165 2) 131088) ∧
    ((dieW 165 2).one RESET_DIE_GO = true) ∧
    ((dieW 165 2).ones RESET_DIE_KEY = 165) ∧
    ((dieW 165 2).ones RESET_DIE_DIE = 2) ∧
    (up.load = none) ∧
    (up.resetWarm = false) ∧
    (2 ∉ up.dieResets)) ∧
  ((4 ≤ (at_ { : Dev } [(RESET_STAT_PHASE, 4)]).rd RESET_STAT_PHASE) ∧
    ((at_ { : Dev } [(RESET_STAT_PHASE, 4)]).load = none) ∧
    ((at_ { : Dev } [(RESET_STAT_PHASE, 4)]).resetWarm = false) ∧
    (2 ∉ (at_ { : Dev } [(RESET_STAT_PHASE, 4)]).dieResets)) ∧
  ((die2.dieResets = [2])) := by decide +kernel

theorem witness_MemoryStaysCanonical : Memory.wf ({} : Dev).mem = true ∧ step ⟨[], {}⟩ = .next ⟨[], {}⟩ := ⟨rfl, rfl⟩

theorem witness_Events :
  ((31 < CFG_STAT_SKIP.width) ∧
    (false = false) ∧
    (∀ f ∈ [ERR_ALARM_CCOUNT, ERR_ALARM_PEND, ERR_STAT_DROPPED, dropField EvClass.crimson, ERR_CTL_EN], f.key ≠ CFG_STAT_SKIP.key)) ∧
  ((31 < CFG_STAT_SKIP.width) ∧
    (false = false) ∧
    (∀ f ∈ [ERR_ALARM_CCOUNT, ERR_ALARM_PEND, ERR_STAT_DROPPED, dropField EvClass.slate, ERR_CTL_EN], f.key ≠ CFG_STAT_SKIP.key)) ∧
  ((30 < CFG_STAT_SKIP.width) ∧
    (false = false) ∧
    (∀ f ∈ [ERR_ALARM_CCOUNT, ERR_ALARM_PEND, ERR_STAT_DROPPED, dropField EvClass.ochre, ERR_CTL_EN], f.key ≠ CFG_STAT_SKIP.key)) := by decide +kernel

theorem witness_StoreWords :
  ((2 ^ 23 - 1 < 2 ^ 23) ∧
    (wb.length = 32) ∧
    (one.on STORE_FLIP_CTL_ARM = false)) ∧
  ((0 < 2 ^ 23) ∧
    ((List.replicate 32 0).length = 32) ∧
    (one.on STORE_FLIP_CTL_ARM = false)) ∧
  ((5 < 2 ^ 23) ∧
    (wb.length = 32) ∧
    (one.on STORE_FLIP_CTL_ARM = false) ∧
    (2 ^ 28 - 1 < 2 ^ 28) ∧
    ((2 ^ 28 - 1) / 32 ≠ 5)) ∧
  ((5 < 2 ^ 23) ∧
    (wb.length = 32) ∧
    ((one.putWord 4 wb).on STORE_FLIP_CTL_ARM = false) ∧
    (4 < 2 ^ 23) ∧
    (4 ≠ 5)) := by decide +kernel

theorem witness_CommandWordsReadBack :
  (((Cmd.tdrain 7 true 16777215 4294967280).inRange = true) ∧
    ((Cmd.tdrain 7 true 16777215 4294967280).stopPlain = true)) ∧
  (((Cmd.krotate true [{ kern := 8191, dwell := 0 : RotEntry }]).inRange = true) ∧
    ((Cmd.krotate true [{ kern := 8191, dwell := 0 : RotEntry }]).stopPlain = true)) ∧
  (((Cmd.krotate false (List.map (fun i => { kern := BitVec.ofNat 16 (4096 + i), dwell := 65535 : RotEntry }) (List.range 8))).inRange = true) ∧
    ((Cmd.krotate false (List.map (fun i => { kern := BitVec.ofNat 16 (4096 + i), dwell := 65535 : RotEntry }) (List.range 8))).stopPlain = true)) := by decide +kernel

/-! Ill-formed commands (WellFormed). -/

/-- A packet with this data and these enables. -/
def pktOf (n m : Nat) : Packet := ⟨0, 0, 0, 0, 2, 0, 0, 0, false, 0, 0, 0, 0, List.replicate n 0, List.replicate m true⟩
/-- An image with this descriptor and body. -/
def imgOf (d : Desc) (b : List ImgCmd) : Image := { img1 with desc := d, body := b }
def kdesc (n : Nat) : Desc := .kernel 1 0 true false false 0 0 0 0 0 (List.replicate n ⟨0, false, false, false, 0⟩)
def region0 : Region := ⟨0x1000, 0, 0, 0, false, 0, 0⟩

theorem test_wf_packet_flits : Instr.wf (.wr (pktOf 33 33)) = false := by decide +kernel
theorem test_wf_packet_length : Instr.wf (.cpld (pktOf 544 544)) = false := by decide +kernel
theorem test_wf_packet_enables : Instr.wf (.top (pktOf 32 31)) = false := by decide +kernel
theorem test_wf_rotate_empty : Instr.wf (.krotate 0 f0 false [] .none) = false := by decide +kernel
theorem test_wf_rotate_nine : Instr.wf (.krotate 0 f0 false (List.replicate 9 ⟨0x1000, 1⟩) .none) = false := by decide +kernel
theorem test_wf_rotate_stop : Instr.wf (.krotate 0 f0 true [⟨0x1000, 1⟩] .none) = false := by decide +kernel
theorem test_wf_accept : Instr.wf (.commandAccept 0 (List.replicate 9 0) .ok) = false := by decide +kernel
theorem test_wf_entry : Instr.wf (.placementRecordEntryRead [0, 0, 0] .ok) = false := by decide +kernel
theorem test_wf_zero_frames : Instr.wf (.fwrite true 1 [(0, 0)]) = false := by decide +kernel
theorem test_wf_frame_count : Instr.wf (.fwrite false 2 [(0, 0)]) = false := by decide +kernel
theorem test_wf_memory_words : Instr.wf (.mwrite 0 0 (List.replicate 1023 0) 0) = false := by decide +kernel
theorem test_wf_regions : Instr.wf (.cfgFullLoad (byA 0 .all) (imgOf (.full 0 (List.replicate 33 region0)) [])) = false := by decide +kernel
theorem test_wf_tiles : Instr.wf (.image 0 (imgOf (kdesc 2) []) true []) = false := by decide +kernel
theorem test_wf_body : Instr.wf (.cfgPartialLoad (byA 0 .all) (imgOf (.part region0) [.fwrite false 1 []])) = false := by decide +kernel
theorem test_wf_start_image : Instr.wf (.commandStart 0 (.image (imgOf (kdesc 3) []) [])) = false := by decide +kernel
theorem test_wf_admit_image :
    Instr.wf (.kadmit 0 f0 0x1000 0 false false false 0 0 0 (.image (imgOf (kdesc 5) []) [])) = false := by decide +kernel
theorem test_wf_record_image : Instr.wf (.imageRecord 0x1000 0 (imgOf (kdesc 0) []) [] none) = false := by decide +kernel
theorem test_wf_payload : Instr.wf (.dataFrame 0 ⟨false, 0, 0, 0, 0, List.replicate 513 0⟩ 0) = false := by decide +kernel
theorem test_wf_host_length : Instr.wf (.hostStoreAccess .a true 0 4097 [] [] false) = false := by decide +kernel
theorem test_wf_host_write : Instr.wf (.hostStoreAccess .a true 0 4 [0] [true] false) = false := by decide +kernel
theorem test_wf_host_read : Instr.wf (.hostStoreAccess .a false 0 4 [0] [] false) = false := by decide +kernel
theorem test_wf_portal_write : Instr.wf (.hostPortalAccess .a true 0 4 [] false) = false := by decide +kernel
theorem test_wf_opwin : Instr.wf (.tallyOpwinWrite (.host .a) 0 0 (List.replicate 513 0)) = false := by decide +kernel
theorem test_wf_good : Instr.wf (.image 0 (imgOf (kdesc 4) [.fwrite false 1 [(0, 0)]]) true []) = true := by decide +kernel

/-! Words of commands, written out in the worked examples of chapters 02, 03, 15 and 16. -/

theorem test_words_kadmit : decodeCmd [0x3040000000041052, 0x0000000009000000, 0x0000000000070000] =
    some (.kadmit 0x1052 0 true false false 0 0x9000000 0x70000) := by decide +kernel
theorem test_words_lbind : decodeCmd [0x4020000000021052, 0x0000000000001528] = some (.lbind 0x1052 2 false 40 2 5) := by decide +kernel
theorem test_words_rowmove : decodeCmd [0x2428000003101052, 0x0000000080000000] = some (.rowmove 0x1052 0x310 0 false 0 2048) := by
  decide +kernel
theorem test_words_tclear : decodeCmd [0x5900000000000003] = some (.tclear 3) := by decide +kernel
theorem test_words_sets : decodeCmd [0x1020000000000002, 0x20] = some (.sets 2 32) := by decide +kernel
theorem test_words_kparam : decodeCmd [0x3630000003101040, 0] = some (.kparam 0x1040 0 true false 3 0) := by decide +kernel
theorem test_words_krun : decodeCmd [0x3100000000001040] = some (.krun 0x1040) := by decide +kernel
theorem test_words_adds : decodeCmd [0x1100000000010003] = some (.adds 3 0 false 1) := by decide +kernel
theorem test_words_loop : decodeCmd [0x1200000000040002] = some (.loop 2 4) := by decide +kernel
theorem test_words_tdrain : decodeCmd [0x5A38000200000003, 0] = some (.tdrain 3 false 0x200 0) ∧
    flagsOf 0x5A38000200000003 = ⟨true, true, false, false, false⟩ := by decide +kernel
theorem test_words_mark : decodeCmd [0x0C0D000000005CA7] = some (.mark 0x5CA7) ∧
    flagsOf 0x0C0D000000005CA7 = ⟨false, true, true, false, true⟩ := by decide +kernel
theorem test_words_wait : decodeCmd [0x0A0C000000000028] = some (.wait 40) := by decide +kernel
theorem test_words_dmago : decodeCmd [0x5060000000000045, 0x0000000193000000, 0x0000100440000000, 0x0000012800008000] =
    some (.dmago 5 true 0 0x193000000 0x100440000000 32768 40 true false 0 false 0) := by decide +kernel
theorem test_words_pegtake : decodeCmd [0x6008000000000107] = some (.pegtake 7 true) := by decide +kernel
/-- R47, R72, R73: a ring of zeros, a wrong length and a reserved bit spell no command. -/
theorem test_words_invalid : decodeCmd [0] = none ∧ decodeCmd [0x0120000000000000, 0] = none ∧ decodeCmd [0x0100000000000001] = none := by
  decide +kernel

/-! Other worked examples. -/

/-- Chapter 05: with the word 0x6541 a cell adds the constant 1, with 0x6504 the constant 0; 0x43BE is the exclusive or of three. -/
theorem test_cell_words : [false, true].all (fun s => [false, true].all fun ci =>
    (let (m0, m1, x) := cellTree 0x6541 (fun _ => s)
     cellOut 1 m0 m1 x ci == (!s != ci, s || ci)) &&
    (let (m0, m1, x) := cellTree 0x6504 (fun _ => s)
     cellOut 1 m0 m1 x ci == (s != ci, s && ci)) &&
    [false, true].all fun v => (cellTree 0x43BE fun i => if i = 4 then s else if i = 5 then ci else v).2.2 == ((v != s) != ci)) = true := by
  decide +kernel

/-- Chapter 11: the hash of the key 0x267_09F7 with KBITS 27, and back. -/
theorem test_tally_hash : tallyHash 27 0x26709F7 = 0x26633EB ∧ tallyKey 27 0x26633EB = 0x26709F7 := by decide +kernel

/-- Chapter 13: words of image commands, and the physical frame of relative address 0x0100 at anchor A.8.1 and fret 2. -/
theorem test_image_words : (ImgCmd.faddr 0x100).word = 0x1000001 ∧ (ImgCmd.fwrite false 64 []).word = 0x4000000002 ∧
    (ImgCmd.mwrite 5 0 [] 0).word = 0x50006 ∧ (ImgCmd.wcfg 6 0).word = 0x60004 ∧ (ImgCmd.endImage).word = 0xF ∧
    (kdesc 4).target 2 0x41 0x100 = some 0x4920 := by decide +kernel

/-- Chapter 18: corrected reads of one bank at 0, 9, 30, 38 and 47 s: their records (PHASE is set when they are written), and the
retirement at the fourth count. -/
def weakBank : Dev := [0, 9, 30, 38, 47].foldl
  (fun d t => ({ d with time := { d.time with sec := t } } : Dev).storeReport (80 * 8192 + 112 * 16 + 6) 0 17) (at_ up [(ERR_CTL_EN, 1)])

theorem test_weak_bank : weakBank.errq.map (fun r => (r.w0, r.w1, r.w2)) =
    [(0x0000000624000101, 0x0000000100005002, 0x001100000140E0C0), (0x0000000624000101, 0x0000000200005002, 0x001100000140E0C0),
     (0x0000000624000101, 0x0000000200005002, 0x001100000140E0C0), (0x0000000624000101, 0x0000000300005002, 0x001100000140E0C0),
     (0x0000000624000101, 0x0000000400005002, 0x001100000140E0C0), (0x0000000167800402, 0x0000000400005002, 0)] ∧
    bitsOf (weakBank.readReg 0xA0028) 21 11 = 1023 := by decide +kernel

/-- Chapter 15: port B takes peg 7, its reset releases it, and port A's waiting take gets it: PEG7_STAT reads 0x2_000D. -/
def pegSeven : Dev := (((up.takePeg 7 .b).2).releasePegs .b).takePeg 7 .a |>.2

theorem test_peg_seven : pegSeven.readReg (0x40000 + 7 * 0x20 + 0x10) = 0x2000D := by decide +kernel

/-- R264, R266: the check symbols of a good word are the computed ones; the poison word is poison; one wrong symbol is corrected. -/
theorem test_word_codes : decodeWord (List.replicate 32 7) [0, 0, 0] = .good (List.replicate 32 7) ∧
    decodeWord (List.replicate 32 0) [0x5D, 0xA2, 0x3B] = .poison ∧
    decodeWord (List.replicate 32 0) [0x5D, 0xA2, 0] = .lost := by decide +kernel

/-- R380: PRBS7 repeats after 127 bits and not before; a checker in loopback locks after its seed and 64 bits, and an inverted bit is one error. -/
theorem test_prbs7 : (List.range 127).map (fun n => (List.range (n + 1)).foldl (fun r _ => prbsShift 0 r (prbsNext 0 r)) 1 == 1) =
    List.replicate 126 false ++ [true] := by decide +kernel
theorem test_prbs_loop :
    let a := ({ gen := 1, time := 70 * 25 } : PrbsSt).fill 0 25 true 200 0
    let b := ({ a.1 with time := 25 } : PrbsSt).fill 0 25 true 200 0
    let c := ({ b.1 with time := 100 * 25, flip := true } : PrbsSt).fill 0 25 true 200 0
    (a.1.good, a.2, b.1.good, b.2, c.2) = (63, 0, 64, 0, 1) := by decide +kernel

/-! Reset. -/

theorem test_reset_queue : State.reset.pending = [] ∧ step State.reset = .next State.reset := ⟨rfl, rfl⟩
theorem test_reset_fields : State.reset.dev.rd CLK_FABV_EFF = 0x28 ∧ State.reset.dev.rd GOV_CTL_RMBUD = 120 := by decide +kernel
theorem test_reset_store : Memory.wf State.reset.dev.mem = true ∧ State.reset.dev.findWord 0 = .poison := by decide +kernel

/-! One step each on a queue that takes its command at once. -/

theorem test_step_mark : (match step ⟨[.mark 0 f0 0x5CA7], rung⟩ with
    | .next t => t.pending == [] && (t.dev.rd (QU_ACCEPT_SEQ_SEQ 0) == 1) && ((t.dev.journal 0).map fun e => (e.status == .ok, e.result)) == [(true, 0x5CA7)]
    | _ => false) = true := by decide +kernel
theorem test_step_adds_wraps : (match step ⟨[.adds 0 f0 14 14 true 0xFFFFFFFF], at_ rung [(QU_S_VALUE 0 14, 0)]⟩ with
    | .next t => t.dev.rd (QU_S_VALUE 0 14) == 2 ^ 64 - 1
    | _ => false) = true := by decide +kernel
theorem test_step_doorbell_refused : (match step ⟨[.quDoorbellWrite 0 (byA 65537 .all)], rung⟩ with
    | .next t => t.dev.rd (QU_STAT_DBERR 0) == 1 && t.dev.rd (QU_DOORBELL_TAIL 0) == 64
    | _ => false) = true := by decide +kernel

/-- The wrapped key in `hp` unwraps under a key of zeros. -/
theorem test_unwrap : (keyUnwrap (aesSchedule (List.replicate 32 0)) (toNats (hp.take 40))).2 = true := by decide +kernel

/-- Slot 0 holds that key: a HELLO's key is good, as the witnesses of Pairing need. -/
theorem test_hello_key (role : Nat) (h : (keyed (pairD 1 role capN)).rd TWIN_CTL_KEYSLOT = 0) (f : (keyed (pairD 1 role capN)).filled 0 = true) :
    ((keyed (pairD 1 role capN)).helloKey hp).2 = true := by
  have k : (keyed (pairD 1 role capN)).keyBytes 0 = List.replicate 32 0 := by rfl
  have n : decide (40 ≤ hp.length) = true := by rfl
  simp only [Dev.helloKey, h, k, f, n, test_unwrap, Bool.and_self]

theorem test_hello_witness : ((keyed (pairD 1 0 capN)).helloKey hp).2 = true ∧ ((keyed (pairD 1 1 capN)).helloKey hp).2 = true :=
  ⟨test_hello_key 0 (by decide +kernel) (by decide +kernel), test_hello_key 1 (by decide +kernel) (by decide +kernel)⟩

end Sys2Proof.Tests
end

section
/-!
The start-up state (R9, R266, R548): what a device lists nothing for, it reads as reset, as zeros or as poison.
-/
namespace Sys2Proof.Machine

/-- An unlisted field holds its reset value. -/
theorem Dev.rd_of_regs_nil {d : Dev} (h : d.regs = []) (f : Field) : d.rd f = f.reset := by
  rw [Dev.rd, h]; rfl

@[simp] theorem memGet_nil (a : Nat) : memGet [] a = memDefault a := rfl

theorem memDefault_data {a : Nat} (h : a < residueBase) : memDefault a = 0 := if_pos h

/-- The residues of word w lie at multiples of 4 above the store's bytes. -/
theorem memDefault_residue (w i : Nat) (hi : i < 4) : memDefault (residueBase + 4 * w + i) = poisonRes.getD i 0 := by
  have hup : ¬ residueBase + 4 * w + i < residueBase := by omega
  have hpos : (residueBase + 4 * w + i - residueBase) % 4 = i := by omega
  rw [memDefault, if_neg hup, hpos]

theorem Dev.wordData_of_mem_nil {d : Dev} (h : d.mem = []) {w : Nat} (hw : w < 2 ^ 23) :
    d.wordData w = List.replicate 32 0 := by
  refine List.eq_replicate_iff.mpr ⟨by simp [Dev.wordData, memGetList], fun b hb => ?_⟩
  obtain ⟨i, hi, rfl⟩ : ∃ i < 32, memGet [] (32 * w + i) = b := by
    simpa [Dev.wordData, memGetList, h] using hb
  exact memDefault_data (by unfold residueBase; omega)

theorem Dev.wordRes_of_mem_nil {d : Dev} (h : d.mem = []) (w : Nat) : d.wordRes w = poisonRes := by
  have hres : d.wordRes w = (List.range 3).map fun i => poisonRes.getD i 0 := by
    rw [Dev.wordRes, memGetList, h]
    refine List.map_congr_left fun i hi => ?_
    exact memDefault_residue w i (by have := List.mem_range.mp hi; omega)
  exact hres

/-- A word of a store that lists nothing is the poison word (R266). -/
theorem Dev.findWord_of_mem_nil {d : Dev} (h : d.mem = []) {w : Nat} (hw : w < 2 ^ 23) : d.findWord w = .poison := by
  rw [Dev.findWord, Dev.wordData_of_mem_nil h hw, Dev.wordRes_of_mem_nil h]
  rfl

/-- After a cold reset a field holds its reset value (R9). -/
theorem State.rd_reset (f : Field) : State.reset.dev.rd f = f.reset := Dev.rd_of_regs_nil rfl f

/-- Settles O57: the reset device lists nothing, so its fields are as reset and its words are poison. -/
theorem resetState : Obligations.ResetState := by
  have hphase : State.reset.dev.running = false := by
    simp [Dev.running, State.rd_reset, RESET_STAT_PHASE]
  refine ⟨rfl, Memory.wf_nil, State.rd_reset, rfl, rfl, rfl, rfl, rfl, rfl, hphase,
    fun w hw => Dev.findWord_of_mem_nil rfl hw, ?_⟩
  rw [List.map_congr_left fun f _ => State.rd_reset f]
  rfl

end Sys2Proof.Machine
end

section
/-!
Register writes by offset (R5, R29, R559): the write an access makes, where it goes on, and what a refused one leaves.
-/
namespace Sys2Proof.Machine

/-- The write that an access makes comes from the access's source. -/
theorem regWrOf_src {src : Src} {off size : Nat} {data : Word} {w : RegWr} (h : regWrOf src off size data = some w) :
    w.src = src := by
  unfold regWrOf at h
  split at h
  · split at h <;> cases h <;> rfl
  · split at h
    · cases h; rfl
    · cases h

/-- A write outside the MSI-X range and outside every queue's own range reaches its register (R559). -/
theorem Dev.writeServed_free {d : Dev} {off : Nat} {w : RegWr} (hm : ¬ (0xFE0000 ≤ off ∧ off < 0xFE2000))
    (ho : ownRange off = none) : d.writeServed off w = d.writeReg off w false := by
  rw [Dev.writeServed, if_neg hm, ho]

/-- A write in a queue's own range reaches its register from the owning port, and else sets NOTOWN (R29). -/
theorem Dev.writeServed_own {d : Dev} {off q : Nat} {w : RegWr} (hm : ¬ (0xFE0000 ≤ off ∧ off < 0xFE2000))
    (ho : ownRange off = some q) : d.writeServed off w =
      if writePort w.src = d.queuePort q then d.writeReg off w false else d.wr (QU_STAT_NOTOWN q) 1 := by
  rw [Dev.writeServed, if_neg hm, ho]; rfl

section
variable {d t : Dev} {src : Src} {off size : Nat} {data : Word} (i : Instr)

/-- An access that is served, to a place that any source may write: it ends as its size and alignment say (R5). -/
theorem Dev.regWrite_ok (ha : d.access src off true = .ok) (hw : inOpwin off = false) (hh : hostOnly (off / 8 * 8) = false) :
    d.regWrite src off size data =
      (regWrOf src off size data).elim (.busError, d) fun w => (.ok, d.writeServed (off / 8 * 8) w) := by
  simp only [Dev.regWrite, ha, hw, hh, Bool.false_and, Bool.or_self, Bool.false_eq_true, if_false]
  cases regWrOf src off size data <;> rfl

/-- REGISTER_WRITE whose data is not poisoned (R391): an access that ends well leaves its effect. -/
theorem Dev.registerWrite_ok (h : d.regWrite src off size data = (.ok, t)) :
    d.registerWrite i src off size data false = t := by
  cases src <;> simp [Dev.registerWrite, h]

/-- REGISTER_WRITE whose data is not poisoned (R391): an access that ends with a bus error leaves the mark of a refused write. -/
theorem Dev.registerWrite_busError (h : d.regWrite src off size data = (.busError, t)) :
    d.registerWrite i src off size data false = t.refuseWrite src off .busError := by
  cases src <;> simp [Dev.registerWrite, h]
end

/-- A bus error on a host's write is logged at its port (R391). -/
theorem Dev.refuseWrite_host_busError (d : Dev) (p : Port) (off : Nat) :
    d.refuseWrite (.host p) off .busError = d.portEvent p (PORT_ERR_CA p.num) (0xF000000000 + off) := rfl

/-- Settles O16, by the access's size and alignment and, for a write that is made, by the queue whose range it lies in. -/
theorem registerWrites : Obligations.RegisterWrites := by
  intro s src off size data d base hacc hwin hhost hmsix
  have hend := Dev.regWrite_ok (size := size.toNat) (data := data) hacc hwin hhost
  have hexec : exec (.registerWrite src off size data false) s =
      s.next (d.registerWrite (.registerWrite src off size data false) src off.toNat size.toNat data false) := rfl
  rw [hexec]
  refine ⟨fun w hw => ?_, fun hw => ?_⟩
  · have hsrc := regWrOf_src hw
    rw [hw] at hend
    rw [Dev.registerWrite_ok _ hend]
    refine ⟨fun ho => ?_, fun q ho hport => ?_, fun q ho hport => ?_⟩
    · rw [Dev.writeServed_free hmsix ho]
    · rw [Dev.writeServed_own hmsix ho, hsrc, if_pos hport]
    · rw [Dev.writeServed_own hmsix ho, hsrc, if_neg hport]
  · rw [hw] at hend
    rw [Dev.registerWrite_busError _ hend]
    cases src with
    | host p => rw [Dev.refuseWrite_host_busError]
    | dma p => rfl
    | portal => rfl

end Sys2Proof.Machine
end

section
/-!
Words of the store (R261 to R266): what a store and a poisoning of one protected word leave in the listing, and the decoder's
answer at that word and at every other one.
-/
namespace Sys2Proof.Machine

/-! Consecutive bytes. -/

/-- Listings that read alike on a range give the same consecutive bytes there. -/
theorem memGetList_congr {m m' : List Host.Cell} {a n : Nat} (h : ∀ x, a ≤ x → x < a + n → memGet m x = memGet m' x) :
    memGetList m a n = memGetList m' a n :=
  List.map_congr_left fun i hi => h (a + i) (by omega) (by have := List.mem_range.mp hi; omega)

/-- Consecutive bytes are a list when each of them is the list's. -/
theorem memGetList_eq {m : List Host.Cell} {a : Nat} {l : List Byte} (h : ∀ i < l.length, memGet m (a + i) = l.getD i 0) :
    memGetList m a l.length = l := by
  refine List.ext_getElem (by simp [memGetList]) fun i _ hi => ?_
  simpa [memGetList, hi] using h i hi

/-! The two places of a protected word: its data at 32 × w, its residue above the store's bytes. -/

/-- A decoder finds the same in two stores that read alike at the word's data and at its residue. -/
theorem Dev.findWord_congr {d e : Dev} {w : Nat}
    (hdata : ∀ x, 32 * w ≤ x → x < 32 * w + 32 → memGet d.mem x = memGet e.mem x)
    (hres : ∀ x, residueBase + 4 * w ≤ x → x < residueBase + 4 * w + 3 → memGet d.mem x = memGet e.mem x) :
    d.findWord w = e.findWord w := by
  have hd : d.wordData w = e.wordData w := memGetList_congr hdata
  have hr : d.wordRes w = e.wordRes w := memGetList_congr hres
  rw [Dev.findWord, Dev.findWord, hd, hr]

/-- A residue of zeros is that of a valid word (R262). -/
theorem decodeWord_valid (data : List Byte) : decodeWord data [0, 0, 0] = .good data := rfl

/-- Storing a word of 32 bytes and 3 residue bytes writes its two places and no other. -/
theorem Dev.memGet_setWord (d : Dev) (w : Nat) {data res : List Byte} (hd : data.length = 32) (hr : res.length = 3) (x : Nat) :
    memGet (d.setWord w data res).mem x =
      if residueBase + 4 * w ≤ x ∧ x < residueBase + 4 * w + 3 then res.getD (x - (residueBase + 4 * w)) 0
      else if 32 * w ≤ x ∧ x < 32 * w + 32 then data.getD (x - 32 * w) 0
      else memGet d.mem x := by
  rw [Dev.setWord, memGet_putList, memGet_putList, hd, hr]

/-- Making a word poison unlists its two places and no other (R266). -/
theorem Dev.memGet_poisonWord (d : Dev) (w x : Nat) :
    memGet (d.poisonWord w).mem x =
      if residueBase + 4 * w ≤ x ∧ x < residueBase + 4 * w + 4 then memDefault x
      else if 32 * w ≤ x ∧ x < 32 * w + 32 then memDefault x
      else memGet d.mem x := by
  rw [Dev.poisonWord, memGet_wipe, memGet_wipe]

/-! What a decoder finds after one word is stored or made poison. -/

section
variable {d : Dev} {v w : Nat} {data res : List Byte} (hw : w < 2 ^ 23) (hd : data.length = 32) (hr : res.length = 3)
include hw hd hr

/-- The data of a stored word are its bytes: its residue lies above them. -/
theorem Dev.wordData_setWord : (d.setWord w data res).wordData w = data := by
  have hbytes : memGetList (d.setWord w data res).mem (32 * w) data.length = data := memGetList_eq fun i hi => by
    rw [Dev.memGet_setWord d w hd hr, if_neg (by unfold residueBase; omega), if_pos (by omega), Nat.add_sub_cancel_left]
  rwa [hd] at hbytes

omit hw in
theorem Dev.wordRes_setWord : (d.setWord w data res).wordRes w = res := by
  have hbytes : memGetList (d.setWord w data res).mem (residueBase + 4 * w) res.length = res := memGetList_eq fun i hi => by
    rw [Dev.memGet_setWord d w hd hr, if_pos (by omega), Nat.add_sub_cancel_left]
  rwa [hr] at hbytes

/-- A stored word is found as its data and its residue decode. -/
theorem Dev.findWord_setWord : (d.setWord w data res).findWord w = decodeWord data res := by
  rw [Dev.findWord, Dev.wordData_setWord hw hd hr, Dev.wordRes_setWord hd hr]

/-- Every other word is found as before: the places of different words do not meet. -/
theorem Dev.findWord_setWord_of_ne (hv : v < 2 ^ 23) (hne : v ≠ w) : (d.setWord w data res).findWord v = d.findWord v := by
  refine Dev.findWord_congr (fun x hlo hhi => ?_) fun x hlo hhi => ?_
  · rw [Dev.memGet_setWord d w hd hr, if_neg (by unfold residueBase; omega), if_neg (by omega)]
  · rw [Dev.memGet_setWord d w hd hr, if_neg (by omega), if_neg (by unfold residueBase at hlo; omega)]

end

/-- A word made poison reads as one of a store that lists nothing, and so is found as poison (R266). -/
theorem Dev.findWord_poisonWord (d : Dev) {w : Nat} (hw : w < 2 ^ 23) : (d.poisonWord w).findWord w = .poison := by
  have hunlisted : (d.poisonWord w).findWord w = ({} : Dev).findWord w := by
    refine Dev.findWord_congr (fun x hlo hhi => ?_) fun x hlo hhi => ?_
    · rw [Dev.memGet_poisonWord, if_neg (by unfold residueBase; omega), if_pos (by omega)]; rfl
    · rw [Dev.memGet_poisonWord, if_pos (by omega)]; rfl
  rw [hunlisted, Dev.findWord_of_mem_nil rfl hw]

theorem Dev.findWord_poisonWord_of_ne (d : Dev) {v w : Nat} (hw : w < 2 ^ 23) (hv : v < 2 ^ 23) (hne : v ≠ w) :
    (d.poisonWord w).findWord v = d.findWord v := by
  refine Dev.findWord_congr (fun x hlo hhi => ?_) fun x hlo hhi => ?_
  · rw [Dev.memGet_poisonWord, if_neg (by unfold residueBase; omega), if_neg (by omega)]
  · rw [Dev.memGet_poisonWord, if_neg (by omega), if_neg (by unfold residueBase at hlo; omega)]

/-! Storing through the bank (R265, R279). -/

/-- What storing word w ends at its bank: a pending write-back of the word, and the mark of a flip in it. -/
def Dev.settleWord (d : Dev) (w : Nat) : Dev :=
  { d with writeBacks := d.writeBacks.filter (· != w), flipped := if d.flipped = some w then none else d.flipped }

/-- With no flip armed, a word is stored as it is encoded. -/
theorem Dev.putWord_of_not_armed {d : Dev} (ha : d.on STORE_FLIP_CTL_ARM = false) (w : Nat) (data : List Byte) :
    d.putWord w data = (d.settleWord w).setWord w data [0, 0, 0] := by
  have ha' : Dev.on { d with writeBacks := d.writeBacks.filter (· != w) } STORE_FLIP_CTL_ARM = false := ha
  rw [Dev.putWord, Dev.putRaw, Dev.settleWord]
  simp only [ha', Bool.false_and, Bool.false_eq_true, if_false]
  split <;> rfl

/-- Settles O59: the two places of a word lie below 2^28 and above it, apart from those of every other word. -/
theorem storeWords : Obligations.StoreWords := by
  intro d w b hw hb ha t
  have ht : t = (d.settleWord w).setWord w b [0, 0, 0] := Dev.putWord_of_not_armed ha w b
  have hbyte (a : Nat) (h : a < 2 ^ 28) :
      t.byteAt a = if 32 * w ≤ a ∧ a < 32 * w + 32 then b.getD (a - 32 * w) 0 else d.byteAt a := by
    rw [ht, Dev.byteAt_setWord _ _ _ _ _ h, hb]; rfl
  refine ⟨?_, fun i hi => ?_, fun a h hne => ?_, fun v hv hne => ⟨?_, Dev.findWord_poisonWord_of_ne d hw hv hne⟩,
    Dev.findWord_poisonWord d hw, fun v hv => Dev.findWord_of_mem_nil rfl hv, ?_⟩
  · rw [ht, Dev.findWord_setWord hw hb rfl, decodeWord_valid]
  · rw [hbyte _ (by omega), if_pos (by omega), Nat.add_sub_cancel_left]
  · rw [hbyte a h, if_neg (by omega)]
  · rw [ht, Dev.findWord_setWord_of_ne hw hb rfl hv hne]; rfl
  · rw [ht]; exact ⟨rfl, rfl, rfl⟩

end Sys2Proof.Machine
end

section
/-!
The words of commands (R46, R47, R72, R73): the operand fields of every layout stand apart, below bit 48 of word 0 or in a later
word, so that packing fields and reading them, and cutting a number into words and joining them, undo each other.
-/
namespace Sys2Proof.Machine

@[simp] theorem b2n_beq_one (b : Bool) : (b2n b == 1) = b := by cases b <;> rfl

theorem b2n_le_one (b : Bool) : b2n b ≤ 1 := by cases b <;> decide

theorem b2n_lt_two (b : Bool) : b2n b < 2 := by cases b <;> decide

/-! Fields that stand apart. -/

/-- Fields follow one another from bit b on, each at or after the end of the one before it. -/
def apartFrom : Nat → List (Nat × Nat) → Bool
  | _, [] => true
  | b, (lo, w) :: t => decide (b ≤ lo) && apartFrom (lo + w) t

/-- The fields of a command of n words stand apart, clear of bits [63:48] of word 0, and within the command's words. -/
def layoutApart (n : Nat) (l : List (Nat × Nat)) : Bool :=
  apartFrom 0 l && l.all (fun f => decide (f.1 + f.2 ≤ 48 ∨ 64 ≤ f.1)) && l.all (fun f => decide (f.1 + f.2 ≤ 64 * n)) &&
    decide (1 ≤ n ∧ n ≤ 8)

/-- Each value is within its field's width. -/
abbrev valuesFit (l : List (Nat × Nat)) (vs : List Nat) : Prop := List.Forall₂ (fun f v => v < 2 ^ f.2) l vs

/-- What lies below bit c, put under a multiple of 2^c, stays below every bit that the multiple stays below. -/
theorem add_lt_two_pow_of_dvd {x m c e : Nat} (hx : x < 2 ^ c) (hm : 2 ^ c ∣ m) (hlt : m < 2 ^ e) (hce : c ≤ e) : x + m < 2 ^ e := by
  obtain ⟨k, rfl⟩ := hm
  obtain ⟨r, rfl⟩ := Nat.exists_eq_add_of_le hce
  rw [Nat.pow_add] at hlt ⊢
  have hk : k + 1 ≤ 2 ^ r := Nat.lt_of_mul_lt_mul_left hlt
  calc x + 2 ^ c * k < 2 ^ c * (k + 1) := by rw [Nat.mul_succ]; omega
    _ ≤ 2 ^ c * 2 ^ r := Nat.mul_le_mul_left _ hk

/-- A field does not see what lies below it. -/
theorem bitsOf_add_below {x m c lo w : Nat} (hx : x < 2 ^ c) (hm : 2 ^ c ∣ m) (hlo : c ≤ lo) : bitsOf (x + m) lo w = bitsOf m lo w := by
  obtain ⟨k, rfl⟩ := hm
  obtain ⟨r, rfl⟩ := Nat.exists_eq_add_of_le hlo
  have hpos : 0 < 2 ^ c := Nat.two_pow_pos c
  simp only [bitsOf, Nat.pow_add, ← Nat.div_div_eq_div_mul]
  rw [Nat.add_mul_div_left _ _ hpos, Nat.div_eq_of_lt hx, Nat.zero_add, Nat.mul_div_cancel_left _ hpos]

/-- A field does not see what lies above it. -/
theorem bitsOf_below_add {v lo w m : Nat} (hv : v < 2 ^ w) (hm : 2 ^ (lo + w) ∣ m) : bitsOf (v * 2 ^ lo + m) lo w = v := by
  obtain ⟨k, rfl⟩ := hm
  rw [bitsOf, Nat.mul_comm v, Nat.pow_add, Nat.mul_assoc, ← Nat.mul_add, Nat.mul_div_cancel_left _ (Nat.two_pow_pos lo),
    Nat.add_mul_mod_self_left, Nat.mod_eq_of_lt hv]

theorem value_lt_end (v lo w : Nat) : v % 2 ^ w * 2 ^ lo < 2 ^ (lo + w) := by
  rw [Nat.pow_add, Nat.mul_comm]
  exact Nat.mul_lt_mul_of_pos_left (Nat.mod_lt _ (Nat.two_pow_pos w)) (Nat.two_pow_pos lo)

/-- Fields from bit b on leave the bits below b alone. -/
theorem packFields_dvd {l : List (Nat × Nat)} {b : Nat} (h : apartFrom b l = true) (vs : List Nat) : 2 ^ b ∣ packFields l vs := by
  induction l generalizing b vs with
  | nil => exact ⟨0, by cases vs <;> rfl⟩
  | cons f t ih =>
    obtain ⟨lo, w⟩ := f
    cases vs with
    | nil => exact ⟨0, rfl⟩
    | cons v vs =>
      simp only [apartFrom, Bool.and_eq_true, decide_eq_true_eq] at h
      obtain ⟨hb, ht⟩ := h
      exact Nat.dvd_add ((Nat.pow_dvd_pow 2 hb).mul_left _) ((Nat.pow_dvd_pow 2 (by omega)).trans (ih ht vs))

/-- Fields that end at bit e at most stay below it. -/
theorem packFields_lt {l : List (Nat × Nat)} {b e : Nat} (h : apartFrom b l = true) (he : ∀ f ∈ l, f.1 + f.2 ≤ e) (vs : List Nat) :
    packFields l vs < 2 ^ e := by
  induction l generalizing b vs with
  | nil => cases vs <;> exact Nat.two_pow_pos e
  | cons f t ih =>
    obtain ⟨lo, w⟩ := f
    cases vs with
    | nil => exact Nat.two_pow_pos e
    | cons v vs =>
      simp only [apartFrom, Bool.and_eq_true, decide_eq_true_eq] at h
      obtain ⟨-, ht⟩ := h
      exact add_lt_two_pow_of_dvd (value_lt_end v lo w) (packFields_dvd ht vs) (ih ht (fun f hf => he f (List.mem_cons_of_mem _ hf)) vs)
        (he (lo, w) List.mem_cons_self)

/-- Fields that stand clear of bits [63:48] leave them 0. -/
theorem packFields_word0_lt {l : List (Nat × Nat)} {b : Nat} (h : apartFrom b l = true) (hc : ∀ f ∈ l, f.1 + f.2 ≤ 48 ∨ 64 ≤ f.1)
    (vs : List Nat) : packFields l vs % 2 ^ 64 < 2 ^ 48 := by
  induction l generalizing b vs with
  | nil => cases vs <;> exact Nat.two_pow_pos 48
  | cons f t ih =>
    obtain ⟨lo, w⟩ := f
    cases vs with
    | nil => exact Nat.two_pow_pos 48
    | cons v vs =>
      simp only [apartFrom, Bool.and_eq_true, decide_eq_true_eq] at h
      obtain ⟨-, ht⟩ := h
      have hd := packFields_dvd ht vs
      rcases hc (lo, w) List.mem_cons_self with hlow | hhigh
      · have hlow : lo + w ≤ 48 := hlow
        have hrest := ih ht (fun f hf => hc f (List.mem_cons_of_mem _ hf)) vs
        have hd' : 2 ^ (lo + w) ∣ packFields t vs % 2 ^ 64 := (Nat.dvd_mod_iff (Nat.pow_dvd_pow 2 (by omega))).mpr hd
        have hsum := add_lt_two_pow_of_dvd (value_lt_end v lo w) hd' hrest hlow
        rw [packFields, Nat.add_mod, Nat.mod_eq_of_lt (Nat.lt_of_lt_of_le (value_lt_end v lo w) (Nat.pow_le_pow_right (by decide) (by omega))),
          Nat.mod_eq_of_lt (by omega)]
        exact hsum
      · have hz : 2 ^ 64 ∣ packFields ((lo, w) :: t) (v :: vs) := 
          packFields_dvd (by simp only [apartFrom, ht, decide_eq_true hhigh, Bool.and_self]) _
        rw [Nat.mod_eq_zero_of_dvd hz]
        decide

theorem apartFrom_le {l : List (Nat × Nat)} {b : Nat} (h : apartFrom b l = true) : ∀ f ∈ l, b ≤ f.1 := by
  induction l generalizing b with
  | nil => exact fun f hf => absurd hf List.not_mem_nil
  | cons g t ih =>
    obtain ⟨lo, w⟩ := g
    simp only [apartFrom, Bool.and_eq_true, decide_eq_true_eq] at h
    obtain ⟨hb, ht⟩ := h
    refine List.forall_mem_cons.mpr ⟨hb, fun f hf => ?_⟩
    exact (Nat.le_add_right b w).trans ((Nat.add_le_add_right hb w).trans (ih ht f hf))

/-- Fields that stand apart read what was packed. -/
theorem readFields_packFields {l : List (Nat × Nat)} {b : Nat} {vs : List Nat} (h : apartFrom b l = true) (hv : valuesFit l vs) :
    readFields l (packFields l vs) = vs := by
  induction hv generalizing b with
  | nil => rfl
  | @cons f v t vs hv _ ih =>
    obtain ⟨lo, w⟩ := f
    simp only [apartFrom, Bool.and_eq_true, decide_eq_true_eq] at h
    obtain ⟨-, ht⟩ := h
    have hd := packFields_dvd ht vs
    have hhead : bitsOf (packFields ((lo, w) :: t) (v :: vs)) lo w = v := by
      rw [packFields, Nat.mod_eq_of_lt hv, bitsOf_below_add hv hd]
    have htail : readFields t (packFields ((lo, w) :: t) (v :: vs)) = readFields t (packFields t vs) :=
      List.map_congr_left fun f hf => bitsOf_add_below (value_lt_end v lo w) hd (apartFrom_le ht f hf)
    rw [ih ht] at htail
    exact congrArg₂ List.cons hhead htail

/-! Words. -/

theorem joinWords_splitWords (n v : Nat) : joinWords (splitWords n v) = v % 2 ^ (64 * n) := by
  induction n generalizing v with
  | zero => simp [splitWords, joinWords, Nat.mod_one]
  | succ n ih =>
    rw [splitWords, joinWords, ih, BitVec.toNat_ofNat, Nat.mul_succ, Nat.add_comm (64 * n), Nat.pow_add, Nat.mod_mul]

theorem length_splitWords (n v : Nat) : (splitWords n v).length = n := by
  induction n generalizing v with
  | zero => rfl
  | succ n ih => rw [splitWords, List.length_cons, ih]

/-- The flags of a head as a number. -/
def flagBits (f : CmdFlags) : Nat :=
  b2n f.fence * 2 ^ 4 + b2n f.record * 2 ^ 3 + b2n f.irq * 2 ^ 2 + b2n f.tstart * 2 + b2n f.wait

theorem flagBits_lt (f : CmdFlags) : flagBits f < 32 := by
  have h1 := b2n_lt_two f.fence
  have h2 := b2n_lt_two f.record
  have h3 := b2n_lt_two f.irq
  have h4 := b2n_lt_two f.tstart
  have h5 := b2n_lt_two f.wait
  unfold flagBits
  omega

/-- The head of a command stands above bit 48: the opcode above the length above the flags. -/
theorem headBits_eq (op len : Nat) (f : CmdFlags) : headBits op len f = 2 ^ 48 * (op * 2 ^ 8 + len * 2 ^ 5 + flagBits f) := by
  unfold headBits flagBits
  omega

/-- A number under a head, cut into words: word 0 holds its low 48 bits and the head, the later words the rest. -/
theorem splitWords_headBits {n p op : Nat} (f : CmdFlags) (hop : op < 256) (hn : n < 8) (hp : p % 2 ^ 64 < 2 ^ 48) :
    ∃ w0 : Word, w0.toNat = p % 2 ^ 64 + headBits op n f ∧ splitWords (n + 1) (p + headBits op n f) = w0 :: splitWords n (p / 2 ^ 64) := by
  have hflags := flagBits_lt f
  have hhead : p % 2 ^ 64 + headBits op n f < 2 ^ 64 := by rw [headBits_eq]; omega
  have hrest : (p + headBits op n f) / 2 ^ 64 = p / 2 ^ 64 := by omega
  refine ⟨BitVec.ofNat 64 (p + headBits op n f), ?_, ?_⟩
  · rw [BitVec.toNat_ofNat]; omega
  · rw [splitWords, hrest]

section
variable {w0 : Word} {p op n : Nat} {f : CmdFlags} (hw : w0.toNat = p + headBits op n f) (hp : p < 2 ^ 48)
include hw hp

theorem opcodeOf_head (hop : op < 256) (hn : n < 8) : opcodeOf w0 = op := by
  have hflags := flagBits_lt f
  rw [opcodeOf, bitsOf, hw, headBits_eq]
  omega

theorem wordsOf_head (hn : n < 8) : wordsOf w0 = n + 1 := by
  have hflags := flagBits_lt f
  rw [wordsOf, bitsOf, hw, headBits_eq]
  omega

omit hp in
theorem testBit_head {i : Nat} {b : Bool} (h : (p + headBits op n f) / 2 ^ i % 2 = b2n b) : w0.toNat.testBit i = b := by
  rw [hw, Nat.testBit_eq_decide_div_mod_eq, h]
  cases b <;> rfl

theorem flagsOf_head : flagsOf w0 = f := by
  have h1 := b2n_lt_two f.fence
  have h2 := b2n_lt_two f.record
  have h3 := b2n_lt_two f.irq
  have h4 := b2n_lt_two f.tstart
  have h5 := b2n_lt_two f.wait
  have hbit := fun i b => testBit_head (i := i) (b := b) hw
  rw [headBits_eq, flagBits] at hbit
  rw [flagsOf, hbit 52 f.fence (by omega), hbit 51 f.record (by omega), hbit 50 f.irq (by omega), hbit 49 f.tstart (by omega),
    hbit 48 f.wait (by omega)]

/-- Without its head, word 0 holds the operand bits. -/
theorem operandBits_head : (w0 &&& 0xFFFFFFFFFFFF).toNat = p := by
  have hmask : (0xFFFFFFFFFFFF : Word).toNat = 2 ^ 48 - 1 := rfl
  rw [BitVec.toNat_and, hmask, Nat.and_two_pow_sub_one_eq_mod, hw, headBits_eq]
  omega
end

/-! Commands. -/

/-- A command agrees with the layout of n words and fields l: the layout is that of its opcode, whatever stands in word 0 beside the
fields, it stands apart, and the values, which fit, spell the command. -/
structure Spelt (c : Cmd) (n : Nat) (l : List (Nat × Nat)) : Prop where
  layout : cmdLayout c.opcode (packFields [(0, 3), (3, 1)] c.values) = some (n, l)
  again : cmdLayout c.opcode (packFields l c.values % 16) = some (n, l)
  isApart : layoutApart n l = true
  fit : valuesFit l c.values
  spells : cmdOf c.opcode c.values = some c

theorem opcode_lt (c : Cmd) : c.opcode < 256 := by cases c <;> simp only [Cmd.opcode, Nat.reduceLT]

/-! KROTATE, whose layout depends on how many entries its word 0 gives. -/

theorem cmdLayout_krotate (w : Nat) : cmdLayout 0x37 w =
    if w / 8 % 2 == 1 then some (2, [(0, 3), (3, 1), (64, 16)])
    else some (1 + (w % 8 + 1 + 1) / 2, (0, 3) :: (3, 1) :: rotateLayout (w % 8 + 1)) := rfl

/-- The low bits of a KROTATE's word 0 are its count and its STOP. -/
theorem packFields_krotate_mod {t : List (Nat × Nat)} (ht : apartFrom 64 t = true) (a b : Nat) (vs : List Nat) :
    packFields ((0, 3) :: (3, 1) :: t) (a :: b :: vs) % 16 = packFields [(0, 3), (3, 1)] (a :: b :: vs) := by
  have hd := packFields_dvd ht vs
  simp only [packFields]
  omega

/-- A KROTATE with STOP. -/
theorem spelt_krotate_stop (e : RotEntry) (he : e.dwell = 0) :
    Spelt (.krotate true [e]) 2 [(0, 3), (3, 1), (64, 16)] := by
  have hstop : ∀ vs, cmdLayout 0x37 (packFields [(0, 3), (3, 1)] (0 :: 1 :: vs)) = some (2, [(0, 3), (3, 1), (64, 16)]) := fun vs => by
    simp only [packFields, cmdLayout_krotate]
    rfl
  refine ⟨hstop _, ?_, by decide, ?_, ?_⟩
  · exact (congrArg (cmdLayout 0x37) (packFields_krotate_mod (by decide) 0 1 [e.kern.toNat])).trans (hstop _)
  · simp [-Nat.reducePow, Cmd.values, BitVec.isLt, b2n_le_one]
  · obtain ⟨k, w⟩ := e
    subst he
    show some _ = some _
    simp only [BitVec.ofNat_toNat, BitVec.setWidth_eq]

theorem rotateEntries_flatten (es : List RotEntry) :
    rotateEntries (es.map fun e => [e.kern.toNat, e.dwell.toNat]).flatten = es := by
  induction es with
  | nil => rfl
  | cons e es ih => simp [rotateEntries, ih]

/-- The kernels and dwells of the entries fit their fields. -/
theorem valuesFit_rotateLayout (es : List RotEntry) :
    valuesFit (rotateLayout es.length) (es.map fun e => [e.kern.toNat, e.dwell.toNat]).flatten := by
  refine List.forall₂_iff_zip.mpr ⟨by simp [rotateLayout, List.length_flatten, Function.comp_def], fun {f v} hz => ?_⟩
  obtain ⟨hf, hv⟩ := List.of_mem_zip hz
  have hw : f.2 = 16 := by
    simp only [rotateLayout, List.mem_flatten, List.mem_map] at hf
    obtain ⟨_, ⟨i, -, rfl⟩, hf⟩ := hf
    rcases List.mem_pair.mp hf with rfl | rfl <;> rfl
  simp only [List.mem_flatten, List.mem_map] at hv
  obtain ⟨_, ⟨e, -, rfl⟩, hv⟩ := hv
  rw [hw]
  rcases List.mem_pair.mp hv with rfl | rfl <;> exact BitVec.isLt _

/-- The entries of a KROTATE of 2 to 8 stand apart in its later words. -/
theorem rotateLayout_apart {k : Nat} (hk : k < 8) :
    apartFrom 64 (rotateLayout (k + 1)) = true ∧
      layoutApart (1 + (k + 1 + 1) / 2) ((0, 3) :: (3, 1) :: rotateLayout (k + 1)) = true := by
  interval_cases k <;> decide

/-- A KROTATE without STOP. -/
theorem spelt_krotate_entries {es : List RotEntry} {k : Nat} (hk : k < 8) (hes : es.length = k + 1) :
    Spelt (.krotate false es) (1 + (k + 1 + 1) / 2) ((0, 3) :: (3, 1) :: rotateLayout (k + 1)) := by
  have hvalues : (Cmd.krotate false es).values = k :: 0 :: (es.map fun e => [e.kern.toNat, e.dwell.toNat]).flatten := by
    simp [Cmd.values, hes, b2n]
  have hcount : ∀ vs, packFields [(0, 3), (3, 1)] (k :: 0 :: vs) = k := fun vs => by simp only [packFields]; omega
  have hlayout : cmdLayout 0x37 k = some (1 + (k + 1 + 1) / 2, (0, 3) :: (3, 1) :: rotateLayout (k + 1)) := by
    rw [cmdLayout_krotate, Nat.mod_eq_of_lt hk, Nat.div_eq_of_lt hk]
    rfl
  obtain ⟨hentries, hall⟩ := rotateLayout_apart hk
  refine ⟨?_, ?_, hall, ?_, ?_⟩
  · rw [hvalues, hcount]; exact hlayout
  · rw [hvalues, packFields_krotate_mod hentries, hcount]; exact hlayout
  · rw [hvalues, ← hes]
    exact .cons hk (.cons (by decide) (valuesFit_rotateLayout es))
  · rw [hvalues]
    exact congrArg (fun es => some (Cmd.krotate false es)) (rotateEntries_flatten es)

theorem exists_spelt_krotate {stop : Bool} {es : List RotEntry} (h : (Cmd.krotate stop es).inRange = true)
    (hs : (Cmd.krotate stop es).stopPlain = true) : ∃ n l, Spelt (.krotate stop es) n l := by
  cases stop with
  | true =>
    simp only [Cmd.stopPlain, Bool.and_eq_true, beq_iff_eq] at hs
    obtain ⟨hlen, hdwell⟩ := hs
    obtain ⟨e, rfl⟩ := List.length_eq_one_iff.mp hlen
    exact ⟨_, _, spelt_krotate_stop e (by simpa using hdwell)⟩
  | false =>
    simp only [Cmd.inRange, Bool.false_or, Bool.and_eq_true, decide_eq_true_eq] at h
    obtain ⟨⟨hlo, hhi⟩, -⟩ := h
    exact ⟨_, _, spelt_krotate_entries (k := es.length - 1) (by omega) (by omega)⟩

/-- Every command in range agrees with a layout. -/
theorem exists_spelt {c : Cmd} (h : c.inRange = true) (hs : c.stopPlain = true) : ∃ n l, Spelt c n l := by
  cases c
  case krotate stop es => exact exists_spelt_krotate h hs
  all_goals
    refine ⟨_, _, rfl, rfl, by decide, ?_, ?_⟩
    · simp [-Nat.reducePow, Cmd.values, BitVec.isLt, b2n_le_one]
    · show some _ = some _
      simp only [b2n_beq_one, BitVec.ofNat_toNat, BitVec.setWidth_eq]

/-- The words of a command that agrees with a layout: word 0 holds the head, and without it the words hold the packed values. -/
theorem Spelt.encodeCmd_eq {c : Cmd} {n : Nat} {l : List (Nat × Nat)} (h : Spelt c n l) (f : CmdFlags) :
    ∃ (w0 : Word) (t : List Word), encodeCmd c f = w0 :: t ∧ opcodeOf w0 = c.opcode ∧ flagsOf w0 = f ∧ wordsOf w0 = n ∧
      t.length + 1 = n ∧ w0.toNat % 16 = packFields l c.values % 16 ∧
      joinWords ((w0 &&& 0xFFFFFFFFFFFF) :: t) = packFields l c.values := by
  obtain ⟨hlayout, -, hapart, -, -⟩ := h
  simp only [layoutApart, Bool.and_eq_true, List.all_eq_true, decide_eq_true_eq] at hapart
  obtain ⟨⟨⟨hfrom, hclear⟩, hend⟩, hpos, hmax⟩ := hapart
  obtain ⟨m, rfl⟩ := Nat.exists_eq_succ_of_ne_zero (Nat.ne_of_gt hpos)
  have hlow := packFields_word0_lt hfrom hclear c.values
  have hall := packFields_lt hfrom hend c.values
  obtain ⟨w0, hw0, hsplit⟩ := splitWords_headBits (n := m) f (opcode_lt c) (by omega) hlow
  have hwords : encodeCmd c f = w0 :: splitWords m (packFields l c.values / 2 ^ 64) := by
    rw [encodeCmd, hlayout]
    exact hsplit
  refine ⟨w0, _, hwords, opcodeOf_head hw0 hlow (opcode_lt c) (by omega), flagsOf_head hw0 hlow, wordsOf_head hw0 hlow (by omega),
    congrArg (· + 1) (length_splitWords _ _), ?_, ?_⟩
  · rw [hw0, headBits_eq]; omega
  · rw [joinWords, operandBits_head hw0 hlow, joinWords_splitWords, ← Nat.mod_mul, ← Nat.pow_add, Nat.add_comm, ← Nat.mul_succ,
      Nat.mod_eq_of_lt hall]

/-- Settles O60: the fields of every command stand apart, so the decoder reads back what the encoder packed. -/
theorem commandWordsReadBack : Obligations.CommandWordsReadBack := by
  intro c f hin hstop
  obtain ⟨n, l, h⟩ := exists_spelt hin hstop
  obtain ⟨w0, t, hwords, hop, hflags, hlen, ht, hmod, hjoin⟩ := h.encodeCmd_eq f
  obtain ⟨-, hagain, hapart, hfit, hspells⟩ := h
  simp only [layoutApart, Bool.and_eq_true] at hapart
  have hread := readFields_packFields hapart.1.1.1 hfit
  rw [hwords]
  refine ⟨?_, hop, hflags, hlen.trans ht.symm⟩
  simp only [decodeCmd, hop, hmod, hagain, hjoin, hread, hlen, List.length_cons, ht, beq_self_eq_true, Bool.and_self, if_true, hspells]

end Sys2Proof.Machine
end

section
/-!
Fields of the queues' registers and of the event counts (chapter 02): where their keys lie, and what a change of register fields
alone leaves.
-/
namespace Sys2Proof.Machine

/-! Keys: a queue's own registers lie in 256 bytes of their own, and the event counts behind all of these. -/

@[simp] theorem key_QU_RING_BASE (q : Nat) : (QU_RING_BASE q).key = 2048 * q + 2621446 := by simp only [QU_RING_BASE, Field.key]; omega
@[simp] theorem key_QU_RING_SIZE (q : Nat) : (QU_RING_SIZE q).key = 2048 * q + 2621488 := by simp only [QU_RING_SIZE, Field.key]; omega
@[simp] theorem key_QU_DOORBELL_TAIL (q : Nat) : (QU_DOORBELL_TAIL q).key = 2048 * q + 2621504 := by
  simp only [QU_DOORBELL_TAIL, Field.key]; omega
@[simp] theorem key_QU_HEAD_FETCH (q : Nat) : (QU_HEAD_FETCH q).key = 2048 * q + 2621568 := by simp only [QU_HEAD_FETCH, Field.key]; omega
@[simp] theorem key_ACCEPT_INDEX_INDEX (q : Nat) : (ACCEPT_INDEX_INDEX q).key = 2048 * q + 2621632 := by
  simp only [ACCEPT_INDEX_INDEX, Field.key]; omega
@[simp] theorem key_QU_ACCEPT_SEQ_SEQ (q : Nat) : (QU_ACCEPT_SEQ_SEQ q).key = 2048 * q + 2621696 := by
  simp only [QU_ACCEPT_SEQ_SEQ, Field.key]; omega
@[simp] theorem key_QU_DONE_SEQ_SEQ (q : Nat) : (QU_DONE_SEQ_SEQ q).key = 2048 * q + 2621760 := by
  simp only [QU_DONE_SEQ_SEQ, Field.key]; omega
@[simp] theorem key_QU_CTL_EN (q : Nat) : (QU_CTL_EN q).key = 2048 * q + 2621824 := by simp only [QU_CTL_EN, Field.key]; omega
@[simp] theorem key_QU_CTL_STOP_ON_ERR (q : Nat) : (QU_CTL_STOP_ON_ERR q).key = 2048 * q + 2621825 := by
  simp only [QU_CTL_STOP_ON_ERR, Field.key]; omega
@[simp] theorem key_QU_CTL_PRIO (q : Nat) : (QU_CTL_PRIO q).key = 2048 * q + 2621827 := by simp only [QU_CTL_PRIO, Field.key]; omega
@[simp] theorem key_QU_CTL_WINDOW (q : Nat) : (QU_CTL_WINDOW q).key = 2048 * q + 2621832 := by simp only [QU_CTL_WINDOW, Field.key]; omega
@[simp] theorem key_QU_CTL_VEC (q : Nat) : (QU_CTL_VEC q).key = 2048 * q + 2621842 := by simp only [QU_CTL_VEC, Field.key]; omega
@[simp] theorem key_QU_CTL_OWNER (q : Nat) : (QU_CTL_OWNER q).key = 2048 * q + 2621848 := by simp only [QU_CTL_OWNER, Field.key]; omega
@[simp] theorem key_QU_STAT_ERRSTOP (q : Nat) : (QU_STAT_ERRSTOP q).key = 2048 * q + 2621889 := by
  simp only [QU_STAT_ERRSTOP, Field.key]; omega
@[simp] theorem key_QU_STAT_FAULT (q : Nat) : (QU_STAT_FAULT q).key = 2048 * q + 2621890 := by simp only [QU_STAT_FAULT, Field.key]; omega
@[simp] theorem key_QU_STAT_CFGERR (q : Nat) : (QU_STAT_CFGERR q).key = 2048 * q + 2621893 := by
  simp only [QU_STAT_CFGERR, Field.key]; omega
@[simp] theorem key_QU_STAT_CQFULL (q : Nat) : (QU_STAT_CQFULL q).key = 2048 * q + 2621894 := by
  simp only [QU_STAT_CQFULL, Field.key]; omega
@[simp] theorem key_QU_STAT_JWAIT (q : Nat) : (QU_STAT_JWAIT q).key = 2048 * q + 2621895 := by simp only [QU_STAT_JWAIT, Field.key]; omega
@[simp] theorem key_QU_STAT_CQERR (q : Nat) : (QU_STAT_CQERR q).key = 2048 * q + 2621896 := by simp only [QU_STAT_CQERR, Field.key]; omega
@[simp] theorem key_QU_EPOCH_EPOCH (q : Nat) : (QU_EPOCH_EPOCH q).key = 2048 * q + 2621952 := by
  simp only [QU_EPOCH_EPOCH, Field.key]; omega
@[simp] theorem key_CQ_RING_BASE (q : Nat) : (CQ_RING_BASE q).key = 2048 * q + 2622021 := by simp only [CQ_RING_BASE, Field.key]; omega
@[simp] theorem key_CQ_RING_SIZE (q : Nat) : (CQ_RING_SIZE q).key = 2048 * q + 2622064 := by simp only [CQ_RING_SIZE, Field.key]; omega
@[simp] theorem key_CQ_HEAD_HEAD (q : Nat) : (CQ_HEAD_HEAD q).key = 2048 * q + 2622080 := by simp only [CQ_HEAD_HEAD, Field.key]; omega
@[simp] theorem key_CQ_TAIL_TAIL (q : Nat) : (CQ_TAIL_TAIL q).key = 2048 * q + 2622144 := by simp only [CQ_TAIL_TAIL, Field.key]; omega
@[simp] theorem key_QU_S_VALUE (q n : Nat) : (QU_S_VALUE q n).key = 2048 * q + 64 * n + 2622464 := by
  simp only [QU_S_VALUE, Field.key]; omega
@[simp] theorem key_EV_COUNT_COUNT (n : Nat) : (EV_COUNT_COUNT n).key = 64 * n + 2818048 := by simp only [EV_COUNT_COUNT, Field.key]; omega
@[simp] theorem key_EV_COUNT_OVF (n : Nat) : (EV_COUNT_OVF n).key = 64 * n + 2818064 := by simp only [EV_COUNT_OVF, Field.key]; omega

/-! Changes of register fields alone. -/

theorem Dev.regsOnly_trans {d t u : Dev} {fs : List Field} (h : d.regsOnly t fs) (k : t.regsOnly u fs) : d.regsOnly u fs := by
  obtain ⟨ht, hrt⟩ := h
  obtain ⟨hu, hru⟩ := k
  refine ⟨?_, fun g hg => (hru g hg).trans (hrt g hg)⟩
  calc ({ u with regs := d.regs } : Dev) = { ({ u with regs := t.regs } : Dev) with regs := d.regs } := rfl
    _ = { t with regs := d.regs } := by rw [hu]
    _ = d := ht

theorem Dev.regsOnly_mono {d t : Dev} {fs gs : List Field} (h : d.regsOnly t fs) (hs : ∀ f ∈ fs, f ∈ gs) : d.regsOnly t gs :=
  ⟨h.1, fun g hg => h.2 g fun f hf => hg f (hs f hf)⟩

/-- All but the registers is the same. -/
theorem Dev.regsOnly_eq {d t : Dev} {fs : List Field} (h : d.regsOnly t fs) : t = { d with regs := t.regs } := by
  have hd := h.1
  rw [← hd]

theorem Dev.queues_of_regsOnly {d t : Dev} {fs : List Field} (h : d.regsOnly t fs) : t.queues = d.queues := by
  rw [Dev.regsOnly_eq h]

/-- A field of one bit that takes a write of ones to clear (R7) stands unless the write puts 1 on it. -/
theorem Dev.takeW1c_bit (d : Dev) (w : RegWr) (f : Field) (hw : f.width = 1) :
    d.takeW1c w f = d.wr f (if d.on f && !w.one f then 1 else 0) := by
  have hone : (w.ones f).testBit 0 = w.one f := by
    simp only [RegWr.ones, RegWr.one, hw, List.range_one, List.foldl_cons, List.foldl_nil, Nat.add_zero, Nat.zero_add, Nat.pow_zero, Nat.one_mul]
    cases (w.half.covers f.lo && w.data.toNat.testBit f.lo) <;> rfl
  have hbit : (d.rd f).testBit 0 = d.on f := by
    rw [Nat.testBit_zero, Dev.on]; rfl
  have hmod : setBit (d.rd f) 0 (d.on f && !w.one f) % 2 ^ 1 = (if d.on f && !w.one f then 1 else 0) % 2 ^ 1 := by
    have hon : d.on f = decide (d.rd f % 2 = 1) := rfl
    rw [setBit, hbit, hon]
    by_cases hodd : d.rd f % 2 = 1
    · cases w.one f <;> simp [hodd]; omega
    · simp [hodd]; omega
  simp only [Dev.takeW1c, hw, List.range_one, List.foldl_cons, List.foldl_nil, hone, hbit]
  simp only [Dev.wr, hw, hmod]

/-! Queues whose acceptance waits (R44). -/

theorem Dev.journalRoom_congr {d t : Dev} {q : Nat} (hq : t.queues = d.queues) (hw : t.rd (QU_CTL_WINDOW q) = d.rd (QU_CTL_WINDOW q)) :
    t.journalRoom q = d.journalRoom q := by
  have hused : t.journalUsed = d.journalUsed := by rw [Dev.journalUsed, hq, Dev.journalUsed]
  have hjournal : t.journal q = d.journal q := by rw [Dev.journal, Dev.queue, hq, Dev.journal, Dev.queue]
  have hwindow : t.queueWindow q = d.queueWindow q := by rw [Dev.queueWindow, hw, Dev.queueWindow]
  rw [Dev.journalRoom, hused, hjournal, hwindow, Dev.journalRoom]

/-- Ending the wait of a queue leaves every queue's room. -/
theorem Dev.journalRoom_regsOnly {d t : Dev} {qs : List Nat} (h : d.regsOnly t (qs.map QU_STAT_JWAIT)) (p : Nat) :
    t.journalRoom p = d.journalRoom p := by
  refine Dev.journalRoom_congr (Dev.queues_of_regsOnly h) (h.2 _ fun f hf => ?_)
  obtain ⟨q, -, rfl⟩ := List.mem_map.mp hf
  simp only [key_QU_STAT_JWAIT, key_QU_CTL_WINDOW]
  omega

/-- One queue goes on once there is room for it. -/
def Dev.endJwait (d : Dev) (q : Nat) : Dev := if d.on (QU_STAT_JWAIT q) && d.journalRoom q then d.wr (QU_STAT_JWAIT q) 0 else d

theorem Dev.settleJwait_eq (d : Dev) : d.settleJwait = (List.range 64).foldl Dev.endJwait d := rfl

theorem Dev.endJwait_regsOnly (d : Dev) (q : Nat) : d.regsOnly (d.endJwait q) [QU_STAT_JWAIT q] := by
  unfold Dev.endJwait
  split
  · exact Dev.regsOnly_wr (Dev.regsOnly_refl d _) (List.mem_singleton_self _) 0
  · exact Dev.regsOnly_refl d _

theorem Dev.on_jwait_endJwait (d : Dev) (q p : Nat) :
    (d.endJwait q).on (QU_STAT_JWAIT p) = (d.on (QU_STAT_JWAIT p) && !(q == p && d.journalRoom p)) := by
  unfold Dev.endJwait
  by_cases hqp : q = p
  · subst hqp
    cases hon : d.on (QU_STAT_JWAIT q) <;> cases hroom : d.journalRoom q <;> simp [hon]
  · have hkey : (QU_STAT_JWAIT q).key ≠ (QU_STAT_JWAIT p).key := by simp [hqp]
    split <;> simp [hqp, Dev.on_wr_ne _ _ hkey]

/-- What ending the waits of some queues leaves. -/
theorem Dev.foldl_endJwait (d : Dev) (qs : List Nat) :
    d.regsOnly (qs.foldl Dev.endJwait d) (qs.map QU_STAT_JWAIT) ∧
      ∀ p, (qs.foldl Dev.endJwait d).on (QU_STAT_JWAIT p) = (d.on (QU_STAT_JWAIT p) && !(qs.contains p && d.journalRoom p)) := by
  induction qs generalizing d with
  | nil => exact ⟨Dev.regsOnly_refl d _, fun p => by simp⟩
  | cons q qs ih =>
    have hone := Dev.endJwait_regsOnly d q
    obtain ⟨honly, hon⟩ := ih (d.endJwait q)
    refine ⟨Dev.regsOnly_trans (Dev.regsOnly_mono hone ?_) (Dev.regsOnly_mono honly ?_), fun p => ?_⟩
    · intro f hf; simp_all
    · intro f hf; exact List.mem_cons_of_mem _ hf
    · rw [List.foldl_cons, hon, Dev.on_jwait_endJwait, Dev.journalRoom_regsOnly (qs := [q]) hone, List.contains_cons]
      rw [show (p == q) = (q == p) from Bool.beq_comm]
      cases d.on (QU_STAT_JWAIT p) <;> cases q == p <;> cases d.journalRoom p <;> simp

theorem Dev.settleJwait_regsOnly (d : Dev) : d.regsOnly d.settleJwait ((List.range 64).map QU_STAT_JWAIT) :=
  (Dev.foldl_endJwait d _).1

/-- Fields other than JWAIT stand. -/
theorem Dev.rd_settleJwait (d : Dev) {g : Field} (h : ∀ q < 64, (QU_STAT_JWAIT q).key ≠ g.key) : d.settleJwait.rd g = d.rd g := by
  refine (Dev.settleJwait_regsOnly d).2 g fun f hf => ?_
  obtain ⟨q, hq, rfl⟩ := List.mem_map.mp hf
  exact h q (List.mem_range.mp hq)

/-- A queue waits on only where there is no room for it. -/
theorem Dev.on_jwait_settleJwait (d : Dev) {p : Nat} (hp : p < 64) :
    d.settleJwait.on (QU_STAT_JWAIT p) = (d.on (QU_STAT_JWAIT p) && !d.settleJwait.journalRoom p) := by
  have hroom : d.settleJwait.journalRoom p = d.journalRoom p := Dev.journalRoom_regsOnly (Dev.settleJwait_regsOnly d) p
  rw [hroom, Dev.settleJwait_eq, (Dev.foldl_endJwait d _).2 p]
  simp [hp]

@[simp] theorem Dev.queue_settleJwait (d : Dev) (q : Nat) : d.settleJwait.queue q = d.queue q := by
  simp only [Dev.queue, Dev.queues_of_regsOnly (Dev.settleJwait_regsOnly d)]

end Sys2Proof.Machine
end

section
/-!
Writes of the registers of queues and of the event counts (R30, R44, R54, R64, R66, R70).
-/
namespace Sys2Proof.Machine

/-- Settles O2: the write reaches the doorbell, and both sides test the same two comparisons. -/
theorem doorbellRule : Obligations.DoorbellRule := by
  intro s q w hown htouch tail ahead valid
  have hexec : exec (.quDoorbellWrite q w) s = s.next (s.dev.doorbell q.val w) :=
    congrArg s.next (Dev.onQueueWrite_ok hown (.quDoorbellWrite q w) _)
  simp only [hexec, Dev.doorbell, htouch, Bool.not_true, Bool.false_eq_true, if_false]
  exact ⟨fun h => by rw [if_pos h], fun h => by rw [if_neg h]⟩

/-! Idle queues (R70). -/

section
variable (d : Dev) (q : Nat) (w : RegWr)

theorem Dev.ringWrite_eq : d.ringWrite q w =
    if d.queueIdle q = true ∧ d.wval w (QU_RING_SIZE q) ≤ 10 then
      ((((((d.wr (QU_RING_BASE q) (d.wval w (QU_RING_BASE q))).wr (QU_RING_SIZE q) (d.wval w (QU_RING_SIZE q))).setQueue q
        { d.queue q with pos := .ring 0, ringFront := 0, front := 0, stack := [], window := [], ahead := [] }).wr (QU_DOORBELL_TAIL q) 0).wr
          (QU_HEAD_FETCH q) 0).wr (ACCEPT_INDEX_INDEX q) 0).tellReg (0x50000 + 0x100 * q) w
    else d.wr (QU_STAT_CFGERR q) 1 := by
  have hsize (v : Nat) : (d.wr (QU_RING_BASE q) v).wval w (QU_RING_SIZE q) = d.wval w (QU_RING_SIZE q) :=
    Dev.wval_wr_ne d v w (by simp)
  rw [Dev.ringWrite]
  by_cases h : d.queueIdle q = true ∧ d.wval w (QU_RING_SIZE q) ≤ 10
  · rw [if_pos h, if_neg (by simpa using h)]
    simp only [Dev.take_eq, Dev.clr_eq, hsize]
  · rw [if_neg h, if_pos (by simpa [Classical.or_iff_not_imp_left] using h)]
    rfl

theorem Dev.cqRingWrite_eq : d.cqRingWrite q w =
    if d.queueIdle q = true ∧ d.wval w (CQ_RING_SIZE q) ≤ 12 then
      ((((d.wr (CQ_RING_BASE q) (d.wval w (CQ_RING_BASE q))).wr (CQ_RING_SIZE q) (d.wval w (CQ_RING_SIZE q))).wr (CQ_HEAD_HEAD q) 0).wr
        (CQ_TAIL_TAIL q) 0).tellReg (0x50048 + 0x100 * q) w
    else d.wr (QU_STAT_CFGERR q) 1 := by
  have hsize (v : Nat) : (d.wr (CQ_RING_BASE q) v).wval w (CQ_RING_SIZE q) = d.wval w (CQ_RING_SIZE q) :=
    Dev.wval_wr_ne d v w (by simp)
  rw [Dev.cqRingWrite]
  by_cases h : d.queueIdle q = true ∧ d.wval w (CQ_RING_SIZE q) ≤ 12
  · rw [if_pos h, if_neg (by simpa using h)]
    simp only [Dev.take_eq, Dev.clr_eq, hsize]
  · rw [if_neg h, if_pos (by simpa [Classical.or_iff_not_imp_left] using h)]
    rfl

theorem Dev.sregWrite_eq (n : Nat) : d.sregWrite q n w =
    if d.queueIdle q = true then (d.wr (QU_S_VALUE q n) (d.wval w (QU_S_VALUE q n))).tellReg (0x50080 + 0x100 * q + 8 * n) w
    else d.wr (QU_STAT_CFGERR q) 1 := by
  rw [Dev.sregWrite]
  cases d.queueIdle q <;> rfl

theorem Dev.cqHeadWrite_eq (ht : w.touches (CQ_HEAD_HEAD q) = true) : d.cqHeadWrite q w =
    if (d.rd (CQ_TAIL_TAIL q) + 2 ^ 32 - d.wval w (CQ_HEAD_HEAD q)) % 2 ^ 32 ≤ d.cqSize q then
      (if (d.wr (CQ_HEAD_HEAD q) (d.wval w (CQ_HEAD_HEAD q))).cqFull q then d.wr (CQ_HEAD_HEAD q) (d.wval w (CQ_HEAD_HEAD q))
        else (d.wr (CQ_HEAD_HEAD q) (d.wval w (CQ_HEAD_HEAD q))).wr (QU_STAT_CQFULL q) 0).tellReg (0x50050 + 0x100 * q) w
    else d.raise { cls := .slate, flag := QU_STAT_CFGERR q, ukind := 6, uid := q } := by
  simp only [Dev.cqHeadWrite, ht, Bool.not_true, Bool.false_eq_true, if_false, Dev.clr_eq]

theorem Dev.evCountWrite_eq (n : Nat) : d.evCountWrite n w =
    (((d.wr (EV_COUNT_COUNT n) (d.wval w (EV_COUNT_COUNT n))).wr (EV_COUNT_OVF n)
      (if d.on (EV_COUNT_OVF n) && !w.one (EV_COUNT_OVF n) then 1 else 0)).tellReg (0x56000 + 8 * n) w).settleWaits n := by
  have hovf (v : Nat) : (d.wr (EV_COUNT_COUNT n) v).on (EV_COUNT_OVF n) = d.on (EV_COUNT_OVF n) := Dev.on_wr_ne d v (by simp)
  rw [Dev.evCountWrite, Dev.takeW1c_bit _ _ _ rfl, Dev.take_eq, hovf]

end

/-! QU_CTL (R41, R66, R570). -/

/-- The control fields of a queue. -/
def ctlFields (q : Nat) : List Field := [QU_CTL_EN q, QU_CTL_STOP_ON_ERR q, QU_CTL_PRIO q, QU_CTL_WINDOW q, QU_CTL_VEC q]

/-- The flags that RESUME clears. -/
def resumeFlags (q : Nat) : List Field := [QU_STAT_ERRSTOP q, QU_STAT_FAULT q, QU_STAT_CQERR q]

/-- The control fields take a write. -/
def Dev.takeCtl (d : Dev) (q : Nat) (w : RegWr) : Dev := (ctlFields q).foldl (fun d f => d.take w f) d

/-- RESUME: words that were fetched are fetched again after a fault, and the flags are cleared. -/
def Dev.resumed (d : Dev) (q : Nat) : Dev :=
  (((if d.on (QU_STAT_FAULT q) then d.refetch q else d).wr (QU_STAT_ERRSTOP q) 0).wr (QU_STAT_FAULT q) 0).wr (QU_STAT_CQERR q) 0

/-- A write of QU_CTL, before the twin is told. -/
def Dev.ctlWritten (d : Dev) (q : Nat) (w : RegWr) : Dev :=
  (if w.one (QU_CTL_RESUME q) then (d.takeCtl q w).resumed q else d.takeCtl q w).settleJwait

theorem Dev.queueCtl_eq (d : Dev) (q : Nat) (w : RegWr) :
    d.queueCtl q w = (d.ctlWritten q w).tellReg (0x50030 + 0x100 * q) w := rfl

theorem Dev.takeCtl_regsOnly (d : Dev) (q : Nat) (w : RegWr) : d.regsOnly (d.takeCtl q w) (ctlFields q) := by
  have hfold : ∀ (l : List Field) (t : Dev), (∀ f ∈ l, f ∈ ctlFields q) → d.regsOnly t (ctlFields q) →
      d.regsOnly (l.foldl (fun d f => d.take w f) t) (ctlFields q) := by
    intro l
    induction l with
    | nil => exact fun t _ ht => ht
    | cons f l ih =>
      intro t hl ht
      obtain ⟨hf, hl⟩ := List.forall_mem_cons.mp hl
      exact ih _ hl (Dev.regsOnly_wr ht hf _)
  exact hfold _ d (fun f hf => hf) (Dev.regsOnly_refl d _)

/-- Each control field takes what the write gives it: they lie apart. -/
theorem Dev.rd_takeCtl (d : Dev) (q : Nat) (w : RegWr) {f : Field} (hf : f ∈ ctlFields q) :
    (d.takeCtl q w).rd f = d.wval w f % 2 ^ f.width := by
  simp only [ctlFields, List.mem_cons, List.not_mem_nil, or_false] at hf
  rcases hf with rfl | rfl | rfl | rfl | rfl <;>
    simp [Dev.takeCtl, ctlFields, Dev.wval_wr_ne]

/-- A field that is none of the control fields stands. -/
theorem Dev.rd_takeCtl_ne (d : Dev) (q : Nat) (w : RegWr) {g : Field} (hg : ∀ f ∈ ctlFields q, f.key ≠ g.key) :
    (d.takeCtl q w).rd g = d.rd g := (d.takeCtl_regsOnly q w).2 g hg

@[simp] theorem Dev.queue_takeCtl (d : Dev) (q : Nat) (w : RegWr) (p : Nat) : (d.takeCtl q w).queue p = d.queue p := by
  simp only [Dev.queue, Dev.queues_of_regsOnly (d.takeCtl_regsOnly q w)]

theorem Dev.rd_refetch (d : Dev) (q : Nat) {g : Field} (hg : (QU_HEAD_FETCH q).key ≠ g.key) : (d.refetch q).rd g = d.rd g := by
  simp only [Dev.refetch, Dev.rd_wr_ne _ _ hg, Dev.rd_setQueue]

@[simp] theorem Dev.queue_refetch (d : Dev) (q : Nat) : (d.refetch q).queue q = { d.queue q with ahead := [] } := by
  simp only [Dev.refetch, Dev.queue_wr, Dev.queue_setQueue, if_true]

/-- RESUME clears its flags. -/
theorem Dev.rd_resumed_flag (d : Dev) (q : Nat) {f : Field} (hf : f ∈ resumeFlags q) : (d.resumed q).rd f = 0 := by
  simp only [resumeFlags, List.mem_cons, List.not_mem_nil, or_false] at hf
  rcases hf with rfl | rfl | rfl <;> simp [Dev.resumed]

/-- RESUME leaves every other field but FETCH. -/
theorem Dev.rd_resumed (d : Dev) (q : Nat) {g : Field} (hf : (QU_HEAD_FETCH q).key ≠ g.key) (hg : ∀ f ∈ resumeFlags q, f.key ≠ g.key) :
    (d.resumed q).rd g = d.rd g := by
  simp only [resumeFlags, List.forall_mem_cons] at hg
  obtain ⟨h1, h2, h3, -⟩ := hg
  simp only [Dev.resumed, Dev.rd_wr_ne _ _ h1, Dev.rd_wr_ne _ _ h2, Dev.rd_wr_ne _ _ h3]
  split
  · exact Dev.rd_refetch d q hf
  · rfl

theorem Dev.queue_resumed (d : Dev) (q : Nat) :
    (d.resumed q).queue q = if d.on (QU_STAT_FAULT q) then { d.queue q with ahead := [] } else d.queue q := by
  simp only [Dev.resumed, Dev.queue_wr]
  split
  · exact Dev.queue_refetch d q
  · rfl

/-- Without a fault RESUME clears its flags and nothing else. -/
theorem Dev.resumed_regsOnly {d : Dev} {q : Nat} (h : d.on (QU_STAT_FAULT q) = false) : d.regsOnly (d.resumed q) (resumeFlags q) := by
  simp only [Dev.resumed, h, Bool.false_eq_true, if_false]
  have hmem : ∀ f ∈ [QU_STAT_ERRSTOP q, QU_STAT_FAULT q, QU_STAT_CQERR q], f ∈ resumeFlags q := fun f hf => hf
  simp only [List.forall_mem_cons] at hmem
  obtain ⟨h1, h2, h3, -⟩ := hmem
  exact Dev.regsOnly_wr (Dev.regsOnly_wr (Dev.regsOnly_wr (Dev.regsOnly_refl d _) h1 0) h2 0) h3 0

theorem jwait_ne_ctlFields {p q : Nat} {f : Field} (hf : f ∈ ctlFields q) : (QU_STAT_JWAIT p).key ≠ f.key := by
  simp only [ctlFields, List.mem_cons, List.not_mem_nil, or_false] at hf
  rcases hf with rfl | rfl | rfl | rfl | rfl <;> simp <;> omega

theorem fetch_ne_ctlFields {q : Nat} {f : Field} (hf : f ∈ ctlFields q) : (QU_HEAD_FETCH q).key ≠ f.key := by
  simp only [ctlFields, List.mem_cons, List.not_mem_nil, or_false] at hf
  rcases hf with rfl | rfl | rfl | rfl | rfl <;> simp

theorem jwait_ne_resumeFlags {p q : Nat} {f : Field} (hf : f ∈ resumeFlags q) : (QU_STAT_JWAIT p).key ≠ f.key := by
  simp only [resumeFlags, List.mem_cons, List.not_mem_nil, or_false] at hf
  rcases hf with rfl | rfl | rfl <;>
    simp only [key_QU_STAT_JWAIT, key_QU_STAT_ERRSTOP, key_QU_STAT_FAULT, key_QU_STAT_CQERR] <;> omega

theorem ctlFields_ne_resumeFlags {q : Nat} {f g : Field} (hf : f ∈ ctlFields q) (hg : g ∈ resumeFlags q) : f.key ≠ g.key := by
  simp only [ctlFields, resumeFlags, List.mem_cons, List.not_mem_nil, or_false] at hf hg
  rcases hf with rfl | rfl | rfl | rfl | rfl <;> rcases hg with rfl | rfl | rfl <;> simp

section
variable (d : Dev) (q : Nat) (w : RegWr)

theorem Dev.rd_ctlWritten_ctl {f : Field} (hf : f ∈ ctlFields q) : (d.ctlWritten q w).rd f = d.wval w f % 2 ^ f.width := by
  rw [Dev.ctlWritten, Dev.rd_settleJwait _ fun p _ => jwait_ne_ctlFields hf, ← Dev.rd_takeCtl d q w hf]
  split
  · exact Dev.rd_resumed _ q (fetch_ne_ctlFields hf) fun g hg => (ctlFields_ne_resumeFlags hf hg).symm
  · rfl

theorem Dev.rd_ctlWritten_flag {f : Field} (hf : f ∈ resumeFlags q) :
    (d.ctlWritten q w).rd f = if w.one (QU_CTL_RESUME q) then 0 else d.rd f := by
  rw [Dev.ctlWritten, Dev.rd_settleJwait _ fun p _ => jwait_ne_resumeFlags hf]
  split
  · exact Dev.rd_resumed_flag _ q hf
  · exact Dev.rd_takeCtl_ne d q w fun g hg => ctlFields_ne_resumeFlags hg hf

theorem Dev.on_jwait_ctlWritten {p : Nat} (hp : p < 64) :
    (d.ctlWritten q w).on (QU_STAT_JWAIT p) = (d.on (QU_STAT_JWAIT p) && !(d.ctlWritten q w).journalRoom p) := by
  have htake : (d.takeCtl q w).rd (QU_STAT_JWAIT p) = d.rd (QU_STAT_JWAIT p) :=
    Dev.rd_takeCtl_ne d q w fun f hf => (jwait_ne_ctlFields hf).symm
  have hresumed : ((d.takeCtl q w).resumed q).rd (QU_STAT_JWAIT p) = (d.takeCtl q w).rd (QU_STAT_JWAIT p) :=
    Dev.rd_resumed _ q (by simp only [key_QU_HEAD_FETCH, key_QU_STAT_JWAIT]; omega) fun f hf => (jwait_ne_resumeFlags hf).symm
  rw [Dev.ctlWritten, Dev.on_jwait_settleJwait _ hp]
  congr 1
  split <;> simp only [Dev.on, hresumed, htake]

theorem Dev.on_fault_takeCtl : (d.takeCtl q w).on (QU_STAT_FAULT q) = d.on (QU_STAT_FAULT q) := by
  rw [Dev.on, Dev.rd_takeCtl_ne d q w (by simp [ctlFields]), Dev.on]

theorem Dev.queue_ctlWritten : (d.ctlWritten q w).queue q =
    if w.one (QU_CTL_RESUME q) && d.on (QU_STAT_FAULT q) then { d.queue q with ahead := [] } else d.queue q := by
  rw [Dev.ctlWritten, Dev.queue_settleJwait]
  cases w.one (QU_CTL_RESUME q)
  · simp
  · simp [Dev.queue_resumed, Dev.on_fault_takeCtl]

/-- A write of QU_CTL that resumes no faulted queue changes register fields alone. -/
theorem Dev.ctlWritten_regsOnly (h : w.one (QU_CTL_RESUME q) = false ∨ d.on (QU_STAT_FAULT q) = false) :
    d.regsOnly (d.ctlWritten q w) (ctlFields q ++ resumeFlags q ++ (List.range 64).map QU_STAT_JWAIT) := by
  have hctl := Dev.regsOnly_mono (gs := ctlFields q ++ resumeFlags q ++ (List.range 64).map QU_STAT_JWAIT) (d.takeCtl_regsOnly q w)
    (fun f hf => by simp [hf])
  refine Dev.regsOnly_trans ?_ (Dev.regsOnly_mono (Dev.settleJwait_regsOnly _) fun f hf => by simp only [List.mem_append, hf, or_true])
  split
  · next hone =>
    have hfault : (d.takeCtl q w).on (QU_STAT_FAULT q) = false := by
      rw [Dev.on_fault_takeCtl]; simpa [hone] using h
    exact Dev.regsOnly_trans hctl (Dev.regsOnly_mono (Dev.resumed_regsOnly hfault) fun f hf => by simp [hf])
  · exact hctl

end

/-- Settles O3, register by register: each write reaches its queue, or its event count, and does what its equation above says. -/
theorem queueRegisterWrites : Obligations.QueueRegisterWrites := by
  constructor
  · intro s q w d refused
    refine ⟨fun hown => ?_, fun hown => ?_, fun n hown => ?_⟩
    · exact (congrArg s.next ((Dev.onQueueWrite_ok hown (.quRingWrite q w) _).trans (Dev.ringWrite_eq d q.val w))).trans (apply_ite s.next _ _ _)
    · exact (congrArg s.next ((Dev.onQueueWrite_ok hown (.cqRingWrite q w) _).trans (Dev.cqRingWrite_eq d q.val w))).trans
        (apply_ite s.next _ _ _)
    · exact (congrArg s.next ((Dev.onQueueWrite_ok hown (.quSnWrite q n w) _).trans (Dev.sregWrite_eq d q.val w n.val))).trans
        (apply_ite s.next _ _ _)
  · intro s q w d
    refine ⟨fun hown => ?_, fun hown ht => ?_, fun n hreach => ?_⟩
    · refine ⟨d.ctlWritten q.val w, congrArg s.next ((Dev.onQueueWrite_ok hown (.quCtlResume q w) _).trans (Dev.queueCtl_eq d q.val w)),
        fun f hf => Dev.rd_ctlWritten_ctl d q.val w hf, fun f hf => Dev.rd_ctlWritten_flag d q.val w hf,
        fun p => Dev.on_jwait_ctlWritten d q.val w p.isLt, fun hone hfault => ?_, fun h => ?_⟩
      · rw [Dev.queue_ctlWritten, hone, hfault]; rfl
      · exact Dev.ctlWritten_regsOnly d q.val w h
    · exact (congrArg s.next ((Dev.onQueueWrite_ok hown (.cqHeadWrite q w) _).trans (Dev.cqHeadWrite_eq d q.val w ht))).trans
        (apply_ite s.next _ _ _)
    · exact congrArg s.next ((Dev.onWrite_ok hreach (.evCountWrite n w) _).trans (Dev.evCountWrite_eq d w n.val))

end Sys2Proof.Machine
end

section
/-!
One queue (R36 to R45): what differs when register fields and one queue's hidden state alone change; the path behind a command's
words; the entry that acceptance makes, and the completion of the only command of a journal.
-/
namespace Sys2Proof.Machine

/-! Sparse maps. -/


/-- Listing a key twice keeps the later value. -/
theorem KMap.put_put {V : Type} (m : KMap V) (k : Nat) (v w : V) : KMap.put (KMap.put m k v) k w = KMap.put m k w := by
  induction m with
  | nil => simp [KMap.put]
  | cons x t ih =>
    obtain ⟨a, u⟩ := x
    simp only [KMap.put]
    split
    · simp [KMap.put]
    · split
      · simp [KMap.put]
      · next hlt hne => simp [KMap.put, hlt, hne, ih]

/-- Listing a key replaces its first listing or adds one, and leaves the other listings as they stand. -/
theorem KMap.put_split {V : Type} (m : KMap V) (k : Nat) (v : V) :
    ∃ l r, KMap.put m k v = l ++ (k, v) :: r ∧ (m = l ++ r ∨ ∃ w, m = l ++ (k, w) :: r) := by
  induction m with
  | nil => exact ⟨[], [], rfl, .inl rfl⟩
  | cons x t ih =>
    obtain ⟨a, u⟩ := x
    simp only [KMap.put]
    split
    · exact ⟨[], (a, u) :: t, rfl, .inl rfl⟩
    · split
      · next hk => exact ⟨[], t, rfl, .inr ⟨u, by rw [hk]; rfl⟩⟩
      · obtain ⟨l, r, hput, hm⟩ := ih
        refine ⟨(a, u) :: l, r, by rw [hput]; rfl, ?_⟩
        rcases hm with rfl | ⟨w, rfl⟩
        · exact .inl rfl
        · exact .inr ⟨w, rfl⟩

/-! Changes of register fields and of one queue alone. -/

/-- Nothing differs but the listed fields and the hidden state of one queue. -/
structure Dev.queueStep (d t : Dev) (q : Nat) (fs : List Field) : Prop where
  rest : ({ t with regs := d.regs, queues := d.queues } : Dev) = d
  queues : t.queues = d.queues ∨ t.queues = KMap.put d.queues q (t.queue q)
  fields : ∀ g : Field, (∀ f ∈ fs, f.key ≠ g.key) → t.rd g = d.rd g

section
variable {d t u : Dev} {q : Nat} {fs gs : List Field}

theorem Dev.queueStep_refl (d : Dev) (q : Nat) (fs : List Field) : d.queueStep d q fs := ⟨rfl, .inl rfl, fun _ _ => rfl⟩

theorem Dev.queueStep_wr (h : d.queueStep t q fs) {f : Field} (hf : f ∈ fs) (v : Nat) : d.queueStep (t.wr f v) q fs :=
  ⟨h.rest, h.queues, fun g hg => (Dev.rd_wr_ne _ _ (hg f hf)).trans (h.fields g hg)⟩

theorem Dev.queueStep_setQueue (h : d.queueStep t q fs) (x : QueueSt) : d.queueStep (t.setQueue q x) q fs := by
  refine ⟨h.rest, .inr ?_, h.fields⟩
  have hx : (t.setQueue q x).queue q = x := by rw [Dev.queue_setQueue, if_pos rfl]
  rw [hx]
  show KMap.put t.queues q x = _
  rcases h.queues with hq | hq
  · rw [hq]
  · rw [hq, KMap.put_put]

theorem Dev.queueStep_updEntry (h : d.queueStep t q fs) (seq : Nat) (f : Entry → Entry) : d.queueStep (t.updEntry q seq f) q fs :=
  Dev.queueStep_setQueue h _

theorem Dev.queueStep_mono (h : d.queueStep t q fs) (hs : ∀ f ∈ fs, f ∈ gs) : d.queueStep t q gs :=
  ⟨h.rest, h.queues, fun g hg => h.fields g fun f hf => hg f (hs f hf)⟩

/-- Other queues stand. -/
theorem Dev.queueStep_queue (h : d.queueStep t q fs) {p : Nat} (hp : p ≠ q) : t.queue p = d.queue p := by
  rcases h.queues with hq | hq
  · rw [Dev.queue, hq, Dev.queue]
  · rw [Dev.queue, hq, KMap.get_put, if_neg (Ne.symm hp), Dev.queue]

theorem Dev.queueStep_trans (h : d.queueStep t q fs) (k : t.queueStep u q fs) : d.queueStep u q fs := by
  refine ⟨?_, ?_, fun g hg => (k.fields g hg).trans (h.fields g hg)⟩
  · calc ({ u with regs := d.regs, queues := d.queues } : Dev)
        = { ({ u with regs := t.regs, queues := t.queues } : Dev) with regs := d.regs, queues := d.queues } := rfl
      _ = { t with regs := d.regs, queues := d.queues } := by rw [k.rest]
      _ = d := h.rest
  · rcases k.queues with hk | hk
    · have hq : u.queue q = t.queue q := by rw [Dev.queue, hk, Dev.queue]
      rw [hq, hk]
      exact h.queues
    · rcases h.queues with hq | hq
      · exact .inr (by rw [hk, hq])
      · refine .inr ?_
        generalize u.queue q = y at hk ⊢
        rw [hk, hq, KMap.put_put]

/-- The claim of a statement about a command. -/
theorem Dev.queueStep_queueOnly (h : d.queueStep t q fs)
    (hs : ∀ f ∈ fs, f ∈ [QU_STAT_JWAIT q, QU_HEAD_FETCH q, ACCEPT_INDEX_INDEX q, QU_ACCEPT_SEQ_SEQ q] ++ gs) : d.queueOnly t q gs :=
  ⟨h.rest, fun _ hp => Dev.queueStep_queue h hp, fun g hg => h.fields g fun f hf => hg f (hs f hf)⟩

/-- All but registers and queues is the same. -/
theorem Dev.queueStep_eq (h : d.queueStep t q fs) : t = { d with regs := t.regs, queues := t.queues } := by
  have hd := h.rest
  rw [← hd]

theorem Dev.queueStep_telling (h : d.queueStep t q fs) (hs : ∀ f ∈ fs, f.key ≠ (TWIN_STAT_STATE).key ∧ f.key ≠ (TWIN_STAT_ROLE).key) :
    t.telling = d.telling :=
  Dev.telling_congr (h.fields _ fun f hf => (hs f hf).1) (h.fields _ fun f hf => (hs f hf).2)

/-- The fields of the twin's state lie above those of the queues, the event counts and the pegs. -/
theorem twinState_apart {f : Field} (h : f.key < 2 ^ 25) : f.key ≠ (TWIN_STAT_STATE).key ∧ f.key ≠ (TWIN_STAT_ROLE).key := by
  have hstate : (TWIN_STAT_STATE).key = 33554498 := rfl
  have hrole : (TWIN_STAT_ROLE).key = 33554497 := rfl
  omega

theorem Dev.queueStep_nothingWaits (h : d.queueStep t q fs) (hn : d.nothingWaits q) : t.nothingWaits q := by
  rw [Dev.queueStep_eq h]
  exact hn

end

/-- The entries of all journals that pass a test, with their queues. -/
def passing (P : Entry → Bool) (m : KMap QueueSt) : List (Nat × Entry) :=
  (m.map fun (q, s) => (s.journal.filter P).map fun e => (q, e)).flatten

theorem Dev.runningCmds_eq (d : Dev) : d.runningCmds = passing (fun e => e.stage == .started && e.fin.isNone) d.queues := rfl

theorem Dev.openCmds_eq (d : Dev) : d.openCmds = passing (fun e => e.stage == .started) d.queues := rfl

/-- Where the journals gave nothing, they give what the journal of a newly listed queue gives. -/
theorem passing_put {β : Type} {P : Entry → Bool} {F : Nat × Entry → Option β} {m : KMap QueueSt} (hm : (passing P m).filterMap F = [])
    (q : Nat) (x : QueueSt) :
    (passing P (KMap.put m q x)).filterMap F = ((x.journal.filter P).map fun e => (q, e)).filterMap F := by
  obtain ⟨l, r, hput, hlr⟩ := KMap.put_split m q x
  have hnone : (passing P l).filterMap F = [] ∧ (passing P r).filterMap F = [] := by
    rcases hlr with rfl | ⟨w, rfl⟩ <;>
      simp only [passing, List.map_append, List.map_cons, List.flatten_append, List.flatten_cons, List.filterMap_append,
        List.append_eq_nil_iff] at hm <;> tauto
  rw [hput]
  simp only [passing, List.map_append, List.map_cons, List.flatten_append, List.flatten_cons, List.filterMap_append] at hnone ⊢
  rw [hnone.1, hnone.2, List.nil_append, List.append_nil]

/-- The same after a change of one queue alone whose journal was empty. -/
theorem Dev.queueStep_passing {β : Type} {P : Entry → Bool} {F : Nat × Entry → Option β} {d t : Dev} {q : Nat} {fs : List Field}
    (h : d.queueStep t q fs) (hm : (passing P d.queues).filterMap F = []) (hj : d.journal q = []) :
    (passing P t.queues).filterMap F = (((t.journal q).filter P).map fun e => (q, e)).filterMap F := by
  rcases h.queues with hq | hq
  · have hjt : t.journal q = [] := by rw [Dev.journal, Dev.queue, hq]; exact hj
    rw [hq, hm, hjt]
    rfl
  · rw [hq]
    exact passing_put hm q _

/-! The path behind a command's words. -/

section
variable (d : Dev) (q : Nat) (ws : List Word)

theorem Dev.goTo_queueStep (p : Place) : d.queueStep (d.goTo q p) q [QU_HEAD_FETCH q] := by
  have hset := Dev.queueStep_refl d q [QU_HEAD_FETCH q]
  cases p with
  | ring i => exact Dev.queueStep_wr (Dev.queueStep_setQueue hset _) (List.mem_singleton_self _) _
  | list b a => exact Dev.queueStep_setQueue hset _

@[simp] theorem Dev.pos_goTo (p : Place) : ((d.goTo q p).queue q).pos = p := (d.goTo_pathOnly q p).2

@[simp] theorem Dev.journal_goTo (p : Place) : (d.goTo q p).journal q = d.journal q := (d.goTo_pathOnly q p).1.2.2.2.1

@[simp] theorem Dev.snaps_goTo (p : Place) : ((d.goTo q p).queue q).snaps = (d.queue q).snaps := (d.goTo_pathOnly q p).1.2.2.2.2

@[simp] theorem Dev.stack_goTo (p : Place) : ((d.goTo q p).queue q).stack = (d.queue q).stack := by
  cases p <;> simp [Dev.goTo]

/-- The place behind the words of the next command. -/
def Dev.behind : Place :=
  ((d.pathPlaces q ws.length (d.queue q).pos).getLast?.getD (d.nextPlace q (d.queue q).pos)).plus 1

/-- The ring index behind them, when they lie in the ring. -/
def Place.index : Place → Option Nat
  | .ring i => some i
  | .list _ _ => none

/-- The loop window with the words of the next command. -/
def Dev.windowWith : List WinWord :=
  let all := (d.queue q).window ++ (d.pathPlaces q ws.length (d.queue q).pos).zipWith WinWord.mk ws
  all.drop (all.length - 264)

/-- The path moved on behind the words of the next command. -/
def Dev.walked : Dev := (d.setQueue q { d.queue q with window := d.windowWith q ws }).goTo q (d.behind q ws)

theorem Dev.walked_queueStep : d.queueStep (d.walked q ws) q [QU_HEAD_FETCH q] :=
  Dev.queueStep_trans (Dev.queueStep_setQueue (Dev.queueStep_refl d q _) _) (Dev.goTo_queueStep _ q _)

@[simp] theorem Dev.pos_walked : ((d.walked q ws).queue q).pos = d.behind q ws := Dev.pos_goTo _ q _

@[simp] theorem Dev.journal_walked : (d.walked q ws).journal q = d.journal q := by
  rw [Dev.walked, Dev.journal_goTo, Dev.journal, Dev.queue_setQueue, if_pos rfl, Dev.journal]

@[simp] theorem Dev.snaps_walked : ((d.walked q ws).queue q).snaps = (d.queue q).snaps := by
  rw [Dev.walked, Dev.snaps_goTo, Dev.queue_setQueue, if_pos rfl]

@[simp] theorem Dev.stack_walked : ((d.walked q ws).queue q).stack = (d.queue q).stack := by
  rw [Dev.walked, Dev.stack_goTo, Dev.queue_setQueue, if_pos rfl]

/-- What the path does with words that spell no command of the sequencer's. -/
theorem Dev.follow_eq_of_plain (h : seqOpcode (opcodeOf (ws.getD 0 0)) = false) :
    d.follow q ws = (none, (d.behind q ws).index, d.walked q ws) := by
  simp only [Dev.follow, h, Bool.false_eq_true, if_false]
  rfl

/-- What the path does with a command of the sequencer's. -/
theorem Dev.follow_eq_of_seq {c : Cmd} (h : seqOpcode (opcodeOf (ws.getD 0 0)) = true) (hc : decodeCmd ws = some c) :
    d.follow q ws = (some (((d.walked q ws).seqEffect q (d.nextPlace q (d.queue q).pos) (d.queue q) c).1, 0), (d.behind q ws).index,
      ((d.walked q ws).seqEffect q (d.nextPlace q (d.queue q).pos) (d.queue q) c).2) := by
  simp only [Dev.follow, h, if_true, hc]
  rfl

/-- Words that nobody has taken follow one another. -/
theorem Dev.behind_fresh {n : Nat} (h : d.freshWords q n) (hn : ws.length = n) (hpos : 0 < n) : d.behind q ws = (d.queue q).pos.plus n := by
  obtain ⟨-, hp, hw⟩ := h
  obtain ⟨m, rfl⟩ := Nat.exists_eq_succ_of_ne_zero (Nat.ne_of_gt hpos)
  rw [Dev.behind, hn, Dev.pathPlaces_fresh d q _ _ hp fun x hx => (hw x hx).1, placesFrom, List.range_succ, List.map_append]
  simp only [List.map_cons, List.map_nil, List.getLast?_concat, Option.getD_some]
  rw [Place.plus_plus]

theorem Dev.nextPlace_fresh {n : Nat} (h : d.freshWords q n) (hpos : 0 < n) : d.nextPlace q (d.queue q).pos = (d.queue q).pos := by
  obtain ⟨-, hp, hw⟩ := h
  refine Dev.nextPlace_unseen (hw _ ?_).1
  exact List.mem_map.mpr ⟨0, List.mem_range.mpr hpos, hp⟩

end

end Sys2Proof.Machine
end

section
/-!
The only command of a queue: the entry that acceptance makes (R40 to R43), its start, and the completion of a command that nothing
else waits for (R45, R66).
-/
namespace Sys2Proof.Machine

/-! Acceptance. -/

/-- The entry of the next command of a queue, with the outcome that the path gave it. -/
def Dev.takenEntry (d : Dev) (q : Nat) (ws : List Word) (fin : Option (Status × Word)) : Entry :=
  { d.newEntry q (d.nextSeq q) (d.rd (QU_EPOCH_EPOCH q)) ws with fin := fin }

/-- The device once the path has gone on to t and the entry stands in the journal. -/
def Dev.taken (d t : Dev) (q : Nat) (ws : List Word) (fin : Option (Status × Word)) : Dev :=
  (t.setQueue q { t.queue q with journal := d.journal q ++ [d.takenEntry q ws fin] }).showAccept q (d.nextSeq q) (d.behind q ws).index
    (decodeCmd ws == some .halt)

/-- The words are taken as the path says, and a command whose outcome it gives completes. -/
theorem Dev.takeWords_eq {d t : Dev} {q : Nat} {ws : List Word} {fin : Option (Status × Word)} (hs : (d.queue q).snaps = [])
    (ht : d.telling = false) (hf : d.follow q ws = (fin, (d.behind q ws).index, t)) (htt : t.telling = false)
    (hj : t.journal q = d.journal q) :
    d.takeWords q ws = match (generalizing := false) fin with
      | some (st, res) => (d.taken t q ws fin).close q (d.nextSeq q) st res
      | none => d.taken t q ws fin := by
  have htold : ∀ x : QueueSt, (t.setQueue q x).telling = false := fun _ => htt
  have hj' : (t.queue q).journal = d.journal q := hj
  simp only [Dev.takeWords, Dev.atPath_plain hs, Dev.pairedLead_telling ht, hf, htold, hj', Bool.false_eq_true, if_false]
  cases fin <;> rfl

/-- What acceptance shows. -/
theorem Dev.showAccept_queueStep (d : Dev) (q seq : Nat) (i : Option Nat) (halt : Bool) :
    d.queueStep (d.showAccept q seq i halt) q ([ACCEPT_INDEX_INDEX q, QU_ACCEPT_SEQ_SEQ q] ++ if halt then [QU_CTL_EN q] else []) := by
  have h0 := Dev.queueStep_refl d q ([ACCEPT_INDEX_INDEX q, QU_ACCEPT_SEQ_SEQ q] ++ if halt then [QU_CTL_EN q] else [])
  cases i <;> cases halt
  · exact Dev.queueStep_wr h0 (by simp) _
  · exact Dev.queueStep_wr (Dev.queueStep_wr h0 (by simp) _) (by simp) _
  · exact Dev.queueStep_wr (Dev.queueStep_wr h0 (by simp) _) (by simp) _
  · exact Dev.queueStep_wr (Dev.queueStep_wr (Dev.queueStep_wr h0 (by simp) _) (by simp) _) (by simp) _

@[simp] theorem Dev.queue_showAccept (d : Dev) (q seq : Nat) (i : Option Nat) (halt : Bool) (p : Nat) :
    (d.showAccept q seq i halt).queue p = d.queue p := by
  cases i <;> cases halt <;> rfl

theorem Dev.nextSeq_lt (d : Dev) (q : Nat) : d.nextSeq q < 2 ^ 48 := by
  unfold Dev.nextSeq seqNext
  split
  · assumption
  · decide

/-- The sequence number shows. -/
theorem Dev.rd_seq_showAccept (d : Dev) (q : Nat) {seq : Nat} (h : seq < 2 ^ 48) (i : Option Nat) (halt : Bool) :
    (d.showAccept q seq i halt).rd (QU_ACCEPT_SEQ_SEQ q) = seq := by
  have hmod : seq % 2 ^ (QU_ACCEPT_SEQ_SEQ q).width = seq := Nat.mod_eq_of_lt h
  cases halt
  · exact (Dev.rd_wr_same _ _ _).trans hmod
  · exact (Dev.rd_wr_ne _ _ (by simp only [key_QU_CTL_EN, key_QU_ACCEPT_SEQ_SEQ]; omega)).trans ((Dev.rd_wr_same _ _ _).trans hmod)

/-- HALT clears EN at its acceptance (R79). -/
theorem Dev.rd_en_showAccept_halt (d : Dev) (q seq : Nat) (i : Option Nat) : (d.showAccept q seq i true).rd (QU_CTL_EN q) = 0 :=
  (Dev.rd_wr_same _ _ _).trans (Nat.zero_mod _)

/-- The fields that acceptance changes. -/
def acceptFields (q : Nat) (halt : Bool) : List Field :=
  [QU_HEAD_FETCH q, ACCEPT_INDEX_INDEX q, QU_ACCEPT_SEQ_SEQ q] ++ if halt then [QU_CTL_EN q] else []

theorem Dev.taken_queueStep {d b t : Dev} {q : Nat} {ws : List Word} {fin : Option (Status × Word)} {fs : List Field} (h : b.queueStep t q fs)
    (hs : ∀ f ∈ acceptFields q (decodeCmd ws == some .halt), f ∈ fs) : b.queueStep (d.taken t q ws fin) q fs :=
  Dev.queueStep_trans (Dev.queueStep_setQueue h _)
    (Dev.queueStep_mono (Dev.showAccept_queueStep _ q _ _ _) fun f hf => hs f (List.mem_cons_of_mem _ hf))

@[simp] theorem Dev.queue_taken (d t : Dev) (q : Nat) (ws : List Word) (fin : Option (Status × Word)) :
    (d.taken t q ws fin).queue q = { t.queue q with journal := d.journal q ++ [d.takenEntry q ws fin] } := by
  rw [Dev.taken, Dev.queue_showAccept, Dev.queue_setQueue, if_pos rfl]

@[simp] theorem Dev.journal_taken (d t : Dev) (q : Nat) (ws : List Word) (fin : Option (Status × Word)) :
    (d.taken t q ws fin).journal q = d.journal q ++ [d.takenEntry q ws fin] := by
  rw [Dev.journal, Dev.queue_taken]

/-! The completion of the only command of a journal. -/

/-- Queue q holds one command, which has not completed, and nothing waits for its completion. -/
structure Dev.sole (d : Dev) (q n : Nat) (e : Entry) : Prop where
  journal : d.journal q = [e]
  seq : e.seq = n
  notDone : e.stage ≠ .completed
  replay : e.replay = false
  telling : d.telling = false
  quiet : d.nothingWaits q

/-- The entry of a command once it has completed, on a device that tells no twin. -/
def Dev.closed (d : Dev) (e : Entry) (st : Status) (res : Word) : Entry :=
  { e with stage := .completed, status := st, result := res, fin := some (st, res), staged := [], delta := [], wrote := []
           stamp := d.closeStamp e, durable := true }

/-- Releases that wait and packets that wait are none. -/
theorem Dev.settled_quiet {d : Dev} {q : Nat} (h : d.nothingWaits q) : d.settleReleases.pumpStage = d := by
  obtain ⟨htables, hstage, -⟩ := h
  have hreleases : d.settleReleases = d := by
    have hfold : ∀ (l : KMap TableSt) (x : Dev), (l.all fun y => !y.2.releasing) = true →
        l.foldl (fun d (t, y) => if y.releasing && !d.namesTable t then Dev.tableFree d t else d) x = x := by
      intro l
      induction l with
      | nil => exact fun _ _ => rfl
      | cons y l ih =>
        intro x hl
        rw [List.all_cons, Bool.and_eq_true, Bool.not_eq_true'] at hl
        obtain ⟨hy, hl⟩ := hl
        rw [List.foldl_cons]
        simp only [hy, Bool.false_and, Bool.false_eq_true, if_false]
        exact ih x hl
    exact hfold d.tables d htables
  rw [hreleases]
  simp only [Dev.pumpStage, hstage, List.foldl_nil]
  rw [← hstage]

section
variable {d : Dev} {q n : Nat} {e : Entry} (h : d.sole q n e)
include h

theorem Dev.entry_sole : d.entry q n = some e := by
  rw [← h.seq]
  exact Dev.entry_single h.journal

/-- No drain is the command's. -/
theorem Dev.drains_sole : ({ d with drains := d.drains.filter fun x => x.q != q || x.seq != e.seq } : Dev) = d := by
  obtain ⟨-, -, hdrains⟩ := h.quiet
  have hall : (d.drains.filter fun x => x.q != q || x.seq != e.seq) = d.drains :=
    List.filter_eq_self.mpr fun x hx => by simp [hdrains x hx]
  rw [hall]

theorem Dev.journal_updEntry_sole (f : Entry → Entry) : (d.updEntry q n f).journal q = [f e] := by
  rw [Dev.journal_updEntry, if_pos rfl, h.journal]
  simp [h.seq]

/-- Only its own entry changes, and a failure stops the queue (R66). -/
theorem Dev.close_sole (st : Status) (res : Word) :
    ∃ u, d.queueStep u q [] ∧ u.queue q = { d.queue q with journal := [d.closed e st res] } ∧
      d.close q n st res = if d.stops q e st then u.wr (QU_STAT_ERRSTOP q) 1 else u := by
  refine ⟨d.closeOne q e st res (d.stops q e st), ?_⟩
  have hst : e.okStatus st = st := by simp [Entry.okStatus, h.replay]
  have hone : d.closeOne q e st res (d.stops q e st) = d.updEntry q n fun x => { x with
      stage := .completed, status := st, result := res, fin := some (st, res), staged := [], delta := [], wrote := []
      stamp := d.closeStamp e, durable := true } := by
    have htold : ∀ f, (d.updEntry q n f).telling = false := fun _ => h.telling
    simp only [Dev.closeOne, hst]
    rw [Dev.drains_sole h]
    simp only [h.seq, Dev.pairedLead_telling h.telling, htold, Bool.false_eq_true, if_false,
      Bool.not_false]
  have hjournal : (d.closeOne q e st res (d.stops q e st)).journal q = [d.closed e st res] := by
    rw [hone, Dev.journal_updEntry_sole h]
    rfl
  have hqueue : (d.closeOne q e st res (d.stops q e st)).queue q = { d.queue q with journal := [d.closed e st res] } := by
    rw [← hjournal, hone, Dev.updEntry, Dev.journal, Dev.queue_setQueue, if_pos rfl]
  refine ⟨?_, hqueue, ?_⟩
  · rw [hone]
    exact Dev.queueStep_updEntry (Dev.queueStep_refl d q []) n _
  · have hstage : (e.stage == .completed) = false := by simpa using h.notDone
    simp only [Dev.close, Dev.entry_sole h, hstage, Bool.false_eq_true, if_false]
    split
    · have hseq : (d.closed e st res).seq = n := h.seq
      simp only [Dev.stopQueue, hjournal, List.dropWhile_cons, List.dropWhile_nil, hseq, bne_self_eq_false, Bool.false_eq_true, if_false,
        List.drop_succ_cons, List.drop_nil, List.foldl_nil, Dev.set_eq]
    · rfl

/-- The command has completed, and nothing else differs but ERRSTOP after a failure that stops the queue. -/
theorem Dev.ended_close_sole (st : Status) (r : Nat) :
    (d.close q n st (.ofNat 64 r)).ended q n st r ∧
      d.queueStep (d.close q n st (.ofNat 64 r)) q (if d.stops q e st then [QU_STAT_ERRSTOP q] else []) ∧
      (d.close q n st (.ofNat 64 r)).queue q = { d.queue q with journal := [d.closed e st (.ofNat 64 r)] } := by
  obtain ⟨u, hstep, hqueue, hclose⟩ := Dev.close_sole h st (.ofNat 64 r)
  have hu : (d.close q n st (.ofNat 64 r)).queue q = { d.queue q with journal := [d.closed e st (.ofNat 64 r)] } := by
    rw [hclose]
    split <;> exact hqueue
  refine ⟨⟨d.closed e st (.ofNat 64 r), ?_, rfl, rfl, rfl⟩, ?_, hu⟩
  · rw [← h.seq]
    exact Dev.entry_single (e := d.closed e st (.ofNat 64 r)) (h.seq ▸ congrArg QueueSt.journal hu)
  · rw [hclose]
    split
    · exact Dev.queueStep_wr (Dev.queueStep_mono hstep fun f hf => absurd hf List.not_mem_nil) (List.mem_singleton_self _) 1
    · exact hstep

end

/-- A change of one queue keeps what a completion needs, when its journal still holds the one command. -/
theorem Dev.sole_of_queueStep {d t : Dev} {q n : Nat} {e e2 : Entry} {fs : List Field} (h : d.sole q n e) (hstep : d.queueStep t q fs)
    (hs : ∀ f ∈ fs, f.key ≠ (TWIN_STAT_STATE).key ∧ f.key ≠ (TWIN_STAT_ROLE).key) (hj : t.journal q = [e2]) (hseq : e2.seq = e.seq)
    (hdone : e2.stage ≠ .completed) (hreplay : e2.replay = e.replay) : t.sole q n e2 :=
  ⟨hj, hseq.trans h.seq, hdone, hreplay.trans h.replay, (Dev.queueStep_telling hstep hs).trans h.telling,
    Dev.queueStep_nothingWaits hstep h.quiet⟩

/-- Queue q holds one command in progress whose outcome is open and which holds back no writes. -/
structure Dev.working (d : Dev) (q n : Nat) (c : Cmd) (e : Entry) : Prop extends d.sole q n e where
  started : e.stage = .started
  fin : e.fin = none
  cmd : e.cmd = some c
  staged : e.staged = []
  delta : e.delta = []
  wrote : e.wrote = []

section
variable {d : Dev} {q n : Nat} {c : Cmd} {e : Entry} (h : d.working q n c e)
include h

/-- Its outcome is fixed. -/
theorem Dev.fix_working (st : Status) (res : Word) :
    d.queueStep (d.fix q n st res) q [] ∧ (d.fix q n st res).sole q n { e with fin := some (st, res) } := by
  have hstep : d.queueStep (d.fix q n st res) q [] := Dev.queueStep_updEntry (Dev.queueStep_refl d q []) n _
  refine ⟨hstep, Dev.sole_of_queueStep h.tosole hstep (fun f hf => absurd hf List.not_mem_nil) ?_ rfl h.notDone rfl⟩
  rw [Dev.fix, Dev.journal_updEntry_sole h.tosole]
  simp [h.fin, h.started]

/-- The completion point of a command that ends well: its own committed effects, and its entry closes (R45, R75). -/
theorem Dev.settle_ok {v : Dev} {res : Word} (hv : (d.fix q n .ok res).commitOwn q n c e.aux = v) (hquiet : (v.close q n .ok res).nothingWaits q) :
    d.settle q n (some (.ok, res)) = v.close q n .ok res := by
  have hfix := (Dev.fix_working h .ok res).2
  have hentry := Dev.entry_sole hfix
  simp only [Dev.settle, Dev.complete, hentry, h.started, h.staged, h.delta, h.cmd, ne_eq, not_true_eq_false, if_false, if_true]
  have hnone : ((d.fix q n .ok res).applyStaged []).mergeDelta [] = d.fix q n .ok res := rfl
  rw [hnone, hv]
  exact Dev.settled_quiet hquiet

/-- The completion point of a command that fails with nothing written (R45). -/
theorem Dev.settle_failed {st : Status} {res : Word} (hst : st ≠ .ok) (hquiet : ((d.fix q n st res).close q n st res).nothingWaits q) :
    d.settle q n (some (st, res)) = (d.fix q n st res).close q n st res := by
  have hfix := (Dev.fix_working h st res).2
  have hentry := Dev.entry_sole hfix
  simp only [Dev.settle, Dev.complete, hentry, h.started, h.wrote, ne_eq, not_true_eq_false, if_false, hst, List.foldl_nil]
  exact Dev.settled_quiet hquiet

/-- A command that only waits has no completion point yet. -/
theorem Dev.settle_none : d.settle q n none = d := by
  simp only [Dev.settle, Dev.complete, Dev.entry_sole h.tosole, h.fin]

/-- A command without committed effects of its own ends with the outcome of its work, and nothing else differs. -/
theorem Dev.settle_ended (st : Status) (r : Nat) (hown : st = .ok → ∀ v : Dev, v.commitOwn q n c e.aux = v) :
    (d.settle q n (some (st, .ofNat 64 r))).ended q n st r ∧
      d.queueStep (d.settle q n (some (st, .ofNat 64 r))) q (if d.stops q e st then [QU_STAT_ERRSTOP q] else []) := by
  obtain ⟨hstep, hfix⟩ := Dev.fix_working h st (.ofNat 64 r)
  obtain ⟨hended, hclose, -⟩ := Dev.ended_close_sole hfix st r
  have hstops : (d.fix q n st (.ofNat 64 r)).stops q { e with fin := some (st, .ofNat 64 r) } st = d.stops q e st := rfl
  rw [hstops] at hclose
  have hquiet := Dev.queueStep_nothingWaits hclose hfix.quiet
  have hsettle : d.settle q n (some (st, .ofNat 64 r)) = (d.fix q n st (.ofNat 64 r)).close q n st (.ofNat 64 r) := by
    by_cases hok : st = .ok
    · subst hok
      exact Dev.settle_ok h (hown rfl _) hquiet
    · exact Dev.settle_failed h hok hquiet
  rw [hsettle]
  exact ⟨hended, Dev.queueStep_trans (Dev.queueStep_mono hstep fun f hf => absurd hf List.not_mem_nil) hclose⟩

/-- A command that ends well stops nothing. -/
theorem Dev.settle_ended_ok (r : Nat) (hown : ∀ v : Dev, v.commitOwn q n c e.aux = v) :
    (d.settle q n (some (.ok, .ofNat 64 r))).ended q n .ok r ∧ d.queueStep (d.settle q n (some (.ok, .ofNat 64 r))) q [] :=
  Dev.settle_ended h .ok r fun _ => hown

end

end Sys2Proof.Machine
end

section
/-!
A command submitted to a queue that takes it at once (R40, R45, R74): what acceptance and start leave, and the work that follows.
-/
namespace Sys2Proof.Machine

/-! Words of commands, as the accept stage sees them. -/

theorem seqOpcode_opcode (c : Cmd) : seqOpcode c.opcode = c.isSeq := by cases c <;> rfl

theorem encodeCmd_spells {c : Cmd} (h : c.inRange = true) (hs : c.stopPlain = true) (f : CmdFlags) :
    decodeCmd (encodeCmd c f) = some c ∧ encodeCmd c f ≠ [] ∧ seqOpcode (opcodeOf ((encodeCmd c f).getD 0 0)) = c.isSeq := by
  obtain ⟨hdecode, hop, -, -⟩ := commandWordsReadBack c f h hs
  refine ⟨hdecode, fun hnil => ?_, by rw [hop, seqOpcode_opcode]⟩
  rw [hnil] at hdecode
  cases hdecode

/-! Handles (R74). -/

/-- The handles that a command names are allocated and usable. -/
def Dev.handlesReady (d : Dev) (c : Cmd) : Prop :=
  (∀ h ∈ c.kernels, ∃ k, d.kernel h = some k ∧ k.ready = true) ∧ (∀ h ∈ c.buffers, ∃ b, d.buffer h = some b ∧ b.ready = true) ∧
    ∀ t ∈ c.tables, (d.table t).isSome = true

theorem foldl_join_ok {l : List Handles} (h : ∀ x ∈ l, x = .ok) : l.foldl Handles.join .ok = .ok := by
  induction l with
  | nil => rfl
  | cons x l ih =>
    obtain ⟨hx, hl⟩ := List.forall_mem_cons.mp h
    rw [List.foldl_cons, hx]
    exact ih hl

theorem Dev.handles_ok {d : Dev} {c : Cmd} (h : d.handlesReady c) (ha : allocates c = false) (q n : Nat) : d.handles q n c = .ok := by
  obtain ⟨hk, hb, ht⟩ := h
  have hall : (c.kernels.map (d.kernelState q n) ++ c.buffers.map (d.bufferState q n) ++ c.tables.map (d.tableState q n)).foldl
      Handles.join .ok = .ok := by
    refine foldl_join_ok fun x hx => ?_
    simp only [List.mem_append, List.mem_map] at hx
    rcases hx with (⟨y, hy, rfl⟩ | ⟨y, hy, rfl⟩) | ⟨y, hy, rfl⟩
    · obtain ⟨k, hk, hr⟩ := hk y hy
      simp only [Dev.kernelState, hk, hr, if_true]
    · obtain ⟨b, hb, hr⟩ := hb y hy
      simp only [Dev.bufferState, hb, hr, if_true]
    · simp only [Dev.tableState, ht y hy, if_true]
  cases c <;> first | exact hall | cases ha

theorem Dev.handlesReady_queueStep {d t : Dev} {q : Nat} {fs : List Field} (hstep : d.queueStep t q fs) {c : Cmd} (h : d.handlesReady c) :
    t.handlesReady c := by
  rw [Dev.queueStep_eq hstep]
  exact h

/-! A queue that takes a command at once. -/

/-- Queue q takes a command at once that is none of the sequencer's and whose fields are in range. -/
structure Dev.takesNow (d : Dev) (q : Nat) (c : Cmd) (f : CmdFlags) : Prop where
  lt : q < 64
  ready : d.ready q (encodeCmd c f).length
  inRange : c.inRange = true
  plain : c.stopPlain = true
  notSeq : c.isSeq = false

/-- The entry of such a command once it has started. -/
def Dev.begunEntry (d : Dev) (q : Nat) (c : Cmd) (f : CmdFlags) (env : CmdEnv) : Entry :=
  { (d.wr (QU_STAT_JWAIT q) 0).takenEntry q (encodeCmd c f) none with
    stage := .started, started := d.stamp, epoch := d.rd (QU_EPOCH_EPOCH q), env := env }

/-- The fields that the acceptance of a command changes. -/
def takenFields (q : Nat) (c : Cmd) : List Field := QU_STAT_JWAIT q :: acceptFields q (c == .halt)

/-- Where they lie. -/
theorem key_of_mem_acceptFields {q : Nat} {halt : Bool} {f : Field} (hf : f ∈ acceptFields q halt) :
    f.key = 2048 * q + 2621568 ∨ f.key = 2048 * q + 2621632 ∨ f.key = 2048 * q + 2621696 ∨ f.key = 2048 * q + 2621824 := by
  simp only [acceptFields, List.mem_cons, List.mem_append, List.not_mem_nil, or_false] at hf
  rcases hf with (rfl | rfl | rfl) | hf
  · exact .inl (key_QU_HEAD_FETCH q)
  · exact .inr (.inl (key_ACCEPT_INDEX_INDEX q))
  · exact .inr (.inr (.inl (key_QU_ACCEPT_SEQ_SEQ q)))
  · split at hf
    · rw [List.mem_singleton.mp hf]
      exact .inr (.inr (.inr (key_QU_CTL_EN q)))
    · exact absurd hf List.not_mem_nil

theorem key_of_mem_takenFields {q : Nat} {c : Cmd} {f : Field} (hf : f ∈ takenFields q c) :
    f.key = 2048 * q + 2621895 ∨ f.key = 2048 * q + 2621568 ∨ f.key = 2048 * q + 2621632 ∨ f.key = 2048 * q + 2621696 ∨
      f.key = 2048 * q + 2621824 := by
  rcases List.mem_cons.mp hf with rfl | hf
  · exact .inl (key_QU_STAT_JWAIT q)
  · exact .inr (key_of_mem_acceptFields hf)

theorem twinState_apart_takenFields {q : Nat} (hq : q < 64) {c : Cmd} :
    ∀ f ∈ takenFields q c, f.key ≠ (TWIN_STAT_STATE).key ∧ f.key ≠ (TWIN_STAT_ROLE).key := fun f hf =>
  twinState_apart (by have := key_of_mem_takenFields hf; omega)

/-- The device with JWAIT cleared, as the accept stage leaves it before it takes a command's words. -/
def Dev.goesOn (d : Dev) (q : Nat) : Dev := d.wr (QU_STAT_JWAIT q) 0

theorem Dev.goesOn_queueStep (d : Dev) (q : Nat) (c : Cmd) : d.queueStep (d.goesOn q) q (takenFields q c) :=
  Dev.queueStep_wr (Dev.queueStep_refl d q _) List.mem_cons_self 0

@[simp] theorem Dev.journal_goesOn (d : Dev) (q p : Nat) : (d.goesOn q).journal p = d.journal p := rfl

theorem Dev.lastSeq_wr_jwait (d : Dev) (q v : Nat) : (d.wr (QU_STAT_JWAIT q) v).lastSeq q = d.lastSeq q := by
  rw [Dev.lastSeq, Dev.journal_wr, Dev.rd_wr_ne _ _ (by simp only [key_QU_STAT_JWAIT, key_QU_ACCEPT_SEQ_SEQ]; omega), Dev.lastSeq]

theorem Dev.nextSeq_goesOn (d : Dev) (q : Nat) : (d.goesOn q).nextSeq q = d.nextSeq q := congrArg seqNext (Dev.lastSeq_wr_jwait d q 0)

/-- Words that spell no command of the sequencer's are taken whole. -/
theorem Dev.takeWords_goesOn {d : Dev} {q : Nat} {ws : List Word} (hq : q < 64) (hs : (d.queue q).snaps = []) (ht : d.telling = false)
    (hseq : seqOpcode (opcodeOf (ws.getD 0 0)) = false) :
    (d.goesOn q).takeWords q ws = (d.goesOn q).taken ((d.goesOn q).walked q ws) q ws none := by
  have hgoes := (Dev.queueStep_telling (Dev.goesOn_queueStep d q .nop) (twinState_apart_takenFields hq)).trans ht
  have hwalked : ((d.goesOn q).walked q ws).telling = false := (Dev.queueStep_telling (Dev.walked_queueStep (d.goesOn q) q ws) fun g hg =>
    twinState_apart (by rw [List.mem_singleton.mp hg, key_QU_HEAD_FETCH]; omega)).trans hgoes
  exact Dev.takeWords_eq (d := d.goesOn q) hs hgoes (Dev.follow_eq_of_plain _ q _ hseq) hwalked (Dev.journal_walked _ q _)

section
variable {d : Dev} {q : Nat} {c : Cmd} {f : CmdFlags} {env : CmdEnv} (h : d.takesNow q c f)
include h

omit h in
theorem Dev.walked_takesNow : d.queueStep ((d.goesOn q).walked q (encodeCmd c f)) q (takenFields q c) :=
  Dev.queueStep_trans (Dev.queueStep_wr (Dev.queueStep_refl d q _) List.mem_cons_self 0)
    (Dev.queueStep_mono (Dev.walked_queueStep _ q _) fun f hf => by
      rw [List.mem_singleton.mp hf]
      exact List.mem_cons_of_mem _ List.mem_cons_self)

/-- Its words are taken whole. -/
theorem Dev.takeWords_takesNow : (d.goesOn q).takeWords q (encodeCmd c f) =
    (d.goesOn q).taken ((d.goesOn q).walked q (encodeCmd c f)) q (encodeCmd c f) none := by
  obtain ⟨-, -, hs, -, -, ht, -⟩ := h.ready
  obtain ⟨-, -, hseq⟩ := encodeCmd_spells h.inRange h.plain f
  exact Dev.takeWords_goesOn h.lt hs ht (hseq.trans h.notSeq)

omit h in
theorem Dev.begun_eq : d.begun q c f env = ((d.goesOn q).takeWords q (encodeCmd c f)).updEntry q (d.nextSeq q) fun e =>
    { e with stage := .started, started := ((d.goesOn q).takeWords q (encodeCmd c f)).stamp
             epoch := ((d.goesOn q).takeWords q (encodeCmd c f)).rd (QU_EPOCH_EPOCH q), env := env } := rfl

theorem Dev.takeWords_queueStep : d.queueStep ((d.goesOn q).takeWords q (encodeCmd c f)) q (takenFields q c) := by
  obtain ⟨hdecode, -, -⟩ := encodeCmd_spells h.inRange h.plain f
  rw [Dev.takeWords_takesNow h]
  refine Dev.queueStep_trans (Dev.queueStep_wr (Dev.queueStep_refl d q _) List.mem_cons_self 0) (Dev.taken_queueStep ?_ ?_)
  · refine Dev.queueStep_mono (Dev.walked_queueStep _ q _) fun f hf => ?_
    rw [List.mem_singleton.mp hf]
    exact List.mem_cons_of_mem _ List.mem_cons_self
  · intro f hf
    rw [hdecode] at hf
    exact List.mem_cons_of_mem _ hf

/-- Nothing but its queue, and the fields that its acceptance changes, differ once the command is begun. -/
theorem Dev.begun_queueStep : d.queueStep (d.begun q c f env) q (takenFields q c) :=
  Dev.queueStep_updEntry (Dev.takeWords_queueStep h) _ _

/-- The begun command is the only one of its queue. -/
theorem Dev.begun_working : (d.begun q c f env).working q (d.nextSeq q) c (d.begunEntry q c f env) := by
  obtain ⟨-, hj, -, -, -, ht, hquiet⟩ := h.ready
  obtain ⟨hdecode, -, -⟩ := encodeCmd_spells h.inRange h.plain f
  have hstep := Dev.takeWords_queueStep h
  have hstamp : ((d.goesOn q).takeWords q (encodeCmd c f)).stamp = d.stamp := by rw [Dev.queueStep_eq hstep]; rfl
  have hepoch : ((d.goesOn q).takeWords q (encodeCmd c f)).rd (QU_EPOCH_EPOCH q) = d.rd (QU_EPOCH_EPOCH q) := by
    refine hstep.fields _ fun g hg => ?_
    have hkey := key_of_mem_takenFields hg
    rw [key_QU_EPOCH_EPOCH]
    omega
  have hjournal : (d.begun q c f env).journal q = [d.begunEntry q c f env] := by
    have hone : ((d.goesOn q).takeWords q (encodeCmd c f)).journal q = [(d.goesOn q).takenEntry q (encodeCmd c f) none] := by
      have hj' : (d.goesOn q).journal q = [] := hj
      rw [Dev.takeWords_takesNow h, Dev.journal_taken, hj']
      rfl
    have hseq : ((d.goesOn q).takenEntry q (encodeCmd c f) none).seq = d.nextSeq q := Dev.nextSeq_goesOn d q
    rw [Dev.begun_eq, Dev.journal_updEntry, if_pos rfl, hone, hstamp, hepoch, List.map_singleton,
      if_pos (beq_iff_eq.mpr hseq)]
    rfl
  exact {
    journal := hjournal
    seq := Dev.nextSeq_goesOn d q
    notDone := by simp [Dev.begunEntry]
    replay := rfl
    telling := (Dev.queueStep_telling (Dev.begun_queueStep h) (twinState_apart_takenFields h.lt)).trans ht
    quiet := Dev.queueStep_nothingWaits (Dev.begun_queueStep h) hquiet
    started := rfl
    fin := rfl
    cmd := hdecode
    staged := rfl
    delta := rfl
    wrote := rfl }

/-- It works, and completes as its work says. -/
theorem Dev.submit_working (hlacks : lacksImage c env = false) (hhandles : d.handlesReady c) (ha : allocates c = false) :
    d.submit q c f env = (((d.begun q c f env).work q (d.begunEntry q c f env) c).2).settle q (d.nextSeq q)
      ((d.begun q c f env).work q (d.begunEntry q c f env) c).1 := by
  obtain ⟨hdecode, hne, hseq⟩ := encodeCmd_spells h.inRange h.plain f
  have hworking := Dev.begun_working h (env := env)
  have hok : ((d.wr (QU_STAT_JWAIT q) 0).takeWords q (encodeCmd c f)).handles q (d.nextSeq q) c = .ok :=
    Dev.handles_ok (Dev.handlesReady_queueStep (Dev.takeWords_queueStep h) hhandles) ha _ _
  have hok' := Dev.handles_ok (Dev.handlesReady_queueStep (Dev.begun_queueStep h (env := env)) hhandles) ha q (d.nextSeq q)
  rw [Dev.submit_ready h.lt h.ready h.inRange hdecode hne (hseq.trans h.notSeq) hlacks, hok, if_neg (by decide),
    Dev.runCmd_work (Dev.entry_sole hworking.tosole) hworking.started hworking.fin hworking.cmd (.inr hok')]

/-- A HALT is accepted with EN cleared (R79). -/
theorem Dev.rd_en_begun_halt (hc : c = .halt) : (d.begun q c f env).rd (QU_CTL_EN q) = 0 := by
  obtain ⟨hdecode, -, -⟩ := encodeCmd_spells h.inRange h.plain f
  have hhalt : (decodeCmd (encodeCmd c f) == some .halt) = true := by rw [hdecode, hc]; rfl
  have hbegun : (d.begun q c f env).rd (QU_CTL_EN q) = ((d.goesOn q).takeWords q (encodeCmd c f)).rd (QU_CTL_EN q) := rfl
  rw [hbegun, Dev.takeWords_takesNow h, Dev.taken, hhalt]
  exact Dev.rd_en_showAccept_halt _ q _ _

end

section
variable {d t : Dev} {q n : Nat} {c : Cmd} {e : Entry} {fs : List Field} (h : d.working q n c e) (hstep : d.queueStep t q fs)
  (hs : ∀ f ∈ fs, f.key < 2 ^ 25)
include h hstep hs

/-- A change of its queue that leaves its entry keeps a command at work. -/
theorem Dev.working_of_queueStep (hj : t.journal q = [e]) : t.working q n c e :=
  ⟨Dev.sole_of_queueStep h.tosole hstep (fun f hf => twinState_apart (hs f hf)) hj rfl h.notDone rfl, h.started, h.fin, h.cmd, h.staged,
    h.delta, h.wrote⟩

/-- So does one that notes where it stands. -/
theorem Dev.working_of_noted {aux : List Nat} (hj : t.journal q = [{ e with aux := aux }]) : t.working q n c { e with aux := aux } :=
  ⟨Dev.sole_of_queueStep h.tosole hstep (fun f hf => twinState_apart (hs f hf)) hj rfl h.notDone rfl, h.started, h.fin, h.cmd, h.staged,
    h.delta, h.wrote⟩

end

theorem Dev.note_queueStep (d : Dev) (q n : Nat) (aux : List Nat) : d.queueStep (d.note q n aux) q [] :=
  Dev.queueStep_updEntry (Dev.queueStep_refl d q []) n _

theorem Dev.working_note {d : Dev} {q n : Nat} {c : Cmd} {e : Entry} (h : d.working q n c e) (aux : List Nat) :
    (d.note q n aux).working q n c { e with aux := aux } :=
  Dev.working_of_noted h (Dev.note_queueStep d q n aux) (fun _ hf => absurd hf List.not_mem_nil)
    (Dev.journal_updEntry_sole h.tosole fun e => { e with aux := aux })

section
variable {d t : Dev} {q : Nat} {c : Cmd} {f : CmdFlags} {env : CmdEnv} (h : d.takesNow q c f)
  (hlacks : lacksImage c env = false) (hhandles : d.handlesReady c) (ha : allocates c = false)
include h hlacks hhandles ha

/-- A command whose work ends it well, having changed its queue and some fields, completes, and nothing else differs. -/
theorem Dev.submit_over {r : Nat} {e : Entry} {fs : List Field}
    (hwork : (d.begun q c f env).work q (d.begunEntry q c f env) c = (some (.ok, .ofNat 64 r), t))
    (ht : t.working q (d.nextSeq q) c e) (hstep : (d.begun q c f env).queueStep t q fs)
    (hown : ∀ v : Dev, v.commitOwn q (d.nextSeq q) c e.aux = v) :
    (d.submit q c f env).ended q (d.nextSeq q) .ok r ∧ t.queueStep (d.submit q c f env) q [] ∧
      d.queueStep (d.submit q c f env) q (takenFields q c ++ fs) := by
  obtain ⟨hended, hsettle⟩ := Dev.settle_ended_ok ht r hown
  rw [Dev.submit_working h hlacks hhandles ha, hwork]
  refine ⟨hended, hsettle, ?_⟩
  refine Dev.queueStep_trans (Dev.queueStep_mono (Dev.begun_queueStep h (env := env)) fun g hg => List.mem_append_left _ hg)
    (Dev.queueStep_trans (Dev.queueStep_mono hstep fun g hg => List.mem_append_right _ hg)
      (Dev.queueStep_mono hsettle fun g hg => absurd hg List.not_mem_nil))

/-- A command whose work is over at once. -/
theorem Dev.submit_over_at_once {r : Nat}
    (hwork : (d.begun q c f env).work q (d.begunEntry q c f env) c = (d.begun q c f env).over .ok r)
    (hown : ∀ v : Dev, v.commitOwn q (d.nextSeq q) c [] = v) :
    (d.submit q c f env).ended q (d.nextSeq q) .ok r ∧ (d.begun q c f env).queueStep (d.submit q c f env) q [] ∧
      d.queueStep (d.submit q c f env) q (takenFields q c) := by
  have hover := Dev.submit_over h hlacks hhandles ha (fs := []) hwork (Dev.begun_working h) (Dev.queueStep_refl _ q []) hown
  rwa [List.append_nil] at hover

end

/-- The fields that acceptance changes, but for HALT, are those that no statement about a command lists. -/
theorem Dev.queueOnly_of_taken {d t : Dev} {q : Nat} {c : Cmd} {fs : List Field} (hstep : d.queueStep t q (takenFields q c ++ fs))
    (hc : c ≠ .halt) : d.queueOnly t q fs := by
  refine Dev.queueStep_queueOnly hstep fun g hg => ?_
  have hhalt : (c == .halt) = false := by simpa using hc
  simpa [takenFields, acceptFields, hhalt] using hg

end Sys2Proof.Machine
end

section
/-!
The plain commands of R71: NOP, FENCE, MARK, HALT, EPOCH, and COMMIT on a device with no twin (R45, R52, R61, R79, R107).
-/
namespace Sys2Proof.Machine

/-- Commands that name no handle. -/
theorem Dev.handlesReady_nil (d : Dev) {c : Cmd} (hk : c.kernels = []) (hb : c.buffers = []) (ht : c.tables = []) : d.handlesReady c := by
  simp [Dev.handlesReady, hk, hb, ht]

/-- A ready queue takes one of its commands now. -/
theorem Dev.takesNow_of_ready {d : Dev} {q : QId} {n : Nat} (h : d.ready q.val n) {c : Cmd} {f : CmdFlags} (hn : (encodeCmd c f).length = n)
    (hin : c.inRange = true) (hplain : c.stopPlain = true) (hseq : c.isSeq = false) : d.takesNow q.val c f :=
  ⟨q.isLt, hn ▸ h, hin, hplain, hseq⟩

/-- The next epoch (R61). -/
theorem Dev.rd_epoch_begun {d : Dev} {q : Nat} {c : Cmd} {f : CmdFlags} {env : CmdEnv} (h : d.takesNow q c f) :
    (d.begun q c f env).rd (QU_EPOCH_EPOCH q) = d.rd (QU_EPOCH_EPOCH q) :=
  (Dev.begun_queueStep h).fields _ fun g hg => by
    have hkey := key_of_mem_takenFields hg
    rw [key_QU_EPOCH_EPOCH]
    omega

/-- A COMMIT with no twin to tell is over at once: it waits for nothing. -/
theorem Dev.work_commit {d : Dev} {q n : Nat} {c : Cmd} {e : Entry} (h : d.working q n c e) (haux : e.aux = []) {buf : BitVec 24} :
    d.work q e (.commit buf) = (some (.ok, .ofNat 64 0), d.note q n (1 :: d.bufFrames buf.toNat)) := by
  have hlead : ∀ aux, (d.note q n aux).pairedLead = false := fun _ => Dev.pairedLead_telling h.telling
  simp only [Dev.work, Dev.workCommit, haux, h.seq, List.isEmpty_nil, if_true, Dev.beginCommit, Dev.waiting, Work.andThen, hlead,
    Bool.false_and, Bool.false_eq_true, if_false]
  rfl

section
variable {d : Dev} {q : QId} (h : d.ready q.val 1) (f : CmdFlags)
include h

/-- The commands whose work is only to be over. -/
theorem Dev.submit_plain {c : Cmd} {r : Nat} (hn : (encodeCmd c f).length = 1) (hin : c.inRange = true) (hplain : c.stopPlain = true)
    (hseq : c.isSeq = false) (hlacks : lacksImage c .none = false) (ha : allocates c = false) (hhandles : d.handlesReady c)
    (hwork : ∀ t e, Dev.work t q.val e c = t.over .ok r) (hown : ∀ v : Dev, v.commitOwn q.val (d.nextSeq q.val) c [] = v) :
    (d.submit q.val c f .none).ended q.val (d.nextSeq q.val) .ok r ∧
      (d.begun q.val c f .none).queueStep (d.submit q.val c f .none) q.val [] ∧
      d.queueStep (d.submit q.val c f .none) q.val (takenFields q.val c) :=
  Dev.submit_over_at_once (Dev.takesNow_of_ready h hn hin hplain hseq) hlacks hhandles ha (hwork _ _) hown

theorem Dev.submit_halt :
    (d.submit q.val .halt f .none).ended q.val (d.nextSeq q.val) .ok 0 ∧ (d.submit q.val .halt f .none).rd (QU_CTL_EN q.val) = 0 ∧
      d.queueOnly (d.submit q.val .halt f .none) q.val [QU_CTL_EN q.val] := by
  obtain ⟨hended, hstep, hall⟩ := Dev.submit_plain h f (c := .halt) (r := 0) rfl rfl rfl rfl rfl rfl (Dev.handlesReady_nil _ rfl rfl rfl)
    (fun _ _ => rfl) (fun _ => rfl)
  refine ⟨hended, ?_, Dev.queueStep_queueOnly hall fun g hg => by simpa [takenFields, acceptFields] using hg⟩
  rw [hstep.fields _ fun g hg => absurd hg List.not_mem_nil]
  exact Dev.rd_en_begun_halt (Dev.takesNow_of_ready h rfl rfl rfl rfl) rfl

theorem Dev.submit_epoch :
    (d.submit q.val .epoch f .none).rd (QU_EPOCH_EPOCH q.val) = (d.rd (QU_EPOCH_EPOCH q.val) + 1) % 2 ^ 8 ∧
      (d.submit q.val .epoch f .none).ended q.val (d.nextSeq q.val) .ok ((d.rd (QU_EPOCH_EPOCH q.val) + 1) % 2 ^ 8) ∧
      d.queueOnly (d.submit q.val .epoch f .none) q.val [QU_EPOCH_EPOCH q.val] := by
  have htakes : d.takesNow q.val .epoch f := Dev.takesNow_of_ready h rfl rfl rfl rfl
  have hworking := Dev.begun_working htakes (env := .none)
  have hnext : ((d.begun q.val .epoch f .none).inc (QU_EPOCH_EPOCH q.val)).rd (QU_EPOCH_EPOCH q.val) =
      (d.rd (QU_EPOCH_EPOCH q.val) + 1) % 2 ^ 8 := by
    rw [Dev.inc_eq, Dev.rd_wr_same, Dev.rd_epoch_begun htakes]
    rfl
  have hinc : (d.begun q.val .epoch f .none).queueStep ((d.begun q.val .epoch f .none).inc (QU_EPOCH_EPOCH q.val)) q.val
      [QU_EPOCH_EPOCH q.val] := Dev.queueStep_wr (Dev.queueStep_refl _ _ _) (List.mem_singleton_self _) _
  have hwork : (d.begun q.val .epoch f .none).work q.val (d.begunEntry q.val .epoch f .none) .epoch =
      (some (.ok, .ofNat 64 ((d.rd (QU_EPOCH_EPOCH q.val) + 1) % 2 ^ 8)), (d.begun q.val .epoch f .none).inc (QU_EPOCH_EPOCH q.val)) := by
    rw [← hnext]
    rfl
  obtain ⟨hended, hstep, hall⟩ := Dev.submit_over htakes rfl (Dev.handlesReady_nil _ rfl rfl rfl) rfl hwork
    (Dev.working_of_queueStep hworking hinc
      (fun g hg => by rw [List.mem_singleton.mp hg, key_QU_EPOCH_EPOCH]; omega)
      ((Dev.journal_wr _ _ _ _).trans hworking.journal)) hinc fun _ => rfl
  exact ⟨(hstep.fields _ fun g hg => absurd hg List.not_mem_nil).trans hnext, hended, Dev.queueOnly_of_taken hall (by decide)⟩

/-- With no twin to tell, nothing that COMMIT waits for is open (R107). -/
theorem Dev.submit_commit {buf : BitVec 24} {b : Buffer} (hb : d.buffer buf.toNat = some b) (hready : b.ready = true) :
    (d.submit q.val (.commit buf) f .none).ended q.val (d.nextSeq q.val) .ok 0 ∧
      d.queueOnly (d.submit q.val (.commit buf) f .none) q.val [] := by
  have htakes : d.takesNow q.val (.commit buf) f := Dev.takesNow_of_ready h rfl rfl rfl rfl
  have hworking := Dev.begun_working htakes (env := .none)
  have hwork := Dev.work_commit hworking rfl (buf := buf)
  have hnoted := Dev.note_queueStep (d.begun q.val (.commit buf) f .none) q.val (d.nextSeq q.val)
    (1 :: (d.begun q.val (.commit buf) f .none).bufFrames buf.toNat)
  have hhandles : d.handlesReady (.commit buf) := by
    simpa [Dev.handlesReady, Cmd.kernels, Cmd.buffers, Cmd.tables] using ⟨b, hb, hready⟩
  obtain ⟨hended, -, hall⟩ := Dev.submit_over htakes rfl hhandles rfl hwork (Dev.working_note hworking _) hnoted fun _ => rfl
  exact ⟨hended, Dev.queueOnly_of_taken hall (by simp)⟩

end

/-- Settles O4, command by command: each is accepted, started and over at once. -/
theorem plainCommands : Obligations.PlainCommands := by
  intro s q f h d n
  have hover {c : Cmd} {r : Nat} (hn : (encodeCmd c f).length = 1) (hin : c.inRange = true) (hplain : c.stopPlain = true)
      (hseq : c.isSeq = false) (hlacks : lacksImage c .none = false) (ha : allocates c = false) (hhandles : d.handlesReady c)
      (hc : c ≠ .halt) (hwork : ∀ t e, Dev.work t q.val e c = t.over .ok r) (hown : ∀ v : Dev, v.commitOwn q.val n c [] = v) :
      (d.submit q.val c f .none).ended q.val n .ok r ∧ d.queueOnly (d.submit q.val c f .none) q.val [] := by
    obtain ⟨hended, -, hall⟩ := Dev.submit_plain h f hn hin hplain hseq hlacks ha hhandles hwork hown
    exact ⟨hended, Dev.queueOnly_of_taken (by rwa [List.append_nil]) hc⟩
  have hnone {c : Cmd} (hk : c.kernels = []) (hb : c.buffers = []) (ht : c.tables = []) : d.handlesReady c := d.handlesReady_nil hk hb ht
  exact ⟨⟨_, rfl, hover rfl rfl rfl rfl rfl rfl (hnone rfl rfl rfl) (by decide) (fun _ _ => rfl) fun _ => rfl⟩,
    ⟨_, rfl, hover rfl rfl rfl rfl rfl rfl (hnone rfl rfl rfl) (by decide) (fun _ _ => rfl) fun _ => rfl⟩,
    fun tag => ⟨_, rfl, hover rfl rfl rfl rfl rfl rfl (hnone rfl rfl rfl) (by simp) (fun _ _ => rfl) fun _ => rfl⟩,
    ⟨_, rfl, Dev.submit_halt h f⟩, ⟨_, rfl, Dev.submit_epoch h f⟩, fun buf b hb hr => ⟨_, rfl, Dev.submit_commit h f hb hr⟩⟩

end Sys2Proof.Machine
end

section
/-!
The sequencer's commands (R36, R38, R84 to R86): they have their effect at acceptance, on the path and the S registers of their queue.
-/
namespace Sys2Proof.Machine

/-! The path of a queue that takes a command at once. -/

section
variable {d : Dev} {q : Nat}

theorem Dev.rd_goesOn {g : Field} (hg : (QU_STAT_JWAIT q).key ≠ g.key) : (d.goesOn q).rd g = d.rd g := Dev.rd_wr_ne _ _ hg

theorem Dev.queuePort_goesOn (d : Dev) (q : Nat) : (d.goesOn q).queuePort q = d.queuePort q := by
  rw [Dev.queuePort, Dev.rd_goesOn (by simp only [key_QU_STAT_JWAIT, key_QU_CTL_OWNER]; omega), Dev.queuePort]

theorem Dev.rung_goesOn (p : Place) (n : Nat) : (d.goesOn q).rung q p n = d.rung q p n := by
  have htail : (d.goesOn q).rd (QU_DOORBELL_TAIL q) = d.rd (QU_DOORBELL_TAIL q) :=
    Dev.rd_goesOn (by simp only [key_QU_STAT_JWAIT, key_QU_DOORBELL_TAIL]; omega)
  cases p <;> simp only [Dev.rung, htail]

theorem Dev.freshWords_goesOn {n : Nat} (h : d.freshWords q n) : (d.goesOn q).freshWords q n := by
  obtain ⟨hahead, hpos, hfresh⟩ := h
  exact ⟨hahead, hpos, fun p hp => ⟨(hfresh p hp).1, (Dev.rung_goesOn p 1).trans (hfresh p hp).2⟩⟩

/-- The path moved on behind a command's words. -/
def Dev.movedOn (d : Dev) (q : Nat) (c : Cmd) (f : CmdFlags) : Dev := (d.goesOn q).walked q (encodeCmd c f)

theorem Dev.movedOn_queueStep (c : Cmd) (f : CmdFlags) : d.queueStep (d.movedOn q c f) q (takenFields q c) := Dev.walked_takesNow

/-- Of the fields, only JWAIT and FETCH differ. -/
theorem Dev.rd_movedOn (c : Cmd) (f : CmdFlags) {g : Field} (hj : (QU_STAT_JWAIT q).key ≠ g.key) (hf : (QU_HEAD_FETCH q).key ≠ g.key) :
    (d.movedOn q c f).rd g = d.rd g :=
  ((Dev.walked_queueStep _ q _).fields g fun x hx => by rwa [List.mem_singleton.mp hx]).trans (Dev.rd_goesOn hj)

theorem Dev.rd_sreg_movedOn (c : Cmd) (f : CmdFlags) (a : Nat) : (d.movedOn q c f).rd (QU_S_VALUE q a) = d.rd (QU_S_VALUE q a) :=
  Dev.rd_movedOn c f (by simp only [key_QU_STAT_JWAIT, key_QU_S_VALUE]; omega) (by simp only [key_QU_HEAD_FETCH, key_QU_S_VALUE]; omega)

theorem Dev.stack_movedOn (c : Cmd) (f : CmdFlags) : ((d.movedOn q c f).queue q).stack = (d.queue q).stack := Dev.stack_walked _ q _

theorem Dev.journal_movedOn (c : Cmd) (f : CmdFlags) : (d.movedOn q c f).journal q = d.journal q := Dev.journal_walked _ q _

theorem Dev.ringSize_movedOn (c : Cmd) (f : CmdFlags) : (d.movedOn q c f).ringSize q = d.ringSize q := by
  rw [Dev.ringSize, Dev.rd_movedOn c f (by simp only [key_QU_STAT_JWAIT, key_QU_RING_SIZE]; omega)
    (by simp only [key_QU_HEAD_FETCH, key_QU_RING_SIZE]; omega), Dev.ringSize]

theorem Dev.inRing_movedOn (c : Cmd) (f : CmdFlags) (a : Nat) : (d.movedOn q c f).inRing q a = d.inRing q a := by
  rw [Dev.inRing, Dev.ringSize_movedOn, Dev.rd_movedOn c f (by simp only [key_QU_STAT_JWAIT, key_QU_RING_BASE]; omega)
    (by simp only [key_QU_HEAD_FETCH, key_QU_RING_BASE]; omega), Dev.inRing]

/-- The path stands behind the words. -/
theorem Dev.pos_movedOn {c : Cmd} {f : CmdFlags} {n : Nat} (h : d.freshWords q n) (hn : (encodeCmd c f).length = n) (hpos : 0 < n) :
    ((d.movedOn q c f).queue q).pos = (d.queue q).pos.plus n := by
  rw [Dev.movedOn, Dev.pos_walked, Dev.behind_fresh _ q _ (Dev.freshWords_goesOn h) hn hpos]
  rfl

end

/-! The acceptance of a sequencer command. -/

/-- What acceptance shows of a command. -/
theorem Dev.taken_spelt_queueStep {d t : Dev} {q : Nat} {ws : List Word} {c : Cmd} {fin : Option (Status × Word)}
    (hc : decodeCmd ws = some c) : t.queueStep (d.taken t q ws fin) q (takenFields q c) :=
  Dev.taken_queueStep (Dev.queueStep_refl t q _) fun g hg => by
    rw [hc] at hg
    exact List.mem_cons_of_mem _ hg

/-- The command whose words an empty journal takes is the only one of it. -/
theorem Dev.taken_sole {d t : Dev} {q : Nat} {ws : List Word} {fin : Option (Status × Word)} (hj : d.journal q = [])
    (ht : (d.taken t q ws fin).telling = false) (hquiet : (d.taken t q ws fin).nothingWaits q) :
    (d.taken t q ws fin).sole q (d.nextSeq q) (d.takenEntry q ws fin) where
  journal := by rw [Dev.journal_taken, hj, List.nil_append]
  seq := rfl
  notDone := by simp [Dev.takenEntry, Dev.newEntry]
  replay := rfl
  telling := ht
  quiet := hquiet

/-- A command that completes at its acceptance has nothing to start. -/
theorem Dev.submit_completed {d t : Dev} {q : Nat} {c : Cmd} {f : CmdFlags} {env : CmdEnv} {e : Entry} (ha : d.acceptWords q (encodeCmd c f) = t)
    (hj : t.journal q = [e]) (he : e.stage = .completed) : d.submit q c f env = t := by
  have hnone : (d.acceptWords q (encodeCmd c f)).startable q = none := by simp [Dev.startable, ha, hj, he]
  rw [← ha]
  unfold Dev.submit
  extract_lets seq d2
  rw [hnone]

/-- An empty journal takes a command to which the path gives an outcome: it completes with it. -/
theorem Dev.takeWords_over {d t : Dev} {q : Nat} {ws : List Word} {c : Cmd} (hq : q < 64) (hc : decodeCmd ws = some c)
    (hj : d.journal q = []) (hs : (d.queue q).snaps = []) (ht : d.telling = false) (htt : t.telling = false) (hjt : t.journal q = d.journal q)
    (hquiet : t.nothingWaits q) (hf : d.follow q ws = (some (.ok, 0), (d.behind q ws).index, t)) :
    (d.takeWords q ws).ended q (d.nextSeq q) .ok 0 ∧ t.queueStep (d.takeWords q ws) q (takenFields q c) ∧
      ∃ e : Entry, e.stage = .completed ∧ (d.takeWords q ws).queue q = { t.queue q with journal := [e] } := by
  have htaken : t.queueStep (d.taken t q ws (some (.ok, 0))) q (takenFields q c) := Dev.taken_spelt_queueStep hc
  have hsole := Dev.taken_sole (ws := ws) (fin := some (.ok, 0)) hj ((Dev.queueStep_telling htaken (twinState_apart_takenFields hq)).trans htt)
    (Dev.queueStep_nothingWaits htaken hquiet)
  obtain ⟨hended, hclose, hqueue⟩ := Dev.ended_close_sole hsole .ok 0
  rw [Dev.takeWords_eq hs ht hf htt hjt]
  refine ⟨hended, Dev.queueStep_trans htaken (Dev.queueStep_mono hclose fun g hg => absurd hg List.not_mem_nil),
    (d.taken t q ws (some (.ok, 0))).closed (d.takenEntry q ws (some (.ok, 0))) .ok 0, rfl, hqueue.trans ?_⟩
  rw [Dev.queue_taken]
  rfl

/-- A queue that takes a command of n words at once, one of the sequencer's: the effect it has where the path stands behind it is the
effect of its row; it completes, and nothing else differs. -/
theorem Dev.submit_seq {d t : Dev} {q : QId} {n : Nat} {c : Cmd} {f : CmdFlags} {fs : List Field} (h : d.ready q.val n)
    (hn : (encodeCmd c f).length = n) (hin : c.inRange = true) (hplain : c.stopPlain = true) (hseq : c.isSeq = true)
    (heff : (d.movedOn q.val c f).seqEffect q.val (d.queue q.val).pos (d.queue q.val) c = (.ok, t))
    (hstep : (d.movedOn q.val c f).queueStep t q.val (takenFields q.val c ++ fs)) (hfs : ∀ g ∈ fs, g.key < 2 ^ 25)
    (hj : t.journal q.val = (d.movedOn q.val c f).journal q.val) :
    (d.submit q.val c f .none).ended q.val (d.nextSeq q.val) .ok 0 ∧
      ((d.submit q.val c f .none).queue q.val).pos = (t.queue q.val).pos ∧
      ((d.submit q.val c f .none).queue q.val).stack = (t.queue q.val).stack ∧
      t.queueStep (d.submit q.val c f .none) q.val (takenFields q.val c) ∧
      d.queueOnly (d.submit q.val c f .none) q.val fs := by
  obtain ⟨-, hjd, hs, hfresh, -, ht, hquiet⟩ := id h
  obtain ⟨hdecode, hne, hop⟩ := encodeCmd_spells hin hplain f
  have hlen : 0 < n := hn ▸ List.length_pos_iff.mpr hne
  have hall : d.queueStep t q.val (takenFields q.val c ++ fs) :=
    Dev.queueStep_trans (Dev.queueStep_mono (Dev.movedOn_queueStep c f) fun g hg => List.mem_append_left _ hg) hstep
  have hlow : ∀ g ∈ takenFields q.val c ++ fs, g.key ≠ (TWIN_STAT_STATE).key ∧ g.key ≠ (TWIN_STAT_ROLE).key := by
    intro g hg
    rcases List.mem_append.mp hg with hg | hg
    · exact twinState_apart_takenFields q.isLt g hg
    · exact twinState_apart (hfs g hg)
  have htold : t.telling = false := (Dev.queueStep_telling hall hlow).trans ht
  have hjt : t.journal q.val = (d.goesOn q.val).journal q.val := hj.trans (Dev.journal_walked _ q.val _)
  have hfollow : (d.goesOn q.val).follow q.val (encodeCmd c f) =
      (some (.ok, 0), ((d.goesOn q.val).behind q.val (encodeCmd c f)).index, t) := by
    have hnext : (d.goesOn q.val).nextPlace q.val (d.queue q.val).pos = (d.queue q.val).pos :=
      Dev.nextPlace_fresh (d.goesOn q.val) q.val (Dev.freshWords_goesOn hfresh) hlen
    have heff' : ((d.goesOn q.val).walked q.val (encodeCmd c f)).seqEffect q.val
        ((d.goesOn q.val).nextPlace q.val ((d.goesOn q.val).queue q.val).pos) ((d.goesOn q.val).queue q.val) c = (.ok, t) := by
      rw [← heff, ← hnext]
      rfl
    rw [Dev.follow_eq_of_seq _ q.val _ (hop.trans hseq) hdecode, heff']
  have hgoes : (d.goesOn q.val).telling = false :=
    (Dev.queueStep_telling (Dev.goesOn_queueStep d q.val c) (twinState_apart_takenFields q.isLt)).trans ht
  obtain ⟨hended, hlast, e, he, hqueue⟩ := Dev.takeWords_over (d := d.goesOn q.val) q.isLt hdecode hjd hs hgoes htold hjt (Dev.queueStep_nothingWaits hall hquiet) hfollow
  have haccepted := Dev.acceptWords_ready (hn.symm ▸ h) hne
  rw [Dev.submit_completed haccepted (congrArg QueueSt.journal hqueue) he]
  rw [Dev.nextSeq_goesOn] at hended
  have hpos := congrArg QueueSt.pos hqueue
  have hstack := congrArg QueueSt.stack hqueue
  refine ⟨hended, hpos, hstack, hlast, ?_⟩
  refine Dev.queueOnly_of_taken (c := c) (Dev.queueStep_trans hall (Dev.queueStep_mono hlast fun g hg => List.mem_append_left _ hg)) ?_
  rintro rfl
  cases hseq

/-! The commands. -/

theorem Dev.seqEffect_adds (w : Dev) (q : Nat) (own : Place) (win : QueueSt) (a b : BitVec 4) (reg : Bool) (imm : BitVec 32) :
    w.seqEffect q own win (.adds a b reg imm) = (.ok, w.setSreg q a.toNat
      (w.rd (QU_S_VALUE q a.toNat) + addend imm + if reg then w.rd (QU_S_VALUE q b.toNat) else 0)) := rfl

/-- An offset forward is the number of its words. -/
theorem branchOfs_toNat {ofs : BitVec 16} (h : 0 < branchOfs ofs) : (branchOfs ofs).toNat = ofs.toNat := by
  have hlt := ofs.isLt
  simp only [branchOfs, BitVec.toInt] at h ⊢
  split at h <;> omega

section
variable (w : Dev) (q : Nat) (own : Place) (win : QueueSt)

/-- A LOOP of 256 words at most (R84). -/
theorem Dev.seqEffect_loop {a : BitVec 4} {back : BitVec 16} (hin : (Cmd.loop a back).inRange = true) :
    w.seqEffect q own win (.loop a back) = w.seqLoop q own win a.toNat back.toNat := by
  have heff : w.seqEffect q own win (.loop a back) =
      if !(Cmd.loop a back).inRange then (.invalid, w) else w.seqLoop q own win a.toNat back.toNat := rfl
  rw [heff, hin, Bool.not_true, if_neg Bool.false_ne_true]

/-- A BRANCH forward, by less than the ring's size (R85). -/
theorem Dev.seqBranch_forward {a b cond : Nat} {ofs : Int} (hpos : 0 < ofs) (hfar : ∀ i, own = .ring i → ofs < w.ringSize q) :
    w.seqBranch q own win a b cond ofs =
      (.ok, if branchTaken cond (w.sreg q a) (w.sreg q b) then w.goTo q (own.plus ofs.toNat) else w) := by
  cases own with
  | ring i =>
    have hnear : decide ((w.ringSize q : Int) ≤ ofs) = false := decide_eq_false (Int.not_le.mpr (hfar i rfl))
    simp only [Dev.seqBranch, hnear, hpos, Bool.false_eq_true, if_false, if_true]
    cases branchTaken cond (w.sreg q a) (w.sreg q b) <;> rfl
  | list _ _ =>
    simp only [Dev.seqBranch, hpos, Bool.false_eq_true, if_false, if_true]
    cases branchTaken cond (w.sreg q a) (w.sreg q b) <;> rfl

theorem Dev.seqEffect_branch {a b : BitVec 4} {cond : BitVec 3} {ofs : BitVec 16} (hin : (Cmd.branch a b cond ofs).inRange = true) :
    w.seqEffect q own win (.branch a b cond ofs) = w.seqBranch q own win a.toNat b.toNat cond.toNat (branchOfs ofs) := by
  have heff : w.seqEffect q own win (.branch a b cond ofs) =
      if !(Cmd.branch a b cond ofs).inRange then (.invalid, w)
      else w.seqBranch q own win a.toNat b.toNat cond.toNat (branchOfs ofs) := rfl
  rw [heff, hin, Bool.not_true, if_neg Bool.false_ne_true]

/-- The path stands at an earlier place. -/
def Dev.jumped (p : Place) : Dev := w.setQueue q { w.queue q with pos := p }

@[simp] theorem Dev.pos_jumped (p : Place) : ((w.jumped q p).queue q).pos = p := by rw [Dev.jumped, Dev.queue_setQueue, if_pos rfl]

@[simp] theorem Dev.journal_jumped (p : Place) : (w.jumped q p).journal q = w.journal q := by
  rw [Dev.jumped, Dev.journal, Dev.queue_setQueue, if_pos rfl, Dev.journal]

variable {w q own win} in
/-- A LOOP that goes round again (R37, R84). -/
theorem Dev.seqEffect_loop_again {a : BitVec 4} {back : BitVec 16} {p : Place} {v : Nat} (hin : (Cmd.loop a back).inRange = true)
    (hv : (w.rd (QU_S_VALUE q a.toNat) + 2 ^ 64 - 1) % 2 ^ 64 = v) (hne : v ≠ 0) (hp : own.minus back.toNat = some p)
    (hwin : win.inWindow p = true) :
    w.seqEffect q own win (.loop a back) = (.ok, (w.jumped q p).setSreg q a.toNat v) := by
  rw [Dev.seqEffect_loop _ _ _ _ hin]
  simp only [Dev.seqLoop, Dev.sreg, hv, hne, if_false, Dev.jumpBack, hp, Option.bind_some, hwin, if_true]
  rfl

/-- A CALL of a list outside the ring, with room on the stack (R38, R86). -/
theorem Dev.seqEffect_call {l : BitVec 45} (hring : w.inRing q (8 * l.toNat) = false) (hroom : (w.queue q).stack.length < 8) :
    w.seqEffect q own win (.call l) = (.ok, w.setQueue q { w.queue q with
      stack := (w.queue q).stack ++ [((w.queue q).pos, (w.queue q).front)], pos := .list (8 * l.toNat) (8 * l.toNat), front := 8 * l.toNat }) := by
  have heff : w.seqEffect q own win (.call l) = w.seqCall q l.toNat := rfl
  rw [heff]
  simp only [Dev.seqCall, hring, Bool.false_or, decide_eq_true_eq, Nat.not_le.mpr hroom, if_false]

/-- A RET to the place on top of the stack (R38). -/
theorem Dev.seqEffect_ret {l : List (Place × Nat)} {p : Place} {fr : Nat} (hstack : (w.queue q).stack = l ++ [(p, fr)]) :
    w.seqEffect q own win .ret = (.ok, w.setQueue q { w.queue q with stack := l, pos := p, front := fr }) := by
  have heff : w.seqEffect q own win .ret = w.seqRet q := rfl
  rw [heff]
  simp only [Dev.seqRet, hstack, List.getLast?_concat, List.dropLast_concat]

end

section
variable {d : Dev} {q : QId} {f : CmdFlags}

/-- A sequencer register stands when acceptance shows. -/
theorem Dev.rd_sreg_of_taken {t u : Dev} {q : Nat} {c : Cmd} (h : t.queueStep u q (takenFields q c)) {a : Nat} (ha : a < 16) :
    u.rd (QU_S_VALUE q a) = t.rd (QU_S_VALUE q a) :=
  h.fields _ fun g hg => by
    have hkey := key_of_mem_takenFields hg
    rw [key_QU_S_VALUE]
    omega

theorem Dev.setSreg_queueStep (d : Dev) (q a v : Nat) (fs : List Field) : d.queueStep (d.setSreg q a v) q (fs ++ [QU_S_VALUE q a]) :=
  Dev.queueStep_wr (Dev.queueStep_refl d q _) (List.mem_append_right _ (List.mem_singleton_self _)) v

theorem key_sreg_lt (q : QId) (a : BitVec 4) : ∀ g ∈ [QU_S_VALUE q.val a.toNat], g.key < 2 ^ 25 := fun g hg => by
  rw [List.mem_singleton.mp hg, key_QU_S_VALUE]
  omega

/-- A command whose effect is to set a sequencer register. -/
theorem Dev.submit_setsSreg {n : Nat} {c : Cmd} {a : BitVec 4} {v : Nat} (h : d.ready q.val n) (hn : (encodeCmd c f).length = n) (hlen : 0 < n)
    (hin : c.inRange = true) (hplain : c.stopPlain = true) (hseq : c.isSeq = true)
    (heff : (d.movedOn q.val c f).seqEffect q.val (d.queue q.val).pos (d.queue q.val) c =
      (.ok, (d.movedOn q.val c f).setSreg q.val a.toNat v)) :
    (d.submit q.val c f .none).ended q.val (d.nextSeq q.val) .ok 0 ∧
      (d.submit q.val c f .none).rd (QU_S_VALUE q.val a.toNat) = v % 2 ^ 64 ∧
      ((d.submit q.val c f .none).queue q.val).pos = (d.queue q.val).pos.plus n ∧
      d.queueOnly (d.submit q.val c f .none) q.val [QU_S_VALUE q.val a.toNat] := by
  obtain ⟨hended, hpos, -, hlast, honly⟩ := Dev.submit_seq h hn hin hplain hseq heff (Dev.setSreg_queueStep _ q.val _ v _) (key_sreg_lt q a) rfl
  obtain ⟨-, -, -, hfresh, -⟩ := h
  refine ⟨hended, ?_, hpos.trans (Dev.pos_movedOn hfresh hn hlen), honly⟩
  exact (Dev.rd_sreg_of_taken hlast a.isLt).trans (Dev.rd_wr_same _ _ _)

theorem Dev.submit_sets {a : BitVec 4} {v : Word} (h : d.ready q.val 2) :
    (d.submit q.val (.sets a v) f .none).ended q.val (d.nextSeq q.val) .ok 0 ∧
      (d.submit q.val (.sets a v) f .none).rd (QU_S_VALUE q.val a.toNat) = v.toNat ∧
      ((d.submit q.val (.sets a v) f .none).queue q.val).pos = (d.queue q.val).pos.plus 2 ∧
      d.queueOnly (d.submit q.val (.sets a v) f .none) q.val [QU_S_VALUE q.val a.toNat] := by
  obtain ⟨hended, hrd, hpos, honly⟩ := Dev.submit_setsSreg (f := f) (c := .sets a v) h rfl (by decide) rfl rfl rfl rfl
  exact ⟨hended, hrd.trans (Nat.mod_eq_of_lt v.isLt), hpos, honly⟩

theorem Dev.submit_adds {a b : BitVec 4} {reg : Bool} {imm : BitVec 32} (h : d.ready q.val 1) :
    (d.submit q.val (.adds a b reg imm) f .none).ended q.val (d.nextSeq q.val) .ok 0 ∧
      (d.submit q.val (.adds a b reg imm) f .none).rd (QU_S_VALUE q.val a.toNat) =
        (d.rd (QU_S_VALUE q.val a.toNat) + addend imm + if reg then d.rd (QU_S_VALUE q.val b.toNat) else 0) % 2 ^ 64 ∧
      ((d.submit q.val (.adds a b reg imm) f .none).queue q.val).pos = (d.queue q.val).pos.plus 1 ∧
      d.queueOnly (d.submit q.val (.adds a b reg imm) f .none) q.val [QU_S_VALUE q.val a.toNat] := by
  refine Dev.submit_setsSreg h rfl (by decide) rfl rfl rfl ?_
  have hs := Dev.rd_sreg_movedOn (d := d) (q := q.val) (.adds a b reg imm) f
  rw [Dev.seqEffect_adds, hs, hs]

/-- A LOOP whose count ends (R84). -/
theorem Dev.submit_loop_end {a : BitVec 4} {back : BitVec 16} (h : d.ready q.val 1) (hlow : 1 ≤ back.toNat) (hhigh : back.toNat ≤ 256)
    (hv : (d.rd (QU_S_VALUE q.val a.toNat) + 2 ^ 64 - 1) % 2 ^ 64 = 0) :
    (d.submit q.val (.loop a back) f .none).ended q.val (d.nextSeq q.val) .ok 0 ∧
      (d.submit q.val (.loop a back) f .none).rd (QU_S_VALUE q.val a.toNat) = 0 ∧
      ((d.submit q.val (.loop a back) f .none).queue q.val).pos = (d.queue q.val).pos.plus 1 ∧
      d.queueOnly (d.submit q.val (.loop a back) f .none) q.val [QU_S_VALUE q.val a.toNat] := by
  have hin : (Cmd.loop a back).inRange = true := decide_eq_true ⟨hlow, hhigh⟩
  refine Dev.submit_setsSreg (v := 0) h rfl (by decide) hin rfl rfl ?_
  rw [← Dev.rd_sreg_movedOn (.loop a back) f] at hv
  rw [Dev.seqEffect_loop _ _ _ _ hin]
  simp only [Dev.seqLoop, Dev.sreg, hv, if_true]

/-- A LOOP that goes round again (R37, R84). -/
theorem Dev.submit_loop_again {a : BitVec 4} {back : BitVec 16} {p : Place} (h : d.ready q.val 1) (hlow : 1 ≤ back.toNat)
    (hhigh : back.toNat ≤ 256) (hv : (d.rd (QU_S_VALUE q.val a.toNat) + 2 ^ 64 - 1) % 2 ^ 64 ≠ 0)
    (hp : (d.queue q.val).pos.minus back.toNat = some p) (hwin : (d.queue q.val).inWindow p = true) :
    (d.submit q.val (.loop a back) f .none).ended q.val (d.nextSeq q.val) .ok 0 ∧
      (d.submit q.val (.loop a back) f .none).rd (QU_S_VALUE q.val a.toNat) =
        (d.rd (QU_S_VALUE q.val a.toNat) + 2 ^ 64 - 1) % 2 ^ 64 ∧
      ((d.submit q.val (.loop a back) f .none).queue q.val).pos = p ∧
      d.queueOnly (d.submit q.val (.loop a back) f .none) q.val [QU_S_VALUE q.val a.toNat] := by
  have hin : (Cmd.loop a back).inRange = true := decide_eq_true ⟨hlow, hhigh⟩
  have hmod : (d.rd (QU_S_VALUE q.val a.toNat) + 2 ^ 64 - 1) % 2 ^ 64 % 2 ^ 64 = _ := Nat.mod_mod _ _
  generalize hw : (d.rd (QU_S_VALUE q.val a.toNat) + 2 ^ 64 - 1) % 2 ^ 64 = v at hv hmod ⊢
  rw [← Dev.rd_sreg_movedOn (.loop a back) f] at hw
  have heff : (d.movedOn q.val (.loop a back) f).seqEffect q.val (d.queue q.val).pos (d.queue q.val) (.loop a back) =
      (.ok, ((d.movedOn q.val (.loop a back) f).jumped q.val p).setSreg q.val a.toNat v) :=
    Dev.seqEffect_loop_again hin hw hv hp hwin
  obtain ⟨hended, hpos, -, hlast, honly⟩ := Dev.submit_seq h rfl hin rfl rfl heff
    (Dev.queueStep_trans (Dev.queueStep_setQueue (Dev.queueStep_refl _ q.val _) _) (Dev.setSreg_queueStep _ q.val _ v _)) (key_sreg_lt q a)
    (Dev.journal_jumped _ _ _)
  exact ⟨hended, (Dev.rd_sreg_of_taken hlast a.isLt).trans ((Dev.rd_wr_same _ _ _).trans hmod), hpos.trans (Dev.pos_jumped _ _ _), honly⟩

theorem Dev.submit_branch {a b : BitVec 4} {cond : BitVec 3} {ofs : BitVec 16} (h : d.ready q.val 1) (hofs : 0 < branchOfs ofs)
    (hfar : ∀ i, (d.queue q.val).pos = .ring i → branchOfs ofs < d.ringSize q.val) :
    (d.submit q.val (.branch a b cond ofs) f .none).ended q.val (d.nextSeq q.val) .ok 0 ∧
      ((d.submit q.val (.branch a b cond ofs) f .none).queue q.val).pos = (d.queue q.val).pos.plus
        (if branchTaken cond.toNat (d.rd (QU_S_VALUE q.val a.toNat)) (d.rd (QU_S_VALUE q.val b.toNat)) then ofs.toNat else 1) ∧
      d.queueOnly (d.submit q.val (.branch a b cond ofs) f .none) q.val [] := by
  have hstay := Dev.queueStep_refl (d.movedOn q.val (.branch a b cond ofs) f) q.val (takenFields q.val (.branch a b cond ofs) ++ [])
  have hnat : (branchOfs ofs).toNat = ofs.toNat := branchOfs_toNat hofs
  have hin : (Cmd.branch a b cond ofs).inRange = true := by
    simp only [Cmd.inRange, decide_eq_true_eq]
    omega
  have heff := (Dev.seqEffect_branch _ q.val _ (d.queue q.val) hin).trans (Dev.seqBranch_forward (d.movedOn q.val (.branch a b cond ofs) f) q.val
    (d.queue q.val).pos (d.queue q.val) (a := a.toNat) (b := b.toNat) (cond := cond.toNat) hofs fun i hi =>
      (hfar i hi).trans_eq (congrArg Nat.cast (Dev.ringSize_movedOn _ f).symm))
  have hs := Dev.rd_sreg_movedOn (d := d) (q := q.val) (.branch a b cond ofs) f
  simp only [Dev.sreg, hs] at heff
  have hgo : (d.movedOn q.val (.branch a b cond ofs) f).queueStep
      ((d.movedOn q.val (.branch a b cond ofs) f).goTo q.val ((d.queue q.val).pos.plus (branchOfs ofs).toNat)) q.val
      (takenFields q.val (.branch a b cond ofs) ++ []) :=
    Dev.queueStep_mono (Dev.goTo_queueStep _ q.val _) fun g hg => by
      rw [List.mem_singleton.mp hg]
      exact List.mem_cons_of_mem _ List.mem_cons_self
  have hnone : ∀ g ∈ ([] : List Field), g.key < 2 ^ 25 := fun g hg => absurd hg List.not_mem_nil
  obtain ⟨-, -, -, hfresh, -⟩ := id h
  cases hb : branchTaken cond.toNat (d.rd (QU_S_VALUE q.val a.toNat)) (d.rd (QU_S_VALUE q.val b.toNat)) with
  | true =>
    simp only [hb, if_true] at heff
    obtain ⟨hended, hpos, -, -, honly⟩ := Dev.submit_seq h rfl hin rfl rfl heff hgo hnone (Dev.journal_goTo _ q.val _)
    refine ⟨hended, ?_, honly⟩
    rw [hpos, Dev.pos_goTo, hnat]
    rfl
  | false =>
    simp only [hb, Bool.false_eq_true, if_false] at heff
    obtain ⟨hended, hpos, -, -, honly⟩ := Dev.submit_seq h rfl hin rfl rfl heff hstay hnone rfl
    exact ⟨hended, hpos.trans (Dev.pos_movedOn hfresh rfl Nat.one_pos), honly⟩

theorem Dev.submit_call {l : BitVec 45} (h : d.ready q.val 1) (hroom : (d.queue q.val).stack.length < 8)
    (hring : d.inRing q.val (8 * l.toNat) = false) :
    (d.submit q.val (.call l) f .none).ended q.val (d.nextSeq q.val) .ok 0 ∧
      ((d.submit q.val (.call l) f .none).queue q.val).pos = .list (8 * l.toNat) (8 * l.toNat) ∧
      ((d.submit q.val (.call l) f .none).queue q.val).stack =
        (d.queue q.val).stack ++ [((d.queue q.val).pos.plus 1, ((d.movedOn q.val (.call l) f).queue q.val).front)] ∧
      d.queueOnly (d.submit q.val (.call l) f .none) q.val [] := by
  obtain ⟨-, -, -, hfresh, -⟩ := id h
  have hstack := Dev.stack_movedOn (d := d) (q := q.val) (.call l) f
  have heff := Dev.seqEffect_call (d.movedOn q.val (.call l) f) q.val (d.queue q.val).pos (d.queue q.val) (l := l)
    ((Dev.inRing_movedOn _ f _).trans hring) (by rwa [hstack])
  obtain ⟨hended, hpos, hst, -, honly⟩ := Dev.submit_seq (fs := []) h rfl rfl rfl rfl heff (Dev.queueStep_setQueue (Dev.queueStep_refl _ q.val _) _)
    (fun g hg => absurd hg List.not_mem_nil) (by rw [Dev.journal, Dev.queue_setQueue, if_pos rfl, Dev.journal])
  refine ⟨hended, ?_, ?_, honly⟩
  · rw [hpos, Dev.queue_setQueue, if_pos rfl]
  · rw [hst, Dev.queue_setQueue, if_pos rfl, hstack, Dev.pos_movedOn hfresh rfl Nat.one_pos]

theorem Dev.submit_ret {l : List (Place × Nat)} {p : Place} {fr : Nat} (h : d.ready q.val 1) (hstack : (d.queue q.val).stack = l ++ [(p, fr)]) :
    (d.submit q.val .ret f .none).ended q.val (d.nextSeq q.val) .ok 0 ∧ ((d.submit q.val .ret f .none).queue q.val).pos = p ∧
      ((d.submit q.val .ret f .none).queue q.val).stack = l ∧ d.queueOnly (d.submit q.val .ret f .none) q.val [] := by
  have heff := Dev.seqEffect_ret (d.movedOn q.val .ret f) q.val (d.queue q.val).pos (d.queue q.val) ((Dev.stack_movedOn .ret f).trans hstack)
  obtain ⟨hended, hpos, hst, -, honly⟩ := Dev.submit_seq (fs := []) h rfl rfl rfl rfl heff (Dev.queueStep_setQueue (Dev.queueStep_refl _ q.val _) _)
    (fun g hg => absurd hg List.not_mem_nil) (by rw [Dev.journal, Dev.queue_setQueue, if_pos rfl, Dev.journal])
  refine ⟨hended, ?_, ?_, honly⟩
  · rw [hpos, Dev.queue_setQueue, if_pos rfl]
  · rw [hst, Dev.queue_setQueue, if_pos rfl]

end

/-- Settles O5, command by command: each completes at its acceptance. -/
theorem sequencerCommands : Obligations.SequencerCommands := by
  intro s q f d n x S
  refine ⟨fun a v h => ⟨_, rfl, Dev.submit_sets h⟩, fun a b reg imm h => ⟨_, rfl, Dev.submit_adds h⟩, ?_,
    fun a b cond ofs h hofs hfar => ⟨_, rfl, Dev.submit_branch h hofs hfar⟩,
    fun l h hroom hring => ⟨_, _, rfl, Dev.submit_call h hroom hring⟩, fun l p fr h hstack => ⟨_, rfl, Dev.submit_ret h hstack⟩⟩
  intro a back h hlow hhigh v
  exact ⟨fun hv => ⟨_, rfl, Dev.submit_loop_end h hlow hhigh hv⟩,
    fun p hv hp hwin => ⟨_, rfl, Dev.submit_loop_again h hlow hhigh hv hp hwin⟩⟩

end Sys2Proof.Machine
end

section
/-!
What commands wait for (R54, R80, R83, R399 to R401): event counts, barriers, times and pegs, on a queue that holds one command.
-/
namespace Sys2Proof.Machine

/-! A command that is over, or goes on waiting, once its work is done. -/

/-- The only command ends well, and nothing else differs. -/
theorem Dev.ended_close_ok {d : Dev} {q n : Nat} {e : Entry} (h : d.sole q n e) (r : Nat) :
    (d.close q n .ok (.ofNat 64 r)).ended q n .ok r ∧ d.queueStep (d.close q n .ok (.ofNat 64 r)) q [] ∧
      (d.close q n .ok (.ofNat 64 r)).queue q = { d.queue q with journal := [d.closed e .ok (.ofNat 64 r)] } :=
  Dev.ended_close_sole h .ok r

/-- A command that has completed has no completion point any more. -/
theorem Dev.settle_none_ended {d : Dev} {q n r : Nat} {st : Status} (h : d.ended q n st r) : d.settle q n none = d := by
  obtain ⟨e, hentry, hstage, -⟩ := h
  simp only [Dev.settle, Dev.complete, hentry, hstage]
  cases e.fin <;> simp

/-- A command at work whose outcome is open is in progress. -/
theorem Dev.underway_working {d : Dev} {q n : Nat} {c : Cmd} {e : Entry} (h : d.working q n c e) : d.underway q n :=
  ⟨e, Dev.entry_sole h.tosole, h.started, h.fin⟩

section
variable {d t : Dev} {q : Nat} {c : Cmd} {f : CmdFlags} (h : d.takesNow q c f) (hhandles : d.handlesReady c) (hlacks : lacksImage c .none = false)
  (ha : allocates c = false) (hwork : (d.begun q c f .none).work q (d.begunEntry q c f .none) c = t.waiting)
include h hhandles hlacks ha hwork

/-- A command whose work leaves it waiting. -/
theorem Dev.submit_waits {e : Entry} (ht : t.working q (d.nextSeq q) c e) : d.submit q c f .none = t := by
  rw [Dev.submit_working h hlacks hhandles ha, hwork]
  exact Dev.settle_none ht

/-- A command that its work has completed. -/
theorem Dev.submit_ended {r : Nat} {st : Status} (ht : t.ended q (d.nextSeq q) st r) : d.submit q c f .none = t := by
  rw [Dev.submit_working h hlacks hhandles ha, hwork]
  exact Dev.settle_none_ended ht

end

/-- What its acceptance leaves of the fields outside the range of its queue. -/
theorem Dev.rd_begun {d : Dev} {q : Nat} {c : Cmd} {f : CmdFlags} {env : CmdEnv} (h : d.takesNow q c f) {g : Field}
    (hg : g.key < 2621440 ∨ 2752512 ≤ g.key) : (d.begun q c f env).rd g = d.rd g :=
  (Dev.begun_queueStep h).fields _ fun x hx => by
    have hkey := key_of_mem_takenFields hx
    have hq := h.lt
    omega

/-- Its port stays (R29). -/
theorem Dev.queuePort_begun {d : Dev} {q : Nat} {c : Cmd} {f : CmdFlags} {env : CmdEnv} (h : d.takesNow q c f) :
    (d.begun q c f env).queuePort q = d.queuePort q := by
  rw [Dev.queuePort, (Dev.begun_queueStep h).fields _ fun x hx => ?_, Dev.queuePort]
  have hkey := key_of_mem_takenFields hx
  rw [key_QU_CTL_OWNER]
  omega

/-! Lists of waiting commands. -/

/-- A command in progress whose outcome is open. -/
def Entry.unsettled (e : Entry) : Bool := e.stage == .started && e.fin.isNone

/-- A WAIT for an event. -/
def waitOn (ev : Nat) : Nat × Entry → Option (Nat × Nat)
  | (q, e) => match e.cmd with
    | some (.wait n) => if n.toNat == ev then some (q, e.seq) else none
    | _ => none

theorem Dev.waits_eq (d : Dev) (ev : Nat) : d.waits ev = (passing Entry.unsettled d.queues).filterMap (waitOn ev) := rfl

/-- A PEGTAKE that waits for a peg. -/
def pegWaitOn (peg : Nat) : Nat × Entry → Option (Nat × Nat)
  | (q, e) => match e.cmd with
    | some (.pegtake g true) => if g.toNat == peg then some (q, e.seq) else none
    | _ => none

/-- A waiting PEGTAKE with the port of its queue. -/
def Dev.withPort (d : Dev) (x : Nat × Nat) : Nat × Nat × Port := (x.1, x.2, d.queuePort x.1)

theorem Dev.pegWaiters_eq (d : Dev) (peg : Nat) : d.pegWaiters peg =
    (((passing Entry.unsettled d.queues).filterMap (pegWaitOn peg)).map d.withPort).filter (·.2.2 == .a) ++
      (((passing Entry.unsettled d.queues).filterMap (pegWaitOn peg)).map d.withPort).filter (·.2.2 == .b) := by
  have hall : (d.runningCmds.filterMap fun (q, e) => match e.cmd with
      | some (.pegtake g true) => if g.toNat == peg then some (q, e.seq, d.queuePort q) else none
      | _ => none) = ((passing Entry.unsettled d.queues).filterMap (pegWaitOn peg)).map d.withPort := by
    rw [List.map_filterMap]
    refine List.filterMap_congr fun x _ => ?_
    obtain ⟨q, e⟩ := x
    simp only [pegWaitOn]
    split
    · split <;> rfl
    · rfl
  rw [← hall]
  rfl

/-- No PEGTAKE waits for a peg when none waits from either port. -/
theorem Dev.pegWaiters_eq_nil {d : Dev} {peg : Nat} (h : d.pegWaiters peg = []) : (passing Entry.unsettled d.queues).filterMap (pegWaitOn peg) = [] := by
  rw [Dev.pegWaiters_eq, List.append_eq_nil_iff, List.filter_eq_nil_iff, List.filter_eq_nil_iff] at h
  obtain ⟨ha, hb⟩ := h
  rw [← List.map_eq_nil_iff (f := d.withPort), List.eq_nil_iff_forall_not_mem]
  intro x hx
  have ha := ha x hx
  have hb := hb x hx
  cases hp : x.2.2 <;> simp [hp] at ha hb

/-- No command waits that has completed. -/
theorem Dev.none_open {β : Type} {F : Nat × Entry → Option β} {d t : Dev} {q : Nat} {fs : List Field} {e : Entry} (h : d.queueStep t q fs)
    (hm : (passing Entry.unsettled d.queues).filterMap F = []) (hj : d.journal q = []) (ht : t.journal q = [e]) (he : F (q, e) = none ∨ e.unsettled = false) :
    (passing Entry.unsettled t.queues).filterMap F = [] := by
  rw [Dev.queueStep_passing h hm hj, ht]
  rcases he with he | he
  · cases ho : e.unsettled <;> simp [ho, he]
  · simp [he]

/-- The one command that waits. -/
theorem Dev.one_open {β : Type} {F : Nat × Entry → Option β} {d t : Dev} {q : Nat} {fs : List Field} {e : Entry} {x : β}
    (h : d.queueStep t q fs) (hm : (passing Entry.unsettled d.queues).filterMap F = []) (hj : d.journal q = []) (ht : t.journal q = [e])
    (ho : e.unsettled = true) (he : F (q, e) = some x) : (passing Entry.unsettled t.queues).filterMap F = [x] := by
  rw [Dev.queueStep_passing h hm hj, ht]
  simp [ho, he]

theorem Dev.open_closed (d : Dev) (e : Entry) (st : Status) (res : Word) : (d.closed e st res).unsettled = false := rfl

theorem Dev.open_working {d : Dev} {q n : Nat} {c : Cmd} {e : Entry} (h : d.working q n c e) : e.unsettled = true := by
  simp [Entry.unsettled, h.started, h.fin]

end Sys2Proof.Machine
end

section
/-!
The commands that wait and signal: WAIT, SIGNAL, BARRIER and WAITTIME (R54, R80, R82, R83).
-/
namespace Sys2Proof.Machine

/-! WAIT (R54, R82). -/

theorem Dev.settleWaits_of_none {d : Dev} {ev : Nat} (h : d.waits ev = []) : d.settleWaits ev = d := by
  simp only [Dev.settleWaits, h, List.length_nil, Dev.settleWaitsAux]

/-- One WAIT on a count of 0 goes on waiting. -/
theorem Dev.settleWaits_zero {d : Dev} {ev : Nat} {x : Nat × Nat} (h : d.waits ev = [x]) (hc : d.rd (EV_COUNT_COUNT ev) = 0) :
    d.settleWaits ev = d := by
  simp only [Dev.settleWaits, h, List.length_singleton, Dev.settleWaitsAux, hc, beq_self_eq_true, Bool.or_true, if_true]

/-- One WAIT takes 1 from the count and completes with what is left. -/
theorem Dev.settleWaits_one {d : Dev} {ev q n : Nat} (h : d.waits ev = [(q, n)]) (hc : d.rd (EV_COUNT_COUNT ev) ≠ 0) :
    d.settleWaits ev = (d.wr (EV_COUNT_COUNT ev) (d.rd (EV_COUNT_COUNT ev) - 1)).close q n .ok
      (.ofNat 64 (d.rd (EV_COUNT_COUNT ev) - 1)) := by
  simp [Dev.settleWaits, h, Dev.settleWaitsAux, hc]

theorem waitOn_working {d : Dev} {q n : Nat} {ev : BitVec 8} {e : Entry} (h : d.working q n (.wait ev) e) :
    waitOn ev.toNat (q, e) = some (q, n) := by
  simp only [waitOn, h.cmd, beq_self_eq_true, if_true, h.seq]

theorem Dev.work_wait (d : Dev) (q : Nat) (e : Entry) (ev : BitVec 8) : d.work q e (.wait ev) = (d.settleWaits ev.toNat).waiting := rfl

/-- The only WAIT completes when the count is not 0. -/
theorem Dev.settleWaits_ended {d : Dev} {q n ev : Nat} {c : Cmd} {e : Entry} (h : d.working q n c e) (hev : ev < 256)
    (hw : d.waits ev = [(q, n)]) (hc : d.rd (EV_COUNT_COUNT ev) ≠ 0) :
    (d.settleWaits ev).ended q n .ok (d.rd (EV_COUNT_COUNT ev) - 1) ∧
      (d.settleWaits ev).rd (EV_COUNT_COUNT ev) = (d.rd (EV_COUNT_COUNT ev) - 1) % 2 ^ 16 ∧
      d.queueStep (d.settleWaits ev) q [EV_COUNT_COUNT ev] := by
  have hstep : d.queueStep (d.wr (EV_COUNT_COUNT ev) (d.rd (EV_COUNT_COUNT ev) - 1)) q [EV_COUNT_COUNT ev] :=
    Dev.queueStep_wr (Dev.queueStep_refl d q _) (List.mem_singleton_self _) _
  have hlow : ∀ g ∈ [EV_COUNT_COUNT ev], g.key < 2 ^ 25 := fun g hg => by
    rw [List.mem_singleton.mp hg, key_EV_COUNT_COUNT]
    omega
  have hcounted := Dev.working_of_queueStep h hstep hlow ((Dev.journal_wr _ _ _ _).trans h.journal)
  obtain ⟨hended, hclose, -⟩ := Dev.ended_close_ok hcounted.tosole (d.rd (EV_COUNT_COUNT ev) - 1)
  rw [Dev.settleWaits_one hw hc]
  refine ⟨hended, ?_, Dev.queueStep_trans hstep (Dev.queueStep_mono hclose fun g hg => absurd hg List.not_mem_nil)⟩
  exact (hclose.fields _ fun g hg => absurd hg List.not_mem_nil).trans (Dev.rd_wr_same _ _ _)

section
variable {d : Dev} {q : QId} {f : CmdFlags} {ev : BitVec 8} (h : d.ready q.val 1) (hw : d.waits ev.toNat = [])
include h hw

/-- The WAIT that has begun is the one that waits. -/
theorem Dev.waits_begun_wait : (d.begun q.val (.wait ev) f .none).waits ev.toNat = [(q.val, d.nextSeq q.val)] := by
  have htakes : d.takesNow q.val (.wait ev) f := Dev.takesNow_of_ready h rfl rfl rfl rfl
  have hworking := Dev.begun_working htakes (env := .none)
  obtain ⟨-, hj, -⟩ := h
  rw [Dev.waits_eq] at hw ⊢
  exact Dev.one_open (Dev.begun_queueStep htakes) hw hj hworking.journal (Dev.open_working hworking) (waitOn_working hworking)

theorem Dev.submit_wait :
    (1 ≤ d.rd (EV_COUNT_COUNT ev.toNat) →
      (d.submit q.val (.wait ev) f .none).ended q.val (d.nextSeq q.val) .ok (d.rd (EV_COUNT_COUNT ev.toNat) - 1) ∧
        (d.submit q.val (.wait ev) f .none).rd (EV_COUNT_COUNT ev.toNat) = (d.rd (EV_COUNT_COUNT ev.toNat) - 1) % 2 ^ 16) ∧
      (d.rd (EV_COUNT_COUNT ev.toNat) = 0 → (d.submit q.val (.wait ev) f .none).underway q.val (d.nextSeq q.val) ∧
        (d.submit q.val (.wait ev) f .none).rd (EV_COUNT_COUNT ev.toNat) = 0) ∧
      d.queueOnly (d.submit q.val (.wait ev) f .none) q.val [EV_COUNT_COUNT ev.toNat] := by
  have htakes : d.takesNow q.val (.wait ev) f := Dev.takesNow_of_ready h rfl rfl rfl rfl
  have hworking := Dev.begun_working htakes (env := .none)
  have hhandles : d.handlesReady (.wait ev) := Dev.handlesReady_nil _ rfl rfl rfl
  have hcount : (d.begun q.val (.wait ev) f .none).rd (EV_COUNT_COUNT ev.toNat) = d.rd (EV_COUNT_COUNT ev.toNat) :=
    Dev.rd_begun htakes (by rw [key_EV_COUNT_COUNT]; omega)
  have hwaits := Dev.waits_begun_wait (f := f) h hw
  have hwork := Dev.work_wait (d.begun q.val (.wait ev) f .none) q.val (d.begunEntry q.val (.wait ev) f .none) ev
  have hbegun := Dev.queueStep_mono (Dev.begun_queueStep htakes (env := .none)) fun g hg => List.mem_append_left [EV_COUNT_COUNT ev.toNat] hg
  rw [← hcount]
  by_cases hc : (d.begun q.val (.wait ev) f .none).rd (EV_COUNT_COUNT ev.toNat) = 0
  · rw [Dev.settleWaits_zero hwaits hc] at hwork
    rw [Dev.submit_waits htakes hhandles rfl rfl hwork hworking]
    exact ⟨fun h1 => absurd h1 (by omega), fun _ => ⟨Dev.underway_working hworking, hc⟩, Dev.queueOnly_of_taken hbegun (by simp)⟩
  · obtain ⟨hended, hrd, hstep⟩ := Dev.settleWaits_ended hworking ev.isLt hwaits hc
    rw [Dev.submit_ended htakes hhandles rfl rfl hwork hended]
    exact ⟨fun _ => ⟨hended, hrd⟩, fun h0 => absurd h0 hc, Dev.queueOnly_of_taken (Dev.queueStep_trans hbegun
      (Dev.queueStep_mono hstep fun g hg => List.mem_append_right _ hg)) (by simp)⟩

end

/-! SIGNAL (R54). -/

/-- What an event's count does to the EVENT output of a pin (R535). -/
def Dev.eventOut (n : Nat) (d : Dev) (k : Nat) : Dev :=
  if d.bit PIN_FUNC_EV k && d.on (SVC_EVCFG_DIR k) && d.rd (SVC_EVCFG_EV k) == n then
    let w := KMap.get d.evPulses k 0
    if w < 15 then { d with evPulses := KMap.put d.evPulses k (w + 1) } else d.incSat (SVC_EVCFG_DROPPED k)
  else d

theorem Dev.eventInc_eq {d : Dev} {n : Nat} (h : d.rd (EV_COUNT_COUNT n) < 65535) :
    d.eventInc n = (List.range 8).foldl (Dev.eventOut n) (d.wr (EV_COUNT_COUNT n) (d.rd (EV_COUNT_COUNT n) + 1)) := by
  have hnot : ¬ d.rd (EV_COUNT_COUNT n) ≥ 65535 := by omega
  simp only [Dev.eventInc, if_neg hnot]
  rfl

/-- Nothing but pulses that wait at pins and the listed fields differs. -/
structure Dev.pulseStep (d t : Dev) (fs : List Field) : Prop where
  rest : ({ t with regs := d.regs, evPulses := d.evPulses } : Dev) = d
  fields : ∀ g : Field, (∀ f ∈ fs, f.key ≠ g.key) → t.rd g = d.rd g

theorem Dev.queues_of_pulseStep {d t : Dev} {fs : List Field} (h : d.pulseStep t fs) : t.queues = d.queues := by
  have hqueues := congrArg Dev.queues h.rest
  exact hqueues

theorem Dev.eventOut_pulseStep (n : Nat) (d : Dev) (k : Nat) : d.pulseStep (Dev.eventOut n d k) [SVC_EVCFG_DROPPED k] := by
  unfold Dev.eventOut
  split
  · extract_lets w
    split
    · exact ⟨rfl, fun _ _ => rfl⟩
    · exact ⟨rfl, fun g hg => Dev.rd_wr_ne _ _ (hg _ (List.mem_singleton_self _))⟩
  · exact ⟨rfl, fun _ _ => rfl⟩

theorem Dev.pulseStep_trans {d t u : Dev} {fs gs : List Field} (h : d.pulseStep t fs) (k : t.pulseStep u gs) : d.pulseStep u (fs ++ gs) where
  rest := calc
    ({ u with regs := d.regs, evPulses := d.evPulses } : Dev)
      = { ({ u with regs := t.regs, evPulses := t.evPulses } : Dev) with regs := d.regs, evPulses := d.evPulses } := rfl
    _ = { t with regs := d.regs, evPulses := d.evPulses } := by rw [k.rest]
    _ = d := h.rest
  fields g hg := (k.fields g fun f hf => hg f (List.mem_append_right _ hf)).trans (h.fields g fun f hf => hg f (List.mem_append_left _ hf))

theorem Dev.eventOuts_pulseStep (n : Nat) (ks : List Nat) (d : Dev) : d.pulseStep (ks.foldl (Dev.eventOut n) d) (ks.map SVC_EVCFG_DROPPED) := by
  induction ks generalizing d with
  | nil => exact ⟨rfl, fun _ _ => rfl⟩
  | cons k ks ih => exact Dev.pulseStep_trans (Dev.eventOut_pulseStep n d k) (ih _)

theorem key_SVC_EVCFG_DROPPED (k : Nat) : (SVC_EVCFG_DROPPED k).key = 64 * k + 1579552 := by
  simp only [SVC_EVCFG_DROPPED, Field.key]
  omega

/-- A count below its end goes up by 1. -/
theorem Dev.eventInc_pulseStep {d : Dev} {n : Nat} (h : d.rd (EV_COUNT_COUNT n) < 65535) :
    d.pulseStep (d.eventInc n) (EV_COUNT_COUNT n :: (List.range 8).map SVC_EVCFG_DROPPED) ∧
      (d.eventInc n).rd (EV_COUNT_COUNT n) = d.rd (EV_COUNT_COUNT n) + 1 := by
  have hcount : d.pulseStep (d.wr (EV_COUNT_COUNT n) (d.rd (EV_COUNT_COUNT n) + 1)) [EV_COUNT_COUNT n] :=
    ⟨rfl, fun g hg => Dev.rd_wr_ne _ _ (hg _ (List.mem_singleton_self _))⟩
  have houts := Dev.eventOuts_pulseStep n (List.range 8) (d.wr (EV_COUNT_COUNT n) (d.rd (EV_COUNT_COUNT n) + 1))
  rw [Dev.eventInc_eq h]
  refine ⟨Dev.pulseStep_trans hcount houts, ?_⟩
  rw [houts.fields, Dev.rd_wr_same]
  · exact Nat.mod_eq_of_lt (by show _ < 2 ^ 16; omega)
  · intro f hf
    obtain ⟨k, hk, rfl⟩ := List.mem_map.mp hf
    have hk := List.mem_range.mp hk
    rw [key_SVC_EVCFG_DROPPED, key_EV_COUNT_COUNT]
    omega

/-- After a change of one queue, pulses that wait change too. -/
theorem Dev.queueStep_pulseStep {d b t : Dev} {q : Nat} {fs gs : List Field} (h : d.queueStep b q fs) (k : b.pulseStep t gs) :
    ({ d with evPulses := t.evPulses } : Dev).queueStep t q (fs ++ gs) where
  rest :=
    calc ({ t with regs := d.regs, queues := d.queues } : Dev)
        = { ({ t with regs := b.regs, evPulses := b.evPulses } : Dev) with regs := d.regs, queues := d.queues, evPulses := t.evPulses } := rfl
      _ = { ({ b with regs := d.regs, queues := d.queues } : Dev) with evPulses := t.evPulses } := by rw [k.rest]
      _ = { d with evPulses := t.evPulses } := by rw [h.rest]
  queues := by
    have hqueues : t.queues = b.queues := Dev.queues_of_pulseStep k
    have hqueue : t.queue q = b.queue q := by rw [Dev.queue, hqueues, Dev.queue]
    rw [hqueue, hqueues]
    exact h.queues
  fields g hg := (k.fields g fun f hf => hg f (List.mem_append_right _ hf)).trans (h.fields g fun f hf => hg f (List.mem_append_left _ hf))

/-- A command at work goes on when pulses wait. -/
theorem Dev.working_of_pulseStep {d t : Dev} {q n : Nat} {c : Cmd} {e : Entry} {fs : List Field} (h : d.working q n c e) (hstep : d.pulseStep t fs)
    (hs : ∀ f ∈ fs, f.key < 2 ^ 25) : t.working q n c e := by
  have hself := Dev.queueStep_pulseStep (Dev.queueStep_refl d q []) hstep
  have hqueues : t.queues = d.queues := Dev.queues_of_pulseStep hstep
  have hj : t.journal q = [e] := by
    rw [Dev.journal, Dev.queue, hqueues]
    exact h.journal
  have hd : ({ d with evPulses := t.evPulses } : Dev).working q n c e :=
    ⟨⟨h.journal, h.seq, h.notDone, h.replay, h.telling, h.quiet⟩, h.started, h.fin, h.cmd, h.staged, h.delta, h.wrote⟩
  exact Dev.working_of_queueStep hd hself (by rwa [List.nil_append]) hj

theorem Dev.work_signal (d : Dev) (q n : Nat) (e : Entry) (hseq : e.seq = n) (ev : BitVec 8) : d.work q e (.signal ev) =
    (((d.eventInc ev.toNat).close q n .ok (.ofNat 64 ((d.eventInc ev.toNat).rd (EV_COUNT_COUNT ev.toNat)))).settleWaits ev.toNat).waiting := by
  rw [← hseq]
  rfl

/-- A command that completes after its event has counted: no WAIT takes the count when none waited. -/
theorem Dev.signal_over {d b : Dev} {q n ev : Nat} {c : Cmd} {e : Entry} {fs : List Field} (h : b.working q n c e)
    (hall : ({ d with evPulses := b.evPulses } : Dev).queueStep b q fs) (hw : d.waits ev = []) (hj : d.journal q = []) (r : Nat) :
    (b.close q n .ok (.ofNat 64 r)).ended q n .ok r ∧ b.queueStep (b.close q n .ok (.ofNat 64 r)) q [] ∧
      (b.close q n .ok (.ofNat 64 r)).settleWaits ev = b.close q n .ok (.ofNat 64 r) ∧
      ({ d with evPulses := b.evPulses } : Dev).queueStep (b.close q n .ok (.ofNat 64 r)) q fs := by
  obtain ⟨hended, hclose, hqueue⟩ := Dev.ended_close_ok h.tosole r
  have hlast := Dev.queueStep_trans hall (Dev.queueStep_mono hclose fun g hg => absurd hg List.not_mem_nil)
  refine ⟨hended, hclose, Dev.settleWaits_of_none ?_, hlast⟩
  rw [Dev.waits_eq] at hw ⊢
  exact Dev.none_open hlast hw hj (congrArg QueueSt.journal hqueue) (.inr (Dev.open_closed _ _ _ _))

theorem Dev.queueOnly_with_pulses {d t : Dev} {q : Nat} {fs : List Field} {p : KMap Nat} (h : ({ d with evPulses := p } : Dev).queueOnly t q fs) :
    d.queueOnly { t with evPulses := d.evPulses } q fs := by
  obtain ⟨hrest, hothers, hfields⟩ := h
  exact ⟨congrArg (fun x : Dev => { x with evPulses := d.evPulses }) hrest, hothers, hfields⟩

section
variable {d : Dev} {q : QId} {f : CmdFlags} {ev : BitVec 8} (h : d.ready q.val 1)
include h

theorem Dev.submit_signal (hw : d.waits ev.toNat = []) (hc : d.rd (EV_COUNT_COUNT ev.toNat) < 65535) :
    (d.submit q.val (.signal ev) f .none).ended q.val (d.nextSeq q.val) .ok (d.rd (EV_COUNT_COUNT ev.toNat) + 1) ∧
      (d.submit q.val (.signal ev) f .none).rd (EV_COUNT_COUNT ev.toNat) = d.rd (EV_COUNT_COUNT ev.toNat) + 1 ∧
      d.queueOnly { d.submit q.val (.signal ev) f .none with evPulses := d.evPulses } q.val
        (EV_COUNT_COUNT ev.toNat :: (List.range 8).map SVC_EVCFG_DROPPED) := by
  have htakes : d.takesNow q.val (.signal ev) f := Dev.takesNow_of_ready h rfl rfl rfl rfl
  have hworking := Dev.begun_working htakes (env := .none)
  have hcount : (d.begun q.val (.signal ev) f .none).rd (EV_COUNT_COUNT ev.toNat) = d.rd (EV_COUNT_COUNT ev.toNat) :=
    Dev.rd_begun htakes (by rw [key_EV_COUNT_COUNT]; omega)
  have hbegun := Dev.begun_queueStep htakes (env := .none)
  have hwork := Dev.work_signal (d.begun q.val (.signal ev) f .none) q.val (d.nextSeq q.val) _ hworking.seq ev
  obtain ⟨hpulse, hrd⟩ := Dev.eventInc_pulseStep (hcount.trans_lt hc)
  rw [hcount] at hrd
  have hlow : ∀ g ∈ EV_COUNT_COUNT ev.toNat :: (List.range 8).map SVC_EVCFG_DROPPED, g.key < 2 ^ 25 := by
    intro g hg
    rcases List.mem_cons.mp hg with rfl | hg
    · rw [key_EV_COUNT_COUNT]
      omega
    · obtain ⟨k, hk, rfl⟩ := List.mem_map.mp hg
      have hk := List.mem_range.mp hk
      rw [key_SVC_EVCFG_DROPPED]
      omega
  have hcounted := Dev.working_of_pulseStep hworking hpulse hlow
  obtain ⟨-, hj, -⟩ := id h
  obtain ⟨hended, hclose, hsettle, hlast⟩ := Dev.signal_over hcounted (Dev.queueStep_pulseStep hbegun hpulse) hw hj
    (d.rd (EV_COUNT_COUNT ev.toNat) + 1)
  rw [hrd, hsettle] at hwork
  rw [Dev.submit_ended htakes (Dev.handlesReady_nil _ rfl rfl rfl) rfl rfl hwork hended]
  refine ⟨hended, (hclose.fields _ fun g hg => absurd hg List.not_mem_nil).trans hrd, ?_⟩
  exact Dev.queueOnly_with_pulses (Dev.queueOnly_of_taken hlast (by simp))

end

/-! BARRIER (R80). -/

theorem Dev.runningCmds_eq_filterMap (d : Dev) : d.runningCmds = (passing Entry.unsettled d.queues).filterMap some := by
  rw [List.filterMap_some]
  rfl

/-- The one command in progress. -/
theorem Dev.one_running {d t : Dev} {q n : Nat} {fs : List Field} {c : Cmd} {e : Entry} (h : d.queueStep t q fs) (hrun : d.runningCmds = [])
    (hj : d.journal q = []) (ht : t.working q n c e) : t.runningCmds = [(q, e)] := by
  rw [Dev.runningCmds_eq_filterMap] at hrun ⊢
  exact Dev.one_open h hrun hj ht.journal (Dev.open_working ht) rfl

/-- The same device with other barriers. -/
def Dev.withBarriers (d : Dev) (m : KMap Barrier) : Dev := { d with barriers := m }

theorem Dev.working_withBarriers {d : Dev} {q n : Nat} {c : Cmd} {e : Entry} (h : d.working q n c e) (m : KMap Barrier) :
    (d.withBarriers m).working q n c e :=
  ⟨⟨h.journal, h.seq, h.notDone, h.replay, h.telling, h.quiet⟩, h.started, h.fin, h.cmd, h.staged, h.delta, h.wrote⟩

theorem Dev.find_withBarriers_put (d : Dev) (bar : Nat) (x : Barrier) :
    KMap.find (d.withBarriers (KMap.put d.barriers bar x)).barriers bar = some x := by
  show KMap.find (KMap.put d.barriers bar x) bar = some x
  rw [KMap.find_put, if_pos rfl]

/-- A BARRIER that stands at a barrier completes with it. -/
def Dev.passBarrier (bar last : Nat) (d : Dev) : Nat × Entry → Dev
  | (p, e) => match e.cmd with
    | some (.barrier n _) => if n.toNat == bar && e.aux == [1] then d.close p e.seq .ok (.ofNat 64 last) else d
    | _ => d

/-- The first arrival at a barrier: it completes the barrier when the mask names no other queue (R80, R81). -/
theorem Dev.arrive_first {d : Dev} {q bar mask : Nat} (h : KMap.find d.barriers bar = none) (hq : mask.testBit q = true) :
    d.arrive bar mask [q] = if 2 ^ q = mask then
        (d.withBarriers (KMap.del d.barriers bar)).runningCmds.foldl (Dev.passBarrier bar q)
          (d.withBarriers (KMap.del d.barriers bar))
      else d.withBarriers (KMap.put d.barriers bar ⟨mask, 2 ^ q⟩) := by
  have hget : KMap.get d.barriers bar ⟨mask, 0⟩ = ⟨mask, 0⟩ := by rw [KMap.get, h]; rfl
  have hbit : setBit 0 q true = 2 ^ q := by simp [setBit]
  have hand : 2 ^ q &&& mask = 2 ^ q := by rw [Nat.two_pow_and, hq]; simp
  simp only [Dev.arrive, hget, List.foldl_cons, List.foldl_nil, hbit, hand, beq_iff_eq, Nat.zero_max]
  rfl

/-- A BARRIER that has arrived at a barrier of its queue alone completes. -/
theorem Dev.arrive_alone {d : Dev} {q n bar mask : Nat} {m : BitVec 4} {w : Word} {e : Entry} (h : d.working q n (.barrier m w) e) (haux : e.aux = [1])
    (hbar : m.toNat = bar) (hrun : d.runningCmds = [(q, e)]) (hfree : KMap.find d.barriers bar = none) (hmask : mask = 2 ^ q) :
    (d.arrive bar mask [q]).ended q n .ok q ∧ KMap.find (d.arrive bar mask [q]).barriers bar = none := by
  have hbit : mask.testBit q = true := by rw [hmask]; exact Nat.testBit_two_pow_self
  have hwith := Dev.working_withBarriers h (KMap.del d.barriers bar)
  have hrun' : (d.withBarriers (KMap.del d.barriers bar)).runningCmds = [(q, e)] := hrun
  obtain ⟨hended, hclose, -⟩ := Dev.ended_close_ok hwith.tosole q
  have harrive : d.arrive bar mask [q] = (d.withBarriers (KMap.del d.barriers bar)).close q n .ok (.ofNat 64 q) := by
    rw [Dev.arrive_first hfree hbit, if_pos hmask.symm, hrun']
    simp only [List.foldl_cons, List.foldl_nil, Dev.passBarrier, h.cmd, hbar, haux, h.seq, beq_self_eq_true, Bool.and_self, if_true]
  rw [harrive]
  refine ⟨hended, ?_⟩
  rw [Dev.queueStep_eq hclose]
  show KMap.find (KMap.del d.barriers bar) bar = none
  rw [KMap.find_del, if_pos rfl]

/-- A BARRIER that has arrived at a barrier with other queues goes on waiting. -/
theorem Dev.arrive_waits {d : Dev} {q n bar mask : Nat} {c : Cmd} {e : Entry} (h : d.working q n c e) (hfree : KMap.find d.barriers bar = none)
    (hbit : mask.testBit q = true) (hmask : mask ≠ 2 ^ q) :
    (d.arrive bar mask [q]).working q n c e ∧ KMap.find (d.arrive bar mask [q]).barriers bar = some ⟨mask, 2 ^ q⟩ := by
  rw [Dev.arrive_first hfree hbit, if_neg (Ne.symm hmask)]
  exact ⟨Dev.working_withBarriers h _, Dev.find_withBarriers_put d bar _⟩

@[simp] theorem Dev.barriers_note (d : Dev) (q n : Nat) (aux : List Nat) : (d.note q n aux).barriers = d.barriers := rfl

theorem Dev.work_barrier {d : Dev} {q n : Nat} {e : Entry} {bar : BitVec 4} {mask : Word} (hseq : e.seq = n) (haux : e.aux = [])
    (hfree : KMap.find d.barriers bar.toNat = none) (hbit : mask.toNat.testBit q = true) :
    d.work q e (.barrier bar mask) = ((d.note q n [1]).arrive bar.toNat mask.toNat [q]).waiting := by
  have hget : (KMap.get d.barriers bar.toNat ⟨mask.toNat, 0⟩).mask = mask.toNat := by rw [KMap.get, hfree]; rfl
  have hnil : (([] : List Nat) == [1]) = false := rfl
  simp only [Dev.work, Dev.workBarrier, hseq, haux, hnil, hbit, hget, Bool.not_true, Bool.false_eq_true, if_false, bne_self_eq_false]

section
variable {d : Dev} {q : QId} {f : CmdFlags} {bar : BitVec 4} {mask : Word} (h : d.ready q.val 2) (hfree : KMap.find d.barriers bar.toNat = none)
  (hrun : d.runningCmds = []) (hbit : mask.toNat.testBit q.val = true)
include h hfree hrun hbit

theorem Dev.submit_barrier :
    (mask.toNat = 2 ^ q.val → (d.submit q.val (.barrier bar mask) f .none).ended q.val (d.nextSeq q.val) .ok q.val ∧
        KMap.find (d.submit q.val (.barrier bar mask) f .none).barriers bar.toNat = none) ∧
      (mask.toNat ≠ 2 ^ q.val → (d.submit q.val (.barrier bar mask) f .none).underway q.val (d.nextSeq q.val) ∧
        KMap.find (d.submit q.val (.barrier bar mask) f .none).barriers bar.toNat = some ⟨mask.toNat, 2 ^ q.val⟩) := by
  have htakes : d.takesNow q.val (.barrier bar mask) f := Dev.takesNow_of_ready h rfl rfl rfl rfl
  have hhandles : d.handlesReady (.barrier bar mask) := Dev.handlesReady_nil _ rfl rfl rfl
  have hworking := Dev.begun_working htakes (env := .none)
  have hbegun := Dev.begun_queueStep htakes (env := .none)
  have hnoted := Dev.working_note hworking [1]
  have hfree' : KMap.find (d.begun q.val (.barrier bar mask) f .none).barriers bar.toNat = none := by rwa [Dev.queueStep_eq hbegun]
  have hwork := Dev.work_barrier hworking.seq rfl hfree' hbit
  obtain ⟨-, hj, -⟩ := h
  have hone := Dev.one_running (Dev.queueStep_trans hbegun (Dev.queueStep_mono (Dev.note_queueStep _ q.val (d.nextSeq q.val) [1])
    fun g hg => absurd hg List.not_mem_nil)) hrun hj hnoted
  have hnotfree : KMap.find ((d.begun q.val (.barrier bar mask) f .none).note q.val (d.nextSeq q.val) [1]).barriers bar.toNat = none := by
    rwa [Dev.barriers_note]
  constructor
  · intro hmask
    obtain ⟨hended, hfind⟩ := Dev.arrive_alone hnoted rfl rfl hone hnotfree hmask
    rw [Dev.submit_ended htakes hhandles rfl rfl hwork hended]
    exact ⟨hended, hfind⟩
  · intro hmask
    obtain ⟨hwaits, hfind⟩ := Dev.arrive_waits hnoted hnotfree hbit hmask
    rw [Dev.submit_waits htakes hhandles rfl rfl hwork hwaits]
    exact ⟨Dev.underway_working hwaits, hfind⟩

end

/-! WAITTIME (R83). -/

theorem Dev.work_waittime {d : Dev} {q n : Nat} {e : Entry} {rel : Bool} {time : Word} (hseq : e.seq = n) (haux : e.aux = []) :
    d.work q e (.waittime rel time) = d.workTime q n [] rel time := by
  rw [← hseq, ← haux]
  rfl

/-- What a WAITTIME does, by how far its target lies in the past. -/
def Dev.timeWork (d : Dev) (q n t : Nat) : Option Nat → Work
  | some late => d.over .ok (late / 16)
  | none => (d.note q n [t]).waiting

/-- The definition is unfolded as a function, without its arguments: with them the kernel would evaluate pastBy on numbers of 2^30 s. -/
theorem Dev.workTime_eq {d : Dev} {q n : Nat} {aux : List Nat} {rel : Bool} {time : Word} {o : Option Nat}
    (ho : pastBy (stampSix d.stamp) (aux.getD 0 (d.timeTarget rel time)) = o) :
    d.workTime q n aux rel time = d.timeWork q n (aux.getD 0 (d.timeTarget rel time)) o := by
  have hself : Dev.workTime = Dev.workTime := rfl
  conv at hself => rhs; delta Dev.workTime
  rw [hself]
  beta_reduce
  extract_lets t
  have ht : t = aux.getD 0 (d.timeTarget rel time) := rfl
  rw [← ht] at ho ⊢
  rw [ho]
  cases o <;> rfl

/-- The time stands when one queue changes. -/
theorem Dev.timeTarget_queueStep {d t : Dev} {q : Nat} {fs : List Field} (h : d.queueStep t q fs) (rel : Bool) (time : Word) :
    pastBy (stampSix t.stamp) (t.timeTarget rel time) = pastBy (stampSix d.stamp) (d.timeTarget rel time) := by
  rw [Dev.queueStep_eq h]
  rfl

section
variable {d : Dev} {q : QId} {f : CmdFlags} {rel : Bool} {time : Word} (h : d.ready q.val 2) (hin : (Cmd.waittime rel time).inRange = true)
include h hin

theorem Dev.submit_waittime_past {late : Nat} (hpast : pastBy (stampSix d.stamp) (d.timeTarget rel time) = some late) :
    d.queueOnly (d.submit q.val (.waittime rel time) f .none) q.val [] ∧
      (d.submit q.val (.waittime rel time) f .none).ended q.val (d.nextSeq q.val) .ok (late / 16) := by
  have htakes : d.takesNow q.val (.waittime rel time) f := Dev.takesNow_of_ready h rfl hin rfl rfl
  have hworking := Dev.begun_working htakes (env := .none)
  rw [← Dev.timeTarget_queueStep (Dev.begun_queueStep htakes (env := .none))] at hpast
  obtain ⟨hended, -, hall⟩ := Dev.submit_over_at_once htakes rfl (Dev.handlesReady_nil _ rfl rfl rfl) rfl
    ((Dev.work_waittime hworking.seq rfl).trans (Dev.workTime_eq (aux := []) hpast)) fun _ => rfl
  exact ⟨Dev.queueOnly_of_taken (by rwa [List.append_nil]) (by simp), hended⟩

theorem Dev.submit_waittime_future (hfuture : pastBy (stampSix d.stamp) (d.timeTarget rel time) = none) :
    d.queueOnly (d.submit q.val (.waittime rel time) f .none) q.val [] ∧
      (d.submit q.val (.waittime rel time) f .none).underway q.val (d.nextSeq q.val) := by
  have htakes : d.takesNow q.val (.waittime rel time) f := Dev.takesNow_of_ready h rfl hin rfl rfl
  have hworking := Dev.begun_working htakes (env := .none)
  have hbegun := Dev.begun_queueStep htakes (env := .none)
  rw [← Dev.timeTarget_queueStep hbegun] at hfuture
  have hnoted := Dev.working_note hworking [(d.begun q.val (.waittime rel time) f .none).timeTarget rel time]
  rw [Dev.submit_waits htakes (Dev.handlesReady_nil _ rfl rfl rfl) rfl rfl
    ((Dev.work_waittime hworking.seq rfl).trans (Dev.workTime_eq (aux := []) hfuture)) hnoted]
  refine ⟨Dev.queueOnly_of_taken (c := .waittime rel time) ?_ (by simp), Dev.underway_working hnoted⟩
  rw [List.append_nil]
  exact Dev.queueStep_trans hbegun (Dev.queueStep_mono (Dev.note_queueStep _ q.val _ _) fun g hg => absurd hg List.not_mem_nil)

end

end Sys2Proof.Machine
end

section
/-!
Pegs (R399 to R401), and with them the commands that synchronise queues.
-/
namespace Sys2Proof.Machine

theorem key_PEG_STAT_HELD (n : Nat) : (PEG_STAT_HELD n).key = 256 * n + 2097280 := by simp only [PEG_STAT_HELD, Field.key]; omega
theorem key_PEG_STAT_HOLDER (n : Nat) : (PEG_STAT_HOLDER n).key = 256 * n + 2097281 := by simp only [PEG_STAT_HOLDER, Field.key]; omega
theorem key_PEG_STAT_TAKES (n : Nat) : (PEG_STAT_TAKES n).key = 256 * n + 2097296 := by simp only [PEG_STAT_TAKES, Field.key]; omega

/-- The fields that a take changes. -/
def takeFields (n : Nat) : List Field := [PEG_STAT_HELD n, PEG_STAT_HOLDER n, PEG_STAT_TAKES n]

theorem key_of_mem_takeFields {n : Nat} {f : Field} (hf : f ∈ takeFields n) :
    f.key = 256 * n + 2097280 ∨ f.key = 256 * n + 2097281 ∨ f.key = 256 * n + 2097296 := by
  simp only [takeFields, List.mem_cons, List.not_mem_nil, or_false] at hf
  rcases hf with rfl | rfl | rfl
  · exact .inl (key_PEG_STAT_HELD n)
  · exact .inr (.inl (key_PEG_STAT_HOLDER n))
  · exact .inr (.inr (key_PEG_STAT_TAKES n))

/-- A peg that a port has taken. -/
def Dev.pegTaken (d : Dev) (n : Nat) (p : Port) : Dev := ((d.set (PEG_STAT_HELD n)).wr (PEG_STAT_HOLDER n) p.num).inc (PEG_STAT_TAKES n)

section
variable {d : Dev} {n : Nat} {p : Port}

theorem Dev.takePeg_free (h : d.on (PEG_STAT_HELD n) = false) : d.takePeg n p = (true, d.pegTaken n p) := by
  simp only [Dev.takePeg, h, Bool.false_eq_true, if_false]
  rfl

theorem Dev.takePeg_held (h : d.on (PEG_STAT_HELD n) = true) : d.takePeg n p = (false, d) := by
  simp only [Dev.takePeg, h, if_true]

theorem Dev.pegTaken_queueStep (d : Dev) (q n : Nat) (p : Port) : d.queueStep (d.pegTaken n p) q (takeFields n) :=
  Dev.queueStep_wr (Dev.queueStep_wr (Dev.queueStep_wr (Dev.queueStep_refl d q _) (by simp [takeFields]) _) (by simp [takeFields]) _)
    (by simp [takeFields]) _

theorem Dev.rd_pegTaken :
    (d.pegTaken n p).rd (PEG_STAT_HELD n) = 1 ∧ (d.pegTaken n p).rd (PEG_STAT_HOLDER n) = p.num ∧
      (d.pegTaken n p).rd (PEG_STAT_TAKES n) = (d.rd (PEG_STAT_TAKES n) + 1) % 2 ^ 32 := by
  have hheld := key_PEG_STAT_HELD n
  have hholder := key_PEG_STAT_HOLDER n
  have htakes := key_PEG_STAT_TAKES n
  have hnum : p.num % 2 ^ (PEG_STAT_HOLDER n).width = p.num := by cases p <;> rfl
  refine ⟨?_, ?_, ?_⟩
  · exact (Dev.rd_wr_ne _ _ (by omega)).trans ((Dev.rd_wr_ne _ _ (by omega)).trans (Dev.rd_wr_same _ _ _))
  · exact (Dev.rd_wr_ne _ _ (by omega)).trans ((Dev.rd_wr_same _ _ _).trans hnum)
  · rw [Dev.pegTaken, Dev.inc_eq, Dev.rd_wr_same, Dev.rd_wr_ne _ _ (by omega), Dev.set_eq, Dev.rd_wr_ne _ _ (by omega)]
    rfl

@[simp] theorem Dev.journal_pegTaken (q : Nat) : (d.pegTaken n p).journal q = d.journal q := by
  rw [Dev.pegTaken, Dev.inc_eq, Dev.journal_wr, Dev.journal_wr, Dev.set_eq, Dev.journal_wr]

/-- A command at work takes a free peg. -/
theorem Dev.working_pegTaken {q m : Nat} {c : Cmd} {e : Entry} (h : d.working q m c e) (hn : n < 64) : (d.pegTaken n p).working q m c e :=
  Dev.working_of_queueStep h (Dev.pegTaken_queueStep d q n p) (fun g hg => by have hkey := key_of_mem_takeFields hg; omega)
    ((Dev.journal_pegTaken q).trans h.journal)

end

/-- The one PEGTAKE that waits for a peg. -/
theorem Dev.pegWaiters_one {d : Dev} {n : Nat} {x : Nat × Nat} (h : (passing Entry.unsettled d.queues).filterMap (pegWaitOn n) = [x]) :
    d.pegWaiters n = [(x.1, x.2, d.queuePort x.1)] := by
  rw [Dev.pegWaiters_eq, h]
  cases hp : d.queuePort x.1 <;> simp [Dev.withPort, hp]

theorem Dev.pegWaiters_none {d : Dev} {n : Nat} (h : (passing Entry.unsettled d.queues).filterMap (pegWaitOn n) = []) : d.pegWaiters n = [] := by
  rw [Dev.pegWaiters_eq, h]
  rfl

/-- A free peg goes to the only PEGTAKE that waits for it. -/
theorem Dev.settlePeg_one {d : Dev} {n q seq : Nat} {p : Port} (hfree : d.on (PEG_STAT_HELD n) = false) (hw : d.pegWaiters n = [(q, seq, p)]) :
    d.settlePeg n = (d.pegTaken n p).close q seq .ok := by
  simp only [Dev.settlePeg, hfree, hw, Bool.false_eq_true, if_false, Dev.takePeg_free hfree]

theorem Dev.settlePeg_held {d : Dev} {n : Nat} (h : d.on (PEG_STAT_HELD n) = true) : d.settlePeg n = d := by
  simp only [Dev.settlePeg, h, if_true]

theorem Dev.settlePeg_none {d : Dev} {n : Nat} (hw : d.pegWaiters n = []) : d.settlePeg n = d := by
  simp only [Dev.settlePeg, hw]
  exact ite_self _

theorem pegWaitOn_pegtake {d : Dev} {q n : Nat} {peg : BitVec 6} {e : Entry} (h : d.working q n (.pegtake peg true) e) :
    pegWaitOn peg.toNat (q, e) = some (q, n) := by
  simp only [pegWaitOn, h.cmd, beq_self_eq_true, if_true, h.seq]

theorem pegWaitOn_peggive {d : Dev} {q n : Nat} {peg : BitVec 6} {e : Entry} (h : d.working q n (.peggive peg) e) (k : Nat) :
    pegWaitOn k (q, e) = none := by
  simp only [pegWaitOn, h.cmd]

/-! The work of PEGTAKE and PEGGIVE. -/

theorem Dev.work_pegtake_wait (d : Dev) (q : Nat) (e : Entry) (peg : BitVec 6) :
    d.work q e (.pegtake peg true) = (d.settlePeg peg.toNat).waiting := rfl

theorem Dev.work_pegtake_free {d : Dev} {e : Entry} {peg : BitVec 6} (h : d.on (PEG_STAT_HELD peg.toNat) = false) (q : Nat) :
    d.work q e (.pegtake peg false) = (d.pegTaken peg.toNat e.ident).over .ok := by
  have htake : d.work q e (.pegtake peg false) = d.workTake e.ident peg.toNat false := rfl
  simp only [htake, Dev.workTake, Bool.false_eq_true, if_false, Dev.takePeg_free h, if_true]

theorem Dev.work_pegtake_held {d : Dev} {e : Entry} {peg : BitVec 6} (h : d.on (PEG_STAT_HELD peg.toNat) = true) (q : Nat) :
    d.work q e (.pegtake peg false) = d.over .pegBusy := by
  have htake : d.work q e (.pegtake peg false) = d.workTake e.ident peg.toNat false := rfl
  simp only [htake, Dev.workTake, Bool.false_eq_true, if_false, Dev.takePeg_held h]

theorem Dev.work_peggive {d : Dev} {e : Entry} {peg : BitVec 6} (h : d.holdsPeg peg.toNat e.ident = true)
    (hw : (d.wr (PEG_STAT_HELD peg.toNat) 0).pegWaiters peg.toNat = []) (q : Nat) :
    d.work q e (.peggive peg) = (d.wr (PEG_STAT_HELD peg.toNat) 0).over .ok := by
  have hgive : d.work q e (.peggive peg) = d.workGive e.ident peg.toNat := rfl
  simp only [hgive, Dev.workGive, Dev.givePeg, h, if_true, Dev.clr_eq, Dev.settlePeg_none hw]

theorem ident_begunEntry (d : Dev) (q : Nat) (c : Cmd) (f : CmdFlags) (env : CmdEnv) : (d.begunEntry q c f env).ident = d.queuePort q :=
  Dev.queuePort_goesOn d q

section
variable {d : Dev} {q : Nat} {c : Cmd} {f : CmdFlags} {env : CmdEnv} (h : d.takesNow q c f)
include h

/-- The fields of pegs stand at the acceptance of a command. -/
theorem Dev.rd_begun_peg {g : Field} (hg : g.key < 2621440) : (d.begun q c f env).rd g = d.rd g := Dev.rd_begun h (.inl hg)

theorem Dev.on_held_begun (n : Nat) (hn : n < 64) : (d.begun q c f env).on (PEG_STAT_HELD n) = d.on (PEG_STAT_HELD n) := by
  rw [Dev.on, Dev.rd_begun_peg h (by rw [key_PEG_STAT_HELD]; omega), Dev.on]

theorem Dev.holdsPeg_begun (n : Nat) (hn : n < 64) (p : Port) : (d.begun q c f env).holdsPeg n p = d.holdsPeg n p := by
  rw [Dev.holdsPeg, Dev.on_held_begun h n hn, Dev.rd_begun_peg h (by rw [key_PEG_STAT_HOLDER]; omega), Dev.holdsPeg]

end

section
variable {d : Dev} {q : QId} {f : CmdFlags} {peg : BitVec 6} (h : d.ready q.val 1) (hw : d.pegWaiters peg.toNat = [])
include h

/-- A PEGTAKE of a free peg takes it, with what the peg's fields then hold. -/
theorem Dev.pegTaken_claims {wait : Bool} {t : Dev}
    (hended : t.ended q.val (d.nextSeq q.val) .ok 0)
    (hstep : ((d.begun q.val (.pegtake peg wait) f .none).pegTaken peg.toNat (d.queuePort q.val)).queueStep t q.val []) :
    t.ended q.val (d.nextSeq q.val) .ok 0 ∧ t.rd (PEG_STAT_HELD peg.toNat) = 1 ∧
      t.rd (PEG_STAT_HOLDER peg.toNat) = (d.queuePort q.val).num ∧
      t.rd (PEG_STAT_TAKES peg.toNat) = (d.rd (PEG_STAT_TAKES peg.toNat) + 1) % 2 ^ 32 ∧
      d.queueOnly t q.val [PEG_STAT_HELD peg.toNat, PEG_STAT_HOLDER peg.toNat, PEG_STAT_TAKES peg.toNat] := by
  have htakes : d.takesNow q.val (.pegtake peg wait) f := Dev.takesNow_of_ready h rfl rfl rfl rfl
  obtain ⟨hheld, hholder, hcount⟩ := Dev.rd_pegTaken (d := d.begun q.val (.pegtake peg wait) f .none) (n := peg.toNat) (p := d.queuePort q.val)
  have hsame : ∀ g : Field, t.rd g = _ := fun g => hstep.fields g fun x hx => absurd hx List.not_mem_nil
  refine ⟨hended, (hsame _).trans hheld, (hsame _).trans hholder, ?_, ?_⟩
  · rw [hsame, hcount, Dev.rd_begun_peg htakes (by rw [key_PEG_STAT_TAKES]; omega)]
  · exact Dev.queueOnly_of_taken (c := .pegtake peg wait) (Dev.queueStep_trans
      (Dev.queueStep_mono (Dev.begun_queueStep htakes) fun g hg => List.mem_append_left _ hg)
      (Dev.queueStep_trans (Dev.queueStep_mono (Dev.pegTaken_queueStep _ q.val peg.toNat _) fun g hg => List.mem_append_right _ hg)
        (Dev.queueStep_mono hstep fun g hg => absurd hg List.not_mem_nil))) (by simp)

include hw

theorem Dev.submit_pegtake_free (wait : Bool) (hfree : d.on (PEG_STAT_HELD peg.toNat) = false) :
    (d.submit q.val (.pegtake peg wait) f .none).ended q.val (d.nextSeq q.val) .ok 0 ∧
      (d.submit q.val (.pegtake peg wait) f .none).rd (PEG_STAT_HELD peg.toNat) = 1 ∧
      (d.submit q.val (.pegtake peg wait) f .none).rd (PEG_STAT_HOLDER peg.toNat) = (d.queuePort q.val).num ∧
      (d.submit q.val (.pegtake peg wait) f .none).rd (PEG_STAT_TAKES peg.toNat) = (d.rd (PEG_STAT_TAKES peg.toNat) + 1) % 2 ^ 32 ∧
      d.queueOnly (d.submit q.val (.pegtake peg wait) f .none) q.val
        [PEG_STAT_HELD peg.toNat, PEG_STAT_HOLDER peg.toNat, PEG_STAT_TAKES peg.toNat] := by
  have htakes : d.takesNow q.val (.pegtake peg wait) f := Dev.takesNow_of_ready h rfl rfl rfl rfl
  have hhandles : d.handlesReady (.pegtake peg wait) := Dev.handlesReady_nil _ rfl rfl rfl
  have hworking := Dev.begun_working htakes (env := .none)
  have hfree' := (Dev.on_held_begun htakes (env := .none) peg.toNat peg.isLt).trans hfree
  have htaken := Dev.working_pegTaken (p := d.queuePort q.val) hworking peg.isLt
  cases wait with
  | true =>
    obtain ⟨-, hj, -⟩ := id h
    have hone := Dev.one_open (Dev.begun_queueStep htakes (env := .none)) (Dev.pegWaiters_eq_nil hw) hj hworking.journal
      (Dev.open_working hworking) (pegWaitOn_pegtake hworking)
    have hwaiters := Dev.pegWaiters_one hone
    rw [Dev.queuePort_begun htakes] at hwaiters
    have hwork := Dev.work_pegtake_wait (d.begun q.val (.pegtake peg true) f .none) q.val (d.begunEntry q.val (.pegtake peg true) f .none) peg
    rw [Dev.settlePeg_one hfree' hwaiters] at hwork
    obtain ⟨hended, hclose, -⟩ := Dev.ended_close_ok htaken.tosole 0
    rw [Dev.submit_ended htakes hhandles rfl rfl hwork hended]
    exact Dev.pegTaken_claims h hended hclose
  | false =>
    have hwork := Dev.work_pegtake_free hfree' q.val (e := d.begunEntry q.val (.pegtake peg false) f .none)
    rw [ident_begunEntry] at hwork
    obtain ⟨hended, hstep, -⟩ := Dev.submit_over htakes rfl hhandles rfl hwork htaken (Dev.pegTaken_queueStep _ _ _ _) fun _ => rfl
    exact Dev.pegTaken_claims h hended hstep

omit hw in
theorem Dev.submit_pegtake_held (wait : Bool) (hheld : d.on (PEG_STAT_HELD peg.toNat) = true) :
    (if wait then (d.submit q.val (.pegtake peg wait) f .none).underway q.val (d.nextSeq q.val)
      else (d.submit q.val (.pegtake peg wait) f .none).ended q.val (d.nextSeq q.val) .pegBusy 0) ∧
      (d.submit q.val (.pegtake peg wait) f .none).rd (PEG_STAT_HOLDER peg.toNat) = d.rd (PEG_STAT_HOLDER peg.toNat) := by
  have htakes : d.takesNow q.val (.pegtake peg wait) f := Dev.takesNow_of_ready h rfl rfl rfl rfl
  have hhandles : d.handlesReady (.pegtake peg wait) := Dev.handlesReady_nil _ rfl rfl rfl
  have hworking := Dev.begun_working htakes (env := .none)
  have hheld' := (Dev.on_held_begun htakes (env := .none) peg.toNat peg.isLt).trans hheld
  have hholder := Dev.rd_begun_peg htakes (env := .none) (g := PEG_STAT_HOLDER peg.toNat) (by rw [key_PEG_STAT_HOLDER]; omega)
  cases wait with
  | true =>
    have hwork := Dev.work_pegtake_wait (d.begun q.val (.pegtake peg true) f .none) q.val (d.begunEntry q.val (.pegtake peg true) f .none) peg
    rw [Dev.settlePeg_held hheld'] at hwork
    rw [Dev.submit_waits htakes hhandles rfl rfl hwork hworking]
    exact ⟨Dev.underway_working hworking, hholder⟩
  | false =>
    have hwork := Dev.work_pegtake_held hheld' q.val (e := d.begunEntry q.val (.pegtake peg false) f .none)
    obtain ⟨hended, hstep⟩ := Dev.settle_ended hworking .pegBusy 0 (fun hok => by cases hok)
    rw [Dev.submit_working htakes rfl hhandles rfl, hwork]
    refine ⟨hended, (hstep.fields _ fun g hg => ?_).trans hholder⟩
    have hmem : g = QU_STAT_ERRSTOP q.val := by
      split at hg
      · exact List.mem_singleton.mp hg
      · exact absurd hg List.not_mem_nil
    rw [hmem, key_QU_STAT_ERRSTOP, key_PEG_STAT_HOLDER]
    omega

theorem Dev.submit_peggive (hholds : d.holdsPeg peg.toNat (d.queuePort q.val) = true) :
    (d.submit q.val (.peggive peg) f .none).ended q.val (d.nextSeq q.val) .ok 0 ∧
      (d.submit q.val (.peggive peg) f .none).rd (PEG_STAT_HELD peg.toNat) = 0 ∧
      d.queueOnly (d.submit q.val (.peggive peg) f .none) q.val [PEG_STAT_HELD peg.toNat] := by
  have htakes : d.takesNow q.val (.peggive peg) f := Dev.takesNow_of_ready h rfl rfl rfl rfl
  have hworking := Dev.begun_working htakes (env := .none)
  have hbegun := Dev.begun_queueStep htakes (env := .none)
  have hgiven : (d.begun q.val (.peggive peg) f .none).queueStep ((d.begun q.val (.peggive peg) f .none).wr (PEG_STAT_HELD peg.toNat) 0) q.val
      [PEG_STAT_HELD peg.toNat] := Dev.queueStep_wr (Dev.queueStep_refl _ _ _) (List.mem_singleton_self _) _
  have hlow : ∀ g ∈ [PEG_STAT_HELD peg.toNat], g.key < 2 ^ 25 := fun g hg => by
    rw [List.mem_singleton.mp hg, key_PEG_STAT_HELD]
    omega
  have hgives := Dev.working_of_queueStep hworking hgiven hlow ((Dev.journal_wr _ _ _ _).trans hworking.journal)
  obtain ⟨-, hj, -⟩ := id h
  have hnone := Dev.pegWaiters_none (Dev.none_open (Dev.queueStep_trans
    (Dev.queueStep_mono hbegun fun g hg => List.mem_append_left [PEG_STAT_HELD peg.toNat] hg)
    (Dev.queueStep_mono hgiven fun g hg => List.mem_append_right _ hg)) (Dev.pegWaiters_eq_nil hw) hj hgives.journal
    (.inl (pegWaitOn_peggive hgives peg.toNat)))
  have hholds' : (d.begun q.val (.peggive peg) f .none).holdsPeg peg.toNat (d.begunEntry q.val (.peggive peg) f .none).ident = true := by
    rw [Dev.holdsPeg_begun htakes peg.toNat peg.isLt, ident_begunEntry]
    exact hholds
  obtain ⟨hended, hstep, hall⟩ := Dev.submit_over htakes rfl (Dev.handlesReady_nil _ rfl rfl rfl) rfl (Dev.work_peggive hholds' hnone q.val) hgives
    hgiven fun _ => rfl
  exact ⟨hended, (hstep.fields _ fun g hg => absurd hg List.not_mem_nil).trans ((Dev.rd_wr_same _ _ _).trans (Nat.zero_mod _)),
    Dev.queueOnly_of_taken hall (by simp)⟩

end

/-- Settles O6, command by command. -/
theorem synchronisingCommands : Obligations.SynchronisingCommands := by
  intro s q f d n
  refine ⟨fun ev h hw => ⟨_, rfl, Dev.submit_wait h hw⟩, fun ev h hw hc => ⟨_, rfl, Dev.submit_signal h hw hc⟩, ?_, ?_,
    fun peg wait h hw hfree => ⟨_, rfl, Dev.submit_pegtake_free h hw wait hfree⟩,
    fun peg wait h _ hheld => ⟨_, rfl, Dev.submit_pegtake_held h wait hheld⟩,
    fun peg h hw hholds => ⟨_, rfl, Dev.submit_peggive h hw hholds⟩⟩
  · intro bar mask h hfree hrun hbit
    obtain ⟨halone, hothers⟩ := Dev.submit_barrier (f := f) h hfree hrun hbit
    exact ⟨fun hmask => ⟨_, rfl, halone hmask⟩, fun hmask => ⟨_, rfl, hothers hmask⟩⟩
  · intro rel time h hin
    cases hpast : pastBy (stampSix d.stamp) (d.timeTarget rel time) with
    | some late => exact ⟨_, rfl, Dev.submit_waittime_past h hin hpast⟩
    | none => exact ⟨_, rfl, Dev.submit_waittime_future h hin hpast⟩

end Sys2Proof.Machine
end

section
/-!
The accept stage (R34, R35, R40 to R44): what it has of its next command, and what it leaves of the queue that takes it.
-/
namespace Sys2Proof.Machine

/-! The words of the next command. -/

theorem Dev.length_pathPlaces (d : Dev) (q n : Nat) (p : Place) : (d.pathPlaces q n p).length = n := by
  induction n generalizing p with
  | zero => rfl
  | succ n ih => rw [Dev.pathPlaces, List.length_cons, ih]

/-- Words that are put together are the words at their places. -/
theorem Dev.collect_words {d : Dev} {q : Nat} {ps : List Place} {acc ws : List Word} (h : d.collect q ps acc = .words ws) :
    ∃ l, ws = acc ++ l ∧ l.length = ps.length ∧ ∀ x ∈ ps.zip l, d.wordAt q x.1 = .word x.2 := by
  induction ps generalizing acc with
  | nil =>
    cases h
    exact ⟨[], (List.append_nil _).symm, rfl, fun x hx => absurd hx List.not_mem_nil⟩
  | cons p ps ih =>
    simp only [Dev.collect] at h
    split at h
    · next w hw =>
      obtain ⟨l, rfl, hlen, hall⟩ := ih h
      refine ⟨w :: l, by rw [List.append_assoc]; rfl, by rw [List.length_cons, List.length_cons, hlen], ?_⟩
      rw [List.zip_cons_cons]
      exact List.forall_mem_cons.mpr ⟨hw, hall⟩
    · cases h
    · cases h

/-- Words that are at hand agree with the queue. -/
theorem Dev.agrees_gather {d : Dev} {q : Nat} {ws : List Word} (h : d.gather q = .words ws) : d.agrees q ws = true := by
  simp only [Dev.gather] at h
  split at h
  · obtain ⟨l, hws, hlen, hall⟩ := Dev.collect_words h
    rw [List.nil_append] at hws
    subst hws
    rw [Dev.length_pathPlaces] at hlen
    rw [Dev.agrees, List.all_eq_true, hlen]
    intro x hx
    simp only [hall x hx, beq_self_eq_true]
  · cases h
  · cases h

/-! What acceptance leaves. -/

theorem seqNext_ne (n : Nat) : seqNext n ≠ n := by
  unfold seqNext
  split <;> omega

theorem Dev.nextPlace_goesOn (d : Dev) (q : Nat) (p : Place) : (d.goesOn q).nextPlace q p = d.nextPlace q p := by
  cases p <;> rfl

theorem Dev.pathPlaces_goesOn (d : Dev) (q n : Nat) (p : Place) : (d.goesOn q).pathPlaces q n p = d.pathPlaces q n p := by
  induction n generalizing p with
  | zero => rfl
  | succ n ih => rw [Dev.pathPlaces, Dev.nextPlace_goesOn, ih, Dev.pathPlaces]

/-- Behind words there is a last place of theirs. -/
theorem Dev.behind_eq (d : Dev) (q : Nat) {ws : List Word} (h : ws ≠ []) :
    (d.goesOn q).behind q ws = ((d.pathPlaces q ws.length (d.queue q).pos).getLast?.getD (d.queue q).pos).plus 1 := by
  have hpos : (d.goesOn q).queue q = d.queue q := rfl
  have hne : d.pathPlaces q ws.length (d.queue q).pos ≠ [] := by
    rw [← List.length_pos_iff, Dev.length_pathPlaces]
    exact List.length_pos_iff.mpr h
  rw [Dev.behind, hpos, Dev.pathPlaces_goesOn, List.getLast?_eq_some_getLast hne, Option.getD_some, Option.getD_some]

section
variable {d : Dev} {q : QId} {c : Cmd} {f : CmdFlags} (hs : (d.queue q.val).snaps = []) (ht : d.telling = false) (hin : c.inRange = true)
  (hseq : c.isSeq = false) (hplain : c.stopPlain = true)
include hs ht hin hseq hplain

/-- The device once the accept stage has taken a command's words. -/
theorem Dev.takeWords_goesOn_queueStep : d.queueStep ((d.goesOn q.val).takeWords q.val (encodeCmd c f)) q.val (takenFields q.val c) := by
  obtain ⟨hdecode, -, hop⟩ := encodeCmd_spells hin hplain f
  rw [Dev.takeWords_goesOn q.isLt hs ht (hop.trans hseq)]
  exact Dev.queueStep_trans Dev.walked_takesNow (Dev.taken_spelt_queueStep hdecode)

theorem Dev.queue_takeWords_goesOn : ((d.goesOn q.val).takeWords q.val (encodeCmd c f)).queue q.val =
    { ((d.goesOn q.val).walked q.val (encodeCmd c f)).queue q.val with
      journal := d.journal q.val ++ [(d.goesOn q.val).takenEntry q.val (encodeCmd c f) none] } := by
  obtain ⟨-, -, hop⟩ := encodeCmd_spells hin hplain f
  rw [Dev.takeWords_goesOn q.isLt hs ht (hop.trans hseq), Dev.queue_taken]
  rfl

theorem Dev.rd_seq_takeWords_goesOn :
    ((d.goesOn q.val).takeWords q.val (encodeCmd c f)).rd (QU_ACCEPT_SEQ_SEQ q.val) = d.nextSeq q.val := by
  obtain ⟨-, -, hop⟩ := encodeCmd_spells hin hplain f
  rw [Dev.takeWords_goesOn q.isLt hs ht (hop.trans hseq), Dev.taken, Dev.rd_seq_showAccept _ _ (Dev.nextSeq_lt _ _), Dev.nextSeq_goesOn]

theorem Dev.rd_jwait_takeWords_goesOn : ((d.goesOn q.val).takeWords q.val (encodeCmd c f)).rd (QU_STAT_JWAIT q.val) = 0 := by
  obtain ⟨hdecode, -, hop⟩ := encodeCmd_spells hin hplain f
  have haccept : (d.goesOn q.val).queueStep ((d.goesOn q.val).takeWords q.val (encodeCmd c f)) q.val (acceptFields q.val (c == .halt)) := by
    rw [Dev.takeWords_goesOn q.isLt hs ht (hop.trans hseq)]
    refine Dev.taken_queueStep (Dev.queueStep_mono (Dev.walked_queueStep _ q.val _) fun g hg => ?_) fun g hg => ?_
    · rw [List.mem_singleton.mp hg]
      exact List.mem_cons_self
    · rwa [hdecode] at hg
  rw [haccept.fields _ fun g hg => ?_]
  · exact (Dev.rd_wr_same _ _ _).trans (Nat.zero_mod _)
  · have hkey := key_of_mem_acceptFields hg
    rw [key_QU_STAT_JWAIT]
    omega

end

/-! The stage's next command. -/

section
variable {d d1 : Dev} {q : Nat} {fetched : List Word} {o : Outc} (hd : d.fetchMore q fetched o = d1)

theorem Dev.acceptNext_idle (h : d.accepting q = false ∨ d.hasTurn d.acceptTurns Dev.acceptReady q = false) : d.acceptNext q fetched o = d := by
  have hcond : (!d.accepting q || !d.hasTurn d.acceptTurns Dev.acceptReady q) = true := by
    rcases h with h | h <;> simp [h]
  simp only [Dev.acceptNext, hcond, if_true]

include hd

section
variable (ha : d.accepting q = true) (hturn : d.hasTurn d.acceptTurns Dev.acceptReady q = true)
include ha hturn

theorem Dev.acceptNext_missing (h : (d1.atPath q).gather q = .missing) : d.acceptNext q fetched o = d1.dropListWords q := by
  simp only [Dev.acceptNext, ha, hturn, hd, h, Bool.not_true, Bool.or_self, Bool.false_eq_true, if_false]

theorem Dev.acceptNext_failed {p : Place} (h : (d1.atPath q).gather q = .failed p) :
    d.acceptNext q fetched o = (d1.fetchFault q p).dropListWords q := by
  simp only [Dev.acceptNext, ha, hturn, hd, h, Bool.not_true, Bool.or_self, Bool.false_eq_true, if_false]

/-- The words of a command that the stage does not take. -/
theorem Dev.acceptNext_refused {ws : List Word} {t : Dev} (h : (d1.atPath q).gather q = .words ws) (ht : d1.acceptWords q ws = t)
    (hseq : t.lastSeq q = d1.lastSeq q) : d.acceptNext q fetched o = t.dropListWords q := by
  simp only [Dev.acceptNext, ha, hturn, hd, h, ht, hseq, Bool.not_true, Bool.or_self, Bool.false_eq_true, if_false, if_true]

/-- The words of a command that the stage takes. -/
theorem Dev.acceptNext_taken {ws : List Word} {t : Dev} (h : (d1.atPath q).gather q = .words ws) (ht : d1.acceptWords q ws = t)
    (hseq : t.lastSeq q ≠ d1.lastSeq q) :
    d.acceptNext q fetched o = Dev.dropListWords { t with acceptTurns := d1.takeTurn d1.acceptTurns q } q := by
  simp only [Dev.acceptNext, ha, hturn, hd, h, ht, hseq, Bool.not_true, Bool.or_self, Bool.false_eq_true, if_false]

end

end

/-- Nothing of a called list is kept. -/
theorem Dev.dropListWords_queueStep (d : Dev) (q : Nat) : d.queueStep (d.dropListWords q) q [] :=
  Dev.queueStep_setQueue (Dev.queueStep_refl d q []) _

theorem Dev.pos_journal_dropListWords (d : Dev) (q : Nat) :
    ((d.dropListWords q).queue q).pos = (d.queue q).pos ∧ (d.dropListWords q).journal q = d.journal q := by
  rw [Dev.journal, Dev.dropListWords, Dev.queue_setQueue, if_pos rfl]
  exact ⟨rfl, rfl⟩

section
variable {d d1 : Dev} {q : QId} {fetched : List Word} {o : Outc} (hd : d.fetchMore q.val fetched o = d1) (ha : d.accepting q.val = true)
  (hturn : d.hasTurn d.acceptTurns Dev.acceptReady q.val = true) {c : Cmd} {f : CmdFlags} (hs : (d1.queue q.val).snaps = [])
  (hgot : d1.gather q.val = .words (encodeCmd c f)) (hin : c.inRange = true) (hplain : c.stopPlain = true)
include hd ha hturn hs hgot hin hplain

/-- A command finds too few entries free (R44). -/
theorem Dev.acceptNext_full (ha1 : d1.accepting q.val = true) (hroom : d1.journalRoom q.val = false) :
    d.acceptNext q.val fetched o = (d1.wr (QU_STAT_JWAIT q.val) 1).dropListWords q.val := by
  obtain ⟨-, hne, -⟩ := encodeCmd_spells hin hplain f
  have hwait : d1.acceptWords q.val (encodeCmd c f) = d1.wr (QU_STAT_JWAIT q.val) 1 := by
    simp [Dev.acceptWords, ha1, Dev.atPath_plain hs, Dev.agrees_gather hgot, hne, hroom]
  exact Dev.acceptNext_refused hd ha hturn ((congrArg (Dev.gather · q.val) (Dev.atPath_plain hs)).trans hgot) hwait
    (Dev.lastSeq_wr_jwait d1 q.val 1)

/-- A command is taken into the journal (R40 to R43). -/
theorem Dev.acceptNext_room (ha1 : d1.accepting q.val = true) (hroom : d1.journalRoom q.val = true) (ht : d1.telling = false)
    (hseq : c.isSeq = false) :
    d.acceptNext q.val fetched o = Dev.dropListWords { (d1.goesOn q.val).takeWords q.val (encodeCmd c f) with
      acceptTurns := d1.takeTurn d1.acceptTurns q.val } q.val := by
  obtain ⟨-, hne, -⟩ := encodeCmd_spells hin hplain f
  have htake : d1.acceptWords q.val (encodeCmd c f) = (d1.goesOn q.val).takeWords q.val (encodeCmd c f) := by
    simp [Dev.acceptWords, ha1, Dev.atPath_plain hs, Dev.agrees_gather hgot, hne, hroom, Dev.goesOn]
  refine Dev.acceptNext_taken hd ha hturn ((congrArg (Dev.gather · q.val) (Dev.atPath_plain hs)).trans hgot) htake ?_
  have hjournal : ((d1.goesOn q.val).takeWords q.val (encodeCmd c f)).journal q.val = _ :=
    congrArg QueueSt.journal (Dev.queue_takeWords_goesOn (f := f) hs ht hin hseq hplain)
  have hlast : ((d1.goesOn q.val).takeWords q.val (encodeCmd c f)).lastSeq q.val = d1.nextSeq q.val := by
    rw [Dev.lastSeq, hjournal]
    simp only [List.getLast?_concat]
    exact Dev.nextSeq_goesOn d1 q.val
  rw [hlast]
  exact seqNext_ne _

end

/-- What stands when a stage has counted its turn. -/
theorem Dev.dropListWords_counted {d t : Dev} {q : Nat} {fs : List Field} (h : d.queueStep t q fs) (turns : KMap Nat) :
    (Dev.dropListWords { t with acceptTurns := turns } q).journal q = t.journal q ∧
      ((Dev.dropListWords { t with acceptTurns := turns } q).queue q).pos = (t.queue q).pos ∧
      (∀ g, (Dev.dropListWords { t with acceptTurns := turns } q).rd g = t.rd g) ∧
      (Dev.dropListWords { t with acceptTurns := turns } q).acceptTurns = turns ∧
      d.queueStep { Dev.dropListWords { t with acceptTurns := turns } q with acceptTurns := d.acceptTurns } q fs := by
  obtain ⟨hpos, hjournal⟩ := Dev.pos_journal_dropListWords { t with acceptTurns := turns } q
  have huncounted : d.queueStep { t with acceptTurns := d.acceptTurns } q fs :=
    ⟨congrArg (fun x : Dev => { x with acceptTurns := d.acceptTurns }) h.rest, h.queues, h.fields⟩
  exact ⟨hjournal, hpos, fun _ => rfl, rfl, Dev.queueStep_setQueue huncounted _⟩

/-- The block of the ring that comes from host memory (R35, R569). -/
theorem Dev.fetchBlock_host {d : Dev} {q : Nat} {fetched : List Word} {p : Port} {x : Nat} {r : Place} {ps : List Place}
    (hnext : d.nextBlock q = r :: ps) (haddr : addrSpace (d.placeAddr q r) = .host p x) (hup : d.portUp p = true)
    (hlen : fetched.length = ps.length + 1) :
    d.fetchBlock q fetched .ok = (d.setQueue q { d.queue q with
        ahead := (d.queue q).ahead ++ ((r :: ps).zip fetched).map fun y => (y.1, some y.2) }).wr
      (QU_HEAD_FETCH q) ((d.rd (QU_HEAD_FETCH q) + (ps.length + 1)) % 2 ^ 32) := by
  have hplaces : d.fetchPlaces q (r :: ps) fetched .ok = (some (((r :: ps).zip fetched).map fun y => (y.1, some y.2)), d) := by
    simp only [Dev.fetchPlaces, List.head?_cons, haddr, hup, Bool.not_true, Bool.false_eq_true, if_false, decide_true, Bool.true_or, if_true]
  have hzip : (((r :: ps).zip fetched).map fun y => (y.1, some y.2)).length = ps.length + 1 := by
    rw [List.length_map, List.length_zip, hlen, List.length_cons, Nat.min_self]
  simp only [Dev.fetchBlock, hnext, List.isEmpty_cons, Bool.false_eq_true, if_false, hplaces, hzip]

/-- Settles O11, by what the accept stage has of its next command. -/
theorem acceptance : Obligations.Acceptance := by
  intro s q fetched o d turn d1 pos
  refine ⟨fun h => congrArg s.next (Dev.acceptNext_idle h), fun ha hturn => ⟨?_, ?_, ?_⟩,
    fun p x r ps hnext haddr hup hlen => Dev.fetchBlock_host hnext haddr hup hlen⟩
  · intro c f hs ha1 ht hgot hin hseq hplain
    obtain ⟨hdecode, hne, -⟩ := encodeCmd_spells hin hplain f
    obtain ⟨-, -, hflags, -⟩ := commandWordsReadBack c f hin hplain
    constructor
    · intro hroom
      have hstep := Dev.takeWords_goesOn_queueStep (d := d1) (q := q) (f := f) hs ht hin hseq hplain
      have hqueue := Dev.queue_takeWords_goesOn (d := d1) (q := q) (f := f) hs ht hin hseq hplain
      have hposX := congrArg QueueSt.pos hqueue
      have hjournalX := congrArg QueueSt.journal hqueue
      obtain ⟨hjournal, hpos, hrd, hturns, hcounted⟩ := Dev.dropListWords_counted hstep (d1.takeTurn d1.acceptTurns q.val)
      refine ⟨_, (d1.goesOn q.val).takenEntry q.val (encodeCmd c f) none,
        congrArg s.next (Dev.acceptNext_room rfl ha hturn hs hgot hin hplain ha1 hroom ht hseq), hjournal.trans hjournalX, rfl, hdecode, hflags,
        Dev.nextSeq_goesOn d1 q.val, rfl, ?_, ?_, (hrd _).trans (Dev.rd_seq_takeWords_goesOn hs ht hin hseq hplain),
        (hrd _).trans (Dev.rd_jwait_takeWords_goesOn hs ht hin hseq hplain), ?_, hturns, ?_⟩
      · exact Dev.rd_goesOn (by simp only [key_QU_STAT_JWAIT, key_QU_EPOCH_EPOCH]; omega)
      · exact Dev.queuePort_goesOn d1 q.val
      · rw [hpos, hposX, Dev.pos_walked, Dev.behind_eq d1 q.val hne]
      · refine Dev.queueStep_queueOnly hcounted fun g hg => ?_
        by_cases hc : c = .halt <;> simpa [takenFields, acceptFields, hc] using hg
    · exact fun hroom => congrArg s.next (Dev.acceptNext_full rfl ha hturn hs hgot hin hplain ha1 hroom)
  · exact fun p h => congrArg s.next (Dev.acceptNext_failed rfl ha hturn h)
  · exact fun h => congrArg s.next (Dev.acceptNext_missing rfl ha hturn h)

end Sys2Proof.Machine
end

section
/-!
Failures (R66): a journal of commands told apart by their sequence numbers, and what the failure of one leaves of the others.
-/
namespace Sys2Proof.Machine

/-! Commands of a journal by number. -/

/-- A command of a journal whose numbers differ is found by its number. -/
theorem find?_seq_of_mem {l : List Entry} (h : l.Pairwise fun a b => a.seq ≠ b.seq) {x : Entry} (hx : x ∈ l) :
    (l.find? fun e => e.seq == x.seq) = some x := by
  induction l with
  | nil => cases hx
  | cons y l ih =>
    obtain ⟨hy, hl⟩ := List.pairwise_cons.mp h
    rcases List.mem_cons.mp hx with rfl | hx
    · simp
    · rw [List.find?_cons_of_neg (by simpa using hy x hx)]
      exact ih hl hx

/-- What a change of one entry leaves of the others. -/
theorem Dev.entry_updEntry (d : Dev) (q n m : Nat) (f : Entry → Entry) (hf : ∀ e, (f e).seq = e.seq) :
    (d.updEntry q n f).entry q m = if n = m then (d.entry q m).map f else d.entry q m := by
  rw [Dev.entry, Dev.journal_updEntry, if_pos rfl, Dev.entry]
  induction d.journal q with
  | nil => simp
  | cons y l ih =>
    have hkeep : (if y.seq == n then f y else y).seq = y.seq := by split <;> simp [hf]
    rw [List.map_cons]
    by_cases hy : y.seq = m
    · rw [List.find?_cons_of_pos (by rw [beq_iff_eq, hkeep]; exact hy), List.find?_cons_of_pos (by simpa using hy)]
      by_cases hn : n = m
      · simp [hn, hy]
      · simp [hn, hy, Ne.symm hn]
    · rw [List.find?_cons_of_neg (by rw [beq_iff_eq, hkeep]; exact hy), List.find?_cons_of_neg (by simpa using hy), ih]

/-! The completion of one command of a queue, on a device that tells no twin. -/

/-- What the completion of a command makes of its entry. -/
def Dev.closesTo (d : Dev) (e : Entry) (st : Status) (res : Word) (x : Entry) : Entry :=
  { x with stage := .completed, status := st, result := res, fin := some (st, res), staged := [], delta := [], wrote := []
           stamp := d.closeStamp e, durable := true }

/-- No drain of a command is left. -/
def Dev.undrained (d : Dev) (q n : Nat) : Dev := { d with drains := d.drains.filter fun x => x.q != q || x.seq != n }

theorem Dev.closeOne_eq {d : Dev} (h : d.telling = false) (q : Nat) (e : Entry) (st : Status) (res : Word) (stops : Bool) :
    d.closeOne q e st res stops = (d.undrained q e.seq).updEntry q e.seq (d.closesTo e (e.okStatus st) res) := by
  have htold : ∀ f, ((d.undrained q e.seq).updEntry q e.seq f).telling = false := fun _ => h
  simp only [Dev.closeOne, Dev.pairedLead_telling h, Bool.false_eq_true, if_false, Bool.not_false]
  exact if_neg (by rw [Bool.not_eq_true]; exact htold _)

section
variable {d : Dev} (h : d.telling = false) (q : Nat) (e : Entry) (st : Status) (res : Word) (stops : Bool)
include h

theorem Dev.entry_closeOne (m : Nat) :
    (d.closeOne q e st res stops).entry q m = if e.seq = m then (d.entry q m).map (d.closesTo e (e.okStatus st) res) else d.entry q m := by
  rw [Dev.closeOne_eq h]
  exact Dev.entry_updEntry (d.undrained q e.seq) q e.seq m _ fun _ => rfl

theorem Dev.rd_closeOne (g : Field) : (d.closeOne q e st res stops).rd g = d.rd g := by
  rw [Dev.closeOne_eq h]
  rfl

theorem Dev.telling_closeOne : (d.closeOne q e st res stops).telling = false := by
  rw [Dev.closeOne_eq h]
  exact h

end

/-! The others, when a failure stops the queue. -/

/-- What R66 makes of a later command. -/
def Dev.stopOne (q : Nat) (d : Dev) (e : Entry) : Dev :=
  if e.stage == .accepted then d.closeOne q e .stopped 0
  else if e.stage == .started then d.updEntry q e.seq fun x => { x with mute := true } else d

/-- What a later command becomes: Stopped, without further consequences, or what it was. -/
def Entry.stoppedAs (x y : Entry) : Prop :=
  (x.stage = .accepted → y.stage = .completed ∧ y.status = .stopped ∧ y.result = 0) ∧
    (x.stage = .started → y = { x with mute := true }) ∧ (x.stage ≠ .accepted → x.stage ≠ .started → y = x)

theorem Dev.stopOne_entry {d : Dev} {q : Nat} {x : Entry} (h : d.telling = false) (hx : d.entry q x.seq = some x) :
    (∃ y, (Dev.stopOne q d x).entry q x.seq = some y ∧ x.stoppedAs y) ∧ (∀ m, x.seq ≠ m → (Dev.stopOne q d x).entry q m = d.entry q m) ∧
      (Dev.stopOne q d x).telling = false ∧ ∀ g, (Dev.stopOne q d x).rd g = d.rd g := by
  unfold Dev.stopOne
  by_cases ha : x.stage = .accepted
  · simp only [ha, beq_self_eq_true, if_true]
    refine ⟨⟨d.closesTo x (x.okStatus .stopped) 0 x, ?_, ?_⟩, fun m hm => ?_, Dev.telling_closeOne h q x _ _ _, Dev.rd_closeOne h q x _ _ _⟩
    · rw [Dev.entry_closeOne h, if_pos rfl, hx]
      rfl
    · have hst : x.okStatus .stopped = .stopped := by simp [Entry.okStatus]
      refine ⟨fun _ => ⟨rfl, hst, rfl⟩, fun hs => ?_, fun hna => absurd ha hna⟩
      rw [ha] at hs
      cases hs
    · rw [Dev.entry_closeOne h, if_neg hm]
  · have hna : (x.stage == .accepted) = false := by simpa using ha
    simp only [hna, Bool.false_eq_true, if_false]
    by_cases hs : x.stage = .started
    · simp only [hs, beq_self_eq_true, if_true]
      refine ⟨⟨{ x with mute := true }, ?_, fun hacc => absurd hacc ha, fun _ => rfl, fun _ hns => absurd hs hns⟩, fun m hm => ?_, h, fun _ => rfl⟩
      · rw [Dev.entry_updEntry _ _ _ _ _ fun _ => by rfl, if_pos rfl, hx]
        rfl
      · rw [Dev.entry_updEntry _ _ _ _ _ fun _ => by rfl, if_neg hm]
    · have hns : (x.stage == .started) = false := by simpa using hs
      simp only [hns, Bool.false_eq_true, if_false]
      exact ⟨⟨x, hx, fun hacc => absurd hacc ha, fun hst => absurd hst hs, fun _ _ => rfl⟩, fun _ _ => trivial, h, fun _ => trivial⟩

/-- All later commands. -/
theorem Dev.stopAll_entry {q : Nat} {l : List Entry} (hl : l.Pairwise fun a b => a.seq ≠ b.seq) {d : Dev} (h : d.telling = false)
    (hx : ∀ x ∈ l, d.entry q x.seq = some x) :
    (∀ x ∈ l, ∃ y, (l.foldl (Dev.stopOne q) d).entry q x.seq = some y ∧ x.stoppedAs y) ∧
      (∀ m, (∀ x ∈ l, x.seq ≠ m) → (l.foldl (Dev.stopOne q) d).entry q m = d.entry q m) ∧
      ∀ g, (l.foldl (Dev.stopOne q) d).rd g = d.rd g := by
  induction l generalizing d with
  | nil => exact ⟨fun x hx => absurd hx List.not_mem_nil, fun _ _ => rfl, fun _ => rfl⟩
  | cons a l ih =>
    obtain ⟨hne, hl⟩ := List.pairwise_cons.mp hl
    obtain ⟨⟨y, hy, hstopped⟩, hothers, htold, hrd⟩ := Dev.stopOne_entry h (hx a List.mem_cons_self)
    obtain ⟨hall, hrest, hrds⟩ := ih hl htold fun x hmem => (hothers _ (hne x hmem)).trans (hx x (List.mem_cons_of_mem _ hmem))
    rw [List.foldl_cons]
    refine ⟨List.forall_mem_cons.mpr ⟨⟨y, ?_, hstopped⟩, hall⟩, fun m hm => ?_, fun g => (hrds g).trans (hrd g)⟩
    · exact (hrest _ fun x hmem => (hne x hmem).symm).trans hy
    · obtain ⟨ham, hm⟩ := List.forall_mem_cons.mp hm
      exact (hrest m hm).trans (hothers m ham)

/-! A failure. -/

section
variable {d : Dev} {q : Nat} {st : Status} {before after : List Entry} {e : Entry} (hj : d.journal q = before ++ e :: after)
  (hdistinct : (d.journal q).Pairwise fun a b => a.seq ≠ b.seq)
include hj hdistinct

/-- The numbers of the others differ from that of the one which fails. -/
theorem seq_ne_of_split : (∀ x ∈ before, e.seq ≠ x.seq) ∧ (∀ x ∈ after, e.seq ≠ x.seq) ∧ (after.Pairwise fun a b => a.seq ≠ b.seq) ∧
    ∀ x ∈ before, ∀ y ∈ after, x.seq ≠ y.seq := by
  rw [hj, List.pairwise_append] at hdistinct
  obtain ⟨-, hafter, hcross⟩ := hdistinct
  obtain ⟨hne, hpair⟩ := List.pairwise_cons.mp hafter
  exact ⟨fun x hx => (hcross x hx e List.mem_cons_self).symm, hne, hpair, fun x hx y hy => hcross x hx y (List.mem_cons_of_mem _ hy)⟩

theorem Dev.entry_of_split : d.entry q e.seq = some e ∧ (∀ x ∈ before, d.entry q x.seq = some x) ∧ ∀ x ∈ after, d.entry q x.seq = some x := by
  refine ⟨find?_seq_of_mem hdistinct ?_, fun x hx => find?_seq_of_mem hdistinct ?_, fun x hx => find?_seq_of_mem hdistinct ?_⟩ <;>
    rw [hj] <;> simp [*]

variable (ht : d.telling = false)
include ht

/-- Behind the entry that has closed stand the later ones as they were. -/
theorem Dev.later_closeOne (res : Word) (stops : Bool) :
    (((d.closeOne q e st res stops).journal q).dropWhile fun x => x.seq != e.seq).drop 1 = after := by
  obtain ⟨hbefore, hafter, -, -⟩ := seq_ne_of_split hj hdistinct
  have hkeep : ∀ l : List Entry, (∀ x ∈ l, e.seq ≠ x.seq) →
      l.map (fun x => if x.seq == e.seq then d.closesTo e (e.okStatus st) res x else x) = l := by
    intro l hl
    refine (List.map_congr_left fun x hx => ?_).trans (List.map_id l)
    rw [if_neg (by simpa using (hl x hx).symm)]
    rfl
  have hjournal : (d.closeOne q e st res stops).journal q = before ++ d.closesTo e (e.okStatus st) res e :: after := by
    rw [Dev.closeOne_eq ht, Dev.journal_updEntry, if_pos rfl]
    show (d.journal q).map _ = _
    rw [hj, List.map_append, List.map_cons, hkeep before hbefore, hkeep after hafter]
    simp
  rw [hjournal, List.dropWhile_append_of_pos fun x hx => by simpa using (hbefore x hx).symm,
    List.dropWhile_cons_of_neg (by simp [Dev.closesTo])]
  rfl

variable (hs : e.stage = .started) (hbad : st.bad = true)
include hs

include hbad in
/-- A failure that stops its queue (R66). -/
theorem Dev.close_stops (res : Word) (hstop : d.on (QU_CTL_STOP_ON_ERR q) = true) (hmute : e.mute = false) :
    d.close q e.seq st res = (after.foldl (Dev.stopOne q) (d.closeOne q e st res true)).wr (QU_STAT_ERRSTOP q) 1 := by
  obtain ⟨hentry, -, -⟩ := Dev.entry_of_split hj hdistinct
  have hstops : d.stops q e st = true := by simp [Dev.stops, hbad, hstop, hmute]
  simp only [Dev.close, hentry, hs, hstops, if_true]
  rw [if_neg (by decide), Dev.stopQueue, Dev.later_closeOne hj hdistinct ht]
  rfl

omit ht in
/-- A failure that does not. -/
theorem Dev.close_runs_on (res : Word) (hstop : d.on (QU_CTL_STOP_ON_ERR q) = false ∨ e.mute = true) :
    d.close q e.seq st res = d.closeOne q e st res := by
  obtain ⟨hentry, -, -⟩ := Dev.entry_of_split hj hdistinct
  have hstops : d.stops q e st = false := by rcases hstop with h | h <;> simp [Dev.stops, h]
  simp only [Dev.close, hentry, hs, hstops, Bool.false_eq_true, if_false]
  rw [if_neg (by decide)]

end

@[simp] theorem Dev.entry_wr (d : Dev) (f : Field) (v q n : Nat) : (d.wr f v).entry q n = d.entry q n := rfl

theorem okStatus_of_bad {e : Entry} {st : Status} (h : st.bad = true) : e.okStatus st = st := by
  have hne : st ≠ .ok := by
    rintro rfl
    cases h
  simp [Entry.okStatus, hne]

/-- A command that fails has ended, and earlier ones stand. -/
theorem Dev.failed_ended {d u : Dev} {q : Nat} {st : Status} {e : Entry} {res : Word} {stops : Bool} (ht : d.telling = false)
    (hentry : d.entry q e.seq = some e) (hbad : st.bad = true)
    (hu : u.entry q e.seq = (d.closeOne q e st res stops).entry q e.seq) : u.ended q e.seq st res.toNat := by
  refine ⟨d.closesTo e (e.okStatus st) res e, ?_, rfl, okStatus_of_bad hbad, ?_⟩
  · rw [hu, Dev.entry_closeOne ht, if_pos rfl, hentry]
    rfl
  · rw [BitVec.ofNat_toNat, BitVec.setWidth_eq]
    rfl

/-- What the failure of a command leaves (R66). -/
theorem Dev.close_failed {d : Dev} {q : Nat} {st : Status} {res : Word} {before after : List Entry} {e : Entry} (hj : d.journal q = before ++ e :: after)
    (hdistinct : (d.journal q).Pairwise fun a b => a.seq ≠ b.seq) (hs : e.stage = .started) (hbad : st.bad = true) (ht : d.telling = false) :
    (d.close q e.seq st res).ended q e.seq st res.toNat ∧ (∀ x ∈ before, (d.close q e.seq st res).entry q x.seq = some x) ∧
      (d.on (QU_CTL_STOP_ON_ERR q) = true → e.mute = false →
        (d.close q e.seq st res).on (QU_STAT_ERRSTOP q) = true ∧ (d.close q e.seq st res).accepting q = false ∧
          ∀ x ∈ after, ∃ y, (d.close q e.seq st res).entry q x.seq = some y ∧ x.stoppedAs y) ∧
      (d.on (QU_CTL_STOP_ON_ERR q) = false ∨ e.mute = true →
        (d.close q e.seq st res).rd (QU_STAT_ERRSTOP q) = d.rd (QU_STAT_ERRSTOP q) ∧
          ∀ x ∈ after, (d.close q e.seq st res).entry q x.seq = some x) := by
  obtain ⟨hentry, hbefore, hafter⟩ := Dev.entry_of_split hj hdistinct
  obtain ⟨hnb, hna, hpair, hcross⟩ := seq_ne_of_split hj hdistinct
  by_cases hstop : d.on (QU_CTL_STOP_ON_ERR q) = true ∧ e.mute = false
  · obtain ⟨hon, hmute⟩ := hstop
    have hclose := Dev.close_stops hj hdistinct ht hs hbad res hon hmute
    have hlater : ∀ x ∈ after, (d.closeOne q e st res true).entry q x.seq = some x := fun x hx => by
      rw [Dev.entry_closeOne ht, if_neg (hna x hx)]
      exact hafter x hx
    obtain ⟨hstopped, hothers, -⟩ := Dev.stopAll_entry hpair (Dev.telling_closeOne ht q e st res true) hlater
    have herr : (d.close q e.seq st res).on (QU_STAT_ERRSTOP q) = true := by
      rw [hclose, Dev.on, Dev.rd_wr_same]
      rfl
    refine ⟨?_, fun x hx => ?_, fun _ _ => ⟨herr, by simp [Dev.accepting, herr], fun x hx => ?_⟩, fun h => ?_⟩
    · refine Dev.failed_ended (stops := true) ht hentry hbad ?_
      rw [hclose, Dev.entry_wr]
      exact hothers _ fun x hx => (hna x hx).symm
    · rw [hclose, Dev.entry_wr, hothers _ fun y hy => (hcross x hx y hy).symm, Dev.entry_closeOne ht, if_neg (hnb x hx)]
      exact hbefore x hx
    · rw [hclose, Dev.entry_wr]
      exact hstopped x hx
    · simp [hon, hmute] at h
  · have hruns : d.on (QU_CTL_STOP_ON_ERR q) = false ∨ e.mute = true := by
      cases hon : d.on (QU_CTL_STOP_ON_ERR q) <;> cases hmute : e.mute <;> simp_all
    have hclose := Dev.close_runs_on hj hdistinct hs res hruns (st := st)
    refine ⟨Dev.failed_ended (stops := false) ht hentry hbad (by rw [hclose]), fun x hx => ?_, fun hon hmute => absurd ⟨hon, hmute⟩ hstop,
      fun _ => ⟨?_, fun x hx => ?_⟩⟩
    · rw [hclose, Dev.entry_closeOne ht, if_neg (hnb x hx)]
      exact hbefore x hx
    · rw [hclose, Dev.rd_closeOne ht]
    · rw [hclose, Dev.entry_closeOne ht, if_neg (hna x hx)]
      exact hafter x hx

/-! RESUME. -/

/-- A write of QU_CTL leaves the fields that are none of its own. -/
theorem Dev.rd_ctlWritten_ne (d : Dev) (q : Nat) (w : RegWr) {g : Field} (hj : ∀ p < 64, (QU_STAT_JWAIT p).key ≠ g.key)
    (hf : (QU_HEAD_FETCH q).key ≠ g.key) (hc : ∀ f ∈ ctlFields q, f.key ≠ g.key) (hr : ∀ f ∈ resumeFlags q, f.key ≠ g.key) :
    (d.ctlWritten q w).rd g = d.rd g := by
  rw [Dev.ctlWritten, Dev.rd_settleJwait _ hj, ← Dev.rd_takeCtl_ne d q w hc]
  split
  · exact Dev.rd_resumed _ q hf hr
  · rfl

theorem key_of_mem_ctlFields {q : Nat} {f : Field} (hf : f ∈ ctlFields q ++ resumeFlags q) :
    2048 * q + 2621824 ≤ f.key ∧ f.key < 2048 * q + 2621952 := by
  simp only [ctlFields, resumeFlags, List.cons_append, List.nil_append, List.mem_cons, List.not_mem_nil, or_false] at hf
  rcases hf with rfl | rfl | rfl | rfl | rfl | rfl | rfl | rfl <;> simp

/-- A field of no queue, or of a queue below its control fields, stands at a write of QU_CTL. -/
theorem Dev.rd_ctlWritten_low {d : Dev} {q : Nat} {w : RegWr} {g : Field} (hq : q < 64)
    (hg : g.key = 2048 * q + 2621632 ∨ 2752512 ≤ g.key) : (d.ctlWritten q w).rd g = d.rd g := by
  refine Dev.rd_ctlWritten_ne d q w (fun p hp => ?_) ?_ (fun f hf => ?_) fun f hf => ?_
  · rw [key_QU_STAT_JWAIT]
    omega
  · rw [key_QU_HEAD_FETCH]
    omega
  · have hkey := key_of_mem_ctlFields (List.mem_append_left _ hf)
    omega
  · have hkey := key_of_mem_ctlFields (List.mem_append_right _ hf)
    omega

theorem Dev.telling_ctlWritten {d : Dev} {q : Nat} {w : RegWr} (hq : q < 64) : (d.ctlWritten q w).telling = d.telling := by
  have hstate : (TWIN_STAT_STATE).key = 33554498 := rfl
  have hrole : (TWIN_STAT_ROLE).key = 33554497 := rfl
  have hs : (d.ctlWritten q w).rd TWIN_STAT_STATE = d.rd TWIN_STAT_STATE := Dev.rd_ctlWritten_low hq (.inr (by rw [hstate]; omega))
  have hr : (d.ctlWritten q w).rd TWIN_STAT_ROLE = d.rd TWIN_STAT_ROLE := Dev.rd_ctlWritten_low hq (.inr (by rw [hrole]; omega))
  exact Dev.telling_congr hs hr

/-- A device that tells no twin says nothing of a register write. -/
theorem Dev.tellReg_quiet {d : Dev} (h : d.telling = false) (off : Nat) (w : RegWr) : d.tellReg off w = d := by
  simp only [Dev.tellReg, h, Bool.false_eq_true, if_false]

/-- RESUME takes away words that were fetched, at most. -/
theorem Dev.path_ctlWritten (d : Dev) (q : Nat) (w : RegWr) :
    { (d.ctlWritten q w).queue q with ahead := (d.queue q).ahead } = d.queue q := by
  rw [Dev.queue_ctlWritten]
  split <;> rfl

/-- Settles O13: a failure by the journal on both sides of it, RESUME by the fields that a write of QU_CTL changes. -/
theorem failureStopsQueue : Obligations.FailureStopsQueue := by
  constructor
  · rintro d q seq st res before after e hj hdistinct rfl hs hbad ht t
    exact Dev.close_failed hj hdistinct hs hbad ht
  · intro s q w hown hone ht
    have hexec : exec (.quCtlResume q w) s = s.next ((s.dev.ctlWritten q.val w).tellReg (0x50030 + 0x100 * q.val) w) :=
      congrArg s.next ((Dev.onQueueWrite_ok hown (.quCtlResume q w) _).trans (Dev.queueCtl_eq s.dev q.val w))
    have hquiet := Dev.tellReg_quiet ((Dev.telling_ctlWritten (w := w) q.isLt).trans ht) (0x50030 + 0x100 * q.val) w
    rw [hquiet] at hexec
    refine ⟨_, hexec, ?_, Dev.path_ctlWritten _ _ _, Dev.rd_ctlWritten_low q.isLt (.inl (key_ACCEPT_INDEX_INDEX q.val))⟩
    rw [Dev.rd_ctlWritten_flag _ _ _ List.mem_cons_self, if_pos hone]

end Sys2Proof.Machine
end

section
/-!
Posting (R62 to R67, R569, R570): what a posted command leaves, where its record goes, and a record that cannot be written.
-/
namespace Sys2Proof.Machine

/-! What stands when registers far away change. -/

/-- A row is judged by fields of the store alone. -/
theorem Dev.gateRow_wr {d : Dev} {f : Field} (hf : f.key < 16777280) (v : Nat) (id : Ident) (key r : Nat) :
    (d.wr f v).gateRow id key r = d.gateRow id key r := by
  have howner : ∀ n, (d.wr f v).owner n = d.owner n := fun n =>
    Dev.rd_wr_ne _ _ (by simp only [BANK_OWN_OWNER, Field.key] at hf ⊢; omega)
  have hpower : ∀ n, (d.wr f v).rd (BANK_OWN_PSTATE n) = d.rd (BANK_OWN_PSTATE n) := fun n =>
    Dev.rd_wr_ne _ _ (by simp only [BANK_OWN_PSTATE, Field.key] at hf ⊢; omega)
  have hretired : ∀ k u, (d.wr f v).isRetired k u = d.isRetired k u := fun _ _ => rfl
  have hmanaged : (d.wr f v).managed = d.managed := funext fun n => by rw [Dev.managed, howner, hretired, Dev.managed]
  have hpool : ∀ n, (d.wr f v).isPool n = d.isPool n := fun n => by
    rw [Dev.isPool, Dev.poolBank, hmanaged, Dev.isPool, Dev.poolBank]
  have hbuffer : ∀ r, (d.wr f v).bufferAt r = d.bufferAt r := fun _ => rfl
  have hadmits : (d.wr f v).admits id key r = d.admits id key r := by
    simp only [Dev.admits, howner, hretired, hpool, hbuffer]
  unfold Dev.gateRow
  simp only [hadmits, howner, hpower]

theorem Dev.storeReady_wr {d : Dev} {f : Field} (hf : f.key < 16777280) (v : Nat) (id : Ident) (key a n : Nat) :
    (d.wr f v).storeReady id key a n = d.storeReady id key a n := by
  have hopen : (d.wr f v).storeOpen = d.storeOpen := by
    rw [Dev.storeOpen, Dev.on_wr_ne _ _ (by simp only [STORE_STAT_RESETTING, Field.key] at hf ⊢; omega), Dev.storeOpen]
  simp only [Dev.storeReady, hopen, Dev.gateRow_wr hf]

theorem Dev.portUp_wr {d : Dev} {f : Field} {p : Port} (hf : 2621440 ≤ f.key) (v : Nat) : (d.wr f v).portUp p = d.portUp p := by
  have hp : p.num ≤ 1 := by cases p <;> decide
  rw [Dev.portUp, Dev.on_wr_ne, Dev.on_wr_ne, Dev.on_wr_ne, Dev.portUp] <;>
    simp only [PORT_STAT_LINKUP, PORT_STAT_BME, PORT_STAT_INRESET, Field.key] at hf ⊢ <;> omega

/-! The completion ring. -/

section
variable {d t : Dev} {q : Nat} (hring : t.rd (CQ_RING_BASE q) = d.rd (CQ_RING_BASE q)) (hsize : t.rd (CQ_RING_SIZE q) = d.rd (CQ_RING_SIZE q))
  (htail : t.rd (CQ_TAIL_TAIL q) = d.rd (CQ_TAIL_TAIL q))
include hring hsize htail

/-- Where the next record goes depends on the ring and its tail. -/
theorem Dev.cqSlot_congr : t.cqSlot q = d.cqSlot q ∧ t.cqPhase q = d.cqPhase q := by
  have hcq : t.cqSize q = d.cqSize q := by rw [Dev.cqSize, hsize, Dev.cqSize]
  rw [Dev.cqSlot, Dev.cqPhase, hcq, hring, htail, Dev.cqSlot, Dev.cqPhase]
  exact ⟨rfl, rfl⟩

end

/-- A queue whose completion ring has room (R64). -/
def Dev.cqOpen (d : Dev) (q : Nat) : Dev := d.wr (QU_STAT_CQFULL q) 0

theorem Dev.rd_cqOpen {d : Dev} {q : Nat} {g : Field} (h : (QU_STAT_CQFULL q).key ≠ g.key) : (d.cqOpen q).rd g = d.rd g := Dev.rd_wr_ne _ _ h

theorem Dev.cqSlot_cqOpen (d : Dev) (q : Nat) : (d.cqOpen q).cqSlot q = d.cqSlot q ∧ (d.cqOpen q).cqPhase q = d.cqPhase q :=
  Dev.cqSlot_congr (Dev.rd_cqOpen (by simp only [key_QU_STAT_CQFULL, key_CQ_RING_BASE]; omega))
    (Dev.rd_cqOpen (by simp only [key_QU_STAT_CQFULL, key_CQ_RING_SIZE]; omega))
    (Dev.rd_cqOpen (by simp only [key_QU_STAT_CQFULL, key_CQ_TAIL_TAIL]; omega))

theorem Dev.queuePort_cqOpen (d : Dev) (q : Nat) : (d.cqOpen q).queuePort q = d.queuePort q := by
  rw [Dev.queuePort, Dev.rd_cqOpen (by simp only [key_QU_STAT_CQFULL, key_QU_CTL_OWNER]; omega), Dev.queuePort]

theorem Dev.slotHeld_of_noFrames {d : Dev} (h : d.capo.frames = []) (q slot : Nat) : d.slotHeld q slot = false := by
  rw [Dev.slotHeld, h, List.any_nil]

/-! A command is posted. -/

/-- The head of a journal leaves it (R44, R67). -/
def Dev.headDone (d : Dev) (q : Nat) (e : Entry) : Dev :=
  ((d.setQueue q { d.queue q with journal := (d.queue q).journal.drop 1 }).wr (QU_DONE_SEQ_SEQ q) e.seq).settleJwait

/-- The interrupt that it asks for follows. -/
def Dev.postDone (d : Dev) (q : Nat) (e : Entry) : Dev :=
  if e.flags.irq then (d.headDone q e).msix ((d.headDone q e).queuePort q) ((d.headDone q e).rd (QU_CTL_VEC q)) else d.headDone q e

theorem Dev.telling_headDone {d : Dev} {q : Nat} {e : Entry} (hq : q < 64) (h : d.telling = false) : (d.headDone q e).telling = false := by
  have hdone : ∀ g : Field, (QU_DONE_SEQ_SEQ q).key ≠ g.key → (∀ p < 64, (QU_STAT_JWAIT p).key ≠ g.key) → (d.headDone q e).rd g = d.rd g :=
    fun g hg hj => (Dev.rd_settleJwait _ hj).trans ((Dev.rd_wr_ne _ _ hg).trans (Dev.rd_setQueue _ _ _ _))
  have hseq : (QU_DONE_SEQ_SEQ q).key < 2 ^ 25 := by simp only [QU_DONE_SEQ_SEQ, Field.key]; omega
  have hjwait : ∀ p < 64, (QU_STAT_JWAIT p).key < 2 ^ 25 := fun p hp => by rw [key_QU_STAT_JWAIT]; omega
  exact (Dev.telling_congr (hdone _ (twinState_apart hseq).1 fun p hp => (twinState_apart (hjwait p hp)).1)
    (hdone _ (twinState_apart hseq).2 fun p hp => (twinState_apart (hjwait p hp)).2)).trans h

/-- A device that tells no twin posts a command. -/
theorem Dev.posted_quiet {d : Dev} {q : Nat} (hq : q < 64) (h : d.telling = false) (e : Entry) (slot : Nat) :
    d.posted q e slot = d.postDone q e := by
  have htold : (((d.setQueue q { d.queue q with journal := (d.queue q).journal.drop 1 }).wr (QU_DONE_SEQ_SEQ q) e.seq).settleJwait).telling = false :=
    Dev.telling_headDone hq h
  simp only [Dev.posted, htold, Bool.false_eq_true, if_false]
  rfl

theorem Dev.capo_msix (d : Dev) (p : Port) (vec : Nat) : (d.msix p vec).capo = d.capo := by
  unfold Dev.msix
  extract_lets st masked
  split
  · rfl
  · split <;> rfl

theorem Dev.capo_of_regsOnly {d t : Dev} {fs : List Field} (h : d.regsOnly t fs) : t.capo = d.capo := by
  have hcapo := congrArg Dev.capo h.1
  exact hcapo

theorem Dev.capo_postDone (d : Dev) (q : Nat) (e : Entry) : (d.postDone q e).capo = d.capo := by
  have hhead : (d.headDone q e).capo = d.capo := by
    rw [Dev.headDone, Dev.capo_of_regsOnly (Dev.settleJwait_regsOnly _), Dev.wr_capo, Dev.setQueue_capo]
  unfold Dev.postDone
  split
  · rw [Dev.capo_msix, hhead]
  · exact hhead

theorem Dev.trySwap_quiet {d : Dev} (h : d.capo.swapping = false) : d.trySwap = d := by
  simp only [Dev.trySwap, h, Bool.false_and, Bool.false_eq_true, if_false]

/-! What COMPLETION_POST does. -/

/-- The head of a journal may be posted. -/
structure Dev.postable (d : Dev) (q : Nat) (e : Entry) : Prop where
  head : (d.journal q).head? = some e
  completed : e.stage = .completed
  durable : e.durable = true
  noError : d.on (QU_STAT_CQERR q) = false
  running : d.running = true
  telling : d.telling = false
  noSwap : d.capo.swapping = false
  noFrames : d.capo.frames = []

section
variable {d : Dev} {q : Nat} {e : Entry} (hq : q < 64) (h : d.postable q e)
include h

include hq in
theorem Dev.post_undue (hdue : e.recordDue = false) : d.post q = d.postDone q e := by
  simp only [Dev.post, h.head, h.completed, h.durable, h.noError, h.running, hdue, ne_eq, not_true_eq_false, decide_false, Bool.not_true, Bool.or_self,
    Bool.false_eq_true, if_false, Bool.not_false, if_true]
  exact Dev.posted_quiet hq h.telling e _

theorem Dev.post_full (hdue : e.recordDue = true) (hfull : d.cqFull q = true) : d.post q = d.wr (QU_STAT_CQFULL q) 1 := by
  simp only [Dev.post, h.head, h.completed, h.durable, h.noError, h.running, hdue, hfull, ne_eq, not_true_eq_false, decide_false, Bool.not_true,
    Bool.or_self, Bool.false_eq_true, if_false, if_true, Dev.set_eq]

/-- A record that waits for its port. -/
theorem Dev.post_waits {p : Port} {a : Nat} (hdue : e.recordDue = true) (hfull : d.cqFull q = false) (haddr : addrSpace (d.cqSlot q) = .host p a)
    (hup : d.portUp p = false) : d.post q = d.cqOpen q := by
  have hopen : d.wr (QU_STAT_CQFULL q) 0 = d.cqOpen q := rfl
  have hslot := (Dev.cqSlot_cqOpen d q).1
  have hup' : (d.cqOpen q).portUp p = false := (Dev.portUp_wr (by rw [key_QU_STAT_CQFULL]; omega) 0).trans hup
  simp only [Dev.post, h.head, h.completed, h.durable, h.noError, h.running, hdue, hfull, ne_eq, not_true_eq_false, decide_false, Bool.not_true,
    Bool.or_self, Bool.false_eq_true, if_false, Dev.clr_eq, hopen, hslot, haddr, hup', Bool.not_false, Bool.or_true, if_true]

include hq in
/-- A record that is written. -/
theorem Dev.post_written {t : Dev} (hdue : e.recordDue = true) (hfull : d.cqFull q = false)
    (hup : ∀ p a, addrSpace (d.cqSlot q) = .host p a → d.portUp p = true)
    (hwrite : (d.cqOpen q).writeRecord (.port (d.queuePort q)) (engineCol q) (d.cqSlot q) (wordBytes (completionRecord q e (d.cqPhase q))) =
      (t, some .ok))
    (htail : t.rd (CQ_TAIL_TAIL q) = d.rd (CQ_TAIL_TAIL q)) (htold : (t.wr (CQ_TAIL_TAIL q) (d.rd (CQ_TAIL_TAIL q) + 1)).telling = false) :
    d.post q = (t.wr (CQ_TAIL_TAIL q) (d.rd (CQ_TAIL_TAIL q) + 1)).postDone q e := by
  have hopen : d.wr (QU_STAT_CQFULL q) 0 = d.cqOpen q := rfl
  obtain ⟨hslot, hphase⟩ := Dev.cqSlot_cqOpen d q
  have hframes : (d.cqOpen q).capo.frames = [] := h.noFrames
  simp only [Dev.post, h.head, h.completed, h.durable, h.noError, h.running, hdue, hfull, ne_eq, not_true_eq_false, decide_false, Bool.not_true,
    Bool.or_self, Bool.false_eq_true, if_false, Dev.clr_eq, hopen, hslot, hphase, Dev.queuePort_cqOpen, Dev.slotHeld_of_noFrames hframes, Bool.false_or]
  rw [if_neg ?_]
  · simp only [hwrite, Dev.inc_eq, htail]
    exact Dev.posted_quiet hq htold e _
  · split
    · next p a haddr =>
      have hup' : (d.cqOpen q).portUp p = true := (Dev.portUp_wr (by rw [key_QU_STAT_CQFULL]; omega) 0).trans (hup p a haddr)
      simp only [hup', Bool.not_true, Bool.false_eq_true, not_false_eq_true]
    · exact Bool.false_ne_true

end

/-! Where records go. -/

theorem Dev.writeRecord_host {d : Dev} {id : Ident} {col a : Nat} {data : List Byte} {p : Port} {x : Nat} (haddr : addrSpace a = .host p x)
    (hlinked : d.linked col (portCol p) = true) (hup : d.portUp p = true) :
    d.writeRecord id col a data = (d.emit (.hostWrite p x data), some .ok) := by
  simp only [Dev.writeRecord, haddr, hlinked, hup, Bool.not_true, Bool.false_eq_true, if_false, if_true]

theorem Dev.mirror_quiet {d : Dev} (h : d.telling = false) (a n : Nat) : d.mirror a n = d := by
  simp only [Dev.mirror, h, Bool.false_and, Bool.false_eq_true, if_false]

/-- A stored word leaves the fields but the flip's arm. -/
theorem Dev.rd_putWord_ne {d : Dev} {w : Nat} {data : List Byte} {g : Field} (hg : (STORE_FLIP_CTL_ARM).key ≠ g.key) :
    (d.putWord w data).rd g = d.rd g := by
  unfold Dev.putWord Dev.putRaw
  extract_lets d1
  split
  · exact Dev.rd_wr_ne d _ hg
  · rw [Dev.rd_setWord]
    show Dev.rd (if _ then _ else _) g = _
    split <;> rfl

theorem Dev.telling_putWord (d : Dev) (w : Nat) (data : List Byte) : (d.putWord w data).telling = d.telling := by
  have harm : (STORE_FLIP_CTL_ARM).key < 2 ^ 25 := by
    show 16777546 < _
    omega
  exact Dev.telling_congr (Dev.rd_putWord_ne (twinState_apart harm).1) (Dev.rd_putWord_ne (twinState_apart harm).2)

theorem Dev.writeRecord_store {d : Dev} {id : Ident} {col a x : Nat} {data : List Byte} (haddr : addrSpace a = .store x)
    (hlinked : d.linked col (x / 2 ^ 22) = true) (hready : d.storeReady id 0 x 32 = true) (hgate : d.gateRow id 0 (x / 512) = .serve)
    (ht : d.telling = false) : d.writeRecord id col a data = (d.putWord (x / 32) data, some .ok) := by
  simp only [Dev.writeRecord, haddr, hlinked, hready, hgate, Bool.not_true, Bool.false_eq_true, if_false]
  rw [Dev.mirror_quiet ((Dev.telling_putWord _ _ _).trans ht)]

/-! A record that cannot be written (R570). -/

/-- An Ochre event that names a flag changes it and what counts dropped records. -/
theorem Dev.rd_raise_ochre {d : Dev} {e : Ev} {g : Field} (hcls : e.cls = .ochre) (hbare : e.bare = false) (hflag : e.flag.key ≠ g.key)
    (hg : g.key < 2 ^ 24) : (d.raise e).rd g = d.rd g := by
  have hdrop : (dropField .ochre).key ≠ g.key := by
    show 31457680 ≠ _
    omega
  have hdropped : (ERR_STAT_DROPPED).key ≠ g.key := by
    show 31457549 ≠ _
    omega
  have hset : (d.wrBit e.flag e.bit true).rd g = d.rd g := Dev.rd_wr_ne _ _ hflag
  simp only [Dev.raise, Dev.report, hcls, hbare, reduceCtorEq, if_false, Bool.false_eq_true]
  split
  · exact hset
  · exact (Dev.rd_wr_ne _ _ hdropped).trans ((Dev.rd_wr_ne _ _ hdrop).trans hset)

/-- A port whose device request fails leaves the registers of queues. -/
theorem Dev.rd_deviceFail {d : Dev} {p : Port} {a : Nat} {g : Field} (hlow : 2621440 ≤ g.key) (hg : g.key < 2 ^ 24) :
    (d.deviceFail p a).rd g = d.rd g := by
  have hp : p.num ≤ 1 := by cases p <;> decide
  rw [Dev.deviceFail, Dev.portEvent, Dev.rd_raise_ochre rfl rfl (by simp only [PORT_ERR_DEVERR, Field.key] at hlow ⊢; omega) hg,
    Dev.rd_wr_ne _ _ (by simp only [PORT_EADDR_ADDR, Field.key] at hlow ⊢; omega)]
  exact Dev.rd_wr_ne _ _ (by simp only [PORT_ERR_COUNT, Field.key] at hlow ⊢; omega)

theorem Dev.cqSlot_deviceFail (d : Dev) {q : Nat} (hq : q < 64) (p : Port) (a : Nat) : (d.deviceFail p a).cqSlot q = d.cqSlot q :=
  (Dev.cqSlot_congr (Dev.rd_deviceFail (by rw [key_CQ_RING_BASE]; omega) (by rw [key_CQ_RING_BASE]; omega))
    (Dev.rd_deviceFail (by rw [key_CQ_RING_SIZE]; omega) (by rw [key_CQ_RING_SIZE]; omega))
    (Dev.rd_deviceFail (by rw [key_CQ_TAIL_TAIL]; omega) (by rw [key_CQ_TAIL_TAIL]; omega))).1

theorem Dev.recordWriteFail_eq {d : Dev} {q : Nat} {e : Entry} (hq : q < 64) (h : d.postable q e) (hdue : e.recordDue = true)
    (hfull : d.cqFull q = false) {p : Port} {x : Nat} (haddr : addrSpace (d.cqSlot q) = .host p x) (hup : d.portUp p = true) :
    d.recordWriteFail q = (d.deviceFail p (d.cqSlot q)).raise
      { cls := .ochre, flag := QU_STAT_CQERR q, ukind := 6, uid := q, detail := d.cqSlot q } := by
  simp only [Dev.recordWriteFail, h.head, haddr, h.completed, h.durable, h.noError, hdue, hfull, hup, h.running, ne_eq, not_true_eq_false,
    decide_false, Bool.not_true, Bool.or_self, Bool.false_eq_true, if_false, Dev.recordFails, Dev.cqSlot_deviceFail d hq]

/-! The record is written and the command posted. -/

section
variable {d : Dev} {q : Nat} {e : Entry} (hq : q < 64) (h : d.postable q e) (hdue : e.recordDue = true) (hfull : d.cqFull q = false)
include hq h hdue hfull

/-- A record that is stored or sent leaves the completion ring's fields and the twin's. -/
theorem Dev.post_moved {t : Dev} (hup : ∀ p a, addrSpace (d.cqSlot q) = .host p a → d.portUp p = true)
    (hwrite : (d.cqOpen q).writeRecord (.port (d.queuePort q)) (engineCol q) (d.cqSlot q) (wordBytes (completionRecord q e (d.cqPhase q))) =
      (t, some .ok))
    (hkeep : ∀ g, (STORE_FLIP_CTL_ARM).key ≠ g.key → t.rd g = (d.cqOpen q).rd g) :
    d.post q = (t.wr (CQ_TAIL_TAIL q) (d.rd (CQ_TAIL_TAIL q) + 1)).postDone q e := by
  have harm : (STORE_FLIP_CTL_ARM).key = 16777546 := rfl
  have hrd : ∀ g : Field, (STORE_FLIP_CTL_ARM).key ≠ g.key → (QU_STAT_CQFULL q).key ≠ g.key → t.rd g = d.rd g :=
    fun g hg hf => (hkeep g hg).trans (Dev.rd_cqOpen hf)
  refine Dev.post_written hq h hdue hfull hup hwrite (hrd _ (by rw [harm, key_CQ_TAIL_TAIL]; omega)
    (by rw [key_QU_STAT_CQFULL, key_CQ_TAIL_TAIL]; omega)) ?_
  have hlow : ∀ f ∈ [STORE_FLIP_CTL_ARM, QU_STAT_CQFULL q, CQ_TAIL_TAIL q], f.key < 2 ^ 25 := by
    intro f hf
    simp only [List.mem_cons, List.not_mem_nil, or_false] at hf
    rcases hf with rfl | rfl | rfl
    · rw [harm]
      omega
    · rw [key_QU_STAT_CQFULL]
      omega
    · rw [key_CQ_TAIL_TAIL]
      omega
  simp only [List.forall_mem_cons] at hlow
  obtain ⟨h1, h2, h3, -⟩ := hlow
  exact (Dev.telling_congr ((Dev.rd_wr_ne _ _ (twinState_apart h3).1).trans (hrd _ (twinState_apart h1).1 (twinState_apart h2).1))
    ((Dev.rd_wr_ne _ _ (twinState_apart h3).2).trans (hrd _ (twinState_apart h1).2 (twinState_apart h2).2))).trans h.telling

theorem Dev.post_host {p : Port} {x : Nat} (haddr : addrSpace (d.cqSlot q) = .host p x) (hup : d.portUp p = true)
    (hlinked : d.linked (engineCol q) (portCol p) = true) :
    d.post q = (((d.cqOpen q).emit (.hostWrite p x (wordBytes (completionRecord q e (d.cqPhase q))))).wr (CQ_TAIL_TAIL q)
      (d.rd (CQ_TAIL_TAIL q) + 1)).postDone q e := by
  have hup' : (d.cqOpen q).portUp p = true := (Dev.portUp_wr (by rw [key_QU_STAT_CQFULL]; omega) 0).trans hup
  refine Dev.post_moved hq h hdue hfull (fun r a hr => ?_) (Dev.writeRecord_host haddr hlinked hup') fun _ _ => rfl
  rw [haddr] at hr
  cases hr
  exact hup

theorem Dev.post_store {a : Nat} (haddr : addrSpace (d.cqSlot q) = .store a) (hlinked : d.linked (engineCol q) (a / 2 ^ 22) = true)
    (hready : d.storeReady (.port (d.queuePort q)) 0 a 32 = true) (hgate : d.gateRow (.port (d.queuePort q)) 0 (a / 512) = .serve) :
    d.post q = (((d.cqOpen q).putWord (a / 32) (wordBytes (completionRecord q e (d.cqPhase q)))).wr (CQ_TAIL_TAIL q)
      (d.rd (CQ_TAIL_TAIL q) + 1)).postDone q e := by
  have hkey : (QU_STAT_CQFULL q).key < 16777280 := by
    rw [key_QU_STAT_CQFULL]
    omega
  have htold : (d.cqOpen q).telling = false :=
    (Dev.telling_congr (Dev.rd_cqOpen (twinState_apart (by omega)).1) (Dev.rd_cqOpen (twinState_apart (by omega)).2)).trans h.telling
  refine Dev.post_moved hq h hdue hfull (fun r x hr => ?_) (Dev.writeRecord_store haddr hlinked ((Dev.storeReady_wr hkey 0 _ _ _ _).trans hready)
    ((Dev.gateRow_wr hkey 0 _ _ _).trans hgate) htold) fun g hg => Dev.rd_putWord_ne hg
  rw [haddr] at hr
  cases hr

end

theorem Dev.capo_putWord (d : Dev) (w : Nat) (data : List Byte) : (d.putWord w data).capo = d.capo := by
  unfold Dev.putWord Dev.putRaw
  extract_lets d1
  split
  · rfl
  · rw [Dev.setWord_capo]
    show Dev.capo (if _ then _ else _) = _
    split <;> rfl

/-- Settles O14, by where the record of the head of the journal goes. -/
theorem posting : Obligations.Posting := by
  intro s q e d done moved open_ rec4 col hhead hcompleted hdurable herror hrunning ht hswap hframes
  have h : d.postable q.val e := ⟨hhead, hcompleted, hdurable, herror, hrunning, ht, hswap, hframes⟩
  have hpost {t : Dev} (hp : d.post q.val = t) (hc : t.capo = d.capo) : exec (.completionPost q) s = s.next t := by
    have hquiet : (d.post q.val).trySwap = t := by
      rw [hp]
      exact Dev.trySwap_quiet (by rw [hc]; exact hswap)
    exact congrArg s.next hquiet
  refine ⟨fun hdue => hpost (Dev.post_undue q.isLt h hdue) (Dev.capo_postDone _ _ _), fun hdue hfull => hpost (Dev.post_full h hdue hfull) rfl,
    fun p x hdue hfull haddr => ⟨fun hup hlinked => ?_, fun hup => hpost (Dev.post_waits h hdue hfull haddr hup) rfl, fun hup => ?_⟩,
    fun a hdue hfull haddr hlinked hready hgate => ?_⟩
  · exact hpost (Dev.post_host q.isLt h hdue hfull haddr hup hlinked) (Dev.capo_postDone _ _ _)
  · exact congrArg s.next (Dev.recordWriteFail_eq q.isLt h hdue hfull haddr hup)
  · exact hpost (Dev.post_store q.isLt h hdue hfull haddr hlinked hready hgate) ((Dev.capo_postDone _ _ _).trans (Dev.capo_putWord _ _ _))

end Sys2Proof.Machine
end

section
/-!
The commands on buffers whose work is done at once (R88 to R92, R482): BFREE, BCOPY, BFILL, BKEY and ROWMOVE.
-/
namespace Sys2Proof.Machine

/-! Buffers across a change of one queue. -/

theorem Dev.buffers_queueStep {d t : Dev} {q : Nat} {fs : List Field} (h : d.queueStep t q fs) : t.buffers = d.buffers := by
  rw [Dev.queueStep_eq h]

theorem Dev.buffer_queueStep {d t : Dev} {q : Nat} {fs : List Field} (h : d.queueStep t q fs) (b : Nat) : t.buffer b = d.buffer b :=
  congrArg (KMap.find · b) (Dev.buffers_queueStep h)

theorem Dev.mem_queueStep {d t : Dev} {q : Nat} {fs : List Field} (h : d.queueStep t q fs) : t.mem = d.mem := by
  rw [Dev.queueStep_eq h]

theorem Dev.kernel_queueStep {d t : Dev} {q : Nat} {fs : List Field} (h : d.queueStep t q fs) (k : Nat) : t.kernel k = d.kernel k := by
  rw [Dev.queueStep_eq h]
  rfl

theorem Dev.isBound_queueStep {d t : Dev} {q : Nat} {fs : List Field} (h : d.queueStep t q fs) (b : Nat) : t.isBound b = d.isBound b := by
  rw [Dev.queueStep_eq h]
  rfl

/-- The device with other buffers. -/
def Dev.withBuffers (d : Dev) (m : KMap Buffer) : Dev := { d with buffers := m }

@[simp] theorem Dev.buffers_withBuffers (d : Dev) (m : KMap Buffer) : (d.withBuffers m).buffers = m := rfl

@[simp] theorem Dev.mem_withBuffers (d : Dev) (m : KMap Buffer) : (d.withBuffers m).mem = d.mem := rfl

theorem Dev.updBuffer_eq {d : Dev} {h : Nat} {b : Buffer} (hb : d.buffer h = some b) (f : Buffer → Buffer) :
    d.updBuffer h f = d.withBuffers (KMap.put d.buffers h (f b)) := by
  simp only [Dev.updBuffer, hb]
  rfl

/-- The handles of a command that names one buffer, which is ready. -/
theorem Dev.handlesReady_buffer {d : Dev} {c : Cmd} {h : Nat} {b : Buffer} (hb : d.buffer h = some b) (hr : b.ready = true)
    (hc : c.buffers = [h]) (hk : c.kernels = []) (ht : c.tables = []) : d.handlesReady c := by
  refine ⟨by simp [hk], fun x hx => ?_, by simp [ht]⟩
  rw [hc, List.mem_singleton] at hx
  subst hx
  exact ⟨b, hb, hr⟩

/-! What the work of a command on buffers keeps. -/

/-- The journals, the store and what waits for completions stay. -/
structure Dev.keepsWork (d t : Dev) : Prop where
  queues : t.queues = d.queues
  mem : t.mem = d.mem
  tables : t.tables = d.tables
  stageWait : t.stageWait = d.stageWait
  drains : t.drains = d.drains
  telling : t.telling = d.telling

theorem Dev.keepsWork_refl (d : Dev) : d.keepsWork d := ⟨rfl, rfl, rfl, rfl, rfl, rfl⟩

theorem Dev.keepsWork_trans {d t u : Dev} (h : d.keepsWork t) (k : t.keepsWork u) : d.keepsWork u :=
  ⟨k.queues.trans h.queues, k.mem.trans h.mem, k.tables.trans h.tables, k.stageWait.trans h.stageWait, k.drains.trans h.drains,
    k.telling.trans h.telling⟩

theorem Dev.keepsWork_wr (d : Dev) {f : Field} (hf : f.key ≠ (TWIN_STAT_STATE).key ∧ f.key ≠ (TWIN_STAT_ROLE).key) (v : Nat) :
    d.keepsWork (d.wr f v) :=
  ⟨rfl, rfl, rfl, rfl, rfl, Dev.telling_congr (Dev.rd_wr_ne d v hf.1) (Dev.rd_wr_ne d v hf.2)⟩

theorem Dev.keepsWork_withBuffers (d : Dev) (m : KMap Buffer) : d.keepsWork (d.withBuffers m) := ⟨rfl, rfl, rfl, rfl, rfl, rfl⟩

section
variable {d t : Dev} {q n : Nat} {c : Cmd} {e : Entry} (hk : d.keepsWork t)
include hk

theorem Dev.sole_of_keepsWork (h : d.sole q n e) : t.sole q n e := by
  obtain ⟨hqueues, -, htables, hstage, hdrains, htelling⟩ := hk
  refine ⟨?_, h.seq, h.notDone, h.replay, htelling.trans h.telling, ?_⟩
  · rw [Dev.journal, Dev.queue, hqueues]
    exact h.journal
  · rw [Dev.nothingWaits, htables, hstage, hdrains]
    exact h.quiet

theorem Dev.working_of_keepsWork (h : d.working q n c e) : t.working q n c e :=
  ⟨Dev.sole_of_keepsWork hk h.tosole, h.started, h.fin, h.cmd, h.staged, h.delta, h.wrote⟩

end

/-- A command that ends well whose committed effects keep the work: it has completed, and only its queue differs from what they leave. -/
theorem Dev.settle_committed {d v : Dev} {q n r : Nat} {c : Cmd} {e : Entry} (h : d.working q n c e)
    (hv : (d.fix q n .ok (.ofNat 64 r)).commitOwn q n c e.aux = v) (hk : (d.fix q n .ok (.ofNat 64 r)).keepsWork v) :
    (d.settle q n (some (.ok, .ofNat 64 r))).ended q n .ok r ∧ v.queueStep (d.settle q n (some (.ok, .ofNat 64 r))) q [] := by
  have hsole := Dev.sole_of_keepsWork hk (Dev.fix_working h .ok (.ofNat 64 r)).2
  obtain ⟨hended, hstep, -⟩ := Dev.ended_close_ok hsole r
  rw [Dev.settle_ok h hv (Dev.queueStep_nothingWaits hstep hsole.quiet)]
  exact ⟨hended, hstep⟩

/-- A command without committed effects of its own whose work leaves its journal. -/
theorem Dev.settle_worked {d t : Dev} {q n r : Nat} {c : Cmd} {e : Entry} (h : d.working q n c e) (hk : d.keepsWork t)
    (hown : ∀ v : Dev, v.commitOwn q n c e.aux = v) :
    (t.settle q n (some (.ok, .ofNat 64 r))).ended q n .ok r ∧ t.queueStep (t.settle q n (some (.ok, .ofNat 64 r))) q [] :=
  Dev.settle_ended_ok (Dev.working_of_keepsWork hk h) r hown

/-- A command whose outcome is open has no completion point yet. -/
theorem Dev.settle_open {d : Dev} {q n : Nat} {e : Entry} (h : d.entry q n = some e) (hf : e.fin = none) : d.settle q n none = d := by
  simp only [Dev.settle, Dev.complete, h, hf]

/-! BFREE (R88). -/

/-- The banks that freed rows leave go Off, and no buffer changes. -/
theorem Dev.buffers_freeRowList (d : Dev) (rows : List Nat) : (d.freeRowList rows).buffers = d.buffers := by
  have hrows : ∀ x : Dev, (rows.foldl Dev.poisonRow x).buffers = x.buffers := by
    intro x
    induction rows generalizing x with
    | nil => rfl
    | cons r rows ih => exact ih _
  have hbanks : ∀ (l : List Nat) (x : Dev), (l.foldl Dev.settleBank x).buffers = x.buffers := by
    intro l
    induction l with
    | nil => exact fun _ => rfl
    | cons n l ih =>
      intro x
      have hone : (x.settleBank n).buffers = x.buffers := by
        unfold Dev.settleBank
        split <;> rfl
      exact (ih _).trans hone
  exact (hbanks _ _).trans (hrows d)

theorem Dev.buffer_dropBuffer (d : Dev) (buf : Nat) (b : Buffer) (h : Nat) :
    (d.dropBuffer buf b).buffer h = if buf = h then none else d.buffer h := by
  rw [Dev.dropBuffer, Dev.buffer, Dev.buffers_freeRowList]
  exact KMap.find_del _ _ _

/-- A command begun on a device where no command was in progress is alone. -/
theorem Dev.others_begun {d : Dev} {q : Nat} {c : Cmd} {f : CmdFlags} {env : CmdEnv} (h : d.takesNow q c f) (ho : d.openCmds = []) :
    (d.begun q c f env).others q (d.nextSeq q) = [] := by
  obtain ⟨-, hj, -⟩ := h.ready
  have hworking := Dev.begun_working h (env := env)
  rw [Dev.openCmds_eq] at ho
  rw [Dev.others, Dev.openCmds_eq, Dev.queueStep_passing (Dev.begun_queueStep h) (by rw [ho]; rfl) hj, hworking.journal]
  simp [hworking.started, hworking.seq]

section
variable {d : Dev} {q : QId} {f : CmdFlags} {buf : BitVec 24} {b : Buffer}

theorem Dev.workFree_begun (h : d.ready q.val 1) (ho : d.openCmds = []) (hb : d.buffer buf.toNat = some b) (hbound : d.isBound buf.toNat = false) :
    (d.begun q.val (.bfree buf) f .none).workFree q.val (d.nextSeq q.val) buf.toNat =
      ((d.begun q.val (.bfree buf) f .none).dropBuffer buf.toNat b).over .ok (b.rows.filterMap id).length := by
  have htakes : d.takesNow q.val (.bfree buf) f := Dev.takesNow_of_ready h rfl rfl rfl rfl
  have hstep := Dev.begun_queueStep htakes (env := .none)
  simp only [Dev.workFree, Dev.others_begun htakes ho, List.any_nil, Bool.false_eq_true, if_false, Dev.buffer_queueStep hstep, hb,
    Dev.isBound_queueStep hstep, hbound]

theorem Dev.submit_bfree (h : d.ready q.val 1) (ho : d.openCmds = []) (hb : d.buffer buf.toNat = some b) (hr : b.ready = true)
    (hbound : d.isBound buf.toNat = false) :
    d.submit q.val (.bfree buf) f .none = ((d.begun q.val (.bfree buf) f .none).dropBuffer buf.toNat b).settle q.val (d.nextSeq q.val)
      (some (.ok, .ofNat 64 (b.rows.filterMap id).length)) := by
  have htakes : d.takesNow q.val (.bfree buf) f := Dev.takesNow_of_ready h rfl rfl rfl rfl
  have hwork : (d.begun q.val (.bfree buf) f .none).work q.val (d.begunEntry q.val (.bfree buf) f .none) (.bfree buf) = _ :=
    (congrArg (fun n => (d.begun q.val (.bfree buf) f .none).workFree q.val n buf.toNat) (Dev.begun_working htakes (env := .none)).seq).trans
      (Dev.workFree_begun h ho hb hbound)
  rw [Dev.submit_working htakes rfl (Dev.handlesReady_buffer hb hr rfl rfl rfl) rfl, hwork]
  rfl

end

/-! BCOPY and BFILL (R56, R89, R90). -/

theorem Dev.workCopy_eq {d d2 : Dev} {q n dst src so dof m : Nat} {a b : Buffer} {data : List Byte} (hb : d.buffer dst = some b)
    (ha : d.buffer src = some a) (hsa : so + m ≤ a.size) (hsb : dof + m ≤ b.size) (hrows : b.commit = true → rangeRows dof m ≤ 4096)
    (hka : d.keyOk a.key = true) (hkb : d.keyOk b.key = true) (hra : d.reachesBuf q a so m = true) (hrb : d.reachesBuf q b dof m = true)
    (hona : d.bufferOn a = true) (honb : d.bufferOn b = true) (hread : d.bufRead src so m = (data, .ok, d2)) :
    d.workCopy q n dst src so dof m = d2.cmdWrite q n dst dof b data m := by
  have hover : (b.commit && decide (4096 < rangeRows dof m)) = false := by
    cases hc : b.commit
    · rfl
    · simpa using hrows hc
  simp only [Dev.workCopy, hb, ha, Nat.not_lt.mpr hsa, Nat.not_lt.mpr hsb, hka, hkb, hover, hra, hrb, hona, honb, hread, decide_false,
    Bool.or_self, Bool.not_true, Bool.false_eq_true, if_false, ne_eq, not_true_eq_false]

theorem Dev.workFill_eq {d : Dev} {q n buf ofs m : Nat} {pat : Word} {b : Buffer} (hb : d.buffer buf = some b) (hs : ofs + m ≤ b.size)
    (hrows : b.commit = true → rangeRows ofs m ≤ 4096) (hk : d.keyOk b.key = true) (hr : d.reachesBuf q b ofs m = true)
    (hon : d.bufferOn b = true) :
    d.workFill q n buf ofs m pat = d.cmdWrite q n buf ofs b ((List.replicate (m / 8) (bytesLE 8 pat.toNat)).flatten) m := by
  have hover : (b.commit && decide (4096 < rangeRows ofs m)) = false := by
    cases hc : b.commit
    · rfl
    · simpa using hrows hc
  simp only [Dev.workFill, hb, Nat.not_lt.mpr hs, hk, hover, hr, hon, Bool.not_true, Bool.false_eq_true, if_false]

/-- Bytes of a buffer that is neither committed nor mirrored are stored at once. -/
theorem Dev.cmdWrite_plain {d d3 : Dev} {q n h ofs m : Nat} {b : Buffer} {data : List Byte} (hc : b.commit = false) (hm : b.mirror = false)
    (hw : (d.updEntry q n fun e => { e with wrote := (h, ofs, data.length) :: e.wrote }).bufWrite h ofs data
      (List.replicate data.length true) = (.ok, d3)) : d.cmdWrite q n h ofs b data m = (some (.ok, .ofNat 64 m), d3) := by
  simp only [Dev.cmdWrite, hc, hm, hw, Bool.false_and, Bool.false_eq_true, if_false, if_true]
  rfl

section
variable {d d2 : Dev} {q : QId} {f : CmdFlags} {a b : Buffer}

theorem Dev.submit_bcopy {dst src : BitVec 24} {so dof m : BitVec 32} {data : List Byte} (h : d.ready q.val 3)
    (hin : (Cmd.bcopy dst src so dof m).inRange = true) (hb : d.buffer dst.toNat = some b) (ha : d.buffer src.toNat = some a)
    (hra : a.ready = true) (hrb : b.ready = true)
    (hwork : (d.begun q.val (.bcopy dst src so dof m) f .none).workCopy q.val (d.nextSeq q.val) dst.toNat src.toNat so.toNat dof.toNat m.toNat =
      d2.cmdWrite q.val (d.nextSeq q.val) dst.toNat dof.toNat b data m.toNat) :
    d.submit q.val (.bcopy dst src so dof m) f .none = (d2.cmdWrite q.val (d.nextSeq q.val) dst.toNat dof.toNat b data m.toNat).2.settle
      q.val (d.nextSeq q.val) (d2.cmdWrite q.val (d.nextSeq q.val) dst.toNat dof.toNat b data m.toNat).1 := by
  have htakes : d.takesNow q.val (.bcopy dst src so dof m) f := Dev.takesNow_of_ready h rfl hin rfl rfl
  have hhandles : d.handlesReady (.bcopy dst src so dof m) := by
    refine ⟨fun x hx => absurd hx List.not_mem_nil, fun x hx => ?_, fun x hx => absurd hx List.not_mem_nil⟩
    rcases List.mem_cons.mp hx with rfl | hx
    · exact ⟨b, hb, hrb⟩
    · rw [List.mem_singleton.mp hx]
      exact ⟨a, ha, hra⟩
  rw [Dev.submit_working htakes rfl hhandles rfl, ← hwork, ← (Dev.begun_working htakes (env := .none)).seq]
  rfl

theorem Dev.submit_bfill {buf : BitVec 24} {ofs m : BitVec 32} {pat : Word} {data : List Byte} (h : d.ready q.val 3)
    (hin : (Cmd.bfill buf ofs m pat).inRange = true) (hb : d.buffer buf.toNat = some b) (hr : b.ready = true)
    (hwork : (d.begun q.val (.bfill buf ofs m pat) f .none).workFill q.val (d.nextSeq q.val) buf.toNat ofs.toNat m.toNat pat =
      d2.cmdWrite q.val (d.nextSeq q.val) buf.toNat ofs.toNat b data m.toNat) :
    d.submit q.val (.bfill buf ofs m pat) f .none = (d2.cmdWrite q.val (d.nextSeq q.val) buf.toNat ofs.toNat b data m.toNat).2.settle
      q.val (d.nextSeq q.val) (d2.cmdWrite q.val (d.nextSeq q.val) buf.toNat ofs.toNat b data m.toNat).1 := by
  have htakes : d.takesNow q.val (.bfill buf ofs m pat) f := Dev.takesNow_of_ready h rfl hin rfl rfl
  rw [Dev.submit_working htakes rfl (Dev.handlesReady_buffer hb hr rfl rfl rfl) rfl, ← hwork, ← (Dev.begun_working htakes (env := .none)).seq]
  rfl

end

/-! BKEY (R92, R482). -/

/-- A setting that seals as before, under the key that seals, only names the key. -/
theorem Dev.workKey_same {d : Dev} {buf key : Nat} {se : Bool} {b : Buffer} (hb : d.buffer buf = some b) (hse : se = b.sealed)
    (hkey : se = false ∨ (key ≠ 0 ∧ key = b.key)) (hok : d.keyOk key = true) :
    d.workKey buf key se = (d.withBuffers (KMap.put d.buffers buf { b with key := key })).over .ok := by
  rw [Dev.workKey, hb]
  dsimp only
  rw [Dev.updBuffer_eq hb]
  rcases hkey with rfl | ⟨hne, rfl⟩
  · simp [hok, ← hse]
  · cases se <;> simp [hok, ← hse, hne]

section
variable {d : Dev} {q : QId} {f : CmdFlags} {buf : BitVec 24} {key : BitVec 6} {se : Bool} {b : Buffer}

theorem Dev.submit_bkey (h : d.ready q.val 1) (hb : d.buffer buf.toNat = some b) (hr : b.ready = true) :
    d.submit q.val (.bkey buf key se) f .none =
      ((d.begun q.val (.bkey buf key se) f .none).workKey buf.toNat key.toNat se).2.settle q.val (d.nextSeq q.val)
        ((d.begun q.val (.bkey buf key se) f .none).workKey buf.toNat key.toNat se).1 := by
  have htakes : d.takesNow q.val (.bkey buf key se) f := Dev.takesNow_of_ready h rfl rfl rfl rfl
  rw [Dev.submit_working htakes rfl (Dev.handlesReady_buffer hb hr rfl rfl rfl) rfl]
  rfl

/-- Only the key that the buffer names differs. -/
theorem Dev.submit_bkey_same (h : d.ready q.val 1) (hb : d.buffer buf.toNat = some b) (hr : b.ready = true) (hse : se = b.sealed)
    (hkey : se = false ∨ (key ≠ 0 ∧ key.toNat = b.key)) (hok : (d.begun q.val (.bkey buf key se) f .none).keyOk key.toNat = true) :
    (d.submit q.val (.bkey buf key se) f .none).ended q.val (d.nextSeq q.val) .ok 0 ∧
      (d.submit q.val (.bkey buf key se) f .none).buffers = KMap.put d.buffers buf.toNat { b with key := key.toNat } ∧
      (d.submit q.val (.bkey buf key se) f .none).mem = d.mem := by
  have htakes : d.takesNow q.val (.bkey buf key se) f := Dev.takesNow_of_ready h rfl rfl rfl rfl
  have hbegun := Dev.begun_queueStep htakes (env := .none)
  have hne : se = false ∨ (key.toNat ≠ 0 ∧ key.toNat = b.key) := hkey.imp_right fun hk => ⟨fun h0 => hk.1 (BitVec.eq_of_toNat_eq h0), hk.2⟩
  obtain ⟨hended, hstep⟩ := Dev.settle_worked (r := 0) (Dev.begun_working htakes (env := .none)) (Dev.keepsWork_withBuffers _
    (KMap.put (d.begun q.val (.bkey buf key se) f .none).buffers buf.toNat { b with key := key.toNat })) fun _ => rfl
  rw [Dev.submit_bkey h hb hr, Dev.workKey_same ((Dev.buffer_queueStep hbegun _).trans hb) hse hne hok]
  refine ⟨hended, (Dev.buffers_queueStep hstep).trans ?_, (Dev.mem_queueStep hstep).trans ?_⟩
  · rw [Dev.buffers_withBuffers, Dev.buffers_queueStep hbegun]
  · rw [Dev.mem_withBuffers, Dev.mem_queueStep hbegun]

end

/-! ROWMOVE (R91). -/

/-- A ROWMOVE that may move its rows stands at its first row. -/
theorem Dev.workRows_eq {d : Dev} {q n kern buf port first m tile : Nat} {dir : Bool} {b : Buffer} {k : Kernel} (hb : d.buffer buf = some b)
    (hseal : b.sealed = false) (hk : d.kernel kern = some k) (hrel : k.released = false) (ht : k.rowTile port = some tile)
    (hrows : first + m ≤ b.rows.length) (hkey : d.keyOk b.key = true) (hstage : dir = true → b.commit = true → m ≤ 4096)
    (hgate : d.gate (if tile < 128 then 11 else 12) = true) :
    d.workRows q n [] kern buf port dir first m = (d.note q n [0, 0]).waiting := by
  have hover : (dir && b.commit && decide (4096 < m)) = false := by
    cases hd : dir <;> cases hc : b.commit
    · rfl
    · rfl
    · rfl
    · simpa using hstage hd hc
  simp only [Dev.workRows, List.isEmpty_nil, hb, hk, hseal, hrel, ht, Nat.not_lt.mpr hrows, hkey, hover, hgate, Bool.not_true,
    Bool.false_eq_true, if_false]

section
variable {d : Dev} {q : QId} {f : CmdFlags} {kern : BitVec 16} {buf : BitVec 24} {port : BitVec 4} {dir : Bool} {first m : BitVec 20} {b : Buffer}
  {k : Kernel}

theorem Dev.submit_rowmove (h : d.ready q.val 2) (hin : (Cmd.rowmove kern buf port dir first m).inRange = true)
    (hb : d.buffer buf.toNat = some b) (hr : b.ready = true) (hk : d.kernel kern.toNat = some k) (hkr : k.ready = true)
    (hwork : (d.begun q.val (.rowmove kern buf port dir first m) f .none).workRows q.val (d.nextSeq q.val) [] kern.toNat buf.toNat port.toNat dir
      first.toNat m.toNat = ((d.begun q.val (.rowmove kern buf port dir first m) f .none).note q.val (d.nextSeq q.val) [0, 0]).waiting) :
    d.submit q.val (.rowmove kern buf port dir first m) f .none =
        (d.begun q.val (.rowmove kern buf port dir first m) f .none).note q.val (d.nextSeq q.val) [0, 0] ∧
      d.queueOnly ((d.begun q.val (.rowmove kern buf port dir first m) f .none).note q.val (d.nextSeq q.val) [0, 0]) q.val [] := by
  have htakes : d.takesNow q.val (.rowmove kern buf port dir first m) f := Dev.takesNow_of_ready h rfl hin rfl rfl
  have hworking := Dev.begun_working htakes (env := .none)
  have hhandles : d.handlesReady (.rowmove kern buf port dir first m) := by
    refine ⟨fun x hx => ?_, fun x hx => ?_, fun x hx => absurd hx List.not_mem_nil⟩
    · rw [List.mem_singleton.mp hx]
      exact ⟨k, hk, hkr⟩
    · rw [List.mem_singleton.mp hx]
      exact ⟨b, hb, hr⟩
  have hwork' : (d.begun q.val (.rowmove kern buf port dir first m) f .none).work q.val
      (d.begunEntry q.val (.rowmove kern buf port dir first m) f .none) (.rowmove kern buf port dir first m) = _ :=
    (congrArg (fun n => (d.begun q.val (.rowmove kern buf port dir first m) f .none).workRows q.val n [] kern.toNat buf.toNat port.toNat dir
      first.toNat m.toNat) hworking.seq).trans hwork
  refine ⟨Dev.submit_waits htakes hhandles rfl rfl hwork' (Dev.working_note hworking _), ?_⟩
  refine Dev.queueOnly_of_taken (c := .rowmove kern buf port dir first m) ?_ (by simp)
  rw [List.append_nil]
  exact Dev.queueStep_trans (Dev.begun_queueStep htakes) (Dev.queueStep_mono (Dev.note_queueStep _ _ _ _) fun g hg => absurd hg List.not_mem_nil)

end

end Sys2Proof.Machine
end

section
/-!
BALLOC (R87, R117, R271, R482, R568): the rows that it takes, their banks, and its completion once they are On.
-/
namespace Sys2Proof.Machine

/-! Decisions outside Record mode (R123). -/

theorem key_of_mem_placeLast {f : Field} (hf : f ∈ [PLACE_LAST_KIND, PLACE_LAST_HANDLE, PLACE_LAST_TILE, PLACE_LAST_FRET, PLACE_LAST_REASON]) :
    5243328 ≤ f.key ∧ f.key < 5243392 := by
  simp only [List.mem_cons, List.not_mem_nil, or_false] at hf
  rcases hf with rfl | rfl | rfl | rfl | rfl <;> decide

theorem Dev.rd_lastDecision (d : Dev) (kind reason handle tile fret : Nat) {g : Field} (hg : g.key < 5243328 ∨ 5243392 ≤ g.key) :
    (d.lastDecision kind reason handle tile fret).rd g = d.rd g := by
  have hne : ∀ f ∈ [PLACE_LAST_KIND, PLACE_LAST_HANDLE, PLACE_LAST_TILE, PLACE_LAST_FRET, PLACE_LAST_REASON], f.key ≠ g.key := by
    intro f hf
    have hkey := key_of_mem_placeLast hf
    omega
  simp only [List.forall_mem_cons] at hne
  obtain ⟨hkind, hhandle, htile, hfret, hreason, -⟩ := hne
  rw [Dev.lastDecision, Dev.rd_wr_ne _ _ hreason, Dev.rd_wr_ne _ _ hfret, Dev.rd_wr_ne _ _ htile, Dev.rd_wr_ne _ _ hhandle,
    Dev.rd_wr_ne _ _ hkind]

/-- A decision outside Record mode, on a device that tells no twin, shows as the last one and counts. -/
structure Dev.quietDecision (d t : Dev) : Prop extends d.keepsWork t where
  buffers : t.buffers = d.buffers
  fields : ∀ g : Field, g.key < 5243328 ∨ 5243392 ≤ g.key → t.rd g = d.rd g

theorem Dev.decided_quiet {d : Dev} (hmode : d.rd PLACE_CTL_MODE ≠ 1) (ht : d.telling = false) (kind reason handle w1 w2 tile fret : Nat) :
    d.quietDecision (d.decided kind reason handle w1 w2 tile fret) := by
  have hmode' : ((d.lastDecision kind reason handle tile fret).rd PLACE_CTL_MODE == 1) = false := by
    rw [Dev.rd_lastDecision _ _ _ _ _ _ (.inl (by decide))]
    simpa using hmode
  have htelling : (d.lastDecision kind reason handle tile fret).telling = d.telling :=
    Dev.telling_congr (Dev.rd_lastDecision _ _ _ _ _ _ (.inr (by decide))) (Dev.rd_lastDecision _ _ _ _ _ _ (.inr (by decide)))
  have hdecided : d.decided kind reason handle w1 w2 tile fret = { d.lastDecision kind reason handle tile fret with
      occ := KMap.put d.occ (2 ^ 24 * kind + handle) (d.occOf kind handle + 1) } := by
    have hmode : ∀ m, (({ d.lastDecision kind reason handle tile fret with occ := m } : Dev).rd PLACE_CTL_MODE == 1) = false := fun _ => hmode'
    have htold : ∀ m, ({ d.lastDecision kind reason handle tile fret with occ := m } : Dev).telling = false := fun _ => htelling.trans ht
    simp only [Dev.decided, hmode, htold, Bool.false_and, Bool.false_eq_true, if_false]
  rw [hdecided]
  exact ⟨⟨rfl, rfl, rfl, rfl, rfl, htelling⟩, rfl, fun g hg => Dev.rd_lastDecision d _ _ _ _ _ hg⟩

/-! Banks (R271). -/

theorem mem_banksOf {rows : List Nat} {n : Nat} : n ∈ banksOf rows ↔ ∃ r ∈ rows, r / 512 = n := by
  simp [banksOf]

@[simp] theorem key_BANK_OWN_PSTATE (n : Nat) : (BANK_OWN_PSTATE n).key = 64 * n + 16810000 := by
  simp only [BANK_OWN_PSTATE, Field.key]
  omega

/-- Banks that are not Off are left as they are. -/
theorem Dev.wakeRows_on {d : Dev} {rows : List Nat} (h : ∀ r ∈ rows, d.rd (BANK_OWN_PSTATE (r / 512)) ≠ 0) : d.wakeRows rows = d := by
  have hbanks : ∀ n ∈ banksOf rows, d.rd (BANK_OWN_PSTATE n) ≠ 0 := fun n hn => by
    obtain ⟨r, hr, rfl⟩ := mem_banksOf.mp hn
    exact h r hr
  have hfold : ∀ l : List Nat, (∀ n ∈ l, d.rd (BANK_OWN_PSTATE n) ≠ 0) → l.foldl Dev.wakeBank d = d := by
    intro l hl
    induction l with
    | nil => rfl
    | cons n l ih =>
      obtain ⟨hn, hl⟩ := List.forall_mem_cons.mp hl
      have hone : d.wakeBank n = d := by simp [Dev.wakeBank, hn]
      rw [List.foldl_cons, hone]
      exact ih hl
  exact hfold _ hbanks

/-- A bank that is to wake and does not answer yet. -/
theorem Dev.wakeBank_waking {d : Dev} {n m : Nat} (h : 2 ≤ d.rd (BANK_OWN_PSTATE n) ∨ (d.rd (BANK_OWN_PSTATE n) = 0 ∧ n = m)) :
    2 ≤ (d.wakeBank m).rd (BANK_OWN_PSTATE n) := by
  unfold Dev.wakeBank
  split
  case isTrue hoff =>
    by_cases hnm : m = n
    · subst hnm
      rw [Dev.rd_wr_same]
      show 2 ≤ 3 % 2 ^ 2
      decide
    · rcases h with h | ⟨-, h⟩
      · rwa [Dev.rd_wr_ne _ _ (by simp only [key_BANK_OWN_PSTATE]; omega)]
      · exact absurd h.symm hnm
  case isFalse hoff =>
    rcases h with h | ⟨h, rfl⟩
    · exact h
    · rw [h] at hoff
      exact absurd rfl hoff

theorem Dev.wakeRows_waking {d : Dev} {rows : List Nat} {r : Nat} (hr : r ∈ rows) (h : d.rd (BANK_OWN_PSTATE (r / 512)) ≠ 1) :
    2 ≤ (d.wakeRows rows).rd (BANK_OWN_PSTATE (r / 512)) := by
  have hfold : ∀ (l : List Nat) (x : Dev), 2 ≤ x.rd (BANK_OWN_PSTATE (r / 512)) ∨ (x.rd (BANK_OWN_PSTATE (r / 512)) = 0 ∧ r / 512 ∈ l) →
      2 ≤ (l.foldl Dev.wakeBank x).rd (BANK_OWN_PSTATE (r / 512)) := by
    intro l
    induction l with
    | nil => exact fun x hx => hx.resolve_right fun hx => absurd hx.2 List.not_mem_nil
    | cons n l ih =>
      intro x hx
      refine ih _ ?_
      rcases hx with hx | ⟨hx, hmem⟩
      · exact .inl (Dev.wakeBank_waking (.inl hx))
      · by_cases hn : r / 512 = n
        · exact .inl (Dev.wakeBank_waking (.inr ⟨hx, hn⟩))
        · refine .inr ⟨?_, (List.mem_cons.mp hmem).resolve_left hn⟩
          unfold Dev.wakeBank
          split
          · rwa [Dev.rd_wr_ne _ _ (by simp only [key_BANK_OWN_PSTATE]; omega)]
          · exact hx
  refine hfold _ d ?_
  rcases Nat.lt_or_ge (d.rd (BANK_OWN_PSTATE (r / 512))) 2 with hlt | hge
  · exact .inr ⟨by omega, mem_banksOf.mpr ⟨r, hr, rfl⟩⟩
  · exact .inl hge

theorem Dev.buffers_wakeRows (d : Dev) (rows : List Nat) : (d.wakeRows rows).buffers = d.buffers ∧ (d.wakeRows rows).queues = d.queues := by
  have hfold : ∀ (l : List Nat) (x : Dev), (l.foldl Dev.wakeBank x).buffers = x.buffers ∧ (l.foldl Dev.wakeBank x).queues = x.queues := by
    intro l
    induction l with
    | nil => exact fun _ => ⟨rfl, rfl⟩
    | cons n l ih =>
      intro x
      have hone : (x.wakeBank n).buffers = x.buffers ∧ (x.wakeBank n).queues = x.queues := by
        unfold Dev.wakeBank
        split <;> exact ⟨rfl, rfl⟩
      exact ⟨(ih _).1.trans hone.1, (ih _).2.trans hone.2⟩
  exact hfold _ d

/-- A buffer answers when the banks of its rows do. -/
theorem Dev.bufferOn_true {d : Dev} {b : Buffer} (hopen : d.storeOpen = true) (h : ∀ r ∈ b.rows.filterMap id, d.rd (BANK_OWN_PSTATE (r / 512)) < 2) :
    d.bufferOn b = true := by
  simp only [Dev.bufferOn, hopen, Bool.true_and, List.all_eq_true, decide_eq_true_eq]
  intro n hn
  obtain ⟨r, hr, rfl⟩ := mem_banksOf.mp hn
  exact h r hr

theorem Dev.bufferOn_false {d : Dev} {b : Buffer} {r : Nat} (hr : r ∈ b.rows.filterMap id) (h : 2 ≤ d.rd (BANK_OWN_PSTATE (r / 512))) :
    d.bufferOn b = false := by
  have hall : ((banksOf (b.rows.filterMap id)).all fun n => d.rd (BANK_OWN_PSTATE n) < 2) = false := by
    rw [List.all_eq_false]
    exact ⟨r / 512, mem_banksOf.mpr ⟨r, hr, rfl⟩, by simpa using Nat.not_lt.mpr h⟩
  rw [Dev.bufferOn, hall, Bool.and_false]

theorem filterMap_id_some (rows : List Nat) : (rows.map some).filterMap id = rows := by
  simp [List.filterMap_map]

/-! The rows that BALLOC takes. -/

/-- The buffer that takes its rows. -/
def Buffer.withRows (b : Buffer) (mask : Nat) (rows : List Nat) : Buffer := { b with mask := mask, rows := rows.map some }

/-- The device with the rows decided and the buffer's map in place, before its banks wake. -/
def Dev.mapped (d : Dev) (buf : Nat) (b : Buffer) (mask : Nat) (rows : List Nat) : Dev :=
  let t := d.decided 2 0 buf mask (rowsWord rows) 0 0
  t.withBuffers (KMap.put t.buffers buf (b.withRows mask rows))

theorem Dev.takeRows_eq (d : Dev) (q n buf : Nat) (b : Buffer) (mask : Nat) (rows : List Nat) :
    d.takeRows q n buf b mask rows = ((d.mapped buf b mask rows).wakeRows rows).note q n [1] := rfl

theorem Dev.buffer_takeRows (d : Dev) (q n buf : Nat) (b : Buffer) (mask : Nat) (rows : List Nat) :
    (d.takeRows q n buf b mask rows).buffer buf = some (b.withRows mask rows) := by
  have hbuffers : (d.takeRows q n buf b mask rows).buffers = ((d.mapped buf b mask rows).wakeRows rows).buffers := rfl
  rw [Dev.buffer, hbuffers, (Dev.buffers_wakeRows _ _).1]
  exact (KMap.find_put _ _ _ _).trans (if_pos rfl)

theorem Dev.mapped_quiet {d : Dev} (hmode : d.rd PLACE_CTL_MODE ≠ 1) (ht : d.telling = false) (buf : Nat) (b : Buffer) (mask : Nat) (rows : List Nat) :
    d.keepsWork (d.mapped buf b mask rows) ∧ (d.mapped buf b mask rows).buffers = KMap.put d.buffers buf (b.withRows mask rows) ∧
      ∀ g : Field, g.key < 5243328 ∨ 5243392 ≤ g.key → (d.mapped buf b mask rows).rd g = d.rd g := by
  have hquiet := Dev.decided_quiet hmode ht 2 0 buf mask (rowsWord rows) 0 0
  refine ⟨Dev.keepsWork_trans hquiet.tokeepsWork (Dev.keepsWork_withBuffers _ _), ?_, hquiet.fields⟩
  rw [← hquiet.buffers]
  rfl

/-! Completion (R71, R482). -/

@[simp] theorem key_SEC_GEN_NEXT (k : Nat) : (SEC_GEN_NEXT k).key = 64 * k + 32507904 := by
  simp only [SEC_GEN_NEXT, Field.key]
  omega

@[simp] theorem key_SEC_GEN_SPENT (k : Nat) : (SEC_GEN_SPENT k).key = 64 * k + 32507936 := by
  simp only [SEC_GEN_SPENT, Field.key]
  omega

theorem Dev.keepsWork_takeGeneration (d : Dev) {k : Nat} (hk : k < 64) :
    d.keepsWork (d.takeGeneration k) ∧ (d.takeGeneration k).buffers = d.buffers := by
  have hnext : (SEC_GEN_NEXT k).key < 2 ^ 25 := by
    rw [key_SEC_GEN_NEXT]
    omega
  have hspent : (SEC_GEN_SPENT k).key < 2 ^ 25 := by
    rw [key_SEC_GEN_SPENT]
    omega
  unfold Dev.takeGeneration
  extract_lets n d1
  have hd1 : d.keepsWork d1 ∧ d1.buffers = d.buffers := by
    show d.keepsWork (if n = 2 ^ 32 - 1 then d.set (SEC_GEN_SPENT k) else d) ∧
      (if n = 2 ^ 32 - 1 then d.set (SEC_GEN_SPENT k) else d).buffers = d.buffers
    split
    · exact ⟨Dev.keepsWork_wr d (twinState_apart hspent) _, rfl⟩
    · exact ⟨Dev.keepsWork_refl d, rfl⟩
  have hwr := Dev.keepsWork_wr d1 (twinState_apart hnext) n
  obtain ⟨hqueues, hmem, htables, hstage, hdrains, htelling⟩ := Dev.keepsWork_trans hd1.1 hwr
  exact ⟨⟨hqueues, hmem, htables, hstage, hdrains, htelling⟩, hd1.2⟩

/-- The buffer is ready, and a sealed one takes its generation. -/
theorem Dev.commitAlloc_of {d : Dev} {buf : Nat} {b : Buffer} (hb : d.buffer buf = some b) (hk : b.key < 64) :
    d.keepsWork (d.commitAlloc buf) ∧ (d.commitAlloc buf).buffers = KMap.put d.buffers buf { b with
      ready := true, gen := if b.sealed then d.rd (SEC_GEN_NEXT b.key) else 0 } := by
  obtain ⟨hkeeps, hbuffers⟩ := Dev.keepsWork_takeGeneration d hk
  have hb' : (d.takeGeneration b.key).buffer buf = some b := (congrArg (KMap.find · buf) hbuffers).trans hb
  by_cases hs : b.sealed = true
  case neg =>
    simp only [Dev.commitAlloc, hb, if_neg hs]
    rw [Dev.updBuffer_eq hb]
    exact ⟨Dev.keepsWork_withBuffers _ _, rfl⟩
  case pos =>
    simp only [Dev.commitAlloc, hb, if_pos hs]
    rw [Dev.updBuffer_eq hb', hbuffers]
    exact ⟨Dev.keepsWork_trans hkeeps (Dev.keepsWork_withBuffers _ _), rfl⟩

theorem Dev.finishAlloc_on {d : Dev} {buf : Nat} {b : Buffer} (hb : d.buffer buf = some b) (hon : d.bufferOn b = true)
    (hgen : b.sealed = true → (d.generation b.key).isSome = true) :
    d.finishAlloc buf = d.over .ok ((b.rows.filterMap id).length + 2 ^ 20 * (banksOf (b.rows.filterMap id)).length) := by
  have hnone : (b.sealed && (d.generation b.key).isNone) = false := by
    cases hs : b.sealed
    · rfl
    · simpa using hgen hs
  simp only [Dev.finishAlloc, hb, hon, hnone, Bool.not_true, Bool.false_eq_true, if_false]

theorem Dev.finishAlloc_off {d : Dev} {buf : Nat} {b : Buffer} (hb : d.buffer buf = some b) (hoff : d.bufferOn b = false) :
    d.finishAlloc buf = d.waiting := by
  simp only [Dev.finishAlloc, hb, hoff, Bool.not_false, if_true]

/-! BALLOC on a queue that takes it at once. -/

/-- The buffer that BALLOC asks for. -/
def newBuffer (co mi se : Bool) (key size : Nat) : Buffer := ⟨false, co, mi, se, key, 512 * ((size + 511) / 512), 0, [], false, 0⟩

/-- BALLOC that may begin takes its rows and goes on to its completion. -/
theorem Dev.workAlloc_taken {d : Dev} {q n buf key size mask : Nat} {co mi se : Bool} {rows : List Nat} (hkey : d.keyOk key = true)
    (hroot : d.rootLost = false) (hseal : se = true → key ≠ 0 ∧ (d.generation key).isSome = true) (hmode : d.rd PLACE_CTL_MODE = 0)
    (hplace : d.placeBuffer ((size + 511) / 512) = some (mask, rows)) :
    d.workAlloc q n [] buf co mi se key size = (d.takeRows q n buf (newBuffer co mi se key size) mask rows).finishAlloc buf := by
  have hzero : (se && key == 0) = false := by
    cases hs : se
    · rfl
    · simpa using (hseal hs).1
  have hnone : (se && (d.generation key).isNone) = false := by
    cases hs : se
    · rfl
    · simpa using (hseal hs).2
  have hask : d.replayAsk 2 0 buf = .free := by simp [Dev.replayAsk, hmode]
  have hbegin : d.beginAlloc q n buf co mi se key size = (d.takeRows q n buf (newBuffer co mi se key size) mask rows).waiting := by
    simp only [Dev.beginAlloc, hzero, hkey, hnone, hroot, hask, hplace, Bool.not_true, Bool.false_eq_true, if_false]
    rfl
  have hsome : ((d.takeRows q n buf (newBuffer co mi se key size) mask rows).buffer buf).isSome = true := by
    rw [Dev.buffer_takeRows]
    rfl
  have haux : (([] : List Nat) == [1]) = false := rfl
  rw [Dev.workAlloc, haux, if_neg Bool.false_ne_true, hbegin]
  exact if_pos hsome

section
variable {d : Dev} {q : Nat} {c : Cmd} {f : CmdFlags} {env : CmdEnv} (h : d.takesNow q c f)
include h

/-- No command was in progress, and the words taken start none. -/
theorem Dev.others_takeWords (ho : d.openCmds = []) : ((d.goesOn q).takeWords q (encodeCmd c f)).others q (d.nextSeq q) = [] := by
  obtain ⟨-, hj, -⟩ := h.ready
  have hone : ((d.goesOn q).takeWords q (encodeCmd c f)).journal q = [(d.goesOn q).takenEntry q (encodeCmd c f) none] := by
    have hj' : (d.goesOn q).journal q = [] := hj
    rw [Dev.takeWords_takesNow h, Dev.journal_taken, hj']
    rfl
  rw [Dev.openCmds_eq] at ho
  rw [Dev.others, Dev.openCmds_eq, Dev.queueStep_passing (Dev.takeWords_queueStep h) (by rw [ho]; rfl) hj, hone]
  simp [Dev.takenEntry, Dev.newEntry]

/-- A command that allocates a buffer that is not there begins, and works. -/
theorem Dev.submit_allocating (hlacks : lacksImage c env = false) (ha : allocates c = true)
    (hok : ((d.goesOn q).takeWords q (encodeCmd c f)).handles q (d.nextSeq q) c = .ok) :
    d.submit q c f env = (((d.begun q c f env).work q (d.begunEntry q c f env) c).2).settle q (d.nextSeq q)
      ((d.begun q c f env).work q (d.begunEntry q c f env) c).1 := by
  obtain ⟨hdecode, hne, hseq⟩ := encodeCmd_spells h.inRange h.plain f
  have hworking := Dev.begun_working h (env := env)
  have hok' : ((d.wr (QU_STAT_JWAIT q) 0).takeWords q (encodeCmd c f)).handles q (d.nextSeq q) c = .ok := hok
  rw [Dev.submit_ready h.lt h.ready h.inRange hdecode hne (hseq.trans h.notSeq) hlacks, hok', if_neg (by decide),
    Dev.runCmd_work (Dev.entry_sole hworking.tosole) hworking.started hworking.fin hworking.cmd (.inl ha)]

end

section
variable {d : Dev} {q : QId} {f : CmdFlags} {buf : BitVec 24} {co mi se : Bool} {key : BitVec 6} {size : BitVec 29} {mask : Nat} {rows : List Nat}

/-- BALLOC of a handle that is not allocated. -/
theorem Dev.handles_balloc_free {t : Dev} {q n : Nat} (hfree : t.buffer buf.toNat = none) (ho : t.others q n = []) :
    t.handles q n (.balloc buf co mi se key size) = .ok := by
  simp only [Dev.handles, Dev.bufferState, hfree, ho, List.any_nil, Bool.false_eq_true, if_false, if_true]

theorem Dev.handles_balloc (h : d.takesNow q.val (.balloc buf co mi se key size) f) (ho : d.openCmds = []) (hfree : d.buffer buf.toNat = none) :
    ((d.goesOn q.val).takeWords q.val (encodeCmd (.balloc buf co mi se key size) f)).handles q.val (d.nextSeq q.val)
      (.balloc buf co mi se key size) = .ok :=
  Dev.handles_balloc_free ((Dev.buffer_queueStep (Dev.takeWords_queueStep h) _).trans hfree) (Dev.others_takeWords h ho)

/-- BALLOC on a device with no command in progress takes its rows and goes on to its completion. -/
theorem Dev.submit_balloc (h : d.ready q.val 2) (ho : d.openCmds = []) (hin : (Cmd.balloc buf co mi se key size).inRange = true)
    (hfree : d.buffer buf.toNat = none)
    (hwork : (d.begun q.val (.balloc buf co mi se key size) f .none).workAlloc q.val (d.nextSeq q.val) [] buf.toNat co mi se key.toNat size.toNat =
      ((d.begun q.val (.balloc buf co mi se key size) f .none).takeRows q.val (d.nextSeq q.val) buf.toNat
        (newBuffer co mi se key.toNat size.toNat) mask rows).finishAlloc buf.toNat) :
    d.submit q.val (.balloc buf co mi se key size) f .none =
      (((d.begun q.val (.balloc buf co mi se key size) f .none).takeRows q.val (d.nextSeq q.val) buf.toNat
        (newBuffer co mi se key.toNat size.toNat) mask rows).finishAlloc buf.toNat).2.settle q.val (d.nextSeq q.val)
      (((d.begun q.val (.balloc buf co mi se key size) f .none).takeRows q.val (d.nextSeq q.val) buf.toNat
        (newBuffer co mi se key.toNat size.toNat) mask rows).finishAlloc buf.toNat).1 := by
  have htakes : d.takesNow q.val (.balloc buf co mi se key size) f := Dev.takesNow_of_ready h rfl hin rfl rfl
  rw [Dev.submit_allocating htakes rfl rfl (Dev.handles_balloc htakes ho hfree), ← hwork, ← (Dev.begun_working htakes (env := .none)).seq]
  rfl

end

/-! Its banks answer, or they wake. -/

section
variable {d : Dev} {q n buf mask : Nat} {c : Cmd} {e : Entry} {rows : List Nat} (h : d.working q n c e)
  (hmode : d.rd PLACE_CTL_MODE = 0)
include h hmode

/-- Rows in banks that answer: nothing wakes. -/
theorem Dev.takeRows_on {b : Buffer} (hon : ∀ r ∈ rows, d.rd (BANK_OWN_PSTATE (r / 512)) = 1) :
    d.takeRows q n buf b mask rows = (d.mapped buf b mask rows).note q n [1] ∧
      ((d.mapped buf b mask rows).note q n [1]).working q n c { e with aux := [1] } := by
  obtain ⟨hkeeps, -, hfields⟩ := Dev.mapped_quiet (by rw [hmode]; decide) h.telling buf b mask rows
  refine ⟨?_, Dev.working_note (Dev.working_of_keepsWork hkeeps h) _⟩
  rw [Dev.takeRows_eq, Dev.wakeRows_on fun r hr => ?_]
  rw [hfields _ (.inr (by rw [key_BANK_OWN_PSTATE]; omega)), hon r hr]
  decide

/-- They answer, and the allocation takes effect. -/
theorem Dev.settle_takeRows_on {b : Buffer} (hcmd : ∀ (v : Dev) (aux : List Nat), v.commitOwn q n c aux = v.commitAlloc buf) (hkey : b.key < 64)
    (hopen : d.storeOpen = true) (hgen : b.sealed = true → (d.generation b.key).isSome = true)
    (hon : ∀ r ∈ rows, d.rd (BANK_OWN_PSTATE (r / 512)) = 1) :
    ∃ t, ((d.takeRows q n buf b mask rows).finishAlloc buf).2.settle q n ((d.takeRows q n buf b mask rows).finishAlloc buf).1 = t ∧
      t.ended q n .ok (rows.length + 2 ^ 20 * (banksOf rows).length) ∧
      t.buffers = KMap.put d.buffers buf { b.withRows mask rows with
        ready := true, gen := if b.sealed then d.rd (SEC_GEN_NEXT b.key) else 0 } ∧ t.mem = d.mem := by
  obtain ⟨hkeeps, hbuffers, hfields⟩ := Dev.mapped_quiet (by rw [hmode]; decide) h.telling buf b mask rows
  obtain ⟨htake, hworking⟩ := Dev.takeRows_on (buf := buf) (mask := mask) (b := b) h hmode hon
  have hbuf := Dev.buffer_takeRows d q n buf b mask rows
  have hnote := Dev.note_queueStep (d.mapped buf b mask rows) q n [1]
  rw [htake] at hbuf ⊢
  generalize ((d.mapped buf b mask rows).note q n [1]) = m at *
  have hrows : (b.withRows mask rows).rows.filterMap id = rows := filterMap_id_some rows
  have hrd : ∀ g : Field, g.key < 5243328 ∨ 5243392 ≤ g.key → m.rd g = d.rd g := fun g hg =>
    (hnote.fields g fun f hf => absurd hf List.not_mem_nil).trans (hfields g hg)
  have hnext : m.rd (SEC_GEN_NEXT (b.withRows mask rows).key) = d.rd (SEC_GEN_NEXT b.key) := hrd _ (.inr (by rw [key_SEC_GEN_NEXT]; omega))
  have hopen' : m.storeOpen = true := by
    rw [Dev.storeOpen, Dev.on, hrd _ (.inr (by decide))]
    exact hopen
  have honBuf := Dev.bufferOn_true (b := b.withRows mask rows) hopen' fun r hr => by
    rw [hrd _ (.inr (by rw [key_BANK_OWN_PSTATE]; omega)), hon r (hrows ▸ hr)]
    decide
  have hfinish := Dev.finishAlloc_on hbuf honBuf fun hs => by
    rw [Dev.generation, hnext]
    exact hgen hs
  rw [hrows] at hfinish
  rw [hfinish]
  have hfixed := (Dev.fix_working hworking .ok (.ofNat 64 (rows.length + 2 ^ 20 * (banksOf rows).length))).1
  obtain ⟨hcommit, hput⟩ := Dev.commitAlloc_of ((Dev.buffer_queueStep hfixed buf).trans hbuf) hkey
  obtain ⟨hended, hstep⟩ := Dev.settle_committed hworking (hcmd _ _) hcommit
  refine ⟨_, rfl, hended, (Dev.buffers_queueStep hstep).trans (hput.trans ?_), (Dev.mem_queueStep hstep).trans ?_⟩
  · rw [hfixed.fields _ fun g hg => absurd hg List.not_mem_nil, hnext, Dev.buffers_queueStep hfixed, Dev.buffers_queueStep hnote, hbuffers,
      KMap.put_put]
    rfl
  · rw [hcommit.mem, Dev.mem_queueStep hfixed, Dev.mem_queueStep hnote]
    exact hkeeps.mem

omit hmode in
/-- A bank of them does not answer: the command waits. -/
theorem Dev.settle_takeRows_off {b : Buffer} (hmode : d.rd PLACE_CTL_MODE ≠ 1) (hoff : ∃ r ∈ rows, d.rd (BANK_OWN_PSTATE (r / 512)) ≠ 1) :
    ((d.takeRows q n buf b mask rows).finishAlloc buf).2.settle q n ((d.takeRows q n buf b mask rows).finishAlloc buf).1 =
      d.takeRows q n buf b mask rows := by
  obtain ⟨r, hr, hstate⟩ := hoff
  obtain ⟨hkeeps, -, hfields⟩ := Dev.mapped_quiet hmode h.telling buf b mask rows
  have hmem : r ∈ (b.withRows mask rows).rows.filterMap id := (filterMap_id_some rows).symm ▸ hr
  have hwaking : 2 ≤ (d.takeRows q n buf b mask rows).rd (BANK_OWN_PSTATE (r / 512)) := by
    refine Dev.wakeRows_waking (d := d.mapped buf b mask rows) hr ?_
    rwa [hfields _ (.inr (by rw [key_BANK_OWN_PSTATE]; omega))]
  rw [Dev.finishAlloc_off (Dev.buffer_takeRows d q n buf b mask rows) (Dev.bufferOn_false hmem hwaking)]
  have hjournal : ((d.mapped buf b mask rows).wakeRows rows).journal q = [e] := by
    rw [Dev.journal, Dev.queue, (Dev.buffers_wakeRows _ _).2, hkeeps.queues]
    exact h.journal
  have hnoted : (d.takeRows q n buf b mask rows).journal q = [{ e with aux := [1] }] := by
    rw [Dev.takeRows_eq, Dev.note, Dev.journal_updEntry, if_pos rfl, hjournal, List.map_singleton, if_pos (beq_iff_eq.mpr h.seq)]
  refine Dev.settle_open (e := { e with aux := [1] }) ?_ h.fin
  rw [← h.seq]
  exact Dev.entry_single (e := { e with aux := [1] }) (h.seq ▸ hnoted)

end

/-! The two outcomes. -/

section
variable {d : Dev} {q : QId} {f : CmdFlags} {buf : BitVec 24} {co mi se : Bool} {key : BitVec 6} {size : BitVec 29} {mask : Nat} {rows : List Nat}

/-- A begun BALLOC. -/
def Dev.begunAlloc (d : Dev) (q : QId) (f : CmdFlags) (buf : BitVec 24) (co mi se : Bool) (key : BitVec 6) (size : BitVec 29) : Dev :=
  d.begun q.val (.balloc buf co mi se key size) f .none

variable (h : d.ready q.val 2) (ho : d.openCmds = []) (hin : (Cmd.balloc buf co mi se key size).inRange = true)
  (hfree : d.buffer buf.toNat = none) (hkey : (d.begunAlloc q f buf co mi se key size).keyOk key.toNat = true) (hroot : d.rootLost = false)
  (hseal : se = true → key ≠ 0 ∧ ((d.begunAlloc q f buf co mi se key size).generation key.toNat).isSome = true)
  (hmode : (d.begunAlloc q f buf co mi se key size).rd PLACE_CTL_MODE = 0)
  (hplace : (d.begunAlloc q f buf co mi se key size).placeBuffer ((size.toNat + 511) / 512) = some (mask, rows))
include h ho hin hfree hkey hroot hseal hmode hplace

theorem Dev.submit_balloc_taken :
    d.submit q.val (.balloc buf co mi se key size) f .none =
      (((d.begunAlloc q f buf co mi se key size).takeRows q.val (d.nextSeq q.val) buf.toNat (newBuffer co mi se key.toNat size.toNat)
        mask rows).finishAlloc buf.toNat).2.settle q.val (d.nextSeq q.val)
      (((d.begunAlloc q f buf co mi se key size).takeRows q.val (d.nextSeq q.val) buf.toNat (newBuffer co mi se key.toNat size.toNat)
        mask rows).finishAlloc buf.toNat).1 := by
  have hroot' : (d.begunAlloc q f buf co mi se key size).rootLost = false := by
    rw [Dev.begunAlloc, Dev.queueStep_eq (Dev.begun_queueStep (Dev.takesNow_of_ready (f := f) h rfl hin rfl rfl) (env := .none))]
    exact hroot
  exact Dev.submit_balloc h ho hin hfree (Dev.workAlloc_taken hkey hroot'
    (fun hs => (hseal hs).imp_left fun hne h0 => hne (BitVec.eq_of_toNat_eq h0)) hmode hplace)

/-- Rows in banks that are On are allocated at once. -/
theorem Dev.submit_balloc_on (hopen : (d.begunAlloc q f buf co mi se key size).storeOpen = true)
    (hon : ∀ r ∈ rows, (d.begunAlloc q f buf co mi se key size).rd (BANK_OWN_PSTATE (r / 512)) = 1) :
    (d.submit q.val (.balloc buf co mi se key size) f .none).ended q.val (d.nextSeq q.val) .ok (rows.length + 2 ^ 20 * (banksOf rows).length) ∧
      (d.submit q.val (.balloc buf co mi se key size) f .none).buffers = KMap.put d.buffers buf.toNat
        ⟨true, co, mi, se, key.toNat, 512 * ((size.toNat + 511) / 512), mask, rows.map some, false,
          if se then d.rd (SEC_GEN_NEXT key.toNat) else 0⟩ ∧
      (d.submit q.val (.balloc buf co mi se key size) f .none).mem = d.mem := by
  have htakes : d.takesNow q.val (.balloc buf co mi se key size) f := Dev.takesNow_of_ready h rfl hin rfl rfl
  have hbegun := Dev.begun_queueStep htakes (env := .none)
  have hnext : (d.begunAlloc q f buf co mi se key size).rd (SEC_GEN_NEXT key.toNat) = d.rd (SEC_GEN_NEXT key.toNat) :=
    Dev.rd_begun htakes (.inr (by rw [key_SEC_GEN_NEXT]; omega))
  obtain ⟨t, hsettle, hended, hbuffers, hmem⟩ := Dev.settle_takeRows_on (d := d.begunAlloc q f buf co mi se key size) (buf := buf.toNat)
    (b := newBuffer co mi se key.toNat size.toNat) (mask := mask) (Dev.begun_working htakes) hmode (fun _ _ => rfl) key.isLt hopen
    (fun hs => (hseal hs).2) hon
  rw [Dev.submit_balloc_taken h ho hin hfree hkey hroot hseal hmode hplace, hsettle]
  refine ⟨hended, hbuffers.trans ?_, hmem.trans (Dev.mem_queueStep hbegun)⟩
  have hkeyOf : (newBuffer co mi se key.toNat size.toNat).key = key.toNat := rfl
  rw [hkeyOf, hnext, Dev.begunAlloc, Dev.buffers_queueStep hbegun]
  rfl

/-- Else the command waits for them. -/
theorem Dev.submit_balloc_off (hoff : ∃ r ∈ rows, (d.begunAlloc q f buf co mi se key size).rd (BANK_OWN_PSTATE (r / 512)) ≠ 1) :
    d.submit q.val (.balloc buf co mi se key size) f .none = (d.begunAlloc q f buf co mi se key size).takeRows q.val (d.nextSeq q.val) buf.toNat
      (newBuffer co mi se key.toNat size.toNat) mask rows := by
  rw [Dev.submit_balloc_taken h ho hin hfree hkey hroot hseal hmode hplace]
  exact Dev.settle_takeRows_off (Dev.begun_working (Dev.takesNow_of_ready h rfl hin rfl rfl)) (fun h1 => absurd (hmode.symm.trans h1) (by decide))
    hoff

end

end Sys2Proof.Machine
end

section
/-!
BHINT (R120, R121, R572), and the commands on buffers (R56, R87 to R92).
-/
namespace Sys2Proof.Machine

/-! What BHINT commits (R71, R121). -/

/-- The parts of a hint that take effect at its completion. -/
def Buffer.hinted (b : Buffer) (pin : Bool) (aux : List Nat) : Buffer :=
  { b with pin := b.pin || pin, mask := if aux.head? == some 3 then aux.getD 1 b.mask else b.mask }

theorem Dev.commitHint_of {d : Dev} {buf : Nat} {b : Buffer} {aux : List Nat} (hb : d.buffer buf = some b) (haux : (aux.head? == some 2) = false)
    (pin : Bool) : d.commitHint buf pin aux = d.withBuffers (KMap.put d.buffers buf (b.hinted pin aux)) := by
  rw [Dev.commitHint, haux, if_neg Bool.false_ne_true, Dev.updBuffer_eq hb]
  rfl

/-! BHINT on a queue that takes it at once. -/

section
variable {d : Dev} {q : QId} {f : CmdFlags} {buf : BitVec 24} {col : BitVec 6} {cv pin sp : Bool} {b : Buffer}

/-- A begun hint. -/
def Dev.begunHint (d : Dev) (q : QId) (f : CmdFlags) (buf : BitVec 24) (col : BitVec 6) (cv pin sp : Bool) : Dev :=
  d.begun q.val (.bhint buf col cv pin sp) f .none

section
variable (h : d.takesNow q.val (.bhint buf col cv pin sp) f) (hb : d.buffer buf.toNat = some b)
include h hb

theorem Dev.submit_bhint (hr : b.ready = true) :
    d.submit q.val (.bhint buf col cv pin sp) f .none =
      ((d.begunHint q f buf col cv pin sp).workHint q.val (d.nextSeq q.val) [] buf.toNat col.toNat cv sp).2.settle q.val (d.nextSeq q.val)
        ((d.begunHint q f buf col cv pin sp).workHint q.val (d.nextSeq q.val) [] buf.toNat col.toNat cv sp).1 := by
  rw [Dev.submit_working h rfl (Dev.handlesReady_buffer hb hr rfl rfl rfl) rfl, ← (Dev.begun_working h (env := .none)).seq]
  rfl

end

theorem Dev.noted_of_working {d : Dev} {q n : Nat} {c : Cmd} {e : Entry} (h : d.working q n c e) : d.noted q n = e.aux := by
  simp only [Dev.noted, Dev.entry_sole h.tosole]

/-- A hint that has judged its parts at once is over at once. -/
theorem Dev.workHint_noted {d t : Dev} {q n buf col : Nat} {cv sp : Bool} {c : Cmd} {e : Entry} {aux : List Nat} (h : t.working q n c e)
    (hbegin : d.beginHint q n buf col cv sp = (t.note q n aux).waiting) :
    d.workHint q n [] buf col cv sp = (t.note q n aux).finishHint buf aux := by
  have hnoted := Dev.noted_of_working (Dev.working_note h aux)
  rw [Dev.workHint, List.isEmpty_nil, if_pos rfl, hbegin]
  exact congrArg ((t.note q n aux).finishHint buf) hnoted

/-- A hint whose rows move goes on to its end. -/
theorem Dev.workHint_eq (d : Dev) (q n buf col : Nat) (cv sp : Bool) :
    d.workHint q n [] buf col cv sp = (d.beginHint q n buf col cv sp).andThen fun t => t.finishHint buf (t.noted q n) := rfl

theorem Dev.finishHint_lies {d : Dev} {buf : Nat} {b : Buffer} (hb : d.buffer buf = some b) (aux : List Nat) :
    d.finishHint buf (3 :: aux) = d.over .ok 1 := by
  simp only [Dev.finishHint, hb]

theorem Dev.finishHint_missed {d : Dev} {buf : Nat} {b : Buffer} (hb : d.buffer buf = some b) : d.finishHint buf [4] = d.over .ok 0 := by
  simp only [Dev.finishHint, hb]

theorem Dev.finishHint_free {d : Dev} {buf : Nat} {b : Buffer} (hb : d.buffer buf = some b) : d.finishHint buf [2] = d.over .ok 0 := by
  simp only [Dev.finishHint, hb]

/-! How a hint begins. -/

section
variable {d : Dev} {q n buf col : Nat} {cv sp : Bool} {b : Buffer} (hb : d.buffer buf = some b) (hm : KMap.find d.bufMoves buf = none)
include hb hm

theorem Dev.beginHint_free (hmode : d.rd PLACE_CTL_MODE = 0) : d.beginHint q n buf col cv sp = (d.note q n [2]).waiting := by
  simp only [Dev.beginHint, hb, hm, hmode, Option.isSome_none, Bool.false_eq_true, if_false, if_true]

theorem Dev.beginHint_pin (hmode : d.rd PLACE_CTL_MODE ≠ 0) (hcv : cv = false) (hsp : sp = false) :
    d.beginHint q n buf col cv sp = (d.note q n [3]).waiting := by
  simp only [Dev.beginHint, hb, hm, hmode, hcv, hsp, Option.isSome_none, Bool.false_eq_true, if_false, Bool.not_false, Bool.and_self, if_true]

/-- In Record mode it judges its column part. -/
theorem Dev.beginHint_record (hmode : d.rd PLACE_CTL_MODE = 1) (hpart : (cv || sp) = true) :
    d.beginHint q n buf col cv sp = d.hintPlan q n buf b (d.hintMask b col sp) true := by
  have hnone : (!cv && !sp) = false := by rw [← Bool.not_or, hpart]; rfl
  have hask : d.replayAsk 6 0 buf = .free := by simp [Dev.replayAsk, hmode]
  simp [Dev.beginHint, hb, hm, hmode, hnone, hask]

end

section
variable {d : Dev} {q n buf mask : Nat} {b : Buffer}

theorem Dev.hintPlan_missed (hplan : d.planMove b mask = none) :
    d.hintPlan q n buf b mask true = ((d.set PLACE_STAT_HINT_MISSED).note q n [4]).waiting := by
  simp only [Dev.hintPlan, hplan]

theorem Dev.hintPlan_lies (hplan : d.planMove b mask = some b.rows) : d.hintPlan q n buf b mask true = (d.note q n [3, mask]).waiting := by
  simp only [Dev.hintPlan, hplan, beq_self_eq_true, if_true]

theorem Dev.hintPlan_moves {rows : List (Option Nat)} (hplan : d.planMove b mask = some rows) (hne : rows ≠ b.rows) :
    d.hintPlan q n buf b mask true = d.hintMove q n buf mask rows := by
  have hne' : (rows == b.rows) = false := by simpa using hne
  simp only [Dev.hintPlan, hplan, hne', Bool.false_eq_true, if_false, if_true]

theorem Dev.missed_hint (d : Dev) : d.keepsWork (d.set PLACE_STAT_HINT_MISSED) ∧ (d.set PLACE_STAT_HINT_MISSED).buffers = d.buffers ∧
    (d.set PLACE_STAT_HINT_MISSED).rd PLACE_STAT_HINT_MISSED = 1 :=
  ⟨Dev.keepsWork_wr d (twinState_apart (by decide)) 1, rfl, Dev.rd_wr_same d PLACE_STAT_HINT_MISSED 1⟩

end

/-! How it ends. -/

section
variable (h : d.takesNow q.val (.bhint buf col cv pin sp) f) (hb : d.buffer buf.toNat = some b) (hr : b.ready = true)
include h hb hr

/-- A hint that has judged its parts, and found none of them in Free mode: they take effect on the buffer. -/
theorem Dev.submit_bhint_noted {t : Dev} {aux : List Nat} {r : Nat}
    (hbegin : (d.begunHint q f buf col cv pin sp).beginHint q.val (d.nextSeq q.val) buf.toNat col.toNat cv sp =
      (t.note q.val (d.nextSeq q.val) aux).waiting)
    (hkeeps : (d.begunHint q f buf col cv pin sp).keepsWork t) (hbuffers : t.buffers = (d.begunHint q f buf col cv pin sp).buffers)
    (hfinish : ∀ v : Dev, v.buffer buf.toNat = some b → v.finishHint buf.toNat aux = v.over .ok r) (haux : (aux.head? == some 2) = false) :
    (d.submit q.val (.bhint buf col cv pin sp) f .none).ended q.val (d.nextSeq q.val) .ok r ∧
      (d.submit q.val (.bhint buf col cv pin sp) f .none).buffers = KMap.put d.buffers buf.toNat (b.hinted pin aux) ∧
      (d.submit q.val (.bhint buf col cv pin sp) f .none).mem = d.mem ∧
      ∀ g : Field, (d.submit q.val (.bhint buf col cv pin sp) f .none).rd g = t.rd g := by
  have hbegun := Dev.begun_queueStep h (env := .none)
  have hworking := Dev.working_of_keepsWork hkeeps (Dev.begun_working h (env := .none))
  have hnote := Dev.note_queueStep t q.val (d.nextSeq q.val) aux
  have hnoted := Dev.working_note hworking aux
  have hall : (t.note q.val (d.nextSeq q.val) aux).buffers = d.buffers :=
    (Dev.buffers_queueStep hnote).trans (hbuffers.trans (Dev.buffers_queueStep hbegun))
  have hwork := (Dev.workHint_noted hworking hbegin).trans (hfinish _ ((congrArg (KMap.find · buf.toNat) hall).trans hb))
  have hmem : (t.note q.val (d.nextSeq q.val) aux).mem = d.mem :=
    (Dev.mem_queueStep hnote).trans (hkeeps.mem.trans (Dev.mem_queueStep hbegun))
  have hfields : ∀ g : Field, (t.note q.val (d.nextSeq q.val) aux).rd g = t.rd g := fun g => hnote.fields g fun f hf => absurd hf List.not_mem_nil
  rw [Dev.submit_bhint h hb hr, hwork]
  generalize (t.note q.val (d.nextSeq q.val) aux) = m at *
  have hfixed := (Dev.fix_working hnoted .ok (.ofNat 64 r)).1
  have hcommit := Dev.commitHint_of (d := m.fix q.val (d.nextSeq q.val) .ok (.ofNat 64 r)) (buf := buf.toNat) (b := b) (aux := aux)
    ((congrArg (KMap.find · buf.toNat) ((Dev.buffers_queueStep hfixed).trans hall)).trans hb) haux pin
  obtain ⟨hended, hstep⟩ := Dev.settle_committed hnoted hcommit (Dev.keepsWork_withBuffers _ _)
  refine ⟨hended, (Dev.buffers_queueStep hstep).trans ?_, (Dev.mem_queueStep hstep).trans ?_, fun g => ?_⟩
  · rw [Dev.buffers_withBuffers, Dev.buffers_queueStep hfixed, hall]
  · rw [Dev.mem_withBuffers, Dev.mem_queueStep hfixed, hmem]
  · exact (hstep.fields g fun f hf => absurd hf List.not_mem_nil).trans ((hfixed.fields g fun f hf => absurd hf List.not_mem_nil).trans (hfields g))

end

section
variable (h : d.ready q.val 1) (hb : d.buffer buf.toNat = some b) (hr : b.ready = true) (hm : KMap.find d.bufMoves buf.toNat = none)
  (hin : (Cmd.bhint buf col cv pin sp).inRange = true)
include h hb hr hm hin

omit hr in
/-- What the begun device shows of what a hint reads. -/
theorem Dev.reads_begunHint : (d.begunHint q f buf col cv pin sp).buffer buf.toNat = some b ∧
    KMap.find (d.begunHint q f buf col cv pin sp).bufMoves buf.toNat = none ∧
    (d.begunHint q f buf col cv pin sp).rd PLACE_CTL_MODE = d.rd PLACE_CTL_MODE := by
  have htakes : d.takesNow q.val (.bhint buf col cv pin sp) f := Dev.takesNow_of_ready h rfl hin rfl rfl
  have hstep := Dev.begun_queueStep htakes (env := .none)
  have hmoves : (d.begunHint q f buf col cv pin sp).bufMoves = d.bufMoves := by
    rw [Dev.begunHint, Dev.queueStep_eq hstep]
  exact ⟨(Dev.buffer_queueStep hstep _).trans hb, (congrArg (KMap.find · buf.toNat) hmoves).trans hm, Dev.rd_begun htakes (.inr (by decide))⟩

/-- In Free mode a hint is only over. -/
theorem Dev.submit_bhint_free (hmode : d.rd PLACE_CTL_MODE = 0) :
    (d.submit q.val (.bhint buf col cv pin sp) f .none).ended q.val (d.nextSeq q.val) .ok 0 ∧
      d.queueOnly (d.submit q.val (.bhint buf col cv pin sp) f .none) q.val [] := by
  have htakes : d.takesNow q.val (.bhint buf col cv pin sp) f := Dev.takesNow_of_ready h rfl hin rfl rfl
  obtain ⟨hbuf, hmoves, hmode'⟩ := Dev.reads_begunHint (f := f) (cv := cv) (pin := pin) (sp := sp) (col := col) h hb hm hin
  have hworking := Dev.begun_working htakes (env := .none)
  have hnote := Dev.note_queueStep (d.begunHint q f buf col cv pin sp) q.val (d.nextSeq q.val) [2]
  have hwork := (Dev.workHint_noted hworking (Dev.beginHint_free (n := d.nextSeq q.val) (q := q.val) (cv := cv) (sp := sp) (col := col.toNat)
    hbuf hmoves (hmode'.trans hmode))).trans
    (Dev.finishHint_free ((Dev.buffer_queueStep hnote _).trans hbuf))
  obtain ⟨hended, hstep⟩ := Dev.settle_ended_ok (Dev.working_note hworking [2]) 0 fun _ => rfl
  rw [Dev.submit_bhint htakes hb hr, Dev.begunHint, hwork]
  refine ⟨hended, Dev.queueOnly_of_taken (c := .bhint buf col cv pin sp) ?_ (by simp)⟩
  rw [List.append_nil]
  exact Dev.queueStep_trans (Dev.begun_queueStep htakes) (Dev.queueStep_mono (Dev.queueStep_trans hnote hstep) fun g hg => absurd hg List.not_mem_nil)

/-- A hint without a column part pins the buffer. -/
theorem Dev.submit_bhint_pin (hmode : d.rd PLACE_CTL_MODE ≠ 0) (hcv : cv = false) (hsp : sp = false) :
    (d.submit q.val (.bhint buf col cv pin sp) f .none).ended q.val (d.nextSeq q.val) .ok 1 ∧
      (d.submit q.val (.bhint buf col cv pin sp) f .none).buffers = KMap.put d.buffers buf.toNat { b with pin := b.pin || pin } ∧
      (d.submit q.val (.bhint buf col cv pin sp) f .none).mem = d.mem := by
  obtain ⟨hbuf, hmoves, hmode'⟩ := Dev.reads_begunHint (f := f) (cv := cv) (pin := pin) (sp := sp) (col := col) h hb hm hin
  obtain ⟨hended, hbuffers, hmem, -⟩ := Dev.submit_bhint_noted (t := d.begunHint q f buf col cv pin sp) (aux := [3])
    (Dev.takesNow_of_ready h rfl hin rfl rfl) hb hr
    (Dev.beginHint_pin hbuf hmoves (fun h0 => hmode (hmode'.symm.trans h0)) hcv hsp) (Dev.keepsWork_refl _) rfl
    (fun _ hv => Dev.finishHint_lies hv []) rfl
  exact ⟨hended, hbuffers, hmem⟩

/-- A column part that no plan honours is missed. -/
theorem Dev.submit_bhint_missed (hmode : d.rd PLACE_CTL_MODE = 1) (hpart : (cv || sp) = true)
    (hplan : (d.begunHint q f buf col cv pin sp).planMove b ((d.begunHint q f buf col cv pin sp).hintMask b col.toNat sp) = none) :
    (d.submit q.val (.bhint buf col cv pin sp) f .none).ended q.val (d.nextSeq q.val) .ok 0 ∧
      (d.submit q.val (.bhint buf col cv pin sp) f .none).on PLACE_STAT_HINT_MISSED = true ∧
      (d.submit q.val (.bhint buf col cv pin sp) f .none).mem = d.mem := by
  obtain ⟨hbuf, hmoves, hmode'⟩ := Dev.reads_begunHint (f := f) (cv := cv) (pin := pin) (sp := sp) (col := col) h hb hm hin
  have hbegin := Dev.beginHint_record (q := q.val) (n := d.nextSeq q.val) (col := col.toNat) hbuf hmoves (hmode'.trans hmode) hpart
  rw [Dev.hintPlan_missed hplan] at hbegin
  obtain ⟨hkeeps, hbuffers, hmissed⟩ := Dev.missed_hint (d.begunHint q f buf col cv pin sp)
  obtain ⟨hended, -, hmem, hrd⟩ := Dev.submit_bhint_noted (Dev.takesNow_of_ready h rfl hin rfl rfl) hb hr hbegin hkeeps hbuffers
    (fun _ hv => Dev.finishHint_missed hv) rfl
  refine ⟨hended, ?_, hmem⟩
  rw [Dev.on, hrd, hmissed]
  rfl

/-- Rows that lie in the column already take its mask. -/
theorem Dev.submit_bhint_lies (hmode : d.rd PLACE_CTL_MODE = 1) (hpart : (cv || sp) = true)
    (hplan : (d.begunHint q f buf col cv pin sp).planMove b ((d.begunHint q f buf col cv pin sp).hintMask b col.toNat sp) = some b.rows) :
    (d.submit q.val (.bhint buf col cv pin sp) f .none).ended q.val (d.nextSeq q.val) .ok 1 ∧
      (d.submit q.val (.bhint buf col cv pin sp) f .none).buffers = KMap.put d.buffers buf.toNat { b with
        pin := b.pin || pin, mask := (d.begunHint q f buf col cv pin sp).hintMask b col.toNat sp } ∧
      (d.submit q.val (.bhint buf col cv pin sp) f .none).mem = d.mem := by
  obtain ⟨hbuf, hmoves, hmode'⟩ := Dev.reads_begunHint (f := f) (cv := cv) (pin := pin) (sp := sp) (col := col) h hb hm hin
  have hbegin := Dev.beginHint_record (q := q.val) (n := d.nextSeq q.val) (col := col.toNat) hbuf hmoves (hmode'.trans hmode) hpart
  rw [Dev.hintPlan_lies hplan] at hbegin
  obtain ⟨hended, hbuffers, hmem, -⟩ := Dev.submit_bhint_noted (t := d.begunHint q f buf col cv pin sp)
    (Dev.takesNow_of_ready h rfl hin rfl rfl) hb hr hbegin (Dev.keepsWork_refl _) rfl (fun _ hv => Dev.finishHint_lies hv _) rfl
  exact ⟨hended, hbuffers, hmem⟩

omit hr in
/-- Rows that lie elsewhere begin to move. -/
theorem Dev.submit_bhint_moves {rows : List (Option Nat)} (hmode : d.rd PLACE_CTL_MODE = 1) (hpart : (cv || sp) = true)
    (hplan : (d.begunHint q f buf col cv pin sp).planMove b ((d.begunHint q f buf col cv pin sp).hintMask b col.toNat sp) = some rows)
    (hne : rows ≠ b.rows) :
    (d.begunHint q f buf col cv pin sp).workHint q.val (d.nextSeq q.val) [] buf.toNat col.toNat cv sp =
      ((d.begunHint q f buf col cv pin sp).hintMove q.val (d.nextSeq q.val) buf.toNat
        ((d.begunHint q f buf col cv pin sp).hintMask b col.toNat sp) rows).andThen
        fun t => t.finishHint buf.toNat (t.noted q.val (d.nextSeq q.val)) := by
  obtain ⟨hbuf, hmoves, hmode'⟩ := Dev.reads_begunHint (f := f) (cv := cv) (pin := pin) (sp := sp) (col := col) h hb hm hin
  have hbegin := Dev.beginHint_record (q := q.val) (n := d.nextSeq q.val) (col := col.toNat) hbuf hmoves (hmode'.trans hmode) hpart
  rw [Dev.hintPlan_moves hplan hne] at hbegin
  rw [Dev.workHint_eq, hbegin]

end

end

/-! The obligation. -/

/-- Buffers that differ in one. -/
theorem Dev.buffer_put {d t : Dev} {buf : Nat} {b : Buffer} (h : t.buffers = KMap.put d.buffers buf b) :
    t.buffer buf = some b ∧ ∀ x, x ≠ buf → t.buffer x = d.buffer x := by
  refine ⟨?_, fun x hx => ?_⟩
  · rw [Dev.buffer, h, KMap.find_put, if_pos rfl]
  · rw [Dev.buffer, h, KMap.find_put, if_neg (Ne.symm hx)]
    rfl

section
variable {s : State} {q : QId} {f : CmdFlags} {b : Buffer}

theorem exec_bkey {buf : BitVec 24} {key : BitVec 6} {se : Bool} (h : s.dev.ready q.val 1) (hb : s.dev.buffer buf.toNat = some b) (hr : b.ready = true) :
    exec (.bkey q f buf key se) s = s.next
      (((s.dev.begun q.val (.bkey buf key se) f .none).workKey buf.toNat key.toNat se).2.settle q.val (s.dev.nextSeq q.val)
        ((s.dev.begun q.val (.bkey buf key se) f .none).workKey buf.toNat key.toNat se).1) :=
  congrArg s.next (Dev.submit_bkey h hb hr)

theorem exec_bfill {buf : BitVec 24} {ofs m : BitVec 32} {pat : Word} {t : Dev} {data : List Byte} (h : s.dev.ready q.val 3)
    (hin : (Cmd.bfill buf ofs m pat).inRange = true) (hb : s.dev.buffer buf.toNat = some b) (hr : b.ready = true)
    (hwork : (s.dev.begun q.val (.bfill buf ofs m pat) f .none).workFill q.val (s.dev.nextSeq q.val) buf.toNat ofs.toNat m.toNat pat =
      t.cmdWrite q.val (s.dev.nextSeq q.val) buf.toNat ofs.toNat b data m.toNat) :
    exec (.bfill q f buf ofs m pat) s = s.next ((t.cmdWrite q.val (s.dev.nextSeq q.val) buf.toNat ofs.toNat b data m.toNat).2.settle
      q.val (s.dev.nextSeq q.val) (t.cmdWrite q.val (s.dev.nextSeq q.val) buf.toNat ofs.toNat b data m.toNat).1) :=
  congrArg s.next (Dev.submit_bfill h hin hb hr hwork)

end

/-- Settles O7, command by command: what the begun command's work finds gives its work in one equation, and its completion the rest. -/
theorem bufferCommands : Obligations.BufferCommands := by
  intro s q f ho d n
  refine ⟨?balloc, ?bfree, ?bcopy, ?bfill, ?stored, ?bkey, ?bhint, ?rowmove⟩
  case balloc =>
    intro buf co mi se key size mask rows hready c d1 m d2 hin hfree hkey hroot hopen hseal hmode hplace
    refine ⟨fun hon => ?_, fun hoff => congrArg s.next (Dev.submit_balloc_off hready ho hin hfree hkey hroot hseal hmode hplace hoff)⟩
    obtain ⟨hended, hbuffers, hmem⟩ := Dev.submit_balloc_on hready ho hin hfree hkey hroot hseal hmode hplace hopen hon
    exact ⟨_, rfl, hended, (Dev.buffer_put hbuffers).1, (Dev.buffer_put hbuffers).2, hmem⟩
  case bfree =>
    intro buf b hready hb hr hbound d1
    have hbuffer := Dev.buffer_dropBuffer d1 buf.toNat b
    have hstep := Dev.begun_queueStep (Dev.takesNow_of_ready (f := f) (c := .bfree buf) hready rfl rfl rfl rfl) (env := .none)
    refine ⟨congrArg s.next (Dev.submit_bfree hready ho hb hr hbound), (hbuffer _).trans (if_pos rfl), fun h hne => ?_⟩
    rw [hbuffer, if_neg (Ne.symm hne)]
    exact Dev.buffer_queueStep hstep h
  case bcopy =>
    intro dst src so dof m a b data d2 hready c d1 hin hb ha hra hrb hsa hsb hrows hka hkb hreacha hreachb hona honb hread r
    have hstep := Dev.begun_queueStep (Dev.takesNow_of_ready (f := f) hready rfl hin rfl rfl) (env := .none)
    exact congrArg s.next (Dev.submit_bcopy hready hin hb ha hra hrb (Dev.workCopy_eq ((Dev.buffer_queueStep hstep _).trans hb)
      ((Dev.buffer_queueStep hstep _).trans ha) hsa hsb hrows hka hkb hreacha hreachb hona honb hread))
  case bfill =>
    intro buf ofs m pat b hready c d1 data hin hb hr hs hrows hkey hreach hon r
    have hstep := Dev.begun_queueStep (Dev.takesNow_of_ready (f := f) hready rfl hin rfl rfl) (env := .none)
    exact exec_bfill hready hin hb hr (Dev.workFill_eq ((Dev.buffer_queueStep hstep _).trans hb) hs hrows hkey hreach hon)
  case stored =>
    intro d1 d3 h ofs m b data noted hc hm hw
    exact Dev.cmdWrite_plain hc hm hw
  case bkey =>
    intro buf key se b hready hb hr
    refine ⟨exec_bkey hready hb hr, fun hse hkey hok => ?_⟩
    obtain ⟨hended, hbuffers, hmem⟩ := Dev.submit_bkey_same (f := f) hready hb hr hse hkey hok
    exact ⟨_, rfl, hended, (Dev.buffer_put hbuffers).1, (Dev.buffer_put hbuffers).2, hmem⟩
  case bhint =>
    intro buf col cv pin sp b hready hb hr hm hin d1 mask
    refine ⟨fun hmode => ⟨_, rfl, Dev.submit_bhint_free hready hb hr hm hin hmode⟩, fun hmode hcv hsp => ?_, fun hmode hpart =>
      ⟨fun hplan => ⟨_, rfl, Dev.submit_bhint_missed hready hb hr hm hin hmode hpart hplan⟩, fun hplan => ?_, fun rows hplan hne => ?_⟩⟩
    · obtain ⟨hended, hbuffers, hmem⟩ := Dev.submit_bhint_pin (f := f) hready hb hr hm hin hmode hcv hsp
      exact ⟨_, rfl, hended, (Dev.buffer_put hbuffers).1, (Dev.buffer_put hbuffers).2, hmem⟩
    · obtain ⟨hended, hbuffers, hmem⟩ := Dev.submit_bhint_lies (f := f) hready hb hr hm hin hmode hpart hplan
      exact ⟨_, rfl, hended, (Dev.buffer_put hbuffers).1, hmem⟩
    · have hsubmit := Dev.submit_bhint (Dev.takesNow_of_ready (f := f) hready rfl hin rfl rfl) hb hr
      rw [Dev.submit_bhint_moves hready hb hm hin hmode hpart hplan hne] at hsubmit
      exact congrArg s.next hsubmit
  case rowmove =>
    intro kern buf port dir first m b k tile hready c d1 hin hb hr hseal hk hkr hrel htile hrows hkey hstage hgate
    have hstep := Dev.begun_queueStep (Dev.takesNow_of_ready (f := f) hready rfl hin rfl rfl) (env := .none)
    obtain ⟨hsubmit, honly⟩ := Dev.submit_rowmove (f := f) hready hin hb hr hk hkr (Dev.workRows_eq ((Dev.buffer_queueStep hstep _).trans hb) hseal
      ((Dev.kernel_queueStep hstep _).trans hk) hrel htile hrows hkey hstage hgate)
    exact ⟨congrArg s.next hsubmit, honly⟩

end Sys2Proof.Machine
end

section
/-!
What leaves the queues as they are: the operations that a command's work is made of, in the order of the definitions they speak of.
-/
namespace Sys2Proof.Machine

/-- Steps that leave the queues leave them together. -/
theorem foldl_queues {α : Type} {F : Dev → α → Dev} (h : ∀ d x, (F d x).queues = d.queues) (l : List α) (d : Dev) :
    (l.foldl F d).queues = d.queues := by
  induction l generalizing d with
  | nil => rfl
  | cons x l ih => exact (ih _).trans (h d x)

theorem foldl_queues_with {α γ : Type} {G : Dev → γ → α → Dev} (h : ∀ d c x, (G d c x).queues = d.queues) (c : γ)
    (l : List α) (d : Dev) :
    (l.foldl (fun d x => G d c x) d).queues = d.queues :=
  foldl_queues (fun d x => h d c x) l d

theorem queues_ite {c : Prop} [Decidable c] (d t : Dev) : (if c then d else t).queues = if c then d.queues else t.queues :=
  apply_ite Dev.queues c d t

theorem queues_withMeter (d : Dev) (m : Nat) : ({ d with meter := m } : Dev).queues = d.queues := rfl

@[simp] theorem Dev.passEntry_queues (d : Dev) : d.passEntry.queues = d.queues := by
  simp only [Dev.passEntry]
  repeat' split
  all_goals simp

@[simp] theorem Dev.skipEntry_queues (d : Dev) : d.skipEntry.queues = d.queues := by
  unfold Dev.skipEntry
  split <;> simp

@[simp] theorem Dev.wakeBank_queues (d : Dev) (n : Nat) : (d.wakeBank n).queues = d.queues := by
  unfold Dev.wakeBank
  split <;> simp

@[simp] theorem Dev.wakeRows_queues (d : Dev) (rows : List Nat) : (d.wakeRows rows).queues = d.queues := by
  simp [Dev.wakeRows, foldl_queues]

@[simp] theorem Dev.lineUnit_queues (d : Dev) (g w rate : Nat) (cols : List (List Sym)) : (d.lineUnit g w rate cols).queues = d.queues := rfl

@[simp] theorem Dev.capoOut_queues (d : Dev) (kind ctr : Nat) (words : List Nat) : (d.capoOut kind ctr words).queues = d.queues := by
  unfold Dev.capoOut
  split <;> simp

@[simp] theorem Dev.wrBit_queues (d : Dev) (f : Field) (i : Nat) (b : Bool) : (d.wrBit f i b).queues = d.queues := rfl

@[simp] theorem Dev.dropRecord_queues (d : Dev) (c : EvClass) : (d.dropRecord c).queues = d.queues := rfl

@[simp] theorem Dev.report_queues (d : Dev) (e : Ev) : (d.report e).queues = d.queues := by simp [Dev.report, queues_ite]

@[simp] theorem Dev.raise_queues (d : Dev) (e : Ev) : (d.raise e).queues = d.queues := by simp [Dev.raise]

@[simp] theorem Dev.capoPut_queues (d : Dev) (x : CapoFrame) : (d.capoPut x).queues = d.queues := by simp [Dev.capoPut, queues_ite]

@[simp] theorem Dev.capoSend_queues (d : Dev) (kind : Nat) (words : List Nat) :
    (d.capoSend kind words).queues = d.queues := by simp [Dev.capoSend, queues_ite]

@[simp] theorem Dev.portEvent_queues (d : Dev) (p : Port) (flag : Field) (a : Nat) :
    (d.portEvent p flag a).queues = d.queues := by simp [Dev.portEvent]

@[simp] theorem Dev.deviceFail_queues (d : Dev) (p : Port) (a : Nat) : (d.deviceFail p a).queues = d.queues := by simp [Dev.deviceFail]

@[simp] theorem Dev.keyMismatch_queues (d : Dev) (a : Nat) : (d.keyMismatch a).queues = d.queues := by simp [Dev.keyMismatch]

@[simp] theorem Dev.putRaw_queues (d : Dev) (w : Nat) (data res : List Byte) :
    (d.putRaw w data res).queues = d.queues := by simp [Dev.putRaw, queues_ite]

@[simp] theorem Dev.putWord_queues (d : Dev) (w : Nat) (data : List Byte) : (d.putWord w data).queues = d.queues := by simp [Dev.putWord]

@[simp] theorem Dev.mirror_queues (d : Dev) (a n : Nat) : (d.mirror a n).queues = d.queues := by
  unfold Dev.mirror
  repeat' split
  all_goals simp

@[simp] theorem Dev.noRoute_queues (d : Dev) (s t dep a : Nat) : (d.noRoute s t dep a).queues = d.queues := by simp [Dev.noRoute]

@[simp] theorem Dev.writeRecord_queues (d : Dev) (id : Ident) (col a : Nat) (data : List Byte) :
    (d.writeRecord id col a data).1.queues = d.queues := by
  unfold Dev.writeRecord
  repeat' split
  all_goals simp

@[simp] theorem Dev.recFault_queues (d : Dev) (flag : Field) : (d.recFault flag).queues = d.queues := by simp [Dev.recFault]

@[simp] theorem Dev.writeEntries_queues (ws : List (List Nat)) (d : Dev) : (Dev.writeEntries ws d).queues = d.queues := by
  induction ws generalizing d with
  | nil => rfl
  | cons ws rest ih =>
    have hwrote := Dev.writeRecord_queues d .device controlCol (64 * d.rd PLACE_REC_BASE_BASE + 32 * d.rd PLACE_REC_PTR_PTR) (wordBytes ws)
    unfold Dev.writeEntries
    generalize d.writeRecord .device controlCol _ _ = r at hwrote
    obtain ⟨t, o⟩ := r
    split
    · rfl
    · split
      · exact Dev.recFault_queues d _
      · split
        case h_1 heq =>
          cases heq
          exact hwrote
        case h_2 heq =>
          cases heq
          extract_lets u
          split
          · exact (Dev.recFault_queues _ _).trans hwrote
          · exact (ih _).trans hwrote
        case h_3 heq =>
          cases heq
          exact (Dev.recFault_queues _ _).trans hwrote

@[simp] theorem Dev.appendRecord_queues (d : Dev) (ws : List Nat) : (d.appendRecord ws).queues = d.queues := by
  unfold Dev.appendRecord
  split <;> simp

@[simp] theorem Dev.lastDecision_queues (d : Dev) (kind reason handle tile fret : Nat) :
    (d.lastDecision kind reason handle tile fret).queues = d.queues := rfl

@[simp] theorem Dev.decided_queues (d : Dev) (kind reason handle w1 w2 tile fret : Nat) :
    (d.decided kind reason handle w1 w2 tile fret).queues = d.queues := by simp [Dev.decided, queues_ite]

@[simp] theorem Dev.diverge_queues (d : Dev) : d.diverge.queues = d.queues := rfl

@[simp] theorem Dev.waiting_queues (d : Dev) : d.waiting.2.queues = d.queues := rfl

@[simp] theorem Dev.over_queues (d : Dev) (st : Status) (res : Nat) : (d.over st res).2.queues = d.queues := rfl

@[simp] theorem Dev.updEns_queues (d : Dev) (a : Nat) (f : Ensemble → Ensemble) : (d.updEns a f).queues = d.queues := by
  unfold Dev.updEns
  split <;> simp

@[simp] theorem Dev.trigger_queues (d : Dev) (a : Nat) (t : Trigger) : (d.trigger a t).queues = d.queues := by simp [Dev.trigger]

@[simp] theorem Dev.bufDecided_queues (d : Dev) (reason h mask : Nat) (rows : List (Option Nat)) :
    (d.bufDecided reason h mask rows).queues = d.queues := by simp [Dev.bufDecided]

@[simp] theorem Dev.dropLink_queues (d : Dev) (before : List Nat) (n : Nat) :
    (d.dropLink before n).queues = d.queues := by simp [Dev.dropLink, queues_ite]

@[simp] theorem Dev.laneTo_queues (d : Dev) (L st : Nat) : (d.laneTo L st).queues = d.queues := rfl

@[simp] theorem Dev.ungroup_queues (d : Dev) (L : Nat) : (d.ungroup L).queues = d.queues := rfl

@[simp] theorem Dev.updKernel_queues (d : Dev) (h : Nat) (f : Kernel → Kernel) : (d.updKernel h f).queues = d.queues := by
  unfold Dev.updKernel
  split <;> simp

@[simp] theorem Dev.llpCount_queues (d : Dev) (g : Nat) (flag : Field) : (d.llpCount g flag).queues = d.queues := rfl

@[simp] theorem Dev.unbindGroup_queues (d : Dev) (g state : Nat) : (d.unbindGroup g state).queues = d.queues := by
  unfold Dev.unbindGroup
  split
  · rfl
  · extract_lets t u v w
    have ht : t.queues = d.queues := by
      show Dev.queues (if _ then _ else _) = _
      split <;> simp
    have hv : v.queues = u.queues := foldl_queues (fun _ _ => by rfl) _ _
    exact hv.trans ((Dev.updKernel_queues _ _ _).trans ht)

@[simp] theorem Dev.dwellEnd_queues (d : Dev) (a : Nat) : (d.dwellEnd a).queues = d.queues := by
  unfold Dev.dwellEnd
  repeat' split
  all_goals simp

@[simp] theorem Dev.runEnded_queues (d : Dev) (h : Nat) : (d.runEnded h).queues = d.queues := by
  unfold Dev.runEnded
  split <;> simp [queues_ite]

@[simp] theorem Dev.capoDrop_queues (d : Dev) (st : Nat) : (d.capoDrop st).queues = d.queues := by
  unfold Dev.capoDrop
  split
  · rfl
  · exact foldl_queues (fun _ _ => by rfl) _ _

@[simp] theorem Dev.sendTraining_queues (d : Dev) (g type target : Nat) : (d.sendTraining g type target).queues = d.queues := by
  unfold Dev.sendTraining
  split <;> simp

@[simp] theorem Dev.updGroup_queues (d : Dev) (g : Nat) (f : GroupSt → GroupSt) : (d.updGroup g f).queues = d.queues := by
  unfold Dev.updGroup
  split <;> simp

@[simp] theorem Dev.groupRate_queues (d : Dev) (g r : Nat) : (d.groupRate g r).queues = d.queues := by
  simp only [Dev.groupRate, Dev.wr_queues, Dev.updGroup_queues]
  exact foldl_queues (fun _ _ => by rfl) _ _

@[simp] theorem Dev.laneWake_queues (d : Dev) (L : Nat) : (d.laneWake L).queues = d.queues := by
  unfold Dev.laneWake
  split <;> simp

@[simp] theorem Dev.beginTraining_queues (d : Dev) (g state : Nat) : (d.beginTraining g state).queues = d.queues := by
  simp [Dev.beginTraining, foldl_queues]

@[simp] theorem Dev.nameLanes_queues (d : Dev) (g w : Nat) : (d.nameLanes g w).queues = d.queues := by
  unfold Dev.nameLanes
  exact foldl_queues (fun _ _ => by rfl) _ _

@[simp] theorem Dev.formGroup_queues (d : Dev) (g w : Nat) (x : GroupSt) : (d.formGroup g w x).queues = d.queues := by simp [Dev.formGroup]

@[simp] theorem Dev.capoStart_queues (d : Dev) : d.capoStart.queues = d.queues := by
  unfold Dev.capoStart
  repeat' split
  all_goals simp

@[simp] theorem Dev.poisonBank_queues (d : Dev) (n : Nat) : (d.poisonBank n).queues = d.queues := rfl

@[simp] theorem Dev.bankOff_queues (d : Dev) (n : Nat) : (d.bankOff n).queues = d.queues := rfl

@[simp] theorem Dev.settleBank_queues (d : Dev) (n : Nat) : (d.settleBank n).queues = d.queues := by
  unfold Dev.settleBank
  split <;> simp

@[simp] theorem Dev.leaveRotation_queues (d : Dev) (anchor h : Nat) : (d.leaveRotation anchor h).queues = d.queues := by
  unfold Dev.leaveRotation
  split <;> simp

@[simp] theorem Dev.showFret_queues (d : Dev) (t f : Nat) : (d.showFret t f).queues = d.queues := rfl

@[simp] theorem Dev.dropEnsemble_queues (d : Dev) (anchor : Nat) : (d.dropEnsemble anchor).queues = d.queues := by
  have hphases : ∀ l : List Nat, (l.foldl (fun d t => d.clr (FRET_STAT_PHASE t)) d).queues = d.queues :=
    fun l => foldl_queues (fun _ _ => by rfl) l d
  unfold Dev.dropEnsemble
  repeat' split
  · rfl
  · rfl
  · exact hphases _

@[simp] theorem Dev.reshape_queues (d : Dev) (a : Nat) (join : Option Kernel) : (d.reshape a join).queues = d.queues := by
  unfold Dev.reshape
  repeat' split
  all_goals simp [queues_ite, foldl_queues]

@[simp] theorem Dev.shrink_queues (d : Dev) (a : Nat) : (d.shrink a).queues = d.queues := by
  unfold Dev.shrink
  split <;> simp [queues_ite]

@[simp] theorem Dev.clearFret_queues (d : Dev) (t f : Nat) : (d.clearFret t f).queues = d.queues := by
  unfold Dev.clearFret
  split <;> simp

@[simp] theorem Dev.evict_queues (d : Dev) (h : Nat) (k : Kernel) : (d.evict h k).queues = d.queues := by
  simp [Dev.evict, queues_ite, foldl_queues]

@[simp] theorem Dev.countUp_queues (d : Dev) (k : UnitKind) (u : Nat) : (d.countUp k u).queues = d.queues := by
  unfold Dev.countUp
  split <;> simp

@[simp] theorem Dev.counterEnd_queues (d : Dev) (r : Nat) : (d.counterEnd r).queues = d.queues := by
  unfold Dev.counterEnd
  split <;> simp

@[simp] theorem Dev.queueWriteBack_queues (d : Dev) (w : Nat) : (d.queueWriteBack w).queues = d.queues := rfl

@[simp] theorem Dev.poisonRow_queues (d : Dev) (r : Nat) : (d.poisonRow r).queues = d.queues := rfl

@[simp] theorem Dev.tagFail_queues (d : Dev) (r : Nat) : (d.tagFail r).queues = d.queues := by
  unfold Dev.tagFail
  split <;> simp

@[simp] theorem Dev.sealRow_queues (d : Dev) (r ctr : Nat) (data : List Byte) : (d.sealRow r ctr data).queues = d.queues := by
  have hset : ∀ (l : List Nat) (t : Dev),
      (l.foldl (fun d w => d.setWord (16 * r + w) ((data.drop (32 * w)).take 32) [0, 0, 0]) t).queues = t.queues :=
    foldl_queues fun d w => Dev.setWord_queues d _ _ _
  simp only [Dev.sealRow]
  split <;> simp only [Dev.clr_eq, Dev.wr_queues, hset]

@[simp] theorem Dev.regionRegs_queues (d : Dev) (ts : List Nat) : (d.regionRegs ts).queues = d.queues := rfl

@[simp] theorem Dev.sendImage_queues (d : Dev) (h word0 hcrc : Nat) : (d.sendImage h word0 hcrc).queues = d.queues := by
  unfold Dev.sendImage
  split <;> simp

@[simp] theorem Dev.loadedRegs_queues (d : Dev) (f h : Nat) : (d.loadedRegs f h).queues = d.queues := rfl

@[simp] theorem Dev.settleKernel_queues (d : Dev) (h : Nat) (k : Kernel) (ens : Option Nat) (a f : Nat) (cmd : Option (Nat × Nat)) :
    (d.settleKernel h k ens a f cmd).queues = d.queues := by
  have hkerns : ∀ t : Dev, (k.where.foldl (fun d t => d.wr (fretKern t f) h) t).queues = t.queues := fun t => foldl_queues (fun _ _ => by rfl) _ t
  have hshown : ∀ (l : List Nat) (s : Nat) (t : Dev), (l.foldl (fun d t => Dev.showFret d t s) t).queues = t.queues := fun l s t =>
    foldl_queues (fun d x => Dev.showFret_queues d x s) l t
  unfold Dev.settleKernel
  refine (foldl_queues (fun _ _ => by rfl) _ _).trans ?_
  split
  · repeat' split
    all_goals simp
  · exact hshown _ _ _

@[simp] theorem Dev.setBmem_queues (d : Dev) (t m p v : Nat) : (d.setBmem t m p v).queues = d.queues := rfl

@[simp] theorem Dev.commitTile_queues (d : Dev) (l : Load) (t : Nat) : (d.commitTile l t).queues = d.queues := by
  have hmem : ∀ (l : List Nat) (m : Nat) (F : Dev → Nat → Nat) (t' : Dev),
      (l.foldl (fun d p => Dev.setBmem d t m p (F d p)) t').queues = t'.queues :=
    fun l m _ t' => foldl_queues (fun d p => Dev.setBmem_queues d _ _ _ _) l t'
  unfold Dev.commitTile
  extract_lets f t1 mine t2 t3
  have ht : t3.queues = d.queues := by
    show Dev.queues (if _ then _ else _) = _
    split <;> exact Dev.clearFret_queues d _ _
  refine (foldl_queues (fun u m => ?_) _ _).trans ht
  split
  · exact hmem _ _ _ _
  · rfl

@[simp] theorem Dev.noteCrc_queues (d : Dev) (l : Load) : (d.noteCrc l).queues = d.queues := by
  unfold Dev.noteCrc
  split <;> simp

/-! A load commits tile by tile (R339). -/

theorem Dev.commitTiles_queues (l : Load) (ts : List Nat) (d : Dev) : (ts.foldl (fun d t => Dev.commitTile d l t) d).queues = d.queues :=
  foldl_queues_with Dev.commitTile_queues l ts d

theorem Dev.commitFulls_queues (l : Load) (ts : List Nat) (f : Nat) (d : Dev) :
    (ts.foldl (fun d t => (Dev.commitTile d l t).showFret t f) d).queues = d.queues :=
  foldl_queues (fun d t => by rw [Dev.showFret_queues, Dev.commitTile_queues]) ts d

theorem Dev.commitParts_queues (l : Load) (ts : List Nat) (old : Nat) (d : Dev) :
    (ts.foldl (fun d t => ((Dev.commitTile d l t).clr (fretKern t old)).wr (fretKern t l.fret) l.handle) d).queues = d.queues :=
  foldl_queues (fun d t => by rw [Dev.wr_queues, Dev.clr_eq, Dev.wr_queues, Dev.commitTile_queues]) ts d

theorem Dev.settleStatics_queues (l : Load) (rs : List Region) (f : Nat) (d : Dev) :
    (rs.foldl (fun d r => Dev.settleKernel d r.handle.toNat (Dev.staticKernel d f l.src r) none r.anchor.toNat f none) d).queues = d.queues :=
  foldl_queues (fun d _ => Dev.settleKernel_queues d _ _ _ _ _ _) rs d

theorem Dev.noteMeter_queues (m : Option Nat) (d : Dev) : (match m with
      | some v => (((d.wr CFG_METER_METER_A v).wr CFG_METER_METER_B (v / 2)).wr CFG_METER_NA (v / 4)).wr CFG_METER_NB (v / 512)
      | none => d : Dev).queues = d.queues := by
  cases m <;> rfl

@[simp] theorem Dev.commitLoad_queues (d : Dev) (l : Load) : (d.commitLoad l).queues = d.queues := by
  unfold Dev.commitLoad
  extract_lets d1
  have hd1 : d1.queues = d.queues := Dev.noteCrc_queues d l
  split
  · extract_lets t u v w
    have hw : w.queues = v.queues := Dev.settleStatics_queues l _ _ v
    have hv : v.queues = u.queues := queues_withMeter u _
    have hu : u.queues = t.queues := Dev.noteMeter_queues l.meter t
    have ht : t.queues = d1.queues := Dev.commitFulls_queues l _ _ d1
    exact (Dev.loadedRegs_queues w _ _).trans (hw.trans (hv.trans (hu.trans (ht.trans hd1))))
  · extract_lets old t u
    have hu : u.queues = t.queues := Dev.updKernel_queues t _ _
    have ht : t.queues = d1.queues := Dev.commitParts_queues l _ _ d1
    refine (Dev.loadedRegs_queues _ _ _).trans ?_
    split
    · exact (Dev.trigger_queues u _ _).trans (hu.trans (ht.trans hd1))
    · exact hu.trans (ht.trans hd1)
  · extract_lets t u
    have hu : u.queues = t.queues := Dev.commitTiles_queues l _ t
    have ht : t.queues = d1.queues := Dev.settleKernel_queues _ _ _ _ _ _ _
    exact (Dev.loadedRegs_queues _ _ _).trans ((Dev.sendImage_queues u _ _ _).trans (hu.trans (ht.trans hd1)))
  · exact hd1

@[simp] theorem Dev.hushPins_queues (d : Dev) : d.hushPins.queues = d.queues := by
  have hlanes : ((List.range 128).foldl (fun d L => Dev.laneTo d L 0) d).queues = d.queues := foldl_queues (fun d L => Dev.laneTo_queues d L 0) _ d
  unfold Dev.hushPins
  dsimp only
  exact hlanes

@[simp] theorem Dev.skipBoot_queues (d : Dev) (e code : Nat) : (d.skipBoot e code).queues = d.queues := by
  unfold Dev.skipBoot
  split <;> simp

@[simp] theorem Dev.loadRefused_queues (d : Dev) (code addr : Nat) : (d.loadRefused code addr).queues = d.queues := rfl

@[simp] theorem Dev.imageAuth_queues (d : Dev) (code keyslot : Nat) : (d.imageAuth code keyslot).queues = d.queues := by
  unfold Dev.imageAuth
  split <;> simp

@[simp] theorem Load.view_queues (l : Load) (d : Dev) : (Load.view l d).queues = d.queues := rfl

@[simp] theorem Dev.pickHinted_queues (d : Dev) (h : Nat) (k : Kernel) (only hint : Option Nat) (temps : List ColTemp) :
    (d.pickHinted h k only hint temps).2.queues = d.queues := by
  simp only [Dev.pickHinted]
  repeat' split
  all_goals rfl

@[simp] theorem Dev.placeKernel_queues (d : Dev) (h : Nat) (k : Kernel) (x : Desc) (hcrc : Nat) (hint : Option Nat) (free : Bool)
    (temps : List ColTemp) :
    (d.placeKernel h k x hcrc hint free temps).2.queues = d.queues := by
  have hnote : ∀ (t : Dev) ens a f, (if free then t.lastDecision 1 0 h a f else t.decided 1 0 h (t.admitWord k ens a f) hcrc a f).queues =
      t.queues := by
    intro t ens a f
    split <;> simp
  unfold Dev.placeKernel
  extract_lets only note
  split
  · rfl
  · split
    · split
      · exact hnote _ _ _ _
      · rfl
    · split
      · rfl
      · rfl
      · split
        · exact (hnote _ _ _ _).trans (Dev.passEntry_queues d)
        · exact Dev.skipEntry_queues _
      · have hpick := Dev.pickHinted_queues d h k only hint temps
        split
        case h_1 heq =>
          rw [heq] at hpick
          exact (hnote _ _ _ _).trans hpick
        case h_2 heq =>
          rw [heq] at hpick
          exact hpick

@[simp] theorem Dev.preload_queues (d : Dev) (a f : Nat) : (d.preload a f).queues = d.queues := by
  have hnext : ∀ (l : List Nat) (t : Dev), (l.foldl (fun d t => (Dev.wr d (FRET_STAT_NEXT t) f).clr (FRET_STAT_NEXTV t)) t).queues = t.queues :=
    foldl_queues fun _ _ => by rfl
  unfold Dev.preload
  repeat' split
  · rfl
  · rfl
  · exact (hnext _ _).trans (Dev.updEns_queues d a _)

@[simp] theorem Dev.preloadNext_queues (d : Dev) (a : Nat) : (d.preloadNext a).queues = d.queues := by
  unfold Dev.preloadNext
  repeat' split
  all_goals simp

@[simp] theorem Dev.setTok_queues (d : Dev) (k : Nat) (x : Tok) : (d.setTok k x).queues = d.queues := rfl

@[simp] theorem Dev.offer_queues (d : Dev) (f : Nat) (w : Wire) (v : Bool) : (d.offer f w v).queues = d.queues := by
  simp only [Dev.offer]
  repeat' split
  all_goals simp

@[simp] theorem Dev.startKernel_queues (d : Dev) (h : Nat) : (d.startKernel h).queues = d.queues := by
  unfold Dev.startKernel
  repeat' split
  all_goals simp [queues_ite]

@[simp] theorem Dev.delTok_queues (d : Dev) (k : Nat) : (d.delTok k).queues = d.queues := rfl

@[simp] theorem Dev.ack_queues (f fuel : Nat) (d : Dev) (w : Wire) (n : Nat) : (Dev.ack f fuel d w n).queues = d.queues := by
  induction fuel generalizing d w n with
  | zero => rfl
  | succ fuel ih =>
    unfold Dev.ack
    extract_lets k acked vals t
    have ht : t.queues = d.queues := rfl
    split
    case isFalse => rfl
    case isTrue =>
      split
      · rfl
      · rfl
      · split
        · exact ih _ _ _
        · rfl
      · split
        · split <;> rfl
        · split
          · rfl
          · extract_lets u
            have hu : u.queues = d.queues := by
              show Dev.queues (match Dev.chainIn _ _ _ _ with | some (t2, i2) => _ | none => _) = _
              split <;> rfl
            exact (foldl_queues (fun _ _ => ih _ _ _) _ _).trans hu

@[simp] theorem Dev.refuseForeign_queues (d : Dev) (t : Nat) : (d.refuseForeign t).queues = d.queues := by
  simp only [Dev.refuseForeign]
  exact (foldl_queues (fun d x => Dev.delTok_queues d _) _ _).trans (foldl_queues (fun d x => Dev.ack_queues _ _ d _ _) _ _)

@[simp] theorem Dev.tileReset_queues (d : Dev) (t : Nat) : (d.tileReset t).queues = d.queues := by
  unfold Dev.tileReset
  extract_lets tf t u
  have ht : t.queues = d.queues := Dev.refuseForeign_queues d _
  split <;> exact ht

@[simp] theorem Dev.resume_queues (d : Dev) (a : Nat) : (d.resume a).queues = d.queues := by
  simp only [Dev.resume]
  repeat' split
  all_goals simp [foldl_queues]

@[simp] theorem Dev.letGo_queues (d : Dev) (a : Nat) : (d.letGo a).queues = d.queues := by
  unfold Dev.letGo
  split <;> simp [queues_ite]

@[simp] theorem Dev.writePlane_queues (d : Dev) (t f : Nat) : (d.writePlane t f).queues = d.queues := rfl

@[simp] theorem Dev.touchPlane_queues (d : Dev) (t f : Nat) : (d.touchPlane t f).queues = d.queues := by
  unfold Dev.touchPlane
  split <;> simp

@[simp] theorem Dev.setParam_queues (d : Dev) (t f k : Nat) (v : Word) : (d.setParam t f k v).queues = d.queues := by simp [Dev.setParam]

@[simp] theorem Dev.tryUnbind_queues (d : Dev) (g : Nat) : (d.tryUnbind g).queues = d.queues := by
  unfold Dev.tryUnbind
  split <;> simp [queues_ite]

@[simp] theorem Dev.beginUnbind_queues (d : Dev) (g : Nat) : (d.beginUnbind g).queues = d.queues := by simp [Dev.beginUnbind]

@[simp] theorem Dev.laneSleep_queues (d : Dev) (L st : Nat) : (d.laneSleep L st).queues = d.queues := rfl

@[simp] theorem Dev.laneAction_queues (d : Dev) (act arg first : Nat) (ls : List Nat) : (d.laneAction act arg first ls).2.queues = d.queues := by
  unfold Dev.laneAction
  split
  · have hwake : (ls.foldl Dev.laneWake d).queues = d.queues := foldl_queues Dev.laneWake_queues _ _
    extract_lets t
    split <;> exact hwake
  · exact foldl_queues (fun d L => Dev.laneSleep_queues d L 1) _ _
  · exact foldl_queues (fun d L => Dev.laneSleep_queues d L 0) _ _
  · exact foldl_queues (fun _ _ => by rfl) _ _
  · exact foldl_queues (fun _ _ => by rfl) _ _
  · exact foldl_queues (fun _ _ => by rfl) _ _
  · rfl

@[simp] theorem Dev.retrain_queues (d : Dev) (g : Nat) : (d.retrain g).queues = d.queues := by simp [Dev.retrain]

@[simp] theorem Dev.dmaStart_queues (d : Dev) (ch : Nat) (p : Port) (epoch : Nat) (cmd : Option (Nat × Nat)) :
    (d.dmaStart ch p epoch cmd).queues = d.queues := rfl

@[simp] theorem Dev.handOverSets_queues (d : Dev) (ch : Nat) : (d.handOverSets ch).queues = d.queues := by
  have hctl : ∀ (l : List (Field × Field)) (t : Dev), (l.foldl (fun d (f, s) => d.wr f (d.rd s)) t).queues = t.queues :=
    foldl_queues fun _ _ => by rfl
  unfold Dev.handOverSets
  extract_lets t u v
  have hv : v.queues = d.queues := hctl _ _
  split
  · exact (Dev.dmaStart_queues _ _ _ _ _).trans hv
  · exact (Dev.dmaStart_queues _ _ _ _ _).trans hv

@[simp] theorem Dev.armSet_queues (d : Dev) (ch : Nat) (a : Armer) : (d.armSet ch a).queues = d.queues := by
  simp only [Dev.armSet]
  repeat' split
  all_goals simp

@[simp] theorem Dev.dmaLoad_queues (d : Dev) (r : DmaRec) (arm : Bool) : (d.dmaLoad r arm).queues = d.queues := by
  have hctl : ∀ (l : List ((Field × Field) × Nat)) (pick : Field × Field → Field) (t : Dev),
      (l.foldl (fun d (x, v) => d.wr (pick x) v) t).queues = t.queues := fun l _ t => foldl_queues (fun _ _ => by rfl) l t
  unfold Dev.dmaLoad
  split
  · extract_lets ch pick t u
    have hu : u.queues = d.queues := hctl _ _ _
    split
    · exact (Dev.armSet_queues _ _ _).trans hu
    · exact (Dev.dmaStart_queues _ _ _ _ _).trans hu
  · rfl

@[simp] theorem Dev.workDma_queues (d : Dev) (q : Nat) (e : Entry) (c : Cmd) (ch : Nat) (arm : Bool) (key : Nat) :
    (d.workDma q e c ch arm key).2.queues = d.queues := by
  unfold Dev.workDma
  repeat' split
  all_goals simp

@[simp] theorem Dev.takePeg_queues (d : Dev) (n : Nat) (p : Port) : (d.takePeg n p).2.queues = d.queues := by
  unfold Dev.takePeg
  split <;> simp

@[simp] theorem Dev.keyLost_queues (d : Dev) (t : Nat) : (d.keyLost t).queues = d.queues := rfl

@[simp] theorem Dev.tablePut_queues (d : Dev) (t w : Nat) (es : List Nat) :
    (d.tablePut t w es).queues = d.queues := by simp [Dev.tablePut, queues_ite]

@[simp] theorem Dev.logInsert_queues (d : Dev) (t key inc uf : Nat) : (d.logInsert t key inc uf).queues = d.queues := by
  unfold Dev.logInsert
  split <;> simp

@[simp] theorem Dev.answerHost_queues (d : Dev) (p : Port) (a : Nat) (write : Bool) (o : Outc) (data : List Byte) :
    (d.answerHost p a write o data).queues = d.queues := by
  unfold Dev.answerHost
  repeat' split
  all_goals simp

@[simp] theorem Dev.answerPacket_queues (d : Dev) (p : Packet) (o : Outc) (data : List Byte) : (d.answerPacket p o data).queues = d.queues := by
  unfold Dev.answerPacket
  split <;> simp

@[simp] theorem Dev.settlePool_queues (d : Dev) (was : Option Nat) : (d.settlePool was).queues = d.queues := by
  unfold Dev.settlePool
  split <;> simp [queues_ite]

@[simp] theorem Dev.rejectOwn_queues (d : Dev) (n writer code reason : Nat) :
    (d.rejectOwn n writer code reason).queues = d.queues := by simp [Dev.rejectOwn]

@[simp] theorem Dev.handOverNow_queues (d : Dev) (n writer code : Nat) :
    (d.handOverNow n writer code).queues = d.queues := by simp [Dev.handOverNow, queues_ite]

@[simp] theorem Dev.handOverTold_queues (d : Dev) (n writer code : Nat) :
    (d.handOverTold n writer code).queues = d.queues := by simp [Dev.handOverTold, queues_ite]

@[simp] theorem Dev.handOver_queues (d : Dev) (n writer code : Nat) : (d.handOver n writer code).queues = d.queues := by
  unfold Dev.handOver
  split <;> simp

@[simp] theorem Dev.pumpRecord_queues (d : Dev) : d.pumpRecord.queues = d.queues := by
  unfold Dev.pumpRecord
  split <;> simp

@[simp] theorem Dev.freshBytes_queues (d : Dev) (n : Nat) : (d.freshBytes n).2.queues = d.queues := rfl

@[simp] theorem Dev.spoilWord_queues (d : Dev) (w lo n : Nat) : (d.spoilWord w lo n).queues = d.queues := by
  unfold Dev.spoilWord
  split <;> simp

@[simp] theorem Dev.spoilRange_queues (d : Dev) (h ofs n : Nat) : (d.spoilRange h ofs n).queues = d.queues := by
  unfold Dev.spoilRange
  extract_lets inStore pieces
  refine foldl_queues (fun t x => ?_) _ _
  obtain ⟨r, lo, len⟩ := x
  cases r
  · rfl
  · refine foldl_queues (fun u k => ?_) _ _
    extract_lets a b
    split
    · exact Dev.spoilWord_queues _ _ _ _
    · rfl

@[simp] theorem Dev.freeRowList_queues (d : Dev) (rows : List Nat) :
    (d.freeRowList rows).queues = d.queues := (foldl_queues Dev.settleBank_queues _ _).trans (foldl_queues Dev.poisonRow_queues _ _)

@[simp] theorem Dev.tableFree_queues (d : Dev) (t : Nat) : (d.tableFree t).queues = d.queues := by
  unfold Dev.tableFree
  split <;> simp

@[simp] theorem Dev.settleReleases_queues (d : Dev) : d.settleReleases.queues = d.queues := by
  simp [Dev.settleReleases, queues_ite, foldl_queues]

@[simp] theorem Dev.setPortal_queues (d : Dev) (t : Nat) (x : PortalSt) : (d.setPortal t x).queues = d.queues := rfl

@[simp] theorem Dev.forgetSent_queues (d : Dev) (p : Packet) : (d.forgetSent p).queues = d.queues := by
  simp only [Dev.forgetSent]
  repeat' split
  all_goals simp

@[simp] theorem Dev.tallyPostFail_queues (d : Dev) (c : Nat) : (d.tallyPostFail c).queues = d.queues := by simp [Dev.tallyPostFail]

@[simp] theorem Dev.runError_queues (d : Dev) (h : Nat) (st : Status) : (d.runError h st).queues = d.queues := by simp [Dev.runError]

end Sys2Proof.Machine
end

section
/-!
What leaves the sequence numbers and the stages of the commands in the journals: the operations that note where a command stands, or fix its
outcome, without closing it.
-/
namespace Sys2Proof.Machine

/-- The sequence numbers and stages of the commands in each journal. -/
def marksOf (m : KMap QueueSt) (q : Nat) : List (Nat × Stage) := (KMap.get m q {}).journal.map fun e => (e.seq, e.stage)

theorem marksOf_queues (d : Dev) (q : Nat) : marksOf d.queues q = (d.journal q).map fun e => (e.seq, e.stage) := rfl

/-- Steps that leave the marks leave them together. -/
theorem foldl_marks {α : Type} {F : Dev → α → Dev} (h : ∀ d x, marksOf (F d x).queues = marksOf d.queues) (l : List α) (d : Dev) :
    marksOf (l.foldl F d).queues = marksOf d.queues := by
  induction l generalizing d with
  | nil => rfl
  | cons x l ih => exact (ih _).trans (h d x)

/-- The same where the device is a part of what is carried. -/
theorem foldl_marks_of {α β : Type} (dev : β → Dev) {F : β → α → β} (h : ∀ b x, marksOf (dev (F b x)).queues = marksOf (dev b).queues)
    (l : List α) (b : β) : marksOf (dev (l.foldl F b)).queues = marksOf (dev b).queues := by
  induction l generalizing b with
  | nil => rfl
  | cons x l ih => exact (ih _).trans (h b x)

theorem marks_ite {c : Prop} [Decidable c] (d t : Dev) :
    marksOf (if c then d else t).queues = if c then marksOf d.queues else marksOf t.queues :=
  apply_ite (fun x : Dev => marksOf x.queues) c d t

/-- A change of entries that keeps their numbers and stages. -/
theorem Dev.updEntry_marks (d : Dev) (q n : Nat) {f : Entry → Entry} (hf : ∀ e, (f e).seq = e.seq ∧ (f e).stage = e.stage) :
    marksOf (d.updEntry q n f).queues = marksOf d.queues := by
  funext p
  rw [marksOf_queues, marksOf_queues, Dev.journal_updEntry]
  split
  case isTrue h =>
    subst h
    rw [List.map_map]
    refine List.map_congr_left fun e _ => ?_
    simp only [Function.comp_apply]
    split
    · rw [(hf e).1, (hf e).2]
    · rfl
  case isFalse => rfl

/-- The frets that a reset of the fabric forgets. -/
theorem foldl_frets_queues (ts fs : List Nat) (d : Dev) :
    (ts.foldl (fun d t => fs.foldl (fun d f => Dev.clr d (fretKern t f)) ((Dev.clr d (FRET_STAT_PHASE t)).clr (FRET_STAT_NEXTV t))) d).queues =
      d.queues :=
  foldl_queues (fun _ _ => (foldl_queues (fun _ _ => by rfl) fs _).trans (by rfl)) ts d

theorem marks_withChain (d : Dev) (c o) : marksOf ({ d with capo := c, out := o } : Dev).queues = marksOf d.queues := rfl

@[simp] theorem Dev.note_marks (d : Dev) (q seq : Nat) (aux : List Nat) : marksOf (d.note q seq aux).queues = marksOf d.queues := by
  unfold Dev.note
  grind [Dev.updEntry_marks]

@[simp] theorem Dev.takeRows_marks (d : Dev) (q seq buf : Nat) (b : Buffer) (mask : Nat) (rows : List Nat) :
    marksOf (d.takeRows q seq buf b mask rows).queues = marksOf d.queues := by simp [Dev.takeRows]

@[simp] theorem Dev.beginAlloc_marks (d : Dev) (q seq buf : Nat) (commit mirror sealed : Bool) (key size : Nat) :
    marksOf (d.beginAlloc q seq buf commit mirror sealed key size).2.queues = marksOf d.queues := by
  simp only [Dev.beginAlloc]
  repeat' split
  all_goals simp

@[simp] theorem Dev.beginRotate_marks (d : Dev) (q seq : Nat) (stop : Bool) (es : List RotEntry) :
    marksOf (d.beginRotate q seq stop es).2.queues = marksOf d.queues := by
  simp only [Dev.beginRotate]
  repeat' split
  all_goals simp [foldl_marks]

@[simp] theorem Dev.beginDrain_marks (d : Dev) (q seq t buf ofs : Nat) : marksOf (d.beginDrain q seq t buf ofs).2.queues = marksOf d.queues := by
  unfold Dev.beginDrain
  repeat' split
  all_goals simp

@[simp] theorem Dev.beginCommit_marks (d : Dev) (q seq buf : Nat) :
    marksOf (d.beginCommit q seq buf).2.queues = marksOf d.queues := by simp [Dev.beginCommit]

@[simp] theorem Dev.hintMove_marks (d : Dev) (q seq buf mask : Nat) (rows : List (Option Nat)) :
    marksOf (d.hintMove q seq buf mask rows).2.queues = marksOf d.queues := by simp [Dev.hintMove]

@[simp] theorem Dev.hintPlan_marks (d : Dev) (q seq buf : Nat) (b : Buffer) (mask : Nat) (moves : Bool) :
    marksOf (d.hintPlan q seq buf b mask moves).2.queues = marksOf d.queues := by
  unfold Dev.hintPlan
  repeat' split
  all_goals simp

@[simp] theorem Dev.beginHint_marks (d : Dev) (q seq buf col : Nat) (colv spread : Bool) :
    marksOf (d.beginHint q seq buf col colv spread).2.queues = marksOf d.queues := by
  unfold Dev.beginHint
  split
  · rfl
  · split
    · rfl
    · split
      · exact Dev.note_marks _ _ _ _
      · split
        · exact Dev.note_marks _ _ _ _
        · extract_lets mask
          split
          · exact Dev.hintPlan_marks _ _ _ _ _ _ _
          · exact Dev.hintPlan_marks _ _ _ _ _ _ _
          · split
            · exact Dev.note_marks _ _ _ _
            · rfl
          · split
            · split
              · exact (Dev.hintMove_marks _ _ _ _ _ _).trans (congrArg marksOf (Dev.passEntry_queues d))
              · exact (Dev.note_marks _ _ _ _).trans (congrArg marksOf (Dev.skipEntry_queues _))
            · exact (Dev.note_marks _ _ _ _).trans (congrArg marksOf (Dev.skipEntry_queues _))

@[simp] theorem Dev.fix_marks (d : Dev) (q seq : Nat) (st : Status) (res : Word) : marksOf (d.fix q seq st res).queues = marksOf d.queues := by
  unfold Dev.fix
  grind [Dev.updEntry_marks]

@[simp] theorem Dev.endRun_marks (d : Dev) (h : Nat) (st : Status) : marksOf (d.endRun h st).queues = marksOf d.queues := by
  unfold Dev.endRun
  repeat' split
  all_goals simp

@[simp] theorem Dev.groupDown_marks (d : Dev) (g : Nat) : marksOf (d.groupDown g).queues = marksOf d.queues := by
  unfold Dev.groupDown
  repeat' split
  all_goals simp

@[simp] theorem Dev.releaseKernel_marks (d : Dev) (h : Nat) : marksOf (d.releaseKernel h).queues = marksOf d.queues := by
  unfold Dev.releaseKernel
  repeat' split
  all_goals simp

@[simp] theorem Dev.lostPlace_marks (d : Dev) (h : Nat) (k : Kernel) : marksOf (d.lostPlace h k).queues = marksOf d.queues := by
  unfold Dev.lostPlace
  grind [Dev.releaseKernel_marks]

@[simp] theorem Dev.loseKernels_marks (d : Dev) (p : Kernel → Bool) :
    marksOf (d.loseKernels p).queues = marksOf d.queues := by simp [Dev.loseKernels, marks_ite, foldl_marks]

@[simp] theorem Dev.retireEffect_marks (d : Dev) (before : List Nat) (k : UnitKind) (u : Nat) :
    marksOf (d.retireEffect before k u).queues = marksOf d.queues := by
  simp only [Dev.retireEffect]
  repeat' split
  all_goals simp

@[simp] theorem Dev.retire_marks (d : Dev) (k : UnitKind) (u cause strUid : Nat) : marksOf (d.retire k u cause strUid).queues = marksOf d.queues := by
  unfold Dev.retire
  split <;> simp

@[simp] theorem Dev.lasting_marks (d : Dev) (k : UnitKind) (u : Nat) : marksOf (d.lasting k u).queues = marksOf d.queues := by
  unfold Dev.lasting
  split <;> simp

@[simp] theorem Dev.raiseCounted_marks (d : Dev) (e : Ev) (k : UnitKind) (u : Nat) : marksOf (d.raiseCounted e k u).queues = marksOf d.queues := by
  unfold Dev.raiseCounted
  split <;> simp

@[simp] theorem Dev.storeReport_marks (d : Dev) (w kind sym : Nat) (count : Bool) :
    marksOf (d.storeReport w kind sym count).queues = marksOf d.queues := by simp [Dev.storeReport, marks_ite]

@[simp] theorem Dev.writeWord_marks (d : Dev) (w : Nat) (data : List Byte) (en : List Bool) :
    marksOf (d.writeWord w data en).2.queues = marksOf d.queues := by
  unfold Dev.writeWord
  repeat' split
  all_goals simp

@[simp] theorem Dev.verifyRow_marks (d : Dev) (r : Nat) : marksOf (d.verifyRow r).2.2.queues = marksOf d.queues := by
  unfold Dev.verifyRow
  repeat' split
  all_goals simp

@[simp] theorem Dev.writeSealed_marks (d : Dev) (r : Nat) (data : List Byte) (en : List Bool) :
    marksOf (d.writeSealed r data en).2.queues = marksOf d.queues := by
  unfold Dev.writeSealed
  grind [Dev.counterEnd_queues, Dev.verifyRow_marks, Dev.sealRow_queues]

@[simp] theorem Dev.writeRow_marks (d : Dev) (r ofs : Nat) (data : List Byte) (en : List Bool) :
    marksOf (d.writeRow r ofs data en).2.queues = marksOf d.queues := by
  unfold Dev.writeRow
  split
  · rfl
  · split
    · exact Dev.writeSealed_marks _ _ _ _
    · extract_lets first last dd ee
      exact foldl_marks_of (fun b : Outc × Dev => b.2) (fun b k => by exact Dev.writeWord_marks _ _ _ _) _ _

@[simp] theorem Dev.storeWrite_marks (d : Dev) (id : Ident) (key a : Nat) (data : List Byte) (en : List Bool) :
    marksOf (d.storeWrite id key a data en).2.queues = marksOf d.queues := by
  refine foldl_marks_of (fun b : Outc × Dev => b.2) (fun b x => ?_) _ _
  obtain ⟨o, t⟩ := b
  obtain ⟨r, ofs, len⟩ := x
  dsimp only
  split
  · have hrow := Dev.writeRow_marks t r ofs ((data.drop (512 * r + ofs - a)).take len) ((en.drop (512 * r + ofs - a)).take len)
    split
    · rw [Dev.mirror_queues]
      exact hrow
    · exact hrow
  · rw [Dev.keyMismatch_queues]
  · rfl

@[simp] theorem Dev.bufWrite_marks (d : Dev) (h ofs : Nat) (data : List Byte) (en : List Bool) :
    marksOf (d.bufWrite h ofs data en).2.queues = marksOf d.queues := by
  unfold Dev.bufWrite
  split
  · rfl
  · refine foldl_marks_of (fun b : Outc × Dev × Nat => b.2.1) (fun b x => ?_) _ _
    obtain ⟨o, t, k⟩ := b
    obtain ⟨r, lo, len⟩ := x
    cases r
    · rfl
    · exact Dev.storeWrite_marks _ _ _ _ _ _

@[simp] theorem Dev.readWord_marks (d : Dev) (w : Nat) : marksOf (d.readWord w).2.2.queues = marksOf d.queues := by
  unfold Dev.readWord
  split <;> simp

@[simp] theorem Dev.readRow_marks (d : Dev) (r ofs n : Nat) : marksOf (d.readRow r ofs n).2.2.queues = marksOf d.queues := by
  unfold Dev.readRow
  split
  · rfl
  · split
    · exact Dev.verifyRow_marks d r
    · extract_lets first last
      exact foldl_marks_of (fun b : List Byte × Outc × Dev => b.2.2) (fun b k => by exact Dev.readWord_marks _ _) _ _

@[simp] theorem Dev.storeRead_marks (d : Dev) (id : Ident) (key a n : Nat) : marksOf (d.storeRead id key a n).2.2.queues = marksOf d.queues := by
  refine foldl_marks_of (fun b : List Byte × Outc × Dev => b.2.2) (fun b x => ?_) _ _
  obtain ⟨bs, o, t⟩ := b
  obtain ⟨r, ofs, len⟩ := x
  dsimp only
  split
  · exact Dev.readRow_marks _ _ _ _
  · rw [Dev.keyMismatch_queues]
  · rfl

@[simp] theorem Dev.bufRead_marks (d : Dev) (h ofs n : Nat) : marksOf (d.bufRead h ofs n).2.2.queues = marksOf d.queues := by
  unfold Dev.bufRead
  split
  · rfl
  · refine foldl_marks_of (fun b : List Byte × Outc × Dev => b.2.2) (fun b x => ?_) _ _
    obtain ⟨bs, o, t⟩ := b
    obtain ⟨r, lo, len⟩ := x
    cases r
    · rfl
    · exact Dev.storeRead_marks _ _ _ _ _

@[simp] theorem Dev.stageCheck_marks (d : Dev) (staged : List (Nat × Nat × Byte)) (h ofs : Nat) (en : List Bool) :
    marksOf (d.stageCheck staged h ofs en).2.queues = marksOf d.queues := by
  unfold Dev.stageCheck
  extract_lets n
  split
  · rfl
  · refine foldl_marks_of (fun b : Outc × Dev => b.2) (fun b i => ?_) _ _
    obtain ⟨o, t⟩ := b
    dsimp only
    split
    · rfl
    · exact Dev.bufRead_marks _ _ _ _

@[simp] theorem Dev.cmdWrite_marks (d : Dev) (q seq buf ofs : Nat) (b : Buffer) (data : List Byte) (ok : Nat) :
    marksOf (d.cmdWrite q seq buf ofs b data ok).2.queues = marksOf d.queues := by
  unfold Dev.cmdWrite
  grind [Dev.bufWrite_marks, Dev.updEntry_marks, Dev.over_queues, Dev.stageCheck_marks, Dev.waiting_queues]

@[simp] theorem Dev.workCopy_marks (d : Dev) (q seq dst src sofs dofs n : Nat) :
    marksOf (d.workCopy q seq dst src sofs dofs n).2.queues = marksOf d.queues := by
  unfold Dev.workCopy
  grind [Dev.cmdWrite_marks, Dev.bufRead_marks, Dev.waiting_queues, Dev.over_queues]

@[simp] theorem Dev.workFill_marks (d : Dev) (q seq buf ofs n : Nat) (pat : Word) :
    marksOf (d.workFill q seq buf ofs n pat).2.queues = marksOf d.queues := by
  unfold Dev.workFill
  repeat' split
  all_goals simp

@[simp] theorem Dev.workRows_marks (d : Dev) (q seq : Nat) (aux : List Nat) (kern buf port : Nat) (toBank : Bool) (first n : Nat) :
    marksOf (d.workRows q seq aux kern buf port toBank first n).2.queues = marksOf d.queues := by
  unfold Dev.workRows
  repeat' split
  all_goals simp

@[simp] theorem Dev.admitDone_marks (d : Dev) (q seq h : Nat) : marksOf (d.admitDone q seq h).queues = marksOf d.queues := by
  unfold Dev.admitDone
  split <;> simp

@[simp] theorem Dev.finishLoad_marks (d : Dev) (l : Load) : marksOf (d.finishLoad l).queues = marksOf d.queues := by
  unfold Dev.finishLoad
  repeat' split
  all_goals simp

@[simp] theorem Dev.clearAll_marks (d : Dev) : marksOf d.clearAll.queues = marksOf d.queues := by
  have hruns : ∀ (l : KMap Kernel) (t : Dev),
      marksOf (l.foldl (fun d (h, k) => if k.released then d else Dev.endRun d h .placement) t).queues = marksOf t.queues := by
    refine foldl_marks fun t x => ?_
    dsimp only
    split
    · rfl
    · exact Dev.endRun_marks _ _ _
  have hgroups : ∀ (l : KMap GroupSt) (t : Dev),
      (l.foldl (fun d (g, _) => if 128 ≤ g then d else Dev.unbindGroup d g 0) t).queues = t.queues := by
    refine foldl_queues fun t x => ?_
    dsimp only
    split
    · rfl
    · exact Dev.unbindGroup_queues _ _ _
  unfold Dev.clearAll
  extract_lets t u v
  have hv : v.queues = u.queues := foldl_frets_queues _ _ u
  clear_value v
  have hu : u.queues = t.queues := hgroups _ t
  clear_value u
  have ht : marksOf t.queues = marksOf d.queues := hruns _ d
  clear_value t
  rw [← ht, ← hu, ← hv]

@[simp] theorem Dev.bootFails_marks (d : Dev) : marksOf d.bootFails.queues = marksOf d.queues := by
  unfold Dev.bootFails
  rw [Dev.set, Dev.wr_queues, Dev.hushPins_queues, Dev.clearAll_marks]

@[simp] theorem Dev.refuseLoad_marks (d : Dev) (who : Loader) (cls keyslot : Nat) (read : Outc) (code addr : Nat) :
    marksOf (d.refuseLoad who cls keyslot read code addr).queues = marksOf d.queues := by
  unfold Dev.refuseLoad
  repeat' split
  all_goals simp

@[simp] theorem Dev.abortLoad_marks (d : Dev) (l : Load) :
    marksOf (d.abortLoad l).queues = marksOf d.queues := by simp [Dev.abortLoad, foldl_marks]

@[simp] theorem Dev.imageCmd_marks (d : Dev) (c : ImgCmd) (next : Option ImgCmd) : marksOf (d.imageCmd c next).queues = marksOf d.queues := by
  unfold Dev.imageCmd
  split
  · rfl
  · split
    · split
      · rfl
      · exact Dev.refuseLoad_marks _ _ _ _ _ _ _
    · extract_lets l1 l2
      split
      · exact Dev.abortLoad_marks _ _
      · split
        · exact (Dev.finishLoad_marks _ _).trans (congrArg marksOf (Dev.commitLoad_queues _ _))
        · rfl

@[simp] theorem Dev.runBody_marks (d : Dev) (cs : List ImgCmd) : marksOf (d.runBody cs).queues = marksOf d.queues := by
  induction cs generalizing d with
  | nil => rfl
  | cons c rest ih => exact (ih _).trans (Dev.imageCmd_marks d c _)

@[simp] theorem Dev.startLoad_marks (d : Dev) (who : Loader) (i : Image) (handle word0 : Nat) (proto : Option Kernel) (ens : Option Nat)
    (anchor fret : Nat) (src : ImgSrc) :
    marksOf (d.startLoad who i handle word0 proto ens anchor fret src).queues = marksOf d.queues := by simp [Dev.startLoad]

@[simp] theorem Dev.admitImage_marks (d : Dev) (who : Loader) (h : Nat) (a : Admission) (i : Image) (free : Bool) (p : List ColTemp) :
    marksOf (d.admitImage who h a i free p).queues = marksOf d.queues := by
  unfold Dev.admitImage
  grind [Dev.startLoad_marks, Dev.skipBoot_queues, Dev.fix_marks, Dev.placeKernel_queues, Dev.refuseLoad_marks]

@[simp] theorem Dev.storeBytes_marks (d : Dev) (a n : Nat) : marksOf (d.storeBytes a n).2.2.queues = marksOf d.queues := by
  unfold Dev.storeBytes
  split <;> simp

@[simp] theorem Dev.imageAt_marks (d : Dev) (addr : Nat) (len : Option Nat) (given : Image) :
    marksOf (d.imageAt addr len given).2.queues = marksOf d.queues := by
  unfold Dev.imageAt
  split <;> simp

@[simp] theorem Dev.workAdmit_marks (d : Dev) (q seq kern dies : Nat) (sole nomigrate anchor : Bool) (tile image bytes word0 : Nat) (env : CmdEnv) :
    marksOf (d.workAdmit q seq kern dies sole nomigrate anchor tile image bytes word0 env).2.queues = marksOf d.queues := by
  unfold Dev.workAdmit
  grind [Dev.deviceFail_queues, Dev.over_queues, Dev.admitImage_marks, Dev.imageAt_marks, Dev.waiting_queues]

@[simp] theorem Dev.dualRail_marks (d : Dev) (t cl : Nat) : marksOf (d.dualRail t cl).queues = marksOf d.queues := by simp [Dev.dualRail]

@[simp] theorem Dev.cellInputs_marks (d : Dev) (f t idx faults : Nat) : marksOf (d.cellInputs f t idx faults).2.queues = marksOf d.queues := by
  simp only [Dev.cellInputs]
  repeat' split
  all_goals simp [foldl_marks]

@[simp] theorem Dev.finishRun_marks (d : Dev) (h : Nat) : marksOf (d.finishRun h).queues = marksOf d.queues := by
  unfold Dev.finishRun
  repeat' split
  all_goals simp

@[simp] theorem Dev.workRun_marks (d : Dev) (q seq kern : Nat) : marksOf (d.workRun q seq kern).2.queues = marksOf d.queues := by
  unfold Dev.workRun
  repeat' split
  all_goals simp [marks_ite]

@[simp] theorem Dev.stopMoves_marks (d : Dev) (kern : Nat) : marksOf (d.stopMoves kern).queues = marksOf d.queues := by
  refine foldl_marks (fun t x => ?_) _ _
  dsimp only
  split
  · split
    · exact Dev.fix_marks _ _ _ _ _
    · rfl
  · rfl

@[simp] theorem Dev.workStop_marks (d : Dev) (q seq : Nat) (aux : List Nat) (kern : Nat) :
    marksOf (d.workStop q seq aux kern).2.queues = marksOf d.queues := by
  unfold Dev.workStop
  grind [Dev.trigger_queues, Dev.note_marks, Dev.endRun_marks, Dev.letGo_queues, Dev.stopMoves_marks, Dev.waiting_queues, Dev.over_queues]

@[simp] theorem Dev.switchDone_marks (d : Dev) (q seq : Nat) : marksOf (d.switchDone q seq).queues = marksOf d.queues := by
  unfold Dev.switchDone
  split <;> simp

@[simp] theorem Dev.workSwitch_marks (d : Dev) (q seq : Nat) (aux : List Nat) (kern : Nat) (pre : Bool) :
    marksOf (d.workSwitch q seq aux kern pre).2.queues = marksOf d.queues := by
  unfold Dev.workSwitch
  grind [Dev.trigger_queues, Dev.preload_queues, Dev.switchDone_marks, Dev.note_marks, Dev.waiting_queues, Dev.over_queues]

@[simp] theorem Dev.workParam_marks (d : Dev) (q seq : Nat) (aux : List Nat) (kern preg : Nat) (live : Bool) (value : Word) :
    marksOf (d.workParam q seq aux kern preg live value).2.queues = marksOf d.queues := by
  simp only [Dev.workParam]
  repeat' split
  all_goals simp [foldl_marks]

@[simp] theorem Dev.workLbind_marks (d : Dev) (q seq : Nat) (aux : List Nat) (kern slot : Nat) (unbind : Bool) (first w rate : Nat) :
    marksOf (d.workLbind q seq aux kern slot unbind first w rate).2.queues = marksOf d.queues := by
  unfold Dev.workLbind
  grind [Dev.formGroup_queues, Dev.note_marks, Dev.beginUnbind_queues, Dev.waiting_queues, Dev.over_queues]

@[simp] theorem Dev.workLctl_marks (d : Dev) (q seq : Nat) (aux : List Nat) (first w act arg : Nat) :
    marksOf (d.workLctl q seq aux first w act arg).2.queues = marksOf d.queues := by
  unfold Dev.workLctl
  grind [Dev.laneAction_queues, Dev.note_marks, Dev.retrain_queues, Dev.updGroup_queues, Dev.waiting_queues, Dev.over_queues]

@[simp] theorem Dev.workTime_marks (d : Dev) (q seq : Nat) (aux : List Nat) (rel : Bool) (time : Word) :
    marksOf (d.workTime q seq aux rel time).2.queues = marksOf d.queues := by
  rw [Dev.workTime_eq rfl]
  cases pastBy (stampSix d.stamp) (aux.getD 0 (d.timeTarget rel time))
  · exact Dev.note_marks _ _ _ _
  · exact congrArg marksOf (Dev.over_queues _ _ _)

@[simp] theorem Dev.applyStaged_marks (d : Dev) (staged : List (Nat × Nat × Byte)) : marksOf (d.applyStaged staged).queues = marksOf d.queues := by
  unfold Dev.applyStaged
  extract_lets firsts
  refine (marks_withChain _ _ _).trans (foldl_marks (fun t x => ?_) _ _)
  obtain ⟨h, w⟩ := x
  dsimp only
  exact Dev.bufWrite_marks _ _ _ _ _

@[simp] theorem Dev.serveReq_marks (d : Dev) (q : StoreReq) : marksOf (d.serveReq q).queues = marksOf d.queues := by
  unfold Dev.serveReq
  split
  · have hwrite := Dev.storeWrite_marks d q.ident q.key q.addr q.data q.enables
    generalize d.storeWrite q.ident q.key q.addr q.data q.enables = r at hwrite
    obtain ⟨o, t⟩ := r
    dsimp only
    split <;> simpa using hwrite
  · have hread := Dev.storeRead_marks d q.ident q.key q.addr q.len
    generalize d.storeRead q.ident q.key q.addr q.len = r at hread
    obtain ⟨b, o, t⟩ := r
    dsimp only
    split <;> simpa using hread

@[simp] theorem Dev.storeRequest_marks (d : Dev) (q : StoreReq) : marksOf (d.storeRequest q).queues = marksOf d.queues := by
  unfold Dev.storeRequest
  split
  · rw [Dev.handOver_queues]
  · split
    · rfl
    · split
      · exact Dev.serveReq_marks d q
      · rfl

@[simp] theorem Dev.serveWaiting_marks (d : Dev) : marksOf d.serveWaiting.queues = marksOf d.queues := by
  simp only [Dev.serveWaiting, Dev.pumpRecord_queues]
  exact foldl_marks (fun t q => Dev.storeRequest_marks t q) _ _

@[simp] theorem Dev.bankWakeComplete_marks (d : Dev) (n : Nat) : marksOf (d.bankWakeComplete n).queues = marksOf d.queues := by
  unfold Dev.bankWakeComplete
  split
  · rw [Dev.serveWaiting_marks, Dev.wr_queues]
  · rfl

@[simp] theorem Dev.awaitBank_marks (d : Dev) (n : Nat) : marksOf (d.awaitBank n).queues = marksOf d.queues := by
  unfold Dev.awaitBank
  split
  · exact Dev.bankWakeComplete_marks d n
  · rfl

@[simp] theorem Dev.insertNow_marks (d : Dev) (t : Nat) (x : TableSt) (key inc uf : Nat) :
    marksOf (d.insertNow t x key inc uf).2.2.queues = marksOf d.queues := by
  unfold Dev.insertNow
  extract_lets s
  split
  · rfl
  · next t1 _ =>
    have hbucket : marksOf (t1.readWord s.bucket).2.2.queues = marksOf d.queues := (Dev.readWord_marks t1 _).trans (Dev.awaitBank_marks d _)
    generalize t1.readWord s.bucket = r at hbucket
    obtain ⟨b, o, t2⟩ := r
    dsimp only at hbucket ⊢
    split
    · exact hbucket
    · split
      · rw [Dev.logInsert_queues, Dev.tablePut_queues]
        exact hbucket
      · have hspill : marksOf ((t2.awaitBank (s.spill / 2 ^ 13)).readWord s.spill).2.2.queues = marksOf d.queues :=
          (Dev.readWord_marks _ _).trans ((Dev.awaitBank_marks t2 _).trans hbucket)
        generalize (t2.awaitBank (s.spill / 2 ^ 13)).readWord s.spill = r at hspill
        obtain ⟨b2, o2, t3⟩ := r
        dsimp only at hspill ⊢
        split
        · exact hspill
        · split
          · rw [Dev.logInsert_queues, Dev.tablePut_queues]
            exact hspill
          · rw [Dev.logInsert_queues, Dev.keyLost_queues]
            exact hspill

@[simp] theorem Dev.mergeDelta_marks (d : Dev) (delta : List (Nat × Nat × Nat × Nat)) :
    marksOf (d.mergeDelta delta).queues = marksOf d.queues := by
  refine foldl_marks (fun t x => ?_) delta.reverse d
  obtain ⟨n, op, k, v⟩ := x
  dsimp only
  split
  · rfl
  · split
    case h_1 x _ =>
      have hput := Dev.insertNow_marks t n x k (v % 2 ^ 20) (v / 2 ^ 20)
      split
      · exact hput
      · rw [Dev.keyLost_queues]
        exact hput
    case h_2 => rfl

@[simp] theorem Dev.noteCmd_marks (d : Dev) (cmd : Option (Nat × Nat)) (h ofs n : Nat) :
    marksOf (d.noteCmd cmd h ofs n).queues = marksOf d.queues := by
  unfold Dev.noteCmd
  split
  · exact Dev.updEntry_marks _ _ _ fun _ => ⟨rfl, rfl⟩
  · rfl

@[simp] theorem Dev.noteWrote_marks (d : Dev) (who : Option (Nat × Option (Nat × Nat))) (h ofs n : Nat) :
    marksOf (d.noteWrote who h ofs n).queues = marksOf d.queues := Dev.noteCmd_marks d _ h ofs n

@[simp] theorem Dev.portalBuffer_marks (d : Dev) (p : Packet) (h ofs : Nat) : marksOf (d.portalBuffer p h ofs).queues = marksOf d.queues := by
  unfold Dev.portalBuffer
  extract_lets who
  split
  · rw [Dev.answerPacket_queues]
  · rename_i n _ b _
    extract_lets rows entry t u
    have ht : marksOf t.queues = marksOf d.queues := by
      simp only [t]
      split
      · exact Dev.noteWrote_marks _ _ _ _ _
      · rfl
    have hu : marksOf u.queues = marksOf d.queues := (foldl_marks (fun t n => Dev.awaitBank_marks t n) _ _).trans ht
    clear_value u t entry who
    split
    · rw [Dev.answerPacket_queues, Dev.keyMismatch_queues, ht]
    · split
      · rw [Dev.storeRequest_marks, ht]
      · split
        · have hread := (Dev.bufRead_marks u h ofs n).trans hu
          generalize u.bufRead h ofs n = r at hread
          obtain ⟨bs, o, v⟩ := r
          exact (congrArg marksOf (Dev.answerPacket_queues _ _ _ _)).trans hread
        · rcases entry with _ | ⟨q, e⟩
          · exact (congrArg marksOf (Dev.answerPacket_queues _ _ _ _)).trans ((Dev.bufWrite_marks u h ofs p.data p.enables).trans hu)
          · have hcheck := (Dev.stageCheck_marks u e.staged h ofs p.enables).trans hu
            dsimp only
            split
            · rw [Dev.answerPacket_queues, hcheck]
            · split
              · rw [Dev.answerPacket_queues]
                split
                · rw [Dev.endRun_marks, hcheck]
                · exact hcheck
              · rw [Dev.answerPacket_queues]
                refine (Dev.updEntry_marks _ q e.seq fun _ => ?_).trans hcheck
                exact ⟨rfl, rfl⟩


@[simp] theorem Dev.bankPacket_marks (d : Dev) (p : Packet) : marksOf (d.bankPacket p).queues = marksOf d.queues := by
  unfold Dev.bankPacket
  extract_lets a n t
  have ht : marksOf t.queues = marksOf d.queues := by
    simp only [t]
    split
    · exact Dev.portalBuffer_marks _ _ _ _
    · split
      · rw [Dev.storeRequest_marks]
        split
        · rfl
        · exact Dev.noteWrote_marks _ _ _ _ _
      · rw [Dev.answerPacket_queues]
  rw [Dev.forgetSent_queues]
  exact ht

@[simp] theorem Dev.insertFor_marks (d : Dev) (cmd : Option (Nat × Nat)) (t : Nat) (x : TableSt) (key inc uf : Nat) :
    marksOf (d.insertFor cmd t x key inc uf).2.2.queues = marksOf d.queues :=
  (Dev.noteCmd_marks _ _ _ _ _).trans (Dev.insertNow_marks d t x key inc uf)

@[simp] theorem Dev.deltaCheck_marks (d : Dev) (t : Nat) (x : TableSt) (key : Nat) : marksOf (d.deltaCheck t x key).2.queues = marksOf d.queues := by
  unfold Dev.deltaCheck
  extract_lets s
  split
  · rfl
  · next t1 _ =>
    have hbucket : marksOf (t1.readWord s.bucket).2.2.queues = marksOf d.queues := (Dev.readWord_marks t1 _).trans (Dev.awaitBank_marks d _)
    generalize t1.readWord s.bucket = r at hbucket
    obtain ⟨b, o, t2⟩ := r
    dsimp only at hbucket ⊢
    split
    · exact hbucket
    · exact (Dev.readWord_marks _ _).trans ((Dev.awaitBank_marks t2 _).trans hbucket)

@[simp] theorem Dev.tallyDo_marks (d : Dev) (id : Ident) (key c : Nat) (cmd : Option (Nat × Nat)) (x : TDesc) :
    marksOf (d.tallyDo id key c cmd x).2.2.queues = marksOf d.queues := by
  unfold Dev.tallyDo
  extract_lets w0 w1
  split
  · rfl
  · rename_i t k v w t1 n lo _
    split
    · split
      · rfl
      · rename_i tb _
        split
        · rfl
        · dsimp only
          split
          · rename_i q e _
            have hcheck := Dev.deltaCheck_marks d t tb k
            generalize d.deltaCheck t tb k = r at hcheck
            obtain ⟨o, u⟩ := r
            dsimp only at hcheck ⊢
            split
            · exact hcheck
            · split
              · dsimp only
                split
                · rw [Dev.runError_queues]
                  exact hcheck
                · exact hcheck
              · refine (Dev.updEntry_marks u q e.seq fun _ => ?_).trans hcheck
                exact ⟨rfl, rfl⟩
          · exact Dev.insertFor_marks _ _ _ _ _ _ _
    · split
      · rfl
      · have hwake : marksOf t1.queues = marksOf d.queues := Dev.awaitBank_marks d _
        clear_value t1
        split
        · exact hwake
        · split
          · rw [Dev.keyMismatch_queues]
            exact hwake
          · have hread := (Dev.readWord_marks t1 w).trans hwake
            generalize t1.readWord w = r at hread
            obtain ⟨b, o, t2⟩ := r
            dsimp only at hread ⊢
            split
            · exact hread
            · rw [Dev.noteCmd_marks, Dev.mirror_queues, Dev.putWord_queues]
              exact hread
          · exact hwake

@[simp] theorem Dev.tallyRun_marks (d : Dev) (id : Ident) (key c : Nat) (cmd : Option (Nat × Nat)) (xs : List TDesc) (n : Nat) (rs : List Nat) :
    marksOf (d.tallyRun id key c cmd xs n rs).2.2.2.queues = marksOf d.queues := by
  induction xs generalizing d n rs with
  | nil => rfl
  | cons x rest ih =>
    rw [Dev.tallyRun]
    have hdo := Dev.tallyDo_marks d id key c cmd x
    generalize d.tallyDo id key c cmd x = r at hdo
    obtain ⟨o, r, t⟩ := r
    dsimp only at hdo ⊢
    split
    · exact hdo
    · exact (ih _ _ _).trans hdo

@[simp] theorem Dev.tallyPacket_marks (d : Dev) (p : Packet) : marksOf (d.tallyPacket p).queues = marksOf d.queues := by
  unfold Dev.tallyPacket
  extract_lets c cmd
  have hrun := Dev.tallyRun_marks d (d.packetIdent p) p.key.toNat c cmd (descsOf p.data) 0 []
  generalize d.tallyRun (d.packetIdent p) p.key.toNat c cmd (descsOf p.data) 0 [] = r at hrun
  obtain ⟨n, o, rs, t⟩ := r
  dsimp only at hrun ⊢
  split
  · exact hrun
  · split
    · rw [Dev.tallyPostFail_queues]
      exact hrun
    · exact hrun

@[simp] theorem Dev.storePacket_marks (d : Dev) (p : Packet) : marksOf (d.storePacket p).queues = marksOf d.queues := by
  unfold Dev.storePacket
  split
  · rfl
  · split
    · rfl
    · split
      · rw [Dev.forgetSent_queues]
        exact Dev.tallyPacket_marks d p
      · exact Dev.bankPacket_marks d p

@[simp] theorem Dev.pumpStage_marks (d : Dev) :
    marksOf d.pumpStage.queues = marksOf d.queues := foldl_marks (fun t p => Dev.storePacket_marks t p) _ _

end Sys2Proof.Machine
end

section
/-!
The start and the completion of accepted commands (R34, R45, R49 to R52). A command that has begun is never accepted again: closing a command
makes it completed, and nothing else that the start of a command can do touches a stage.
-/
namespace Sys2Proof.Machine

/-- No command of queue q with number n is accepted and not yet started. -/
def Dev.begunAt (d : Dev) (q n : Nat) : Prop := (n, Stage.accepted) ∉ marksOf d.queues q

theorem Dev.begunAt_iff {d : Dev} {q n : Nat} : d.begunAt q n ↔ ∀ e ∈ d.journal q, e.seq = n → e.stage ≠ .accepted := by
  simp [Dev.begunAt, marksOf_queues]

theorem Dev.begunAt_of_marks {d t : Dev} {q n : Nat} (h : d.begunAt q n) (ht : marksOf t.queues = marksOf d.queues) : t.begunAt q n := by
  rw [Dev.begunAt, ht]
  exact h

theorem Dev.begunAt_of_queues {d t : Dev} {q n : Nat} (h : d.begunAt q n) (ht : t.queues = d.queues) : t.begunAt q n :=
  Dev.begunAt_of_marks h (congrArg marksOf ht)

theorem Dev.begunAt_updEntry {d : Dev} {q n : Nat} (h : d.begunAt q n) (p m : Nat) {f : Entry → Entry} (hseq : ∀ e, (f e).seq = e.seq)
    (hstage : ∀ e, (f e).stage = .accepted → e.stage = .accepted) : (d.updEntry p m f).begunAt q n := by
  rw [Dev.begunAt_iff] at h ⊢
  intro e he
  rw [Dev.journal_updEntry] at he
  split at he
  · next hpq =>
    subst hpq
    obtain ⟨x, hx, rfl⟩ := List.mem_map.mp he
    split
    · rw [hseq]
      exact fun hn hacc => h x hx hn (hstage x hacc)
    · exact h x hx
  · exact h e he

section
variable {d : Dev} {p n : Nat} (h : d.begunAt p n)
include h

theorem Dev.begunAt_closeOne (q : Nat) (e : Entry) (st : Status) (res : Word) (stops : Bool) : (d.closeOne q e st res stops).begunAt p n := by
  unfold Dev.closeOne
  extract_lets st' paired stamp t u
  have ht : t.begunAt p n := Dev.begunAt_updEntry (Dev.begunAt_of_queues h rfl) q e.seq (fun _ => rfl) fun _ hacc => by cases hacc
  clear_value t
  have hu : u.begunAt p n := by
    simp only [u]
    split
    · exact Dev.begunAt_of_queues ht (Dev.capoSend_queues _ _ _)
    · exact ht
  clear_value u
  split
  · exact Dev.begunAt_of_queues hu rfl
  · exact hu

theorem Dev.begunAt_stopQueue (q seq : Nat) : (d.stopQueue q seq).begunAt p n := by
  unfold Dev.stopQueue
  extract_lets later t
  have ht : t.begunAt p n := by
    refine List.foldlRecOn (motive := fun u : Dev => u.begunAt p n) _ _ h fun u hu e _ => ?_
    split
    · exact Dev.begunAt_closeOne hu _ _ _ _ _
    · split
      · exact Dev.begunAt_updEntry hu _ _ (fun _ => rfl) fun _ hacc => hacc
      · exact hu
  exact Dev.begunAt_of_queues ht rfl

theorem Dev.begunAt_close (q seq : Nat) (st : Status) (res : Word) : (d.close q seq st res).begunAt p n := by
  unfold Dev.close
  split
  · exact h
  · split
    · exact h
    · have hone := Dev.begunAt_closeOne h
      dsimp only
      split
      · exact Dev.begunAt_stopQueue (hone _ _ _ _ _) _ _
      · exact hone _ _ _ _ _

theorem Dev.begunAt_settleWaits (ev : Nat) : (d.settleWaits ev).begunAt p n := by
  have hwaits : ∀ (fuel : Nat) (t : Dev), t.begunAt p n → (Dev.settleWaitsAux ev fuel t).begunAt p n := by
    intro fuel
    induction fuel with
    | zero => exact fun t ht => ht
    | succ fuel ih =>
      intro t ht
      rw [Dev.settleWaitsAux]
      split
      · exact ht
      · refine ih _ (Dev.begunAt_close (Dev.begunAt_of_queues ht ?_) _ _ _ _)
        rw [Dev.wr_queues]
        split <;> rfl
  exact hwaits _ d h

theorem Dev.begunAt_settlePeg (g : Nat) : (d.settlePeg g).begunAt p n := by
  unfold Dev.settlePeg
  split
  · exact h
  · split
    · exact h
    · exact Dev.begunAt_close (Dev.begunAt_of_queues h (Dev.takePeg_queues _ _ _)) _ _ _ _

theorem Dev.begunAt_arrive (bar mask : Nat) (qs : List Nat) : (d.arrive bar mask qs).begunAt p n := by
  unfold Dev.arrive
  extract_lets b arrived last t
  split
  · refine List.foldlRecOn (motive := fun u : Dev => u.begunAt p n) _ _ (Dev.begunAt_of_queues h rfl) fun u hu x _ => ?_
    obtain ⟨q, e⟩ := x
    dsimp only
    split
    · split
      · exact Dev.begunAt_close hu _ _ _ _
      · exact hu
    · exact hu
  · exact Dev.begunAt_of_queues h rfl

end

/-! The work of a command that starts. -/

@[simp] theorem Dev.emptyWords_queues (d : Dev) (ws : List Nat) : (d.emptyWords ws).queues = d.queues :=
  foldl_queues (fun t w => Dev.putWord_queues t w _) ws d

@[simp] theorem Dev.tableClear_queues (d : Dev) (t : Nat) : (d.tableClear t).queues = d.queues := by
  unfold Dev.tableClear
  split
  · rfl
  · exact Dev.emptyWords_queues d _

@[simp] theorem Dev.clearDrained_marks (d : Dev) (q seq t : Nat) : marksOf (d.clearDrained q seq t).queues = marksOf d.queues := by
  unfold Dev.clearDrained
  extract_lets log rest
  refine (Dev.updEntry_marks _ q seq fun _ => ?_).trans ((Dev.mergeDelta_marks _ log).trans (congrArg marksOf (Dev.tableClear_queues d t)))
  exact ⟨rfl, rfl⟩

/-! The committed effects of commands. -/

/-- What the completion of a command of queue q rests on stays as it is. -/
structure Dev.keepsClose (d t : Dev) (q : Nat) : Prop where
  queues : t.queues = d.queues
  stageWait : t.stageWait = d.stageWait
  time : t.time = d.time
  stopOnErr : t.rd (QU_CTL_STOP_ON_ERR q) = d.rd (QU_CTL_STOP_ON_ERR q)
  telling : t.telling = d.telling

section
variable {d t u : Dev} {q : Nat}

theorem Dev.keepsClose_refl (d : Dev) (q : Nat) : d.keepsClose d q := ⟨rfl, rfl, rfl, rfl, rfl⟩

theorem Dev.keepsClose_trans (h : d.keepsClose t q) (k : t.keepsClose u q) : d.keepsClose u q :=
  ⟨k.queues.trans h.queues, k.stageWait.trans h.stageWait, k.time.trans h.time, k.stopOnErr.trans h.stopOnErr, k.telling.trans h.telling⟩

/-- A field whose place in its word is neither that of STOP_ON_ERR nor one of the twin's state. -/
theorem Dev.keepsClose_wr (h : d.keepsClose t q) {f : Field} (hf : f.key % 64 ≠ 1 ∧ f.key % 64 ≠ 2) (v : Nat) : d.keepsClose (t.wr f v) q := by
  have hstop : f.key ≠ (QU_CTL_STOP_ON_ERR q).key := by simp only [Field.key, QU_CTL_STOP_ON_ERR] at hf ⊢; omega
  have htwin : f.key ≠ (TWIN_STAT_STATE).key ∧ f.key ≠ (TWIN_STAT_ROLE).key := by
    simp only [Field.key, TWIN_STAT_STATE, TWIN_STAT_ROLE] at hf ⊢
    omega
  exact Dev.keepsClose_trans h
    ⟨rfl, rfl, rfl, Dev.rd_wr_ne t v hstop, Dev.telling_congr (Dev.rd_wr_ne t v htwin.1) (Dev.rd_wr_ne t v htwin.2)⟩

theorem Dev.keepsClose_updKernel (h : d.keepsClose t q) (n : Nat) (f : Kernel → Kernel) : d.keepsClose (t.updKernel n f) q := by
  unfold Dev.updKernel
  split
  · exact Dev.keepsClose_trans h ⟨rfl, rfl, rfl, rfl, rfl⟩
  · exact h

theorem Dev.keepsClose_updBuffer (h : d.keepsClose t q) (n : Nat) (f : Buffer → Buffer) : d.keepsClose (t.updBuffer n f) q := by
  unfold Dev.updBuffer
  split
  · exact Dev.keepsClose_trans h ⟨rfl, rfl, rfl, rfl, rfl⟩
  · exact h

theorem Dev.keepsClose_updGroup (h : d.keepsClose t q) (n : Nat) (f : GroupSt → GroupSt) : d.keepsClose (t.updGroup n f) q := by
  unfold Dev.updGroup
  split
  · exact Dev.keepsClose_trans h ⟨rfl, rfl, rfl, rfl, rfl⟩
  · exact h

theorem Dev.keepsClose_updEns (h : d.keepsClose t q) (n : Nat) (f : Ensemble → Ensemble) : d.keepsClose (t.updEns n f) q := by
  unfold Dev.updEns
  split
  · exact Dev.keepsClose_trans h ⟨rfl, rfl, rfl, rfl, rfl⟩
  · exact h

theorem Dev.keepsClose_preloadNext (h : d.keepsClose t q) (a : Nat) : d.keepsClose (t.preloadNext a) q := by
  have hpreload : ∀ f, d.keepsClose (t.preload a f) q := by
    intro f
    unfold Dev.preload
    split
    · exact h
    · split
      · exact h
      · refine List.foldlRecOn (motive := fun u : Dev => d.keepsClose u q) _ _ (Dev.keepsClose_updEns h a _) fun u hu x _ => ?_
        refine Dev.keepsClose_wr (Dev.keepsClose_wr hu ?_ f) ?_ 0
        · simp only [Field.key, FRET_STAT_NEXT]; omega
        · simp only [Field.key, FRET_STAT_NEXTV]; omega
  unfold Dev.preloadNext
  repeat' split
  · exact hpreload _
  · exact h
  · exact h
  · exact h

theorem Dev.keepsClose_beginRotation (h : d.keepsClose t q) (a : Nat) (es : List RotEntry) : d.keepsClose (t.beginRotation a es) q := by
  unfold Dev.beginRotation
  extract_lets first u
  have hu : d.keepsClose u q := Dev.keepsClose_updEns h a _
  clear_value u first
  repeat' split
  · exact Dev.keepsClose_preloadNext hu a
  · exact Dev.keepsClose_updEns hu a _
  · exact hu
  · exact hu

theorem Dev.keepsClose_takeGeneration (h : d.keepsClose t q) (k : Nat) : d.keepsClose (t.takeGeneration k) q := by
  unfold Dev.takeGeneration
  extract_lets n u
  have hu : d.keepsClose u q := by
    simp only [u]
    split
    · refine Dev.keepsClose_wr h ?_ 1
      simp only [Field.key, SEC_GEN_SPENT]; omega
    · exact h
  clear_value u
  refine Dev.keepsClose_trans (Dev.keepsClose_wr hu ?_ n) ⟨rfl, rfl, rfl, rfl, rfl⟩
  exact ⟨by simp only [Field.key, SEC_GEN_NEXT]; omega, by simp only [Field.key, SEC_GEN_NEXT]; omega⟩

end

theorem Dev.commitAlloc_keepsClose (d : Dev) (q buf : Nat) : d.keepsClose (d.commitAlloc buf) q := by
  unfold Dev.commitAlloc
  split
  · exact Dev.keepsClose_refl d q
  · dsimp only
    split
    · exact Dev.keepsClose_updBuffer (Dev.keepsClose_takeGeneration (Dev.keepsClose_refl d q) _) _ _
    · exact Dev.keepsClose_updBuffer (Dev.keepsClose_refl d q) _ _

theorem Dev.commitHint_keepsClose (d : Dev) (q buf : Nat) (pin : Bool) (aux : List Nat) : d.keepsClose (d.commitHint buf pin aux) q := by
  unfold Dev.commitHint
  split
  · exact Dev.keepsClose_refl d q
  · exact Dev.keepsClose_updBuffer (Dev.keepsClose_refl d q) _ _

theorem Dev.commitRotate_keepsClose (d : Dev) (q : Nat) (stop : Bool) (es : List RotEntry) : d.keepsClose (d.commitRotate stop es) q := by
  unfold Dev.commitRotate
  split
  · dsimp only
    split
    · exact Dev.keepsClose_beginRotation (Dev.keepsClose_refl d q) _ _
    · split
      · split
        · exact Dev.keepsClose_updEns (Dev.keepsClose_refl d q) _ _
        · exact Dev.keepsClose_refl d q
      · exact Dev.keepsClose_refl d q
  · exact Dev.keepsClose_refl d q

theorem Dev.commitBind_keepsClose (d : Dev) (q g : Nat) : d.keepsClose (d.commitBind g) q := by
  unfold Dev.commitBind
  split
  · exact Dev.keepsClose_updKernel (Dev.keepsClose_updGroup (Dev.keepsClose_refl d q) _ _) _ _
  · exact Dev.keepsClose_refl d q

/-- The effects of a command's own at its completion point leave its journal, but for the delta of a drain that clears its table. -/
theorem Dev.commitOwn_keepsClose (d : Dev) (p q seq : Nat) {c : Cmd} (hc : ∀ t b o, c ≠ .tdrain t true b o) (aux : List Nat) :
    d.keepsClose (d.commitOwn q seq c aux) p := by
  unfold Dev.commitOwn
  split
  · exact Dev.commitAlloc_keepsClose d p _
  · exact Dev.commitHint_keepsClose d p _ _ _
  · exact Dev.keepsClose_updKernel (Dev.keepsClose_refl d p) _ _
  · exact Dev.commitRotate_keepsClose d p _ _
  · exact Dev.commitBind_keepsClose d p _
  · exact absurd rfl (hc _ _ _)
  · exact Dev.keepsClose_refl d p

theorem Dev.commitOwn_marks (d : Dev) (q seq : Nat) (c : Cmd) (aux : List Nat) : marksOf (d.commitOwn q seq c aux).queues = marksOf d.queues := by
  by_cases hc : ∃ t b o, c = .tdrain t true b o
  · obtain ⟨t, b, o, rfl⟩ := hc
    exact Dev.clearDrained_marks d q seq t.toNat
  · simp only [not_exists] at hc
    exact congrArg marksOf (Dev.commitOwn_keepsClose d q q seq hc aux).queues

end Sys2Proof.Machine
end

section
/-!
What the start of a command leaves begun, and the completion of a command whose outcome is fixed (R45, R49 to R52, R56).
-/
namespace Sys2Proof.Machine

section
variable {d : Dev} {p n : Nat} (h : d.begunAt p n)
include h

theorem Dev.begunAt_complete (q seq : Nat) : (d.complete q seq).begunAt p n := by
  unfold Dev.complete
  split
  · exact h
  · split
    · exact h
    · split
      · exact h
      · extract_lets t v
        have ht : t.begunAt p n := Dev.begunAt_of_marks h ((Dev.mergeDelta_marks _ _).trans (Dev.applyStaged_marks _ _))
        clear_value t
        have hv : v.begunAt p n := by
          simp only [v]
          split
          · split
            · exact Dev.begunAt_of_marks ht (Dev.commitOwn_marks _ _ _ _ _)
            · exact ht
          · refine List.foldlRecOn (motive := fun u : Dev => u.begunAt p n) _ _ h fun u hu x _ => ?_
            exact Dev.begunAt_of_queues hu (Dev.spoilRange_queues u _ _ _)
        clear_value v
        exact Dev.begunAt_of_marks (Dev.begunAt_close hv _ _ _ _)
          ((Dev.pumpStage_marks _).trans (congrArg marksOf (Dev.settleReleases_queues _)))

theorem Dev.begunAt_settle (q seq : Nat) (r : Option (Status × Word)) : (d.settle q seq r).begunAt p n := by
  unfold Dev.settle
  refine Dev.begunAt_complete ?_ q seq
  split
  · exact Dev.begunAt_of_marks h (Dev.fix_marks _ _ _ _ _)
  · exact h

theorem Dev.begunAt_work {c : Cmd} (hc : holdsOn c = true) (q : Nat) (e : Entry) : (d.work q e c).2.begunAt p n := by
  match c, hc with
  | .halt, _ => exact h
  | .barrier b m, _ =>
    simp only [Dev.work, Dev.workBarrier]
    repeat' split
    · exact h
    · exact h
    · exact h
    · exact Dev.begunAt_arrive (Dev.begunAt_of_marks h (Dev.note_marks _ _ _ _)) _ _ _
  | .wait ev, _ => exact Dev.begunAt_settleWaits h _
  | .waittime rel time, _ => exact Dev.begunAt_of_marks h (Dev.workTime_marks _ _ _ _ _ _)
  | .pegtake g true, _ => exact Dev.begunAt_settlePeg h _

theorem Dev.begunAt_runCmd {q seq : Nat} {e : Entry} {c : Cmd} (he : d.entry q seq = some e) (hcmd : e.cmd = some c) (hc : holdsOn c = true) :
    (d.runCmd q seq).begunAt p n := by
  unfold Dev.runCmd
  simp only [he, hcmd]
  split
  · exact h
  · split
    · exact Dev.begunAt_complete h q seq
    · split
      · exact h
      · exact Dev.begunAt_settle h q seq _
      · exact Dev.begunAt_settle (Dev.begunAt_work h hc q e) q seq _

end

/-- The first work of a command that works while it is in progress leaves the stages. -/
theorem Dev.beginWork_marks (d : Dev) (q : Nat) (e : Entry) {c : Cmd} (hat : atCompletion c = false) (hon : holdsOn c = false) :
    marksOf (d.beginWork q e c).2.queues = marksOf d.queues := by
  cases c with
  | nop | fence | signal | mark | bfree | bkey | kretire | kbind | tsetup | tclear | peggive | epoch => nomatch hat
  | halt | barrier | wait | waittime => nomatch hon
  | pegtake g w =>
    cases w
    · nomatch hat
    · nomatch hon
  | sets | adds | loop | branch | call | ret => simp only [Dev.beginWork, Dev.work, Dev.over_queues]
  | balloc => simp only [Dev.beginWork, Dev.beginAlloc_marks]
  | bcopy => simp only [Dev.beginWork, Dev.work, Dev.workCopy_marks]
  | bfill => simp only [Dev.beginWork, Dev.work, Dev.workFill_marks]
  | rowmove => simp only [Dev.beginWork, Dev.work, Dev.workRows_marks]
  | bhint => simp only [Dev.beginWork, Dev.beginHint_marks]
  | kadmit => simp only [Dev.beginWork, Dev.work, Dev.workAdmit_marks]
  | krun => simp only [Dev.beginWork, Dev.work, Dev.workRun_marks]
  | kstop => simp only [Dev.beginWork, Dev.work, Dev.workStop_marks]
  | kswitch => simp only [Dev.beginWork, Dev.work, Dev.workSwitch_marks]
  | kparam => simp only [Dev.beginWork, Dev.work, Dev.workParam_marks]
  | krotate => simp only [Dev.beginWork, Dev.beginRotate_marks]
  | lbind => simp only [Dev.beginWork, Dev.work, Dev.workLbind_marks]
  | lctl => simp only [Dev.beginWork, Dev.work, Dev.workLctl_marks]
  | dmago => simp only [Dev.beginWork, Dev.work, Dev.workDma_queues]
  | tdrain => simp only [Dev.beginWork, Dev.beginDrain_marks]
  | commit => simp only [Dev.beginWork, Dev.beginCommit_marks]

end Sys2Proof.Machine
end

section
/-!
COMMAND_START and COMMAND_COMPLETE (R34, R45, R49 to R52, R56, R67, R68).
-/
namespace Sys2Proof.Machine

/-! The start. -/

/-- The entry of a command once it has started. -/
def Dev.startedEntry (d : Dev) (q : Nat) (env : CmdEnv) (e : Entry) : Entry :=
  { e with stage := .started, started := d.stamp, epoch := d.rd (QU_EPOCH_EPOCH q), env := env }

/-- Command n of queue q has started. -/
def Dev.startedAt (d : Dev) (q n : Nat) (env : CmdEnv) : Dev := d.updEntry q n (d.startedEntry q env)

section
variable {d : Dev} {q : Nat} {e : Entry} {env : CmdEnv}

theorem Dev.entry_startedAt (h : d.entry q e.seq = some e) : (d.startedAt q e.seq env).entry q e.seq = some (d.startedEntry q env e) := by
  rw [Dev.startedAt, Dev.entry_updEntry d q e.seq e.seq (d.startedEntry q env) fun _ => rfl, if_pos rfl, h]
  rfl

theorem Dev.begunAt_startedAt (d : Dev) (q n : Nat) (env : CmdEnv) : (d.startedAt q n env).begunAt q n := by
  rw [Dev.begunAt_iff]
  intro x hx hn
  rw [Dev.startedAt, Dev.journal_updEntry, if_pos rfl] at hx
  obtain ⟨y, hy, rfl⟩ := List.mem_map.mp hx
  by_cases hyn : y.seq = n
  · simp [hyn, Dev.startedEntry]
  · simp [hyn] at hn

/-- A command that has begun is not the next to start. -/
theorem Dev.startable_ne_of_begunAt (h : d.begunAt q e.seq) : d.startable q ≠ some e := by
  intro hstart
  unfold Dev.startable at hstart
  split at hstart
  · cases hstart
  · next x hfind =>
    split at hstart
    · next hcond =>
      obtain rfl : x = e := Option.some.inj hstart
      simp only [Bool.and_eq_true, beq_iff_eq] at hcond
      exact Dev.begunAt_iff.mp h x (List.mem_of_find?_eq_some hfind) rfl hcond.1
    · cases hstart

/-- What lets the issue stage start command c of entry e. -/
structure Dev.starts (d : Dev) (q : Nat) (e : Entry) (c : Cmd) (env : CmdEnv) : Prop where
  running : d.running = true
  gate : d.gateServes 5 = true
  notShadow : d.shadowing = false
  notFenced : d.rd TWIN_STAT_STATE ≠ 5
  startable : d.startable q = some e
  turn : d.hasTurn d.issueTurns (fun d q => (Dev.startable d q).isSome) q = true
  entry : d.entry q e.seq = some e
  cmd : e.cmd = some c
  inRange : c.inRange = true
  handles : d.handles q e.seq c ≠ .gone
  image : lacksImage c env = false

variable {c : Cmd}

theorem Dev.startCmd_eq (h : d.starts q e c env) (go : Dev → Entry → Cmd → Dev) :
    d.startCmd q e env go = go (d.startedAt q e.seq env) (d.startedEntry q env e) c := by
  have hentry := Dev.entry_startedAt (env := env) h.entry
  have hupd : d.updEntry q e.seq (fun e => { e with stage := .started, started := d.stamp, epoch := d.rd (QU_EPOCH_EPOCH q), env := env }) =
      d.startedAt q e.seq env := rfl
  simp only [Dev.startCmd, h.cmd, h.inRange, h.handles, h.image, hupd, hentry, Bool.not_true, decide_false, Bool.or_self, Bool.and_false,
    Bool.false_eq_true, if_false]

/-- The issue stage starts the command, which goes its way, and its queue has taken its turn. -/
theorem Dev.issueNext_eq (h : d.starts q e c env)
    (hbegun : ((d.startedAt q e.seq env).beginCmd q (d.startedEntry q env e) c).begunAt q e.seq) :
    d.issueNext q env = { (d.startedAt q e.seq env).beginCmd q (d.startedEntry q env e) c with issueTurns := d.takeTurn d.issueTurns q } := by
  have hnext : (d.startNext q env fun d e c => d.beginCmd q e c) =
      (d.startedAt q e.seq env).beginCmd q (d.startedEntry q env e) c := by
    have hfenced : (d.rd TWIN_STAT_STATE == 5) = false := by simpa using h.notFenced
    simp only [Dev.startNext, h.running, h.gate, h.notShadow, hfenced, h.startable, Bool.not_true, Bool.or_self, Bool.false_eq_true, if_false,
      Dev.startCmd_eq h]
  have hmoved : (d.startable q == ((d.startedAt q e.seq env).beginCmd q (d.startedEntry q env e) c).startable q) = false := by
    rw [h.startable, beq_eq_false_iff_ne]
    exact (Dev.startable_ne_of_begunAt hbegun).symm
  simp only [Dev.issueNext, h.turn, hnext, hmoved, Bool.not_true, Bool.false_eq_true, if_false]

theorem Dev.beginCmd_atCompletion (t : Dev) (x : Entry) (hat : atCompletion c = true) : t.beginCmd q x c = t := by
  simp only [Dev.beginCmd, hat, if_true]

theorem Dev.beginCmd_holdsOn (t : Dev) (x : Entry) (hat : atCompletion c = false) (hon : holdsOn c = true) :
    t.beginCmd q x c = t.runCmd q x.seq := by
  simp only [Dev.beginCmd, hat, hon, Bool.false_eq_true, if_false, if_true]

theorem Dev.beginCmd_works (t : Dev) (x : Entry) (hat : atCompletion c = false) (hon : holdsOn c = false)
    (hh : allocates c = true ∨ t.handles q x.seq c = .ok) :
    ((t.beginWork q x c).1 = none → t.beginCmd q x c = (t.beginWork q x c).2) ∧
      ∀ st res, (t.beginWork q x c).1 = some (st, res) → t.beginCmd q x c = (t.beginWork q x c).2.fix q x.seq st res := by
  have hok : (if allocates c then Handles.ok else t.handles q x.seq c) = .ok := by
    rcases hh with hh | hh
    · rw [hh, if_pos rfl]
    · rw [hh, ite_self]
  refine ⟨fun hwork => ?_, fun st res hwork => ?_⟩
  · simp only [Dev.beginCmd, hat, hon, hok, hwork, Bool.false_eq_true, if_false]
  · simp only [Dev.beginCmd, hat, hon, hok, hwork, Bool.false_eq_true, if_false]

end

/-! The completion. -/

@[simp] theorem Dev.settleReleases_stageWait (d : Dev) : d.settleReleases.stageWait = d.stageWait := by
  have hfree : ∀ (t : Dev) (rows : List Nat), (t.freeRowList rows).stageWait = t.stageWait := by
    intro t rows
    refine List.foldlRecOn (motive := fun u : Dev => u.stageWait = t.stageWait) _ _ ?_ fun u hu n _ => ?_
    · exact List.foldlRecOn (motive := fun u : Dev => u.stageWait = t.stageWait) _ _ rfl fun u hu r _ => hu
    · unfold Dev.settleBank
      split <;> exact hu
  refine List.foldlRecOn (motive := fun u : Dev => u.stageWait = d.stageWait) _ _ rfl fun u hu x _ => ?_
  obtain ⟨t, x⟩ := x
  dsimp only
  split
  · unfold Dev.tableFree
    split
    · exact hu
    · exact (hfree _ _).trans hu
  · exact hu

theorem Dev.pumpStage_quiet {d : Dev} (h : d.stageWait = []) : d.pumpStage.queues = d.queues := by
  simp only [Dev.pumpStage, h, List.foldl_nil]

theorem Dev.entry_of_queues {d t : Dev} (h : t.queues = d.queues) (q n : Nat) : t.entry q n = d.entry q n := by
  rw [Dev.entry, Dev.journal, Dev.queue, h]
  rfl

/-- A started command whose outcome is fixed, on a device that neither stops its queue nor tells a twin. -/
theorem Dev.entry_complete {d : Dev} {q : Nat} {e : Entry} {c : Cmd} {st : Status} {res : Word} (he : d.entry q e.seq = some e)
    (hcmd : e.cmd = some c) (hstage : e.stage = .started) (hfin : e.fin = some (st, res)) (hstaged : e.staged = []) (hdelta : e.delta = [])
    (hwrote : e.wrote = []) (hown : ∀ t b o, c ≠ .tdrain t true b o) (hstop : d.on (QU_CTL_STOP_ON_ERR q) = false) (htelling : d.telling = false)
    (hquiet : d.stageWait = []) :
    (d.complete q e.seq).entry q e.seq = some (d.closesTo e (e.okStatus st) res e) := by
  have hfixed : ∃ v : Dev, d.keepsClose v q ∧ d.complete q e.seq = (v.close q e.seq st res).settleReleases.pumpStage := by
    refine ⟨if st = .ok then d.commitOwn q e.seq c e.aux else d, ?_, ?_⟩
    · split
      · exact Dev.commitOwn_keepsClose d q q e.seq hown e.aux
      · exact Dev.keepsClose_refl d q
    · simp only [Dev.complete, he, hfin, hstage, hstaged, hdelta, hwrote, hcmd, ne_eq, not_true_eq_false, if_false, List.foldl_nil]
      rfl
  obtain ⟨v, hv, hcomplete⟩ := hfixed
  have htold : v.telling = false := hv.telling.trans htelling
  have hentry : v.entry q e.seq = some e := (Dev.entry_of_queues hv.queues q e.seq).trans he
  have hgoes : v.stops q e st = false := by
    have : v.on (QU_CTL_STOP_ON_ERR q) = false := by rw [← hstop, Dev.on, hv.stopOnErr]; rfl
    simp only [Dev.stops, this, Bool.and_false, Bool.false_and]
  have hclose : v.close q e.seq st res = v.closeOne q e st res false := by
    have hopen : (e.stage == .completed) = false := by rw [hstage]; rfl
    simp only [Dev.close, hentry, hopen, hgoes, Bool.false_eq_true, if_false]
  have hstage' : (v.closeOne q e st res false).settleReleases.stageWait = [] := by
    rw [Dev.settleReleases_stageWait, Dev.closeOne_eq htold]
    exact hv.stageWait.trans hquiet
  rw [hcomplete, hclose, Dev.entry_of_queues (Dev.pumpStage_quiet hstage'), Dev.entry_of_queues (Dev.settleReleases_queues _),
    Dev.entry_closeOne htold, if_pos rfl, hentry]
  have hstamp : v.closeStamp e = d.closeStamp e := by simp only [Dev.closeStamp, Dev.stamp, hv.time]
  simp only [Option.map_some, Dev.closesTo, hstamp]

/-- Settles O12: a command that has started is never accepted again, so its queue has taken its turn; a command whose outcome is fixed
completes with it. -/
theorem startAndComplete : Obligations.StartAndComplete := by
  unfold Obligations.StartAndComplete
  intro s q e c env d e1 d1 turns hrun hentry hcmd hin hseq
  have hcompletes : exec (.commandComplete q (.ofNat 48 e.seq)) s = s.next (d.runCmd q.val e.seq) := by
    have hself : exec (.commandComplete q (.ofNat 48 e.seq)) s =
        s.next (if d.running then d.runCmd q.val (BitVec.ofNat 48 e.seq).toNat else d) := rfl
    rw [hself, if_pos hrun, BitVec.toNat_ofNat, Nat.mod_eq_of_lt hseq]
  refine ⟨fun hgate hshadow hfenced hstart hturn hhandles himage => ?_, fun hstage hfin hh => ?_, ?_⟩
  · have hstarts : d.starts q.val e c env := ⟨hrun, hgate, hshadow, hfenced, hstart, hturn, hentry, hcmd, hin, hhandles, himage⟩
    have hbegun : d1.begunAt q.val e.seq := Dev.begunAt_startedAt d q.val e.seq env
    have hgo {t : Dev} (ht : d1.beginCmd q.val e1 c = t) (hb : t.begunAt q.val e.seq) :
        exec (.commandStart q env) s = s.next { t with issueTurns := turns } := by
      subst ht
      exact congrArg s.next (Dev.issueNext_eq hstarts hb)
    refine ⟨fun hat => hgo (Dev.beginCmd_atCompletion d1 e1 hat) hbegun, fun hat hon => hgo (Dev.beginCmd_holdsOn d1 e1 hat hon) ?_,
      fun hat hon hh => ?_⟩
    · exact Dev.begunAt_runCmd hbegun (Dev.entry_startedAt hentry) hcmd hon
    · obtain ⟨hwaits, hends⟩ := Dev.beginCmd_works d1 e1 hat hon hh
      have hworked : (d1.beginWork q.val e1 c).2.begunAt q.val e.seq := Dev.begunAt_of_marks hbegun (Dev.beginWork_marks d1 q.val e1 hat hon)
      exact ⟨fun hwork => hgo (hwaits hwork) hworked,
        fun st res hwork => hgo (hends st res hwork) (Dev.begunAt_of_marks hworked (Dev.fix_marks _ _ _ _ _))⟩
  · rw [hcompletes, Dev.runCmd_work hentry hstage hfin hcmd hh]
  · intro st res hstage hfin hstaged hdelta hwrote hown hstop htelling hquiet
    refine ⟨d.complete q.val e.seq, ?_, ?_⟩
    · rw [hcompletes, Dev.runCmd]
      simp only [hentry, hstage, hfin, ne_eq, not_true_eq_false, if_false, Option.isSome_some, if_true]
    · rw [Dev.entry_complete hentry hcmd hstage hfin hstaged hdelta hwrote hown hstop htelling hquiet, Dev.closesTo, Dev.closeStamp, hstage]
      simp only [beq_self_eq_true, Bool.and_true]

end Sys2Proof.Machine
end

section
/-!
What a fold leaves alone.
-/
namespace Sys2Proof.Machine

/-- A fold of changes that each keep a part of the device keeps it. -/
theorem foldl_keeps {α γ : Type} (P : Dev → γ) {F : Dev → α → Dev} (h : ∀ d x, P (F d x) = P d) (l : List α) (d : Dev) :
    P (l.foldl F d) = P d := by
  induction l generalizing d with
  | nil => rfl
  | cons x l ih => exact (ih _).trans (h d x)

end Sys2Proof.Machine
end

section
/-!
The exchange of a lane group (R101, R102, R360 to R362): what its group holds after each change, what both ends' reports decide, and
where a step that fails, or an exchange that does not end, leaves it.
-/
namespace Sys2Proof.Machine

/-! The group after a change. -/

section
variable {d : Dev} {g : Nat} {x : GroupSt} (hx : d.group g = some x)
include hx

theorem Dev.updGroup_eq (f : GroupSt → GroupSt) : d.updGroup g f = { d with groups := KMap.put d.groups g (f x) } := by
  simp only [Dev.updGroup, hx]

theorem Dev.group_updGroup (f : GroupSt → GroupSt) : (d.updGroup g f).group g = some (f x) := by
  rw [Dev.updGroup_eq hx]
  exact (KMap.find_put _ _ _ _).trans (if_pos rfl)

theorem Dev.updGroup_congr {f f' : GroupSt → GroupSt} (h : f x = f' x) : d.updGroup g f = d.updGroup g f' := by
  rw [Dev.updGroup_eq hx, Dev.updGroup_eq hx, h]

end

/-- A training set that leaves changes no group. -/
@[simp] theorem Dev.group_sendTraining (d : Dev) (g type target p : Nat) : (d.sendTraining g type target).group p = d.group p := by
  unfold Dev.sendTraining
  split <;> rfl

/-! TS1 and TS2 (R361 step 3). -/

section
variable {d : Dev} {g : Nat} {x : GroupSt} {ts : TrainSet} (hx : d.group g = some x) (hsync : d.groupSync g = true)
  (hlanes : ts.lanesOk = true) (hwidth : ts.width.toNat = x.width)
include hx hsync hlanes hwidth

theorem Dev.trainSet1_eq (hphase : x.phase = 0) (hg : g < 128) : d.trainSet1 g ts =
    let t := d.updGroup g fun x => { x with ts1 := x.ts1 + 1, farRates := ts.rates.toNat }
    if x.ts1 < 7 then t else (t.updGroup g fun x => { x with phase := 1, ts2 := 0 }).sendTraining g 2 0 := by
  have hcapo : ¬ 128 ≤ g := Nat.not_le.mpr hg
  have hcount : (d.updGroup g fun y => { y with ts1 := x.ts1 + 1, farRates := ts.rates.toNat }) =
      d.updGroup g fun y => { y with ts1 := y.ts1 + 1, farRates := ts.rates.toNat } := Dev.updGroup_congr hx rfl
  have hless : x.ts1 + 1 < 8 ↔ x.ts1 < 7 := by omega
  simp [Dev.trainSet1, hx, hphase, hsync, hlanes, hwidth, hcapo, hcount, hless]

theorem Dev.trainSet2_eq (hphase : x.phase = 1) : d.trainSet2 g ts =
    let t := d.updGroup g fun x => { x with ts2 := x.ts2 + 1 }
    if x.ts2 < 7 then t
    else (t.updGroup g fun x => { x with common := (x.farRates &&& 63) % 2 ^ (x.maxRate + 1), passed := 0 }).stepRate g := by
  have hcount : (d.updGroup g fun y => { y with ts2 := x.ts2 + 1 }) = d.updGroup g fun y => { y with ts2 := y.ts2 + 1 } :=
    Dev.updGroup_congr hx rfl
  have hless : x.ts2 + 1 < 8 ↔ x.ts2 < 7 := by omega
  simp [Dev.trainSet2, hx, hphase, hsync, hlanes, hwidth, hcount, hless]

end

/-! The reports of a dwell (R361 steps 5 and 6). -/

section
variable {d : Dev} {g : Nat} {x : GroupSt} (hx : d.group g = some x)
include hx

/-- A step that passed, as far as this end knows, waits for the far end's report. -/
theorem Dev.judge_unheard (hmine : x.mine = some true) (hfar : x.far = none) : d.judge g = d := by
  simp only [Dev.judge, hx, hmine, hfar]

theorem Dev.judge_unreported (hmine : x.mine = none) : d.judge g = d := by
  simp only [Dev.judge, hx, hmine]

theorem Dev.judge_passed (hmine : x.mine = some true) (hfar : x.far = some true) :
    d.judge g = (d.updGroup g fun x => { x with passed := x.rate }).stepRate g := by
  simp only [Dev.judge, hx, hmine, hfar]

theorem Dev.judge_failed (hmine : x.mine = some true) (hfar : x.far = some false) : d.judge g = d.stepBack g := by
  simp only [Dev.judge, hx, hmine, hfar]

/-- The far end's report is noted and judged. -/
theorem Dev.farReport_eq {ts : TrainSet} (hphase : x.phase = 3 ∨ x.phase = 4) (hlanes : ts.lanesOk = true) (ok : Bool) :
    d.farReport g ts ok = (d.updGroup g fun x => { x with far := some ok }).judge g := by
  have hdwell : (x.phase == 3 || x.phase == 4) = true := by simpa using hphase
  simp only [Dev.farReport, hx, hdwell, hlanes, Bool.and_self, if_true]

end

/-- The error counts of a dwell of n lanes stand in the lanes' checkers. -/
def Dev.dwellCounts (d : Dev) (g n : Nat) (err : Nat → Nat) : Dev :=
  (List.range n).foldl (fun d i => (Dev.wr d (LANE_PRBS_PATTERN (g + i)) 3).incSat (LANE_PRBS_ERRORS (g + i)) (err i)) d

theorem Dev.group_dwellCounts (d : Dev) (g n : Nat) (err : Nat → Nat) (p : Nat) : (d.dwellCounts g n err).group p = d.group p := by
  unfold Dev.dwellCounts
  refine foldl_keeps (fun t => Dev.group t p) ?_ _ d
  exact fun _ _ => rfl

/-- A dwell with few errors on every lane, whose far end has not reported: this end reports PASS. -/
theorem Dev.dwellReport_pass {d : Dev} {g : Nat} {x : GroupSt} {errs : List Nat} (hx : d.group g = some x) (hphase : x.phase = 3)
    (hactive : d.groupActive g = true) (hfar : x.far = none)
    (hfew : ∀ i < (groupLanes g x.width).length, errs.getD i 0 ≤
      (d.dwellCounts g (groupLanes g x.width).length fun i => errs.getD i 0).rd (LLP_GRP_CFG_DWELL_ERR g)) :
    d.dwellReport g errs = ((d.dwellCounts g (groupLanes g x.width).length fun i => errs.getD i 0).updGroup g fun x =>
      { x with phase := 4, mine := some true, errs := errs }).sendTraining g 3 0 := by
  have hcounted := (Dev.group_dwellCounts d g (groupLanes g x.width).length (fun i => errs.getD i 0) g).trans hx
  have hok : ((List.range (groupLanes g x.width).length).all fun i => decide (errs.getD i 0 ≤
      (d.dwellCounts g (groupLanes g x.width).length fun i => errs.getD i 0).rd (LLP_GRP_CFG_DWELL_ERR g))) = true := by
    simpa using hfew
  have hreport : d.dwellReport g errs = (((d.dwellCounts g (groupLanes g x.width).length fun i => errs.getD i 0).updGroup g fun x =>
      { x with phase := 4, mine := some true, errs := errs }).sendTraining g 3 0).judge g := by
    rw [Dev.dwellCounts] at hok ⊢
    simp only [Dev.dwellReport, hx, hphase, hactive, hok, ne_eq, not_true_eq_false, decide_false, Bool.not_true, Bool.or_self, Bool.false_eq_true,
      if_false, if_true]
  rw [hreport]
  exact Dev.judge_unheard ((Dev.group_sendTraining _ g 3 0 g).trans (Dev.group_updGroup hcounted _)) rfl hfar

/-! A step that fails, and an exchange that does not end (R102, R361 step 6, R362, R374). -/

section
variable {d : Dev} {g : Nat} {x : GroupSt} (hx : d.group g = some x)
include hx

/-- A lost sync steps back. -/
theorem Dev.resyncTimeout_eq (hphase : x.phase = 3 ∨ x.phase = 4) : d.resyncTimeout g = d.stepBack g := by
  have hdwell : (x.phase == 3 || x.phase == 4) = true := by simpa using hphase
  simp only [Dev.resyncTimeout, hx, hdwell, if_true]

theorem Dev.stepBack_idle (hrate : x.rate ≠ x.passed) (hcmd : x.cmd = none) : d.stepBack g = (d.groupRate g x.passed).trained g := by
  have hrate' : (x.rate == x.passed) = false := by simpa using hrate
  cases hbound : x.bound <;> simp only [Dev.stepBack, hx, hbound, hcmd, hrate', Bool.false_eq_true, if_false]

/-- A bound group's command is a retrain's LCTL: it ends as Bus error. -/
theorem Dev.stepBack_retrain {q seq : Nat} (hrate : x.rate ≠ x.passed) (hbound : x.bound = true) (hcmd : x.cmd = some (q, seq)) :
    d.stepBack g = ((((d.fix q seq .busError).updGroup g fun x => { x with cmd := none }).groupRate g x.passed).trained g) := by
  have hrate' : (x.rate == x.passed) = false := by simpa using hrate
  simp only [Dev.stepBack, hx, hbound, hcmd, hrate', Bool.false_eq_true, if_false]

section
variable (hphase : x.phase < 3) (hg : g < 128)
include hphase hg

/-- An exchange that has not come to its steps takes a bound group down. -/
theorem Dev.bringupTimeout_bound (hbound : x.bound = true) : d.bringupTimeout g = d.groupDown g := by
  have hup : (x.phase == 5) = false := by simp only [beq_eq_false_iff_ne]; omega
  simp only [Dev.bringupTimeout, hx, hup, hbound, Nat.not_le.mpr hphase, Nat.not_le.mpr hg, Bool.false_eq_true, if_false, if_true]

/-- An unbound group is given up. -/
theorem Dev.bringupTimeout_unbound (hbound : x.bound = false) (hcmd : x.cmd = none) : d.bringupTimeout g = d.unbindGroup g 0 := by
  have hup : (x.phase == 5) = false := by simp only [beq_eq_false_iff_ne]; omega
  simp only [Dev.bringupTimeout, hx, hup, hbound, hcmd, Nat.not_le.mpr hphase, Nat.not_le.mpr hg, Bool.false_eq_true, if_false]

/-- The LBIND that waits on it ends as Bus error. -/
theorem Dev.bringupTimeout_lbind {q seq : Nat} (hbound : x.bound = false) (hcmd : x.cmd = some (q, seq)) :
    d.bringupTimeout g = (d.fix q seq .busError).unbindGroup g 0 := by
  have hup : (x.phase == 5) = false := by simp only [beq_eq_false_iff_ne]; omega
  simp only [Dev.bringupTimeout, hx, hup, hbound, hcmd, Nat.not_le.mpr hphase, Nat.not_le.mpr hg, Bool.false_eq_true, if_false]

end

end

/-- Settles O38, by the phase of the exchange: each message or timer finds its group in one phase, and its equation says what follows. -/
theorem groupTraining : Obligations.GroupTraining := by
  intro s group x ts hx hg d g fits
  refine ⟨?ts1, ?ts2, ?reports, ?dwell, ?resync, ?givenUp, ?givenUpCmd, ?down⟩
  case ts1 =>
    intro hphase hsync ⟨hlanes, hwidth⟩
    have heq := Dev.trainSet1_eq hx hsync hlanes hwidth hphase hg
    refine ⟨fun hless => congrArg s.next (heq.trans (if_pos hless)), fun hlast => congrArg s.next (heq.trans ?_)⟩
    have heighth : (d.updGroup g fun x => { x with ts1 := x.ts1 + 1, farRates := ts.rates.toNat }) =
        d.updGroup g fun x => { x with ts1 := 8, farRates := ts.rates.toNat } := Dev.updGroup_congr hx (by rw [hlast])
    rw [if_neg (by omega), ← heighth]
  case ts2 =>
    intro hphase hsync ⟨hlanes, hwidth⟩
    have heq := Dev.trainSet2_eq hx hsync hlanes hwidth hphase
    refine ⟨fun hless => congrArg s.next (heq.trans (if_pos hless)), fun hlast => congrArg s.next (heq.trans ?_)⟩
    have heighth : (d.updGroup g fun x => { x with ts2 := x.ts2 + 1 }) = d.updGroup g fun x => { x with ts2 := 8 } :=
      Dev.updGroup_congr hx (by rw [hlast])
    rw [if_neg (by omega), ← heighth]
  case reports =>
    intro hphase hlanes told
    have htold (ok : Bool) : (told ok).group g = some { x with far := some ok } := Dev.group_updGroup hx _
    have hreport (ok : Bool) : d.farReport g ts ok = (told ok).judge g := Dev.farReport_eq hx hphase hlanes ok
    refine ⟨fun hmine => ⟨congrArg s.next ?_, congrArg s.next ?_⟩, fun hmine => ⟨congrArg s.next ?_, congrArg s.next ?_⟩⟩
    · exact (hreport true).trans (Dev.judge_unreported (htold true) hmine)
    · exact (hreport false).trans (Dev.judge_unreported (htold false) hmine)
    · exact (hreport true).trans (Dev.judge_passed (htold true) hmine rfl)
    · exact (hreport false).trans (Dev.judge_failed (htold false) hmine rfl)
  case dwell =>
    intro errs hphase hactive hfar n err d1 hfew
    have hcounts : d1 = d.dwellCounts g n err := rfl
    rw [hcounts] at hfew ⊢
    exact congrArg s.next (Dev.dwellReport_pass hx hphase hactive hfar hfew)
  case resync =>
    intro hphase hrate hbound
    have heq := Dev.resyncTimeout_eq hx hphase
    exact ⟨fun hcmd => congrArg s.next (heq.trans (Dev.stepBack_idle hx hrate hcmd)),
      fun q seq hcmd => congrArg s.next (heq.trans (Dev.stepBack_retrain hx hrate hbound hcmd))⟩
  case givenUp =>
    exact fun hphase hbound hcmd => congrArg s.next (Dev.bringupTimeout_unbound hx hphase hg hbound hcmd)
  case givenUpCmd =>
    exact fun q seq hphase hbound hcmd => congrArg s.next (Dev.bringupTimeout_lbind hx hphase hg hbound hcmd)
  case down =>
    exact fun hphase hbound => congrArg s.next (Dev.bringupTimeout_bound hx hphase hg hbound)

end Sys2Proof.Machine
end

section
/-!
The timebase (R83, R516 to R521): what a step leaves, and what an edge of the PPS input does.
-/
namespace Sys2Proof.Machine

/-! A Slate event, as the timebase raises them. -/

/-- A Slate event changes no field above those that count dropped records. -/
theorem Dev.rd_report_slate {d : Dev} {e : Ev} (hcls : e.cls = .slate) {g : Field} (hg : 2 ^ 25 ≤ g.key) : (d.report e).rd g = d.rd g := by
  have hdrop : (dropField .slate).key ≠ g.key := by
    show 31457664 ≠ _
    omega
  have hdropped : (ERR_STAT_DROPPED).key ≠ g.key := by
    show 31457549 ≠ _
    omega
  have hcount : (d.dropRecord .slate).rd g = d.rd g := (Dev.rd_wr_ne _ _ hdropped).trans (Dev.rd_wr_ne _ _ hdrop)
  have hrecord : ∀ l, ({ d with errq := l } : Dev).rd g = d.rd g := fun _ => rfl
  simp only [Dev.report, hcls, reduceCtorEq, if_false, apply_ite (fun t => Dev.rd t g), Dev.rd_burn, hcount, hrecord, ite_self]

theorem Dev.time_report (d : Dev) (e : Ev) : (d.report e).time = d.time := by
  simp only [Dev.report, apply_ite Dev.time, Dev.burn, Dev.dropRecord, Dev.set_eq, Dev.incSat_eq, Dev.wr_time, ite_self]

theorem setBit_zero_odd (n : Nat) : setBit n 0 true % 2 = 1 := by
  unfold setBit
  split
  case isTrue h => simpa using h
  case isFalse h => simp at h ⊢; omega

/-- The flag that an event sets reads 1. -/
theorem Dev.on_wrBit_true (d : Dev) {f : Field} (hw : f.width = 1) : (d.wrBit f 0 true).on f = true := by
  rw [Dev.wrBit_eq, Dev.on_wr, if_pos rfl, hw, Nat.pow_one, Nat.mod_mod, setBit_zero_odd]
  rfl

/-! A step of the timebase (R518, R521). -/

/-- The device with another state of its timebase. -/
def Dev.withTime (d : Dev) (t : TimeSt) : Dev := { d with time := t }

@[simp] theorem Dev.rd_withTime (d : Dev) (t : TimeSt) (g : Field) : (d.withTime t).rd g = d.rd g := rfl

@[simp] theorem Dev.on_withTime (d : Dev) (t : TimeSt) (g : Field) : (d.withTime t).on g = d.on g := rfl

@[simp] theorem Dev.time_withTime (d : Dev) (t : TimeSt) : (d.withTime t).time = t := rfl

theorem Dev.time_timeStep (d : Dev) (sec ns : Nat) :
    (d.timeStep sec ns).time = { d.time with sec := sec % 2 ^ 32, ns := ns, six := 0, frac := 0 } := Dev.time_report _ _

theorem Dev.rd_timeStep {d : Dev} {sec ns : Nat} {g : Field} (hg : 2 ^ 25 ≤ g.key) (hs : (TB_STAT_STEPPED).key ≠ g.key)
    (hu : (TB_STAT_UNTRUE).key ≠ g.key) : (d.timeStep sec ns).rd g = d.rd g :=
  (Dev.rd_report_slate rfl hg).trans ((Dev.rd_wr_ne _ _ hs).trans (Dev.rd_wr_ne _ _ hu))

theorem Dev.stepped_timeStep (d : Dev) (sec ns : Nat) : (d.timeStep sec ns).on TB_STAT_STEPPED = true := by
  rw [Dev.timeStep, Dev.raise, Dev.on, Dev.rd_report_slate rfl (by decide)]
  exact Dev.on_wrBit_true _ rfl

theorem Dev.true_timeStep (d : Dev) (sec ns : Nat) : (d.timeStep sec ns).on TB_STAT_UNTRUE = false := by
  rw [Dev.timeStep, Dev.raise, Dev.on, Dev.rd_report_slate rfl (by decide), Dev.wrBit_eq, Dev.rd_wr_ne _ _ (by decide)]
  exact congrArg (· % 2 == 1) (Dev.rd_wr_same _ TB_STAT_UNTRUE 0)

/-- With no command in progress and no wake set, a step is all that happens. -/
theorem Dev.stepped_eq {d : Dev} (hrun : d.runningCmds = []) (hwake : d.on TB_WAKE_EN = false) (sec ns : Nat) :
    d.stepped sec ns = d.timeStep sec ns := by
  have hqueues : (d.timeStep sec ns).runningCmds = [] := by
    rw [Dev.runningCmds_eq, Dev.timeStep, Dev.raise_queues]
    exact hrun
  have hwake' : (d.timeStep sec ns).on TB_WAKE_EN = false := by
    rw [Dev.on, Dev.rd_timeStep (by decide) (by decide) (by decide)]
    exact hwake
  have hdue : (d.timeStep sec ns).wakeDue = false := by simp only [Dev.wakeDue, hwake', Bool.false_and]
  simp only [Dev.stepped, Dev.settleTimes, hqueues, List.foldl_nil, Dev.timebaseWake, hdue, Bool.false_eq_true, if_false]

/-! A PPS edge (R519, R520). -/

theorem ppsError_neg {ns : Nat} (h : ns < 1000000000) : ppsError ns < 0 ↔ ¬ ns < 500000000 := by
  unfold ppsError
  split <;> omega

/-- Locked within 100 ns of a second. -/
theorem ppsError_small {ns : Nat} (h : ns < 1000000000) : (-100 ≤ ppsError ns ∧ ppsError ns ≤ 100) ↔ (ns ≤ 100 ∨ 999999900 ≤ ns) := by
  unfold ppsError
  split <;> omega

/-- What a valid edge shows before it acts: the captured stamp, the error, and whether it is small. -/
def Dev.ppsShown (d : Dev) : Dev :=
  let d := d.wr TB_PPSCAP_CAP d.stamp
  let err := ppsError d.time.ns
  let d := (d.clr TB_STAT_HOLDOVER).wr TB_STAT_ERR (unsigned 32 err)
  d.wr TB_STAT_LOCKED (b2n (decide (-100 ≤ err ∧ err ≤ 100)))

/-- The nearest second. -/
def Dev.nearestSec (d : Dev) : Nat := d.time.sec + if ppsError d.time.ns < 0 then 1 else 0

theorem Dev.rd_ppsShown {d : Dev} {g : Field} (hg : g.key ∉ [(TB_PPSCAP_CAP).key, (TB_STAT_HOLDOVER).key, (TB_STAT_ERR).key, (TB_STAT_LOCKED).key]) :
    d.ppsShown.rd g = d.rd g := by
  simp only [List.mem_cons, List.not_mem_nil, or_false, not_or] at hg
  obtain ⟨hcap, hhold, herr, hlock⟩ := hg
  rw [Dev.ppsShown, Dev.rd_wr_ne _ _ (Ne.symm hlock), Dev.rd_wr_ne _ _ (Ne.symm herr), Dev.clr_eq, Dev.rd_wr_ne _ _ (Ne.symm hhold),
    Dev.rd_wr_ne _ _ (Ne.symm hcap)]

theorem Dev.stamp_lt (d : Dev) : d.stamp < 2 ^ 64 := by
  unfold Dev.stamp
  omega

theorem Dev.cap_ppsShown (d : Dev) : d.ppsShown.rd TB_PPSCAP_CAP = d.stamp := by
  rw [Dev.ppsShown, Dev.rd_wr_ne _ _ (by decide), Dev.rd_wr_ne _ _ (by decide), Dev.clr_eq, Dev.rd_wr_ne _ _ (by decide), Dev.rd_wr_same]
  exact Nat.mod_eq_of_lt d.stamp_lt

theorem Dev.holdover_ppsShown (d : Dev) : d.ppsShown.rd TB_STAT_HOLDOVER = 0 := by
  rw [Dev.ppsShown, Dev.rd_wr_ne _ _ (by decide), Dev.rd_wr_ne _ _ (by decide), Dev.clr_eq, Dev.rd_wr_same, Nat.zero_mod]

theorem b2n_decide_mod (p : Prop) [Decidable p] : b2n (decide p) % 2 ^ 1 = 1 ↔ p := by
  by_cases h : p <;> simp [h, b2n]

theorem Dev.locked_ppsShown {d : Dev} (hns : d.time.ns < 1000000000) :
    d.ppsShown.rd TB_STAT_LOCKED = 1 ↔ (d.time.ns ≤ 100 ∨ 999999900 ≤ d.time.ns) := by
  rw [Dev.ppsShown, Dev.rd_wr_same, ← ppsError_small hns]
  exact b2n_decide_mod _

section
variable {d : Dev} (hen : d.on TB_CTL_PPS_EN = true) (hpin : d.pinOwner 40 = 6) (hrun : d.time.run = true)
include hen hpin hrun

theorem Dev.ppsEdge_invalid (hvalid : d.ppsValid = false) (learned : Int) : d.ppsEdge learned = d.wr TB_PPSCAP_CAP d.stamp := by
  simp [Dev.ppsEdge, hen, hpin, hrun, hvalid]

/-- With MODE 0 a valid edge steps to the nearest second. -/
theorem Dev.ppsEdge_steps (hvalid : d.ppsValid = true) (hmode : d.on TB_CTL_MODE = false) (learned : Int) :
    d.ppsEdge learned = (d.ppsShown.stepped d.nearestSec 0).withTime
      { (d.ppsShown.stepped d.nearestSec 0).time with lastPps := some (d.ppsShown.stepped d.nearestSec 0).nowNs } := by
  have hmode' : d.ppsShown.on TB_CTL_MODE = false := by
    rw [Dev.on, Dev.rd_ppsShown (by decide)]
    exact hmode
  have hacts : (!d.ppsShown.on TB_CTL_MODE || decide (1000000 < ppsError d.time.ns ∨ ppsError d.time.ns < -1000000)) = true := by
    rw [hmode', Bool.not_false, Bool.true_or]
  unfold Dev.ppsEdge
  rw [if_neg (by simp [hen, hpin, hrun])]
  extract_lets ok captured err sec cleared shown acted
  rw [if_neg (by simp [ok, hvalid])]
  have hacted : acted = d.ppsShown.stepped d.nearestSec 0 := if_pos hacts
  clear_value acted
  subst hacted
  rfl

end

/-- An edge that is 1.1 s away is missing. -/
theorem Dev.ppsHoldover_late {d : Dev} {t0 : Nat} (hen : d.on TB_CTL_PPS_EN = true) (hhold : d.on TB_STAT_HOLDOVER = false)
    (hrun : d.time.run = true) (hlast : d.time.lastPps = some t0) (hlate : 1100000000 ≤ d.since t0) :
    d.ppsHoldover = d.raise { cls := .slate, flag := TB_STAT_HOLDOVER } := by
  simp only [Dev.ppsHoldover, hlast, hen, hhold, hrun, hlate, decide_true, Bool.not_false, Bool.and_self, if_true]

theorem Dev.ppsHoldover_early {d : Dev} {t0 : Nat} (hlast : d.time.lastPps = some t0) (hearly : d.since t0 < 1100000000) :
    d.ppsHoldover = d := by
  simp only [Dev.ppsHoldover, hlast, Nat.not_le.mpr hearly, decide_false, Bool.and_false, Bool.false_eq_true, if_false]

/-! TB_CTL and TB_NOW (R518). -/

theorem Dev.on_take_pps {d : Dev} (w : RegWr) : ((d.take w TB_CTL_PPS_EN).take w TB_CTL_MODE).rd TB_SET_NS = d.rd TB_SET_NS := by
  rw [Dev.take_eq, Dev.rd_wr_ne _ _ (by decide), Dev.take_eq, Dev.rd_wr_ne _ _ (by decide)]

/-- SET, with the PPS input enabled before. -/
theorem Dev.tbCtlWrite_set {d : Dev} {w : RegWr} (hset : w.one TB_CTL_SET = true) (hen : d.on TB_CTL_PPS_EN = true) :
    d.tbCtlWrite w =
      let took := (d.take w TB_CTL_PPS_EN).take w TB_CTL_MODE
      if 999999999 < d.rd TB_SET_NS then took.wr CLK_STAT_CFGERR 1 else { took with time := { d.time with load := true } } := by
  simp only [Dev.tbCtlWrite, hset, hen, Dev.on_take_pps, Bool.not_true, Bool.false_and, Bool.false_eq_true, if_false, decide_eq_true_eq]
  rfl

/-- A timebase that has a loaded time takes it. -/
theorem Dev.timebaseStep_load {d : Dev} (hload : d.time.load = true) (hrun : d.time.run = true) :
    d.timebaseStep = (d.withTime { d.time with load := false }).stepped (d.rd TB_SET_SEC) (d.rd TB_SET_NS) := by
  simp only [Dev.timebaseStep, Dev.withTime, hload, hrun, Bool.and_self, if_true]

/-- Settles O51, command by command: a step leaves its time and its flags, an edge shows what it finds and then steps. -/
theorem timebaseRules : Obligations.TimebaseRules := by
  intro s w d
  refine ⟨?set, ?step, ?now, ?edge, ?holdover⟩
  case set =>
    intro hreach hset hen took
    exact congrArg s.next ((Dev.onWrite_ok hreach _ _).trans (Dev.tbCtlWrite_set hset hen))
  case step =>
    intro hload hrun hcmds hwake
    refine ⟨_, rfl, ?_⟩
    have hstep := Dev.stepped_eq (d := d.withTime { d.time with load := false }) hcmds hwake (d.rd TB_SET_SEC) (d.rd TB_SET_NS)
    rw [Dev.timebaseStep_load hload hrun, hstep]
    exact ⟨Dev.time_timeStep _ _ _, Dev.stepped_timeStep _ _ _, Dev.true_timeStep _ _ _⟩
  case now =>
    intro p hread
    have hnow : d.onRead (.tbNowRead (.host p)) (.host p) 0x420010 Dev.tbNow = (d.wr TB_SECHI_SEC d.time.sec).emit (.regData (.host p) d.stamp) := by
      simp only [Dev.onRead, hread, Dev.tbNow]
    exact congrArg s.next hnow
  case edge =>
    intro learned hen hpin hrun
    refine ⟨fun hvalid => congrArg s.next (Dev.ppsEdge_invalid hen hpin hrun hvalid _), fun hvalid hmode hcmds hwake hns => ⟨_, rfl, ?_⟩⟩
    have hwake' : d.ppsShown.on TB_WAKE_EN = false := by
      rw [Dev.on, Dev.rd_ppsShown (by decide)]
      exact hwake
    rw [Dev.ppsEdge_steps hen hpin hrun hvalid hmode, Dev.stepped_eq (d := d.ppsShown) hcmds hwake']
    have hrd {g : Field} (hg : 2 ^ 25 ≤ g.key) (hs : (TB_STAT_STEPPED).key ≠ g.key) (hu : (TB_STAT_UNTRUE).key ≠ g.key) :=
      Dev.rd_timeStep (d := d.ppsShown) (sec := d.nearestSec) (ns := 0) hg hs hu
    refine ⟨?_, ?_, ?_, ?_, ?_⟩
    · rw [Dev.rd_withTime, hrd (by decide) (by decide) (by decide), Dev.cap_ppsShown]
    · rw [Dev.time_withTime, Dev.time_timeStep]
    · rw [Dev.time_withTime, Dev.time_timeStep, Dev.nearestSec]
      simp only [ppsError_neg hns, ite_not]
    · rw [Dev.on_withTime, Dev.on, hrd (by decide) (by decide) (by decide), Dev.holdover_ppsShown]
      rfl
    · rw [Dev.rd_withTime, hrd (by decide) (by decide) (by decide), Dev.locked_ppsShown hns]
  case holdover =>
    intro t0 hen hhold hrun hlast
    exact ⟨fun hlate => congrArg s.next (Dev.ppsHoldover_late hen hhold hrun hlast hlate),
      fun hearly => congrArg s.next (Dev.ppsHoldover_early hlast hearly)⟩

end Sys2Proof.Machine
end

section
/-!
The row port (R90, R229, R230, R273 to R275): what a request, an admission, a row and a slice leave at the port of one tile.
-/
namespace Sys2Proof.Machine

/-! Pins without faults (R160, R250). -/

theorem Dev.senseWord_sound (d : Dev) (f t : Nat) (k : Iface) (p lo w : Nat) : d.senseWord f t k p lo w [] = (d.pinsValue f t k p lo w, d) := by
  simp [Dev.senseWord]

theorem Dev.synced_resolved (d : Dev) (w v : Nat) : d.synced false w v = (v, d) := rfl

/-! Requests and admission (R229, R275). -/

section
variable {d : Dev} {t : Nat}

/-- The request of the fabric waits at the port as the pins give it. -/
theorem Dev.rowRequest_eq {h buf : Nat} {k : Kernel} (hlive : d.live t = true) (hphase : d.phaseOf t = 1) (hdrive : d.kdrive t = true)
    (hnone : KMap.find d.rowReqs (8 * t + d.shown t) = none)
    (hpins : d.pinsReady (d.shown t) t .rowCtl (d.usedPins (d.shown t) t .rowCtl 20) = true) (hkernel : d.shownKernel t = some (h, k))
    (hbind : KMap.find k.binds (d.portBits (d.shown t) t 1282 4) = some ⟨1, buf⟩) :
    d.rowRequest t ⟨[], false⟩ =
      let v := d.pinsValue (d.shown t) t .rowCtl 0 0 20 + 2 ^ 20 * d.pinsValue (d.shown t) t .rowCtl 1 0 1
      { d.pinsTake (d.shown t) t .rowCtl (d.usedPins (d.shown t) t .rowCtl 20) with
        rowReqs := KMap.put d.rowReqs (8 * t + d.shown t) ⟨buf, v % 2 ^ 20, v.testBit 20, none, false, 0⟩ } := by
  simp only [Dev.rowRequest, hlive, hphase, hdrive, hnone, hpins, hkernel, hbind, Dev.senseWord_sound, Dev.synced_resolved, Option.isNone_none,
    beq_self_eq_true, Bool.and_self, if_true]

/-- A move that waits is admitted in its column's turn. -/
theorem Dev.rowMoveAdmit_eq {r : RowReq} (hwaits : d.moveWaits t = true) (hturn : d.moveColumn = some (colOfTile t)) (hnext : d.rowNext t = some r) :
    d.rowMoveAdmit t = { d.wr STORE_MOVE_THROTTLED (d.rd STORE_MOVE_THROTTLED + 1) with
      moveTurn := colOfTile t, rowReqs := KMap.put d.rowReqs (8 * t + d.shown t) { r with admitted := true } } := by
  simp only [Dev.rowMoveAdmit, hwaits, hturn, hnext, bne_self_eq_false, Bool.not_true, Bool.or_self, Bool.false_eq_true, if_false]
  rfl

end

/-! A row crosses between its bank and the port (R230, R273, R274). -/

section
variable {d : Dev} {t x : Nat} {r : RowReq} {b : Buffer} (hlive : d.live t = true) (hport : d.rowPortOn t = true) (hopen : d.storeOpen = true)
  (hnext : d.rowNext t = some r) (hbuf : d.buffer r.buf = some b) (hseal : b.sealed = false) (hrow : b.rows.getD r.row none = some x)
  (hcol : x / 8192 = colOfTile t) (hgate : d.gateRow .device b.key x = .serve)
include hlive hport hopen hnext hbuf hseal hrow hcol hgate

/-- A row for the fabric enters the register as its command sees it. -/
theorem Dev.rowMove_out (hdir : r.toBank = false) (hfree : d.rowRegFree t = true) (hphase : d.phaseOf t = 1) :
    d.rowMove t =
      let d1 : Dev := { d.wr STORE_MOVE_MOVES (d.rd STORE_MOVE_MOVES + 1) with rowReqs := KMap.put d.rowReqs (8 * t + d.shown t) r }
      d1.setRowReg t ⟨false, 0, (d1.rowSeen t r x).1, (d1.rowSeen t r x).2, x⟩ := by
  simp only [Dev.rowMove, hlive, hport, hopen, hnext, hbuf, hseal, hrow, hcol, hgate, hdir, hfree, hphase, bne_self_eq_false, beq_self_eq_true,
    Bool.not_true, Bool.or_self, Bool.and_self, Bool.false_eq_true, if_false, if_true]
  rfl

/-- A row whose slices have all come goes to the bank. -/
theorem Dev.rowMove_in {g : RowReg} (hdir : r.toBank = true) (hreg : d.rowReg t = some g) (hin : g.toBank = true) (hfull : g.slices = 8) :
    d.rowMove t = d.storeRow t r b x g.bytes := by
  simp only [Dev.rowMove, hlive, hport, hopen, hnext, hbuf, hseal, hrow, hcol, hgate, hdir, hreg, hin, hfull, bne_self_eq_false, beq_self_eq_true,
    Bool.not_true, Bool.or_self, Bool.and_self, Bool.false_eq_true, if_false, if_true]

end

/-- The port's register emptied, the move counted and the row stored. -/
def Dev.rowStored (d : Dev) (t x : Nat) (bytes : List Byte) : Dev :=
  (((d.delRowReg t).inc STORE_MOVE_MOVES).putRow x bytes).mirror (512 * x) 512

section
variable {d : Dev} {t x : Nat} {r : RowReq} {b : Buffer} {bytes : List Byte} (hcommit : b.commit = false)
include hcommit

theorem Dev.storeRow_unowned (howner : d.moveOwner t r = none) : d.storeRow t r b x bytes = (d.rowStored t x bytes).rowDone t r := by
  simp only [Dev.storeRow, howner, hcommit, Bool.false_eq_true, if_false, Dev.rowStored]

theorem Dev.storeRow_owned {q : Nat} {e : Entry} (howner : d.moveOwner t r = some (q, e)) : d.storeRow t r b x bytes =
    ((d.rowStored t x bytes).updEntry q e.seq fun e => { e with wrote := (r.buf, 512 * r.row, 512) :: e.wrote }).rowDone t r := by
  simp only [Dev.storeRow, howner, hcommit, Bool.not_false, if_true, Dev.rowStored]

end

/-! Slices (R230) and the end of a ROWMOVE (R90, R231). -/

/-- The port takes the next slice of a row that comes from the fabric. -/
theorem Dev.rowSlice_in {d : Dev} {t : Nat} {g : RowReg} (hlive : d.live t = true) (hport : d.rowPortOn t = true) (hreg : d.rowReg t = some g)
    (hin : g.toBank = true) (hleft : g.slices < 8)
    (hpins : d.pinsReady (d.shown t) t .rowData (d.usedPins (d.shown t) t .rowData 512) = true) :
    d.rowSlice t ⟨[], false⟩ = (d.pinsTake (d.shown t) t .rowData (d.usedPins (d.shown t) t .rowData 512)).setRowReg t
      { g with slices := g.slices + 1, bytes := g.bytes ++ bytesLE 64 (d.pinsValue (d.shown t) t .rowData 0 0 512) } := by
  simp only [Dev.rowSlice, hlive, hport, hreg, hin, hleft, hpins, Dev.sliceIn, Dev.senseWord_sound, Dev.synced_resolved, decide_true, Bool.not_true,
    Bool.or_self, Bool.and_self, Bool.false_eq_true, if_false, if_true]

/-- The port's counts once a row has moved. -/
def Dev.rowCounted (d : Dev) (t : Nat) : Dev :=
  { d.wr (FABRIC_ROWP_STAT_ROWS t) (d.rd (FABRIC_ROWP_STAT_ROWS t) + 1) with rowReqs := KMap.del d.rowReqs (8 * t + d.shown t) }

/-- The last row of a ROWMOVE, none of which failed, ends it. -/
theorem Dev.rowDone_last {d : Dev} {t q seq : Nat} {r : RowReq} {e : Entry} {kern : BitVec 16} {buf : BitVec 24} {port : BitVec 4} {dir : Bool}
    {first count : BitVec 20} (hcmd : r.cmd = some (q, seq))
    (hentry : ((d.rowCounted t).updEntry q seq fun e => { e with aux := e.aux.set 0 (e.aux.getD 0 0 + 1) }).entry q seq = some e)
    (he : e.cmd = some (.rowmove kern buf port dir first count)) (hall : e.aux.getD 0 0 = count.toNat) (hgood : e.aux.getD 1 0 = 0) :
    d.rowDone t r = ((d.rowCounted t).updEntry q seq fun e => { e with aux := e.aux.set 0 (e.aux.getD 0 0 + 1) }).fix q seq .ok
      (.ofNat 64 count.toNat) := by
  simp only [Dev.rowCounted] at hentry
  simp only [Dev.rowDone, Dev.rowCounted, hcmd, Dev.inc_eq, hentry, he, hall, hgood, beq_self_eq_true, Nat.reduceBEq, Bool.false_eq_true, if_false,
    if_true]

/-- Settles O24, move by move: each of the port's operations finds what its equation needs. -/
theorem rowPort : Obligations.RowPort := by
  intro s tile d t f
  refine ⟨?request, ?served, ?row, ?slice, ?last⟩
  case request =>
    exact fun h k buf hlive hphase hdrive hnone hpins hkernel hbind =>
      congrArg s.next (Dev.rowRequest_eq hlive hphase hdrive hnone hpins hkernel hbind)
  case served =>
    exact fun r hwaits hturn hnext => congrArg s.next (Dev.rowMoveAdmit_eq hwaits hturn hnext)
  case row =>
    intro r b x hlive hport hopen hnext hbuf hseal hrow hcol hgate
    refine ⟨fun hdir hfree hphase => ?_, fun g hdir hreg hin hfull hcommit => ?_⟩
    · exact congrArg s.next (Dev.rowMove_out hlive hport hopen hnext hbuf hseal hrow hcol hgate hdir hfree hphase)
    · have hstore := Dev.rowMove_in hlive hport hopen hnext hbuf hseal hrow hcol hgate hdir hreg hin hfull
      exact ⟨fun howner => congrArg s.next (hstore.trans (Dev.storeRow_unowned hcommit howner)),
        fun q e howner => congrArg s.next (hstore.trans (Dev.storeRow_owned hcommit howner))⟩
  case slice =>
    exact fun g hlive hport hreg hin hleft hpins => congrArg s.next (Dev.rowSlice_in hlive hport hreg hin hleft hpins)
  case last =>
    intro r q seq e kern buf port dir first count hcmd d1 hentry he hall hgood
    exact Dev.rowDone_last hcmd hentry he hall hgood

end Sys2Proof.Machine
end

section
/-!
The commands on kernels (R94 to R99, R131, R184, R234): KRUN, KSTOP, KBIND, KPARAM, KSWITCH and KRETIRE.
-/
namespace Sys2Proof.Machine

/-! What these commands read, across the acceptance of a command. -/

section
variable {d t : Dev} {q : Nat} {fs : List Field} (h : d.queueStep t q fs)
include h

theorem Dev.homeOf_queueStep (k : Kernel) : t.homeOf k = d.homeOf k := by
  rw [Dev.queueStep_eq h]
  rfl

theorem Dev.ensembles_queueStep : t.ensembles = d.ensembles := by
  rw [Dev.queueStep_eq h]

theorem Dev.migrations_queueStep : t.migrations = d.migrations := by
  rw [Dev.queueStep_eq h]

theorem Dev.onTheMove_queueStep (k : Kernel) : t.onTheMove k = d.onTheMove k := by
  rw [Dev.queueStep_eq h]
  rfl

theorem Dev.slotType_queueStep (k : Kernel) (slot : Nat) : t.slotType k slot = d.slotType k slot := by
  rw [Dev.queueStep_eq h]
  rfl

theorem Dev.kernelGroups_queueStep (kern : Nat) : t.kernelGroups kern = d.kernelGroups kern := by
  rw [Dev.queueStep_eq h]
  rfl

theorem Dev.kernels_queueStep : t.kernels = d.kernels := by
  rw [Dev.queueStep_eq h]

theorem Dev.stamp_queueStep : t.stamp = d.stamp := by
  rw [Dev.queueStep_eq h]
  rfl

end

section
variable {d : Dev} {q : Nat} {c : Cmd} {f : CmdFlags} {env : CmdEnv} (h : d.takesNow q c f)
include h

theorem Dev.shown_begun (t : Nat) : (d.begun q c f env).shown t = d.shown t :=
  Dev.rd_begun h (.inr (by simp only [Field.key, FRET_STAT_SHOWN]; omega))

theorem Dev.gate_begun (i : Nat) : (d.begun q c f env).gate i = d.gate i := by
  rw [Dev.gate, Dev.bit, Dev.rd_begun h (by decide), Dev.gate, Dev.bit]

theorem Dev.diesOpen_begun (ts : List Nat) : (d.begun q c f env).diesOpen ts = d.diesOpen ts := by
  simp only [Dev.diesOpen, Dev.gate_begun h]

theorem Dev.planeReady_begun (a g : Nat) : (d.begun q c f env).planeReady a g = d.planeReady a g := by
  have hnextv (t : Nat) : (d.begun q c f env).on (FRET_STAT_NEXTV t) = d.on (FRET_STAT_NEXTV t) := by
    rw [Dev.on, Dev.rd_begun h (.inr (by simp only [Field.key, FRET_STAT_NEXTV]; omega)), Dev.on]
  have hnext (t : Nat) : (d.begun q c f env).rd (FRET_STAT_NEXT t) = d.rd (FRET_STAT_NEXT t) :=
    Dev.rd_begun h (.inr (by simp only [Field.key, FRET_STAT_NEXT]; omega))
  simp only [Dev.planeReady, Dev.ensembles_queueStep (Dev.begun_queueStep h), hnextv, hnext]

/-- A command whose work changes no queue and leaves it waiting. -/
theorem Dev.submit_left {w t : Dev} {e : Entry} (hhandles : d.handlesReady c) (hlacks : lacksImage c env = false) (ha : allocates c = false)
    (hwork : (d.begun q c f env).work q (d.begunEntry q c f env) c = t.waiting) (hw : w.working q (d.nextSeq q) c e)
    (ht : t.queues = w.queues) : d.submit q c f env = t := by
  have hentry : t.entry q (d.nextSeq q) = some e := by
    have hsame : t.entry q (d.nextSeq q) = w.entry q (d.nextSeq q) := by simp only [Dev.entry, Dev.journal, Dev.queue, ht]
    exact hsame.trans (Dev.entry_sole hw.tosole)
  rw [Dev.submit_working h hlacks hhandles ha, hwork]
  exact Dev.settle_open hentry hw.fin

/-- A command whose work is over. -/
theorem Dev.submit_settles {t : Dev} {st : Status} {r : Nat} (hhandles : d.handlesReady c) (hlacks : lacksImage c env = false)
    (ha : allocates c = false) (hwork : (d.begun q c f env).work q (d.begunEntry q c f env) c = t.over st r) :
    d.submit q c f env = t.settle q (d.nextSeq q) (some (st, .ofNat 64 r)) := by
  rw [Dev.submit_working h hlacks hhandles ha, hwork]
  rfl

end

/-- The handles of a command that names one kernel, which is ready. -/
theorem Dev.handlesReady_kernel {d : Dev} {c : Cmd} {h : Nat} {k : Kernel} (hk : d.kernel h = some k) (hr : k.ready = true)
    (hc : c.kernels = [h]) (hb : c.buffers = []) (ht : c.tables = []) : d.handlesReady c := by
  refine ⟨fun x hx => ?_, by simp [hb], by simp [ht]⟩
  rw [hc, List.mem_singleton] at hx
  subst hx
  exact ⟨k, hk, hr⟩

/-! KRUN (R94). -/

/-- A kernel's run that a command has made, and no START has begun. -/
def Dev.withRun (d : Dev) (q n h : Nat) : Dev := d.updKernel h fun k => { k with run := some ⟨q, n, false, none, none⟩ }

section
variable (d : Dev) (q n h : Nat)

theorem Dev.homeOf_withRun (k : Kernel) : (d.withRun q n h).homeOf k = d.homeOf k := by
  unfold Dev.withRun Dev.updKernel
  split <;> rfl

theorem Dev.ensembles_withRun : (d.withRun q n h).ensembles = d.ensembles := by
  unfold Dev.withRun Dev.updKernel
  split <;> rfl

theorem Dev.migrations_withRun : (d.withRun q n h).migrations = d.migrations := by
  unfold Dev.withRun Dev.updKernel
  split <;> rfl

theorem Dev.shown_withRun (t : Nat) : (d.withRun q n h).shown t = d.shown t := by
  unfold Dev.withRun Dev.updKernel
  split <;> rfl

end

/-- A kernel whose run may start at once: it is shown, in an ensemble that runs and does not move. -/
def Dev.startsNow (d : Dev) (k : Kernel) : Prop :=
  (∃ e, KMap.find d.ensembles (d.homeOf k) = some e ∧ e.phase = 1) ∧ d.shown k.anchor = k.fret ∧
    KMap.find d.migrations (d.homeOf k) = none

theorem Dev.startsNow_begun {d : Dev} {q : Nat} {c : Cmd} {f : CmdFlags} {env : CmdEnv} (h : d.takesNow q c f) (k : Kernel) :
    (d.begun q c f env).startsNow k ↔ d.startsNow k := by
  have hstep := Dev.begun_queueStep h (env := env)
  rw [Dev.startsNow, Dev.ensembles_queueStep hstep, Dev.migrations_queueStep hstep, Dev.homeOf_queueStep hstep, Dev.shown_begun h,
    Dev.startsNow]

section
variable {d : Dev} {q n kern : Nat} {k : Kernel} (hk : d.kernel kern = some k) (hrel : k.released = false) (hrun : k.run = none)
  (hopen : d.diesOpen k.where = true)
include hk hrel hrun hopen

theorem Dev.workRun_starts (hup : d.startsNow k) : d.workRun q n kern = ((d.withRun q n kern).startKernel kern).waiting := by
  obtain ⟨⟨e, he, hphase⟩, hshown, hmig⟩ := hup
  have hens : KMap.find (d.withRun q n kern).ensembles ((d.withRun q n kern).homeOf k) = some e := by
    rw [Dev.ensembles_withRun, Dev.homeOf_withRun, he]
  have hstill : KMap.find (d.withRun q n kern).migrations ((d.withRun q n kern).homeOf k) = none := by
    rw [Dev.migrations_withRun, Dev.homeOf_withRun, hmig]
  have hsees : (d.withRun q n kern).shown k.anchor = k.fret := (Dev.shown_withRun d q n kern _).trans hshown
  rw [Dev.withRun] at hens hstill hsees
  simp only [Dev.workRun, hk, hrel, hrun, hopen, hens, hphase, hsees, hstill, Bool.not_true, Bool.false_eq_true, if_false, beq_self_eq_true,
    Option.isNone_none, Bool.and_self, if_true]
  rfl

theorem Dev.workRun_waits (hup : ¬ d.startsNow k) :
    d.workRun q n kern = (((d.withRun q n kern).trigger (d.homeOf k) (.run k.fret)).preloadNext (d.homeOf k)).waiting := by
  have hhome := Dev.homeOf_withRun d q n kern k
  have hens := Dev.ensembles_withRun d q n kern
  have hmig := Dev.migrations_withRun d q n kern
  have hshown := Dev.shown_withRun d q n kern k.anchor
  rw [Dev.withRun] at hhome hens hmig hshown
  simp only [Dev.workRun, hk, hrel, hrun, hopen, hhome, hens, hmig, hshown, Bool.not_true, Bool.false_eq_true, if_false]
  rw [if_neg]
  · rfl
  · intro hcond
    simp only [Bool.and_eq_true, beq_iff_eq, Option.isNone_iff_eq_none] at hcond
    obtain ⟨⟨hphase, hsees⟩, hstill⟩ := hcond
    refine hup ⟨?_, hsees, hstill⟩
    revert hphase
    split
    · exact fun hphase => ⟨_, ‹_›, beq_iff_eq.mp hphase⟩
    · exact fun hphase => absurd hphase Bool.false_ne_true

end

section
variable {d : Dev} {q : QId} {f : CmdFlags} {kern : BitVec 16} {k : Kernel} (h : d.ready q.val 1) (hk : d.kernel kern.toNat = some k)
  (hr : k.ready = true) (hrel : k.released = false) (hrun : k.run = none) (hopen : d.diesOpen k.where = true)
include h hk hr hrel hrun hopen

theorem Dev.submit_krun_starts (hup : d.startsNow k) : d.submit q.val (.krun kern) f .none =
    ((d.begun q.val (.krun kern) f .none).withRun q.val (d.nextSeq q.val) kern.toNat).startKernel kern.toNat := by
  have htakes : d.takesNow q.val (.krun kern) f := Dev.takesNow_of_ready h rfl rfl rfl rfl
  have hstep := Dev.begun_queueStep htakes (env := .none)
  have hworking := Dev.begun_working htakes (env := .none)
  refine Dev.submit_left htakes (Dev.handlesReady_kernel hk hr rfl rfl rfl) rfl rfl ?_ hworking (by simp [Dev.withRun])
  rw [Dev.work, hworking.seq]
  refine Dev.workRun_starts ((Dev.kernel_queueStep hstep _).trans hk) hrel hrun ((Dev.diesOpen_begun htakes _).trans hopen) ?_
  rwa [Dev.startsNow_begun htakes]

theorem Dev.submit_krun_waits (hup : ¬ d.startsNow k) : d.submit q.val (.krun kern) f .none =
    (((d.begun q.val (.krun kern) f .none).withRun q.val (d.nextSeq q.val) kern.toNat).trigger (d.homeOf k) (.run k.fret)).preloadNext
      (d.homeOf k) := by
  have htakes : d.takesNow q.val (.krun kern) f := Dev.takesNow_of_ready h rfl rfl rfl rfl
  have hstep := Dev.begun_queueStep htakes (env := .none)
  have hworking := Dev.begun_working htakes (env := .none)
  refine Dev.submit_left htakes (Dev.handlesReady_kernel hk hr rfl rfl rfl) rfl rfl ?_ hworking (by simp [Dev.withRun])
  rw [Dev.work, hworking.seq, ← Dev.homeOf_queueStep hstep k]
  refine Dev.workRun_waits ((Dev.kernel_queueStep hstep _).trans hk) hrel hrun ((Dev.diesOpen_begun htakes _).trans hopen) ?_
  rwa [Dev.startsNow_begun htakes]

end

/-! KSTOP (R95). -/

/-- No ROWMOVE is in progress where one other command is. -/
theorem Dev.stopMoves_own {d : Dev} {q kern : Nat} {c : Cmd} {e : Entry} (hrun : d.runningCmds = [(q, e)]) (he : e.cmd = some c)
    (hc : ∀ k b p dir m n, c ≠ .rowmove k b p dir m n) : d.stopMoves kern = d := by
  simp only [Dev.stopMoves, hrun, List.foldl_cons, List.foldl_nil]
  split
  · next k b p dir m j hcmd => exact absurd (Option.some.inj (he.symm.trans hcmd)) (hc k b p dir m j)
  · rfl

/-- Without a command in progress none has an open outcome. -/
theorem Dev.runningCmds_nil {d : Dev} (h : d.openCmds = []) : d.runningCmds = [] := by
  refine List.eq_nil_iff_forall_not_mem.mpr fun x hx => ?_
  obtain ⟨l, hl, hx⟩ := List.mem_flatten.mp hx
  obtain ⟨⟨p, s⟩, hs, rfl⟩ := List.mem_map.mp hl
  obtain ⟨e, he, rfl⟩ := List.mem_map.mp hx
  obtain ⟨hmem, hopen⟩ := List.mem_filter.mp he
  have hstarted : (e.stage == .started) = true := (Bool.and_eq_true_iff.mp hopen).1
  have hin : (p, e) ∈ d.openCmds :=
    List.mem_flatten.mpr ⟨_, List.mem_map_of_mem hs, List.mem_map_of_mem (List.mem_filter.mpr ⟨hmem, hstarted⟩)⟩
  rw [h] at hin
  exact absurd hin List.not_mem_nil

/-- Notes change equal queues equally. -/
theorem Dev.note_queues_congr {d t : Dev} (h : t.queues = d.queues) (q n : Nat) (aux : List Nat) :
    (t.note q n aux).queues = (d.note q n aux).queues := by
  simp only [Dev.note, Dev.updEntry, Dev.setQueue, Dev.queue, h]

/-- A kernel that no START has begun is stopped at once. -/
theorem Dev.workStop_idle {d : Dev} {q n kern : Nat} {k : Kernel} (hk : d.kernel kern = some k) (hrun : k.run = none)
    (hmove : d.onTheMove k = false) (hown : d.stopMoves kern = d) : d.workStop q n [] kern = d.over .ok 0 := by
  simp [Dev.workStop, hk, hrun, hmove, hown]

/-- A kernel that runs and is shown is quiesced. -/
theorem Dev.workStop_running {d : Dev} {q n kern : Nat} {k : Kernel} {r : Run} (hk : d.kernel kern = some k) (hrun : k.run = some r)
    (hbegun : r.begun = true) (hrel : k.released = false) (hmove : d.onTheMove k = false) (hshown : d.shown k.anchor = k.fret) :
    d.workStop q n [] kern = ((d.trigger (d.homeOf k) .park).note q n [1]).waiting := by
  simp [Dev.workStop, hk, hrun, hbegun, hrel, hmove, hshown]

section
variable {d : Dev} {q : QId} {f : CmdFlags} {kern : BitVec 16} {k : Kernel} (h : d.ready q.val 1) (hk : d.kernel kern.toNat = some k)
  (hr : k.ready = true) (hmove : d.onTheMove k = false)
include h hk hr hmove

theorem Dev.submit_kstop_idle (ho : d.openCmds = []) (hrun : k.run = none) :
    (d.submit q.val (.kstop kern) f .none).ended q.val (d.nextSeq q.val) .ok 0 ∧ d.queueOnly (d.submit q.val (.kstop kern) f .none) q.val [] := by
  have htakes : d.takesNow q.val (.kstop kern) f := Dev.takesNow_of_ready h rfl rfl rfl rfl
  have hstep := Dev.begun_queueStep htakes (env := .none)
  have hworking := Dev.begun_working htakes (env := .none)
  have hquiet : (d.begun q.val (.kstop kern) f .none).stopMoves kern.toNat = d.begun q.val (.kstop kern) f .none :=
    Dev.stopMoves_own (Dev.one_running hstep (Dev.runningCmds_nil ho) h.2.1 hworking) hworking.cmd fun _ _ _ _ _ _ => by simp
  obtain ⟨hended, -, hall⟩ := Dev.submit_over_at_once htakes rfl (Dev.handlesReady_kernel hk hr rfl rfl rfl) rfl
    (Dev.workStop_idle ((Dev.kernel_queueStep hstep _).trans hk) hrun ((Dev.onTheMove_queueStep hstep k).trans hmove) hquiet) fun _ => rfl
  exact ⟨hended, Dev.queueOnly_of_taken (by rwa [List.append_nil]) (by simp)⟩

theorem Dev.submit_kstop_running {r : Run} (hrun : k.run = some r) (hbegun : r.begun = true) (hrel : k.released = false)
    (hshown : d.shown k.anchor = k.fret) : d.submit q.val (.kstop kern) f .none =
      ((d.begun q.val (.kstop kern) f .none).trigger (d.homeOf k) .park).note q.val (d.nextSeq q.val) [1] := by
  have htakes : d.takesNow q.val (.kstop kern) f := Dev.takesNow_of_ready h rfl rfl rfl rfl
  have hstep := Dev.begun_queueStep htakes (env := .none)
  have hworking := Dev.begun_working htakes (env := .none)
  refine Dev.submit_left htakes (Dev.handlesReady_kernel hk hr rfl rfl rfl) rfl rfl ?_ (Dev.working_note hworking [1]) ?_
  · rw [Dev.work, hworking.seq, ← Dev.homeOf_queueStep hstep k]
    exact Dev.workStop_running ((Dev.kernel_queueStep hstep _).trans hk) hrun hbegun hrel ((Dev.onTheMove_queueStep hstep k).trans hmove)
      ((Dev.shown_begun htakes _).trans hshown)
  · exact Dev.note_queues_congr (Dev.trigger_queues _ _ _) _ _ _

end

/-! KBIND (R97). -/

/-- The device with other kernels. -/
def Dev.withKernels (d : Dev) (m : KMap Kernel) : Dev := { d with kernels := m }

theorem Dev.keepsWork_withKernels (d : Dev) (m : KMap Kernel) : d.keepsWork (d.withKernels m) := ⟨rfl, rfl, rfl, rfl, rfl, rfl⟩

theorem Dev.withKernels_self {d : Dev} {m : KMap Kernel} (h : d.kernels = m) : d.withKernels m = d := by
  subst h
  rfl

@[simp] theorem Dev.kernels_withKernels (d : Dev) (m : KMap Kernel) : (d.withKernels m).kernels = m := rfl

theorem Dev.withKernels_withKernels (d : Dev) (m n : KMap Kernel) : (d.withKernels m).withKernels n = d.withKernels n := rfl

theorem Dev.queueStep_withKernels {d t : Dev} {q : Nat} {fs : List Field} (h : d.queueStep t q fs) (m : KMap Kernel) :
    (d.withKernels m).queueStep (t.withKernels m) q fs :=
  ⟨congrArg (Dev.withKernels · m) h.rest, h.queues, h.fields⟩

theorem Dev.updKernel_eq {d : Dev} {h : Nat} {k : Kernel} (hk : d.kernel h = some k) (f : Kernel → Kernel) :
    d.updKernel h f = d.withKernels (KMap.put d.kernels h (f k)) := by
  simp only [Dev.updKernel, hk]
  rfl

/-- A kernel with a bind slot set, or with it cleared (kind 3). -/
def Kernel.bound (k : Kernel) (slot kind target : Nat) : Kernel :=
  { k with binds := if kind = 3 then KMap.del k.binds slot else KMap.put k.binds slot ⟨kind, target⟩ }

theorem Kernel.bound_eq (k : Kernel) (slot : Nat) (kind : BitVec 2) (target : Nat) : k.bound slot kind.toNat target =
    { k with binds := if kind = 3 then KMap.del k.binds slot else KMap.put k.binds slot ⟨kind.toNat, target⟩ } := by
  have hiff : kind.toNat = 3 ↔ kind = 3 := ⟨fun h3 => BitVec.eq_of_toNat_eq h3, fun h3 => h3 ▸ rfl⟩
  simp only [Kernel.bound, hiff]

/-- A free kernel takes a binding of the type that its slot declares. -/
theorem Dev.workBind_eq {d : Dev} {kern slot kind target : Nat} {k : Kernel} (hk : d.kernel kern = some k) (hrel : k.released = false)
    (hrun : k.run = none) (htype : d.slotType k slot ≠ 0) (hkind : kind ≠ 3 → d.slotType k slot = kind + 1) :
    d.workBind kern slot kind target = (d.withKernels (KMap.put d.kernels kern (k.bound slot kind target))).over .ok := by
  have hfits : (kind != 3 && d.slotType k slot != kind + 1) = false := by
    by_cases h3 : kind = 3
    · simp [h3]
    · simp [hkind h3]
  rw [Dev.workBind, hk]
  dsimp only
  rw [Dev.updKernel_eq hk]
  simp [hrel, hrun, htype, hfits, Kernel.bound]

section
variable {d : Dev} {q : QId} {f : CmdFlags} {kern : BitVec 16} {slot : BitVec 4} {kind : BitVec 2} {target : BitVec 24} {k : Kernel}

/-- The kernel and the buffer that a KBIND names. -/
theorem Dev.handlesReady_kbind (hk : d.kernel kern.toNat = some k) (hr : k.ready = true)
    (hbuf : kind = 0 ∨ kind = 1 → ∃ b, d.buffer target.toNat = some b ∧ b.ready = true) : d.handlesReady (.kbind kern slot kind target) := by
  refine ⟨fun x hx => ?_, fun x hx => ?_, fun x hx => absurd hx List.not_mem_nil⟩
  · rw [List.mem_singleton.mp hx]
    exact ⟨k, hk, hr⟩
  · simp only [Cmd.buffers, Bool.or_eq_true, beq_iff_eq] at hx
    split at hx
    · next hkind =>
      rw [List.mem_singleton.mp hx]
      exact hbuf hkind
    · exact absurd hx List.not_mem_nil

theorem Dev.submit_kbind (h : d.ready q.val 1) (hin : (Cmd.kbind kern slot kind target).inRange = true) (hk : d.kernel kern.toNat = some k)
    (hr : k.ready = true) (hrel : k.released = false) (hrun : k.run = none) (htype : d.slotType k slot.toNat ≠ 0)
    (hkind : kind ≠ 3 → d.slotType k slot.toNat = kind.toNat + 1)
    (hbuf : kind = 0 ∨ kind = 1 → ∃ b, d.buffer target.toNat = some b ∧ b.ready = true) :
    (d.submit q.val (.kbind kern slot kind target) f .none).ended q.val (d.nextSeq q.val) .ok 0 ∧
      (d.submit q.val (.kbind kern slot kind target) f .none).kernels =
        KMap.put d.kernels kern.toNat (k.bound slot.toNat kind.toNat target.toNat) ∧
      d.queueOnly ((d.submit q.val (.kbind kern slot kind target) f .none).withKernels d.kernels) q.val [] := by
  have htakes : d.takesNow q.val (.kbind kern slot kind target) f := Dev.takesNow_of_ready h rfl hin rfl rfl
  have hstep := Dev.begun_queueStep htakes (env := .none)
  have hkernels : (d.begun q.val (.kbind kern slot kind target) f .none).kernels = d.kernels := Dev.kernels_queueStep hstep
  have hne : kind.toNat ≠ 3 → d.slotType k slot.toNat = kind.toNat + 1 := fun hne => hkind fun h3 => hne (h3 ▸ rfl)
  have hwork := Dev.workBind_eq (target := target.toNat) ((Dev.kernel_queueStep hstep _).trans hk) hrel hrun
    ((Dev.slotType_queueStep hstep k slot.toNat).symm ▸ htype) ((Dev.slotType_queueStep hstep k slot.toNat).symm ▸ hne)
  rw [hkernels] at hwork
  obtain ⟨hended, hlast⟩ := Dev.settle_worked (r := 0) (Dev.begun_working htakes (env := .none)) (Dev.keepsWork_withKernels _
    (KMap.put d.kernels kern.toNat (k.bound slot.toNat kind.toNat target.toNat)))
    fun _ => rfl
  rw [Dev.submit_settles htakes (Dev.handlesReady_kbind hk hr hbuf) rfl rfl hwork]
  refine ⟨hended, ?_, ?_⟩
  · rw [Dev.kernels_queueStep hlast, Dev.kernels_withKernels]
  · refine Dev.queueOnly_of_taken (c := .kbind kern slot kind target) ?_ (by simp)
    have hall := Dev.queueStep_withKernels hlast d.kernels
    rw [Dev.withKernels_withKernels, Dev.withKernels_self hkernels] at hall
    rw [List.append_nil]
    exact Dev.queueStep_trans hstep (Dev.queueStep_mono hall fun g hg => absurd hg List.not_mem_nil)

end

/-! KPARAM (R99, R234). -/

/-- The device with other parameter registers and plane CRCs. -/
def Dev.withPlanes (d : Dev) (m : KMap Word) (n : KMap Nat) : Dev := { d with params := m, planeCrcs := n }

theorem Dev.withPlanes_self {d : Dev} {m : KMap Word} {n : KMap Nat} (hm : d.params = m) (hn : d.planeCrcs = n) : d.withPlanes m n = d := by
  subst hm hn
  rfl

theorem Dev.withPlanes_withPlanes (d : Dev) (m p : KMap Word) (n r : KMap Nat) : (d.withPlanes m n).withPlanes p r = d.withPlanes p r := rfl

theorem Dev.keepsWork_withPlanes (d : Dev) (m : KMap Word) (n : KMap Nat) : d.keepsWork (d.withPlanes m n) := ⟨rfl, rfl, rfl, rfl, rfl, rfl⟩

theorem Dev.queueStep_withPlanes {d t : Dev} {q : Nat} {fs : List Field} (h : d.queueStep t q fs) (m : KMap Word) (n : KMap Nat) :
    (d.withPlanes m n).queueStep (t.withPlanes m n) q fs :=
  ⟨congrArg (Dev.withPlanes · m n) h.rest, h.queues, h.fields⟩

theorem Dev.params_touchPlane (d : Dev) (t f : Nat) : (d.touchPlane t f).params = d.params := by
  unfold Dev.touchPlane
  split <;> rfl

theorem Dev.param_setParam (d : Dev) (t f k : Nat) (v : Word) (u g p : Nat) :
    (d.setParam t f k v).param u g p = if 16 * (8 * t + f) + k = 16 * (8 * u + g) + p then v else d.param u g p := by
  rw [Dev.param, Dev.setParam, Dev.params_touchPlane]
  exact KMap.get_put _ _ _ _ _

/-- Only parameters and plane CRCs differ. -/
theorem Dev.setParam_eq (d : Dev) (t f k : Nat) (v : Word) : ∃ m n, d.setParam t f k v = d.withPlanes m n := by
  unfold Dev.setParam Dev.touchPlane
  split
  · exact ⟨_, _, rfl⟩
  · exact ⟨_, d.planeCrcs, rfl⟩

/-- A parameter of a fret of some tiles takes a value. -/
def Dev.setParams (d : Dev) (ts : List Nat) (f p : Nat) (v : Word) : Dev := ts.foldl (fun d t => Dev.setParam d t f p v) d

theorem Dev.setParams_eq (d : Dev) (ts : List Nat) (f p : Nat) (v : Word) : ∃ m n, d.setParams ts f p v = d.withPlanes m n := by
  induction ts generalizing d with
  | nil => exact ⟨d.params, d.planeCrcs, rfl⟩
  | cons t ts ih =>
    obtain ⟨m, n, hone⟩ := Dev.setParam_eq d t f p v
    obtain ⟨m', n', hall⟩ := ih (d.setParam t f p v)
    exact ⟨m', n', hall.trans (hone ▸ rfl)⟩

/-- Tiles, frets and registers have places of their own. -/
theorem Dev.param_setParams (d : Dev) (ts : List Nat) {f p g r : Nat} (v : Word) (hf : f < 8) (hp : p < 16) (hg : g < 8) (hr : r < 16) (u : Nat) :
    (d.setParams ts f p v).param u g r = if u ∈ ts ∧ g = f ∧ r = p then v else d.param u g r := by
  induction ts generalizing d with
  | nil => simp [Dev.setParams]
  | cons t ts ih =>
    have hcons : d.setParams (t :: ts) f p v = (d.setParam t f p v).setParams ts f p v := rfl
    rw [hcons, ih, Dev.param_setParam]
    by_cases hin : u ∈ ts ∧ g = f ∧ r = p
    · rw [if_pos hin, if_pos ⟨List.mem_cons_of_mem _ hin.1, hin.2⟩]
    · rw [if_neg hin]
      refine if_congr ⟨fun hkey => ?_, fun hnew => ?_⟩ rfl rfl
      · exact ⟨List.mem_cons.mpr (.inl (by omega)), by omega, by omega⟩
      · obtain ⟨hu, rfl, rfl⟩ := hnew
        rcases List.mem_cons.mp hu with rfl | hu
        · rfl
        · exact absurd ⟨hu, rfl, rfl⟩ hin

section
variable {d : Dev} {q n kern preg : Nat} {v : Word} {k : Kernel} (hk : d.kernel kern = some k) (hrel : k.released = false)
include hk hrel

theorem Dev.workParam_all (hrun : k.run = none) : d.workParam q n [] kern preg false v = (d.setParams k.where k.fret preg v).over .ok := by
  simp only [Dev.workParam, hk, hrel, hrun, Bool.not_false, Bool.false_eq_true, if_false, if_true]
  rfl

theorem Dev.workParam_last {x : Nat} (hone : k.where = [x]) : d.workParam q n [] kern preg true v = (d.setParam x k.fret preg v).over .ok := by
  simp [Dev.workParam, hk, hrel, hone]

theorem Dev.workParam_first {x y : Nat} {l : List Nat} (hmore : k.where = x :: y :: l) :
    d.workParam q n [] kern preg true v = ((d.setParam x k.fret preg v).note q n [1]).waiting := by
  simp [Dev.workParam, hk, hrel, hmore]

end

theorem Dev.aux_begunEntry (d : Dev) (q : Nat) (c : Cmd) (f : CmdFlags) (env : CmdEnv) : (d.begunEntry q c f env).aux = [] := rfl

theorem Dev.sval_begunEntry (d : Dev) (q : Nat) (c : Cmd) (f : CmdFlags) (env : CmdEnv) : (d.begunEntry q c f env).sval =
    ((d.goesOn q).newEntry q ((d.goesOn q).nextSeq q) ((d.goesOn q).rd (QU_EPOCH_EPOCH q)) (encodeCmd c f)).sval := rfl

/-- The value of a KPARAM as its start takes it (R99). -/
def Dev.paramValue (d : Dev) (q : Nat) (srcS : Bool) (sreg : BitVec 4) (value : Word) : Word :=
  if srcS then BitVec.ofNat 64 (d.sreg q sreg.toNat) + value else value

section
variable {d : Dev} {q : QId} {f : CmdFlags} {kern : BitVec 16} {preg sreg : BitVec 4} {srcS live : Bool} {value : Word} {k : Kernel}

/-- The entry of a KPARAM keeps the value of the S register that it names. -/
theorem Dev.sval_newEntry (d : Dev) (q seq epoch : Nat) {ws : List Word} (hws : decodeCmd ws = some (.kparam kern preg true live sreg value)) :
    (d.newEntry q seq epoch ws).sval = BitVec.ofNat 64 (d.sreg q sreg.toNat) := by
  simp only [Dev.newEntry, hws]

/-- The S register is read at acceptance (R99). -/
theorem Dev.paramValue_begun (h : d.takesNow q.val (.kparam kern preg srcS live sreg value) f) :
    (if srcS then (d.begunEntry q.val (.kparam kern preg srcS live sreg value) f .none).sval + value else value) =
      d.paramValue q.val srcS sreg value := by
  cases srcS
  · rw [if_neg Bool.false_ne_true, Dev.paramValue, if_neg Bool.false_ne_true]
  · obtain ⟨hdecode, -, -⟩ := encodeCmd_spells h.inRange h.plain f
    have hsreg : (d.goesOn q.val).sreg q.val sreg.toNat = d.sreg q.val sreg.toNat :=
      Dev.rd_goesOn (by simp only [key_QU_STAT_JWAIT, key_QU_S_VALUE]; omega)
    rw [if_pos rfl, Dev.sval_begunEntry, Dev.sval_newEntry _ _ _ _ hdecode, hsreg, Dev.paramValue, if_pos rfl]

/-- The work of a KPARAM that has just begun. -/
theorem Dev.work_kparam (h : d.takesNow q.val (.kparam kern preg srcS live sreg value) f) :
    (d.begun q.val (.kparam kern preg srcS live sreg value) f .none).work q.val
      (d.begunEntry q.val (.kparam kern preg srcS live sreg value) f .none) (.kparam kern preg srcS live sreg value) =
    (d.begun q.val (.kparam kern preg srcS live sreg value) f .none).workParam q.val (d.nextSeq q.val) [] kern.toNat preg.toNat live
      (d.paramValue q.val srcS sreg value) := by
  rw [Dev.work, (Dev.begun_working h (env := .none)).seq, Dev.paramValue_begun h, Dev.aux_begunEntry]

variable (h : d.ready q.val 2) (hk : d.kernel kern.toNat = some k) (hr : k.ready = true) (hrel : k.released = false)
include h hk hr hrel

theorem Dev.submit_kparam (hrun : k.run = none) : d.submit q.val (.kparam kern preg srcS false sreg value) f .none =
    ((d.begun q.val (.kparam kern preg srcS false sreg value) f .none).setParams k.where k.fret preg.toNat
      (d.paramValue q.val srcS sreg value)).settle q.val (d.nextSeq q.val) (some (.ok, .ofNat 64 0)) := by
  have htakes : d.takesNow q.val (.kparam kern preg srcS false sreg value) f := Dev.takesNow_of_ready h rfl rfl rfl rfl
  exact Dev.submit_settles htakes (Dev.handlesReady_kernel hk hr rfl rfl rfl) rfl rfl ((Dev.work_kparam htakes).trans
    (Dev.workParam_all ((Dev.kernel_queueStep (Dev.begun_queueStep htakes) _).trans hk) hrel hrun))

theorem Dev.submit_kparam_live_last {x : Nat} (hone : k.where = [x]) : d.submit q.val (.kparam kern preg srcS true sreg value) f .none =
    ((d.begun q.val (.kparam kern preg srcS true sreg value) f .none).setParam x k.fret preg.toNat
      (d.paramValue q.val srcS sreg value)).settle q.val (d.nextSeq q.val) (some (.ok, .ofNat 64 0)) := by
  have htakes : d.takesNow q.val (.kparam kern preg srcS true sreg value) f := Dev.takesNow_of_ready h rfl rfl rfl rfl
  exact Dev.submit_settles htakes (Dev.handlesReady_kernel hk hr rfl rfl rfl) rfl rfl ((Dev.work_kparam htakes).trans
    (Dev.workParam_last ((Dev.kernel_queueStep (Dev.begun_queueStep htakes) _).trans hk) hrel hone))

theorem Dev.submit_kparam_live_first {x y : Nat} {l : List Nat} (hmore : k.where = x :: y :: l) :
    d.submit q.val (.kparam kern preg srcS true sreg value) f .none =
      ((d.begun q.val (.kparam kern preg srcS true sreg value) f .none).setParam x k.fret preg.toNat
        (d.paramValue q.val srcS sreg value)).note q.val (d.nextSeq q.val) [1] := by
  have htakes : d.takesNow q.val (.kparam kern preg srcS true sreg value) f := Dev.takesNow_of_ready h rfl rfl rfl rfl
  exact Dev.submit_left htakes (Dev.handlesReady_kernel hk hr rfl rfl rfl) rfl rfl ((Dev.work_kparam htakes).trans
    (Dev.workParam_first ((Dev.kernel_queueStep (Dev.begun_queueStep htakes) _).trans hk) hrel hmore))
    (Dev.working_note (Dev.begun_working htakes) [1]) (Dev.note_queues_congr (Dev.setParam_queues _ _ _ _ _) _ _ _)

/-- A KPARAM changes only its parameter on its kernel's tiles, and their planes' CRCs. -/
theorem Dev.submit_kparam_ends (hrun : k.run = none) (hfret : k.fret < 8) :
    (d.submit q.val (.kparam kern preg srcS false sreg value) f .none).ended q.val (d.nextSeq q.val) .ok 0 ∧
      (∀ u g p, g < 8 → p < 16 → (d.submit q.val (.kparam kern preg srcS false sreg value) f .none).param u g p =
        if u ∈ k.where ∧ g = k.fret ∧ p = preg.toNat then d.paramValue q.val srcS sreg value else d.param u g p) ∧
      d.queueOnly ((d.submit q.val (.kparam kern preg srcS false sreg value) f .none).withPlanes d.params d.planeCrcs) q.val [] := by
  have htakes : d.takesNow q.val (.kparam kern preg srcS false sreg value) f := Dev.takesNow_of_ready h rfl rfl rfl rfl
  have hstep := Dev.begun_queueStep htakes (env := .none)
  have hparams : (d.begun q.val (.kparam kern preg srcS false sreg value) f .none).params = d.params := by rw [Dev.queueStep_eq hstep]
  have hcrcs : (d.begun q.val (.kparam kern preg srcS false sreg value) f .none).planeCrcs = d.planeCrcs := by rw [Dev.queueStep_eq hstep]
  obtain ⟨m, n, heq⟩ := Dev.setParams_eq (d.begun q.val (.kparam kern preg srcS false sreg value) f .none) k.where k.fret preg.toNat
    (d.paramValue q.val srcS sreg value)
  obtain ⟨hended, hlast⟩ := Dev.settle_worked (r := 0) (Dev.begun_working htakes (env := .none)) (Dev.keepsWork_withPlanes _ m n) fun _ => rfl
  rw [Dev.submit_kparam h hk hr hrel hrun]
  refine ⟨heq ▸ hended, fun u g p hg hp => ?_, ?_⟩
  · rw [← heq] at hlast
    have hparam : d.param u g p = (d.begun q.val (.kparam kern preg srcS false sreg value) f .none).param u g p := by
      rw [Dev.param, Dev.param, hparams]
    rw [hparam, ← Dev.param_setParams _ k.where _ hfret preg.isLt hg hp u, Dev.param, Dev.queueStep_eq hlast]
    rfl
  · refine Dev.queueOnly_of_taken (c := .kparam kern preg srcS false sreg value) ?_ (by simp)
    have hall := Dev.queueStep_withPlanes hlast d.params d.planeCrcs
    rw [Dev.withPlanes_withPlanes, Dev.withPlanes_self hparams hcrcs, ← heq] at hall
    rw [List.append_nil]
    exact Dev.queueStep_trans hstep (Dev.queueStep_mono hall fun g hg => absurd hg List.not_mem_nil)

end

/-! KSWITCH (R98, R185). -/

theorem Dev.homeOf_note (d : Dev) (q n : Nat) (aux : List Nat) (k : Kernel) : (d.note q n aux).homeOf k = d.homeOf k := rfl

theorem Dev.planeReady_note (d : Dev) (q n : Nat) (aux : List Nat) (a g : Nat) : (d.note q n aux).planeReady a g = d.planeReady a g := rfl

theorem Dev.shown_note (d : Dev) (q n : Nat) (aux : List Nat) (t : Nat) : (d.note q n aux).shown t = d.shown t := rfl

theorem Dev.ensembles_note (d : Dev) (q n : Nat) (aux : List Nat) : (d.note q n aux).ensembles = d.ensembles := rfl

/-- No trigger of an ensemble waits. -/
theorem Dev.liveTriggers_nil (d : Dev) (a : Nat) {e : Ensemble} (h : e.waiting = []) : d.liveTriggers a e = [] := by
  rw [Dev.liveTriggers, h, List.filter_nil]

section
variable {d : Dev} {q n kern : Nat} {k : Kernel} (hk : d.kernel kern = some k) (hrel : k.released = false) (hmove : d.onTheMove k = false)
  (hopen : d.diesOpen k.where = true)
include hk hrel hmove hopen

theorem Dev.workSwitch_ready (hready : d.planeReady (d.homeOf k) k.fret = true) :
    d.workSwitch q n [] kern true = ((d.note q n [1]).switchDone q n).waiting := by
  simp [Dev.workSwitch, hk, hrel, hmove, hopen, Dev.planeReady_note, hready]

theorem Dev.workSwitch_preload (hready : d.planeReady (d.homeOf k) k.fret = false) :
    d.workSwitch q n [] kern true = ((d.note q n [1]).preload (d.homeOf k) k.fret).waiting := by
  simp [Dev.workSwitch, hk, hrel, hmove, hopen, Dev.planeReady_note, hready]

variable {e : Ensemble} (he : KMap.find d.ensembles (d.homeOf k) = some e) (hphase : e.phase = 1) (hwaiting : e.waiting = [])
include he hphase hwaiting

theorem Dev.workSwitch_shown (hshown : d.shown (d.homeOf k) = k.fret) :
    d.workSwitch q n [] kern false = ((d.note q n [1]).switchDone q n).waiting := by
  simp [Dev.workSwitch, hk, hrel, hmove, hopen, Dev.ensembles_note, he, hphase, Dev.liveTriggers_nil _ _ hwaiting, Dev.shown_note, hshown]

theorem Dev.workSwitch_other (hshown : d.shown (d.homeOf k) ≠ k.fret) :
    d.workSwitch q n [] kern false = ((d.note q n [1]).trigger (d.homeOf k) (.toFret k.fret (some (q, n)))).waiting := by
  simp [Dev.workSwitch, hk, hrel, hmove, hopen, Dev.ensembles_note, he, hphase, Dev.liveTriggers_nil _ _ hwaiting, Dev.shown_note, hshown]

end

/-- A switch that ends as it starts took no time. -/
theorem Dev.switchDone_at_once {d : Dev} {q n : Nat} {c : Cmd} {e : Entry} (h : d.working q n c e) (hstamp : e.started = d.stamp) :
    d.switchDone q n = d.fix q n .ok (.ofNat 64 0) := by
  simp only [Dev.switchDone, Dev.entry_sole h.tosole, hstamp, Nat.sub_self]

section
variable {d : Dev} {q : QId} {f : CmdFlags} {kern : BitVec 16} {pre : Bool} {k : Kernel} (h : d.ready q.val 1)
  (hk : d.kernel kern.toNat = some k) (hr : k.ready = true)
include h hk hr

/-- A KSWITCH that has nothing to wait for is over at once. -/
theorem Dev.submit_kswitch_at_once
    (hwork : (d.begun q.val (.kswitch kern pre) f .none).workSwitch q.val (d.nextSeq q.val) [] kern.toNat pre =
      (((d.begun q.val (.kswitch kern pre) f .none).note q.val (d.nextSeq q.val) [1]).switchDone q.val (d.nextSeq q.val)).waiting) :
    (d.submit q.val (.kswitch kern pre) f .none).ended q.val (d.nextSeq q.val) .ok 0 ∧
      d.queueOnly (d.submit q.val (.kswitch kern pre) f .none) q.val [] := by
  have htakes : d.takesNow q.val (.kswitch kern pre) f := Dev.takesNow_of_ready h rfl rfl rfl rfl
  have hstep := Dev.begun_queueStep htakes (env := .none)
  have hworking := Dev.begun_working htakes (env := .none)
  have hnoted := Dev.working_note hworking [1]
  have hnote := Dev.note_queueStep (d.begun q.val (.kswitch kern pre) f .none) q.val (d.nextSeq q.val) [1]
  have hstamp : (d.begunEntry q.val (.kswitch kern pre) f .none).started =
      ((d.begun q.val (.kswitch kern pre) f .none).note q.val (d.nextSeq q.val) [1]).stamp := by
    rw [Dev.stamp_queueStep hnote, Dev.stamp_queueStep hstep]
    rfl
  have hover : d.submit q.val (.kswitch kern pre) f .none = ((d.begun q.val (.kswitch kern pre) f .none).note q.val (d.nextSeq q.val) [1]).settle
      q.val (d.nextSeq q.val) (some (.ok, .ofNat 64 0)) := by
    rw [Dev.submit_working htakes rfl (Dev.handlesReady_kernel hk hr rfl rfl rfl) rfl, Dev.work, hworking.seq, Dev.aux_begunEntry, hwork,
      Dev.switchDone_at_once hnoted hstamp]
    rfl
  obtain ⟨hended, hlast⟩ := Dev.settle_ended_ok hnoted 0 fun _ => rfl
  rw [hover]
  refine ⟨hended, Dev.queueOnly_of_taken (c := .kswitch kern pre) ?_ (by simp)⟩
  rw [List.append_nil]
  exact Dev.queueStep_trans hstep (Dev.queueStep_mono (Dev.queueStep_trans hnote hlast) fun g hg => absurd hg List.not_mem_nil)

/-- A KSWITCH that waits for its ensemble. -/
theorem Dev.submit_kswitch_waits {t : Dev}
    (hwork : (d.begun q.val (.kswitch kern pre) f .none).workSwitch q.val (d.nextSeq q.val) [] kern.toNat pre = t.waiting)
    (ht : t.queues = ((d.begun q.val (.kswitch kern pre) f .none).note q.val (d.nextSeq q.val) [1]).queues) :
    d.submit q.val (.kswitch kern pre) f .none = t := by
  have htakes : d.takesNow q.val (.kswitch kern pre) f := Dev.takesNow_of_ready h rfl rfl rfl rfl
  have hworking := Dev.begun_working htakes (env := .none)
  refine Dev.submit_left htakes (Dev.handlesReady_kernel hk hr rfl rfl rfl) rfl rfl ?_ (Dev.working_note hworking [1]) ht
  rw [Dev.work, hworking.seq, Dev.aux_begunEntry, hwork]

end

/-- What a KSWITCH reads as it begins is what the device held. -/
structure Dev.switchable (d b : Dev) (h : Nat) (k : Kernel) : Prop where
  kernel : b.kernel h = some k
  move : b.onTheMove k = false
  dies : b.diesOpen k.where = true
  home : b.homeOf k = d.homeOf k
  ensembles : b.ensembles = d.ensembles
  shown : ∀ t, b.shown t = d.shown t
  plane : ∀ a g, b.planeReady a g = d.planeReady a g

theorem Dev.switchable_begun {d : Dev} {q h : Nat} {c : Cmd} {f : CmdFlags} {env : CmdEnv} {k : Kernel} (ht : d.takesNow q c f)
    (hk : d.kernel h = some k) (hmove : d.onTheMove k = false) (hopen : d.diesOpen k.where = true) :
    d.switchable (d.begun q c f env) h k :=
  have hstep := Dev.begun_queueStep ht (env := env)
  ⟨(Dev.kernel_queueStep hstep h).trans hk, (Dev.onTheMove_queueStep hstep k).trans hmove, (Dev.diesOpen_begun ht _).trans hopen,
    Dev.homeOf_queueStep hstep k, Dev.ensembles_queueStep hstep, Dev.shown_begun ht, Dev.planeReady_begun ht⟩

section
variable {d : Dev} {q : QId} {f : CmdFlags} {kern : BitVec 16} {k : Kernel} (h : d.ready q.val 1) (hk : d.kernel kern.toNat = some k)
  (hr : k.ready = true) (hrel : k.released = false) (hmove : d.onTheMove k = false) (hopen : d.diesOpen k.where = true)
include h hk hr hrel hmove hopen

theorem Dev.submit_kswitch_ready (hready : d.planeReady (d.homeOf k) k.fret = true) :
    (d.submit q.val (.kswitch kern true) f .none).ended q.val (d.nextSeq q.val) .ok 0 ∧
      d.queueOnly (d.submit q.val (.kswitch kern true) f .none) q.val [] := by
  obtain ⟨hk', hmove', hopen', hhome, -, -, hplane⟩ :=
    Dev.switchable_begun (env := .none) (f := f) (c := .kswitch kern true) (Dev.takesNow_of_ready h rfl rfl rfl rfl) hk hmove hopen
  exact Dev.submit_kswitch_at_once h hk hr (Dev.workSwitch_ready hk' hrel hmove' hopen' (by rw [hhome, hplane, hready]))

theorem Dev.submit_kswitch_preload (hready : d.planeReady (d.homeOf k) k.fret = false) : d.submit q.val (.kswitch kern true) f .none =
    ((d.begun q.val (.kswitch kern true) f .none).note q.val (d.nextSeq q.val) [1]).preload (d.homeOf k) k.fret := by
  obtain ⟨hk', hmove', hopen', hhome, -, -, hplane⟩ :=
    Dev.switchable_begun (env := .none) (f := f) (c := .kswitch kern true) (Dev.takesNow_of_ready h rfl rfl rfl rfl) hk hmove hopen
  rw [← hhome]
  exact Dev.submit_kswitch_waits h hk hr (Dev.workSwitch_preload hk' hrel hmove' hopen' (by rw [hhome, hplane, hready]))
    (Dev.preload_queues _ _ _)

variable {e : Ensemble} (he : KMap.find d.ensembles (d.homeOf k) = some e) (hphase : e.phase = 1) (hwaiting : e.waiting = [])
include he hphase hwaiting

theorem Dev.submit_kswitch_shown (hshown : d.shown (d.homeOf k) = k.fret) :
    (d.submit q.val (.kswitch kern false) f .none).ended q.val (d.nextSeq q.val) .ok 0 ∧
      d.queueOnly (d.submit q.val (.kswitch kern false) f .none) q.val [] := by
  obtain ⟨hk', hmove', hopen', hhome, hens, hsees, -⟩ :=
    Dev.switchable_begun (env := .none) (f := f) (c := .kswitch kern false) (Dev.takesNow_of_ready h rfl rfl rfl rfl) hk hmove hopen
  exact Dev.submit_kswitch_at_once h hk hr (Dev.workSwitch_shown hk' hrel hmove' hopen' (by rw [hens, hhome, he]) hphase hwaiting
    (by rw [hhome, hsees, hshown]))

theorem Dev.submit_kswitch_other (hshown : d.shown (d.homeOf k) ≠ k.fret) : d.submit q.val (.kswitch kern false) f .none =
    ((d.begun q.val (.kswitch kern false) f .none).note q.val (d.nextSeq q.val) [1]).trigger (d.homeOf k)
      (.toFret k.fret (some (q.val, d.nextSeq q.val))) := by
  obtain ⟨hk', hmove', hopen', hhome, hens, hsees, -⟩ :=
    Dev.switchable_begun (env := .none) (f := f) (c := .kswitch kern false) (Dev.takesNow_of_ready h rfl rfl rfl rfl) hk hmove hopen
  rw [← hhome]
  exact Dev.submit_kswitch_waits h hk hr (Dev.workSwitch_other hk' hrel hmove' hopen' (by rw [hens, hhome, he]) hphase hwaiting
    (by rwa [hhome, hsees])) (Dev.trigger_queues _ _ _)

end

/-! KRETIRE (R96, R184, R269). -/

/-- What a command at work and its completion rest on stays. -/
structure Dev.leavesWork (d t : Dev) : Prop where
  queues : t.queues = d.queues
  tables : t.tables = d.tables
  stageWait : t.stageWait = d.stageWait
  drains : t.drains = d.drains
  telling : t.telling = d.telling

theorem Dev.leavesWork_trans {d t u : Dev} (h : d.leavesWork t) (k : t.leavesWork u) : d.leavesWork u :=
  ⟨k.queues.trans h.queues, k.tables.trans h.tables, k.stageWait.trans h.stageWait, k.drains.trans h.drains, k.telling.trans h.telling⟩

theorem Dev.working_of_leavesWork {d t : Dev} {q n : Nat} {c : Cmd} {e : Entry} (hk : d.leavesWork t) (h : d.working q n c e) :
    t.working q n c e := by
  obtain ⟨hqueues, htables, hstage, hdrains, htelling⟩ := hk
  refine ⟨⟨?_, h.seq, h.notDone, h.replay, htelling.trans h.telling, ?_⟩, h.started, h.fin, h.cmd, h.staged, h.delta, h.wrote⟩
  · rw [Dev.journal, Dev.queue, hqueues]
    exact h.journal
  · rw [Dev.nothingWaits, htables, hstage, hdrains]
    exact h.quiet

/-- Only tiles and ensembles change: of the fields, only those of the frets do. -/
structure Dev.tilesStep (d t : Dev) : Prop extends d.leavesWork t where
  kernels : t.kernels = d.kernels
  retired : t.retired = d.retired
  fields : ∀ g : Field, g.key < 25165824 → t.rd g = d.rd g

section
variable {d t u : Dev}

theorem Dev.tilesStep_refl (d : Dev) : d.tilesStep d := ⟨⟨rfl, rfl, rfl, rfl, rfl⟩, rfl, rfl, fun _ _ => rfl⟩

theorem Dev.tilesStep_trans (h : d.tilesStep t) (k : t.tilesStep u) : d.tilesStep u :=
  ⟨Dev.leavesWork_trans h.toleavesWork k.toleavesWork, k.kernels.trans h.kernels, k.retired.trans h.retired,
    fun g hg => (k.fields g hg).trans (h.fields g hg)⟩

/-- A field of a fret, none at the places of the twin's state. -/
def Field.ofFret (f : Field) : Prop := 25165824 ≤ f.key ∧ f.key % 64 ≠ 1 ∧ f.key % 64 ≠ 2

theorem Dev.tilesStep_wr (h : d.tilesStep t) {f : Field} (hf : f.ofFret) (v : Nat) : d.tilesStep (t.wr f v) := by
  obtain ⟨hlow, hrole, hstate⟩ := hf
  have htwin : f.key ≠ (TWIN_STAT_STATE).key ∧ f.key ≠ (TWIN_STAT_ROLE).key := by
    have hs : (TWIN_STAT_STATE).key % 64 = 2 := rfl
    have hr : (TWIN_STAT_ROLE).key % 64 = 1 := rfl
    omega
  refine Dev.tilesStep_trans h ⟨⟨rfl, rfl, rfl, rfl, Dev.telling_congr (Dev.rd_wr_ne t v htwin.1) (Dev.rd_wr_ne t v htwin.2)⟩, rfl, rfl, ?_⟩
  exact fun g hg => Dev.rd_wr_ne t v (by omega)

theorem Dev.tilesStep_foldl {α : Type} {F : Dev → α → Dev} (hF : ∀ (d : Dev) x, d.tilesStep (F d x)) (l : List α) (d : Dev) :
    d.tilesStep (l.foldl F d) := by
  induction l generalizing d with
  | nil => exact Dev.tilesStep_refl d
  | cons x l ih => exact Dev.tilesStep_trans (hF d x) (ih _)

end

theorem fretKern_ofFret (t f : Nat) : (fretKern t f).ofFret := by
  unfold fretKern
  split <;> simp only [Field.ofFret, Field.key, FRET_KERN0_F0, FRET_KERN0_F1, FRET_KERN0_F2, FRET_KERN0_F3, FRET_KERN1_F4, FRET_KERN1_F5,
    FRET_KERN1_F6, FRET_KERN1_F7] <;> omega

section
variable (d : Dev)

theorem Dev.tilesStep_clearFret (t f : Nat) : d.tilesStep (d.clearFret t f) := by
  have hnext : d.tilesStep (if d.rd (FRET_STAT_NEXT t) == f then d.clr (FRET_STAT_NEXTV t) else d) := by
    split
    · refine Dev.tilesStep_wr (Dev.tilesStep_refl d) ⟨?_, ?_, ?_⟩ 0 <;> simp only [Field.key, FRET_STAT_NEXTV] <;> omega
    · exact Dev.tilesStep_refl d
  exact Dev.tilesStep_trans hnext ⟨⟨rfl, rfl, rfl, rfl, rfl⟩, rfl, rfl, fun _ _ => rfl⟩

theorem Dev.tilesStep_dropEnsemble (a : Nat) : d.tilesStep (d.dropEnsemble a) := by
  unfold Dev.dropEnsemble
  split
  · exact Dev.tilesStep_refl d
  · split
    · exact Dev.tilesStep_refl d
    · refine Dev.tilesStep_trans (Dev.tilesStep_foldl (fun x t => ?_) _ d) ⟨⟨rfl, rfl, rfl, rfl, rfl⟩, rfl, rfl, fun _ _ => rfl⟩
      refine Dev.tilesStep_wr (Dev.tilesStep_refl x) ⟨?_, ?_, ?_⟩ 0 <;> simp only [Field.key, FRET_STAT_PHASE] <;> omega

theorem Dev.tilesStep_showFret (t f : Nat) : d.tilesStep (d.showFret t f) := by
  refine Dev.tilesStep_wr (Dev.tilesStep_refl d) ⟨?_, ?_, ?_⟩ f <;> simp only [Field.key, FRET_STAT_SHOWN] <;> omega

theorem Dev.tilesStep_reshape (a : Nat) (join : Option Kernel) : d.tilesStep (d.reshape a join) := by
  unfold Dev.reshape
  split
  · exact Dev.tilesStep_refl d
  · split
    · exact Dev.tilesStep_dropEnsemble d a
    · extract_lets s y
      have hy : d.tilesStep y := ⟨⟨rfl, rfl, rfl, rfl, rfl⟩, rfl, rfl, fun _ _ => rfl⟩
      refine Dev.tilesStep_trans hy (Dev.tilesStep_foldl (fun x t => ?_) _ y)
      split
      · exact Dev.tilesStep_refl x
      · exact Dev.tilesStep_showFret x _ _

theorem Dev.tilesStep_updEns (a : Nat) (g : Ensemble → Ensemble) : d.tilesStep (d.updEns a g) := by
  unfold Dev.updEns
  split
  · exact ⟨⟨rfl, rfl, rfl, rfl, rfl⟩, rfl, rfl, fun _ _ => rfl⟩
  · exact Dev.tilesStep_refl d

theorem Dev.tilesStep_shrink (a : Nat) : d.tilesStep (d.shrink a) := by
  unfold Dev.shrink
  split
  · exact Dev.tilesStep_refl d
  · extract_lets ks
    split
    · exact Dev.tilesStep_dropEnsemble d a
    · split
      · exact Dev.tilesStep_refl d
      · split
        · exact Dev.tilesStep_reshape d a none
        · exact Dev.tilesStep_updEns d a _

theorem Dev.tilesStep_leaveRotation (a h : Nat) : d.tilesStep (d.leaveRotation a h) := by
  unfold Dev.leaveRotation
  split
  · exact Dev.tilesStep_refl d
  · exact ⟨⟨rfl, rfl, rfl, rfl, rfl⟩, rfl, rfl, fun _ _ => rfl⟩

end

/-- A kernel leaves its tiles: they change, and it is released. -/
theorem Dev.evict_eq (d : Dev) (h : Nat) (k : Kernel) :
    ∃ b, d.tilesStep b ∧ (b.updKernel h fun k => { k with released := true }).tilesStep (d.evict h k) := by
  unfold Dev.evict
  extract_lets home x y z u
  have hx : d.tilesStep x := by
    subst x
    split
    · exact ⟨⟨rfl, rfl, rfl, rfl, rfl⟩, rfl, rfl, fun _ _ => rfl⟩
    · exact Dev.tilesStep_refl d
  have hy : x.tilesStep y := Dev.tilesStep_foldl
    (fun v t => Dev.tilesStep_wr (Dev.tilesStep_clearFret v t k.fret) (fretKern_ofFret t k.fret) 0) k.where x
  have hu : z.tilesStep u := ⟨⟨rfl, rfl, rfl, rfl, rfl⟩, rfl, rfl, fun _ _ => rfl⟩
  exact ⟨y, Dev.tilesStep_trans hx hy,
    Dev.tilesStep_trans hu (Dev.tilesStep_trans (Dev.tilesStep_leaveRotation u home h) (Dev.tilesStep_shrink _ home))⟩

/-- One kernel changes, and no bank does. -/
structure Dev.kernelStep (d t : Dev) (h : Nat) : Prop extends d.leavesWork t where
  kernel : ∀ x, x ≠ h → t.kernel x = d.kernel x
  retired : t.retired = d.retired
  owner : ∀ b < 1024, t.owner b = d.owner b

theorem Dev.leavesWork_updKernel (d : Dev) (h : Nat) (f : Kernel → Kernel) : d.leavesWork (d.updKernel h f) := by
  unfold Dev.updKernel
  split <;> exact ⟨rfl, rfl, rfl, rfl, rfl⟩

theorem Dev.kernelStep_updKernel (d : Dev) (h : Nat) (f : Kernel → Kernel) : d.kernelStep (d.updKernel h f) h := by
  refine ⟨Dev.leavesWork_updKernel d h f, fun x hx => ?_, ?_, fun b _ => ?_⟩ <;> unfold Dev.updKernel <;> split
  · exact (KMap.find_put _ _ _ _).trans (if_neg (Ne.symm hx))
  all_goals rfl

theorem key_BANK_OWN_OWNER (n : Nat) : (BANK_OWN_OWNER n).key = 64 * n + 16809984 := by
  simp only [Field.key, BANK_OWN_OWNER]
  omega

theorem Dev.kernelStep_evict (d : Dev) (h : Nat) (k : Kernel) : d.kernelStep (d.evict h k) h := by
  obtain ⟨b, hb, hlast⟩ := Dev.evict_eq d h k
  have hupd := Dev.kernelStep_updKernel b h fun k => { k with released := true }
  have hkernel : ∀ {u v : Dev}, u.tilesStep v → ∀ x, v.kernel x = u.kernel x := fun huv x => congrArg (KMap.find · x) huv.kernels
  have howner : ∀ {u v : Dev}, u.tilesStep v → ∀ n < 1024, v.owner n = u.owner n := fun huv n hn =>
    huv.fields _ (by rw [key_BANK_OWN_OWNER]; omega)
  exact ⟨Dev.leavesWork_trans hb.toleavesWork (Dev.leavesWork_trans hupd.toleavesWork hlast.toleavesWork),
    fun x hx => (hkernel hlast x).trans ((hupd.kernel x hx).trans (hkernel hb x)), hlast.retired.trans (hupd.retired.trans hb.retired),
    fun n hn => (howner hlast n hn).trans ((hupd.owner n hn).trans (howner hb n hn))⟩

/-- A bank that a kernel owns returns to the device. -/
def Dev.returnBank (d : Dev) (kern n : Nat) : Dev :=
  if d.owner n == kern && !d.isRetired .bank n then
    let d := (d.bankOff n).wr (BANK_OWN_OWNER n) 3
    if d.isPool n then d.wakeBank n else d
  else d

theorem Dev.returnBanks_eq (d : Dev) (kern : Nat) : d.returnBanks kern = (List.range 1024).foldl (fun d n => Dev.returnBank d kern n) d := rfl

/-- Banks change, and no kernel does. -/
structure Dev.banksStep (d t : Dev) : Prop extends d.leavesWork t where
  kernels : t.kernels = d.kernels
  retired : t.retired = d.retired

section
variable {d t : Dev}

theorem Dev.banksStep_wr (h : d.banksStep t) {f : Field} (hf : f.key < 2 ^ 25) (v : Nat) : d.banksStep (t.wr f v) := by
  obtain ⟨⟨hqueues, htables, hstage, hdrains, htelling⟩, hkernels, hretired⟩ := h
  obtain ⟨hstate, hrole⟩ := twinState_apart hf
  have hstill := (Dev.telling_congr (Dev.rd_wr_ne t v hstate) (Dev.rd_wr_ne t v hrole)).trans htelling
  exact ⟨⟨hqueues, htables, hstage, hdrains, hstill⟩, hkernels, hretired⟩

theorem Dev.banksStep_wakeBank (h : d.banksStep t) {n : Nat} (hn : n < 1024) : d.banksStep (t.wakeBank n) := by
  unfold Dev.wakeBank
  split
  · exact Dev.banksStep_wr h (by rw [key_BANK_OWN_PSTATE]; omega) 3
  · exact h

theorem Dev.owner_wakeBank (n b : Nat) : (d.wakeBank n).owner b = d.owner b := by
  unfold Dev.wakeBank
  split
  · exact Dev.rd_wr_ne _ _ (by rw [key_BANK_OWN_PSTATE, key_BANK_OWN_OWNER]; omega)
  · rfl

theorem Dev.banksStep_returnBank (kern : Nat) {n : Nat} (hn : n < 1024) : d.banksStep (d.returnBank kern n) := by
  unfold Dev.returnBank
  split
  · extract_lets u
    have hu : d.banksStep u := by
      have hoff : d.banksStep (d.poisonBank n) := ⟨⟨rfl, rfl, rfl, rfl, rfl⟩, rfl, rfl⟩
      exact Dev.banksStep_wr (Dev.banksStep_wr hoff (by rw [key_BANK_OWN_PSTATE]; omega) 0) (by rw [key_BANK_OWN_OWNER]; omega) 3
    split
    · exact Dev.banksStep_wakeBank hu hn
    · exact hu
  · exact ⟨⟨rfl, rfl, rfl, rfl, rfl⟩, rfl, rfl⟩

/-- Its owner is the device then. -/
theorem Dev.owner_returnBank (d : Dev) (kern n b : Nat) : (d.returnBank kern n).owner b =
    if b = n ∧ d.owner n = kern ∧ d.isRetired .bank n = false then 3 else d.owner b := by
  have hset : ((d.bankOff n).wr (BANK_OWN_OWNER n) 3).owner b = if b = n then 3 else d.owner b := by
    split
    · next hb => exact hb ▸ Dev.rd_wr_same _ _ _
    · next hb =>
      refine (Dev.rd_wr_ne _ _ (by simp only [key_BANK_OWN_OWNER]; omega)).trans ?_
      exact Dev.rd_wr_ne (d.poisonBank n) _ (by rw [key_BANK_OWN_PSTATE, key_BANK_OWN_OWNER]; omega)
  unfold Dev.returnBank
  split
  · next hcond =>
    obtain ⟨hown, hin⟩ := Bool.and_eq_true_iff.mp hcond
    have hiff : (b = n ∧ d.owner n = kern ∧ d.isRetired .bank n = false) ↔ b = n :=
      and_iff_left ⟨beq_iff_eq.mp hown, by simpa using hin⟩
    simp only [hiff, ← hset]
    split
    · exact Dev.owner_wakeBank _ _
    · rfl
  · next hcond =>
    rw [if_neg]
    rintro ⟨-, hown, hin⟩
    exact hcond (by simp [hown, hin])

end

/-- The banks of a list that a kernel owns, and that are in service, return; a bank that the device manages stays so. -/
theorem Dev.returnList {d : Dev} (kern : Nat) {l : List Nat} (hl : ∀ n ∈ l, n < 1024) :
    d.banksStep (l.foldl (fun d n => Dev.returnBank d kern n) d) ∧ ∀ b,
      (b ∈ l ∧ d.owner b = kern ∧ d.isRetired .bank b = false) ∨ d.owner b = 3 →
        (l.foldl (fun d n => Dev.returnBank d kern n) d).owner b = 3 := by
  induction l generalizing d with
  | nil => exact ⟨⟨⟨rfl, rfl, rfl, rfl, rfl⟩, rfl, rfl⟩, fun b hb => hb.resolve_left fun h => absurd h.1 List.not_mem_nil⟩
  | cons n l ih =>
    obtain ⟨hn, hl⟩ := List.forall_mem_cons.mp hl
    have hone := Dev.banksStep_returnBank (d := d) kern hn
    obtain ⟨hrest, hown⟩ := ih (d := d.returnBank kern n) hl
    refine ⟨⟨Dev.leavesWork_trans hone.toleavesWork hrest.toleavesWork, hrest.kernels.trans hone.kernels, hrest.retired.trans hone.retired⟩,
      fun b hb => hown b ?_⟩
    have hsame : (d.returnBank kern n).isRetired .bank b = d.isRetired .bank b := congrArg (List.contains · (UnitKind.bank, b)) hone.retired
    rw [Dev.owner_returnBank, hsame]
    split
    · exact .inr rfl
    · next hnot =>
      refine hb.imp_left ?_
      rintro ⟨hin, howner, hserves⟩
      refine ⟨(List.mem_cons.mp hin).resolve_left fun hbn => ?_, howner, hserves⟩
      exact hnot ⟨hbn, hbn ▸ howner, hbn ▸ hserves⟩

/-- A kernel's handle is free. -/
def Dev.freeHandle (d : Dev) (kern : Nat) : Dev := { d with kernels := KMap.del d.kernels kern, undef := KMap.del d.undef kern }

theorem Dev.leavesWork_freeHandle (d : Dev) (kern : Nat) : d.leavesWork (d.freeHandle kern) := ⟨rfl, rfl, rfl, rfl, rfl⟩

theorem Dev.kernel_freeHandle (d : Dev) (kern x : Nat) : (d.freeHandle kern).kernel x = if kern = x then none else d.kernel x :=
  KMap.find_del _ _ _

theorem Dev.owner_freeHandle (d : Dev) (kern b : Nat) : (d.freeHandle kern).owner b = d.owner b := rfl

/-- What a KRETIRE leaves: the kernel is off its tiles, its banks are the device's, and its handle is free. -/
def Dev.retireKernel (d : Dev) (kern : Nat) (k : Kernel) : Dev :=
  ((if k.released then d else d.evict kern k).returnBanks kern).freeHandle kern

theorem Dev.kernelGroups_note (d : Dev) (q n : Nat) (aux : List Nat) (kern : Nat) : (d.note q n aux).kernelGroups kern = d.kernelGroups kern := rfl

theorem Dev.workRetire_eq {d : Dev} {q n kern : Nat} {k : Kernel} (ho : d.others q n = []) (hk : d.kernel kern = some k)
    (hg : d.kernelGroups kern = []) :
    d.workRetire q n [] kern = ((d.note q n [1]).retireKernel kern k).over .ok (if k.released then 0 else k.where.length) := by
  have hnone : ¬ (!((d.note q n [1]).kernelGroups kern).isEmpty) = true := by
    rw [Dev.kernelGroups_note, hg]
    exact Bool.false_ne_true
  unfold Dev.workRetire
  rw [ho, hk, hg, List.any_nil, if_neg Bool.false_ne_true]
  exact if_neg hnone

theorem Dev.retireKernel_leaves (d : Dev) (kern : Nat) (k : Kernel) :
    d.leavesWork (d.retireKernel kern k) ∧ (d.retireKernel kern k).kernel kern = none ∧
      (∀ x, x ≠ kern → (d.retireKernel kern k).kernel x = d.kernel x) ∧
      ∀ b < 1024, d.owner b = kern → d.isRetired .bank b = false → (d.retireKernel kern k).owner b = 3 := by
  unfold Dev.retireKernel
  have hfree : d.kernelStep (if k.released then d else d.evict kern k) kern := by
    split
    · exact ⟨⟨rfl, rfl, rfl, rfl, rfl⟩, fun _ _ => rfl, rfl, fun _ _ => rfl⟩
    · exact Dev.kernelStep_evict d kern k
  generalize (if k.released then d else d.evict kern k) = x at hfree ⊢
  obtain ⟨hbanks, howner⟩ := Dev.returnList (d := x) kern fun n hn => List.mem_range.mp hn
  rw [← Dev.returnBanks_eq] at hbanks howner
  refine ⟨?_, (Dev.kernel_freeHandle _ _ _).trans (if_pos rfl), fun y hy => ?_, fun b hb hown hin => ?_⟩
  · exact Dev.leavesWork_trans hfree.toleavesWork (Dev.leavesWork_trans hbanks.toleavesWork (Dev.leavesWork_freeHandle _ _))
  · rw [Dev.kernel_freeHandle, if_neg (Ne.symm hy), ← hfree.kernel y hy]
    exact congrArg (KMap.find · y) hbanks.kernels
  · rw [Dev.owner_freeHandle]
    refine howner b (.inl ⟨List.mem_range.mpr hb, (hfree.owner b hb).trans hown, ?_⟩)
    exact (congrArg (List.contains · (UnitKind.bank, b)) hfree.retired).trans hin

section
variable {d : Dev} {q : QId} {f : CmdFlags} {kern : BitVec 16} {k : Kernel} (h : d.ready q.val 1) (ho : d.openCmds = [])
  (hk : d.kernel kern.toNat = some k) (hr : k.ready = true) (hg : d.kernelGroups kern.toNat = [])
include h ho hk hr hg

theorem Dev.submit_kretire : d.submit q.val (.kretire kern) f .none =
    (((d.begun q.val (.kretire kern) f .none).note q.val (d.nextSeq q.val) [1]).retireKernel kern.toNat k).settle q.val (d.nextSeq q.val)
      (some (.ok, .ofNat 64 (if k.released then 0 else k.where.length))) := by
  have htakes : d.takesNow q.val (.kretire kern) f := Dev.takesNow_of_ready h rfl rfl rfl rfl
  have hstep := Dev.begun_queueStep htakes (env := .none)
  refine Dev.submit_settles htakes (Dev.handlesReady_kernel hk hr rfl rfl rfl) rfl rfl ?_
  rw [Dev.work, (Dev.begun_working htakes (env := .none)).seq, Dev.aux_begunEntry]
  exact Dev.workRetire_eq (Dev.others_begun htakes ho) ((Dev.kernel_queueStep hstep _).trans hk)
    ((Dev.kernelGroups_queueStep hstep _).trans hg)

/-- The kernel is gone, the others stand, and the banks that it owned are the device's. -/
theorem Dev.submit_kretire_ends :
    (d.submit q.val (.kretire kern) f .none).ended q.val (d.nextSeq q.val) .ok (if k.released then 0 else k.where.length) ∧
      (d.submit q.val (.kretire kern) f .none).kernel kern.toNat = none ∧
      (∀ x, x ≠ kern.toNat → (d.submit q.val (.kretire kern) f .none).kernel x = d.kernel x) ∧
      ∀ b < 1024, d.owner b = kern.toNat → d.isRetired .bank b = false → (d.submit q.val (.kretire kern) f .none).owner b = 3 := by
  have htakes : d.takesNow q.val (.kretire kern) f := Dev.takesNow_of_ready h rfl rfl rfl rfl
  have hstep := Dev.begun_queueStep htakes (env := .none)
  have hnote := Dev.note_queueStep (d.begun q.val (.kretire kern) f .none) q.val (d.nextSeq q.val) [1]
  obtain ⟨hleaves, hgone, hothers, howner⟩ :=
    Dev.retireKernel_leaves ((d.begun q.val (.kretire kern) f .none).note q.val (d.nextSeq q.val) [1]) kern.toNat k
  obtain ⟨hended, hlast⟩ := Dev.settle_ended_ok (Dev.working_of_leavesWork hleaves (Dev.working_note (Dev.begun_working htakes) [1]))
    (if k.released then 0 else k.where.length) fun _ => rfl
  rw [Dev.submit_kretire h ho hk hr hg]
  refine ⟨hended, (Dev.kernel_queueStep hlast _).trans hgone, fun x hx => ?_, fun b hb hown hin => ?_⟩
  · exact (Dev.kernel_queueStep hlast _).trans ((hothers x hx).trans ((Dev.kernel_queueStep hnote _).trans (Dev.kernel_queueStep hstep _)))
  · refine (hlast.fields _ fun g hg => absurd hg List.not_mem_nil).trans (howner b hb ?_ ?_)
    · refine (hnote.fields _ fun g hg => absurd hg List.not_mem_nil).trans ((Dev.rd_begun htakes (.inr ?_)).trans hown)
      rw [key_BANK_OWN_OWNER]
      omega
    · rw [Dev.isRetired, Dev.queueStep_eq hnote, Dev.queueStep_eq hstep]
      exact hin

end

/-- Settles O8, command by command: each finds its kernel as the device held it, and does to it what its equation above says. -/
theorem kernelCommands : Obligations.KernelCommands := by
  intro s q f kern k hk hr d n h a
  refine ⟨?krun, ?idle, ?running, ?kbind, ?kparam, ?kswitch, ?kretire⟩
  case krun =>
    intro hready hrel hrun hopen d1 up
    have hiff : d.startsNow k ↔ up := by
      have hens : (∃ e, KMap.find d.ensembles a = some e ∧ e.phase = 1) ↔
          match KMap.find d.ensembles a with | some e => e.phase = 1 | none => False := by
        cases hfind : KMap.find d.ensembles a with
        | none => simp
        | some e => simp
      exact and_congr_left' hens
    exact ⟨fun hup => congrArg s.next (Dev.submit_krun_starts hready hk hr hrel hrun hopen (hiff.mpr hup)),
      fun hup => congrArg s.next (Dev.submit_krun_waits hready hk hr hrel hrun hopen (mt hiff.mp hup))⟩
  case idle =>
    exact fun hready ho hrun hmove => ⟨_, rfl, Dev.submit_kstop_idle hready hk hr hmove ho hrun⟩
  case running =>
    exact fun r hready hrun hbegun hrel hmove hshown =>
      congrArg s.next (Dev.submit_kstop_running hready hk hr hmove hrun hbegun hrel hshown)
  case kbind =>
    intro slot kind target hready hrel hrun hin htype hkind hbuf
    obtain ⟨hended, hkernels, honly⟩ := Dev.submit_kbind (f := f) hready hin hk hr hrel hrun htype hkind hbuf
    refine ⟨_, rfl, hended, ?_, honly, fun x hx => ?_⟩
    · have hput := (congrArg (KMap.find · h) hkernels).trans ((KMap.find_put _ _ _ _).trans (if_pos rfl))
      exact hput.trans (congrArg some (Kernel.bound_eq k slot.toNat kind target.toNat))
    · exact (congrArg (KMap.find · x) hkernels).trans ((KMap.find_put _ _ _ _).trans (if_neg (Ne.symm hx)))
  case kparam =>
    intro preg sreg srcS value hready hrel hrun hfret v d1
    refine ⟨?_, fun x hone => congrArg s.next (Dev.submit_kparam_live_last hready hk hr hrel hone),
      fun x y l hmore => congrArg s.next (Dev.submit_kparam_live_first hready hk hr hrel hmore)⟩
    obtain ⟨hended, hparam, honly⟩ := Dev.submit_kparam_ends (f := f) (preg := preg) (sreg := sreg) (srcS := srcS) (value := value)
      hready hk hr hrel hrun hfret
    refine ⟨_, rfl, hended, fun x hx => (hparam x k.fret preg.toNat hfret preg.isLt).trans (if_pos ⟨hx, rfl, rfl⟩),
      fun x g p hp hg hne => ?_, honly⟩
    refine (hparam x g p hg hp).trans (if_neg fun hall => ?_)
    obtain ⟨hx, hfr, hpr⟩ := hall
    rcases hne with hne | hne | hne
    · exact hne hx
    · exact hne hfr
    · exact hne hpr
  case kswitch =>
    intro e hready hrel hmove hopen he hphase hwaiting
    exact ⟨fun hshown => ⟨_, rfl, Dev.submit_kswitch_shown hready hk hr hrel hmove hopen he hphase hwaiting hshown⟩,
      fun hshown => congrArg s.next (Dev.submit_kswitch_other hready hk hr hrel hmove hopen he hphase hwaiting hshown),
      fun hplane => ⟨_, rfl, Dev.submit_kswitch_ready hready hk hr hrel hmove hopen hplane⟩,
      fun hplane => congrArg s.next (Dev.submit_kswitch_preload hready hk hr hrel hmove hopen hplane)⟩
  case kretire =>
    intro hready ho hg
    obtain ⟨hended, hgone, hothers, howner⟩ := Dev.submit_kretire_ends (f := f) hready ho hk hr hg
    exact ⟨_, rfl, hended, hgone, hothers, fun b => howner b.val b.isLt⟩

end Sys2Proof.Machine
end

section
/-!
The commands on lanes, DMA channels and tables (R101 to R105, R289, R294, R295, R364, R405): LBIND, LCTL, DMAGO, TSETUP, TCLEAR and TDRAIN.
-/
namespace Sys2Proof.Machine

/-! What these commands read, across the acceptance of a command. -/

section
variable {d t : Dev} {q : Nat} {fs : List Field} (h : d.queueStep t q fs)
include h

theorem Dev.groups_queueStep : t.groups = d.groups := by
  rw [Dev.queueStep_eq h]

theorem Dev.groupOf_queueStep (L : Nat) : t.groupOf L = d.groupOf L := by
  rw [Dev.queueStep_eq h]
  rfl

theorem Dev.laneSlot_queueStep (k : Kernel) (slot : Nat) : t.laneSlot k slot = d.laneSlot k slot := by
  rw [Dev.queueStep_eq h]
  rfl

theorem Dev.xfer_queueStep (n : Nat) : t.xfer n = d.xfer n := by
  rw [Dev.queueStep_eq h]
  rfl

theorem Dev.table_queueStep (n : Nat) : t.table n = d.table n := by
  rw [Dev.queueStep_eq h]
  rfl

end

/-- Lanes that no group holds, none retired, their quads' gates open. -/
def Dev.lanesFree (d : Dev) (ls : List Nat) : Prop :=
  ∀ L ∈ ls, d.groupOf L = none ∧ d.on (LANE_STAT_RETIRED L) = false ∧ d.gateLane (L / 4) = true

section
variable {d : Dev} {ls : List Nat} (h : d.lanesFree ls)
include h

theorem Dev.quadsOpen_free : d.quadsOpen ls = true := List.all_eq_true.mpr fun L hL => (h L hL).2.2

theorem Dev.noneHeld_free : (ls.any fun L => (d.groupOf L).isSome || d.on (LANE_STAT_RETIRED L)) = false := by
  rw [List.any_eq_false]
  intro L hL
  obtain ⟨hgroup, hretired, -⟩ := h L hL
  simp [hgroup, hretired]

theorem Dev.noneRetired_free : (ls.any fun L => d.on (LANE_STAT_RETIRED L)) = false := by
  rw [List.any_eq_false]
  intro L hL
  simp [(h L hL).2.1]

theorem Dev.noGroups_free : (ls.filterMap fun L => (d.groupOf L).map (·.1)) = [] :=
  List.filterMap_eq_nil_iff.mpr fun L hL => by rw [(h L hL).1, Option.map_none]

end

theorem Dev.lanesFree_begun {d : Dev} {q : Nat} {c : Cmd} {f : CmdFlags} {env : CmdEnv} (ht : d.takesNow q c f) {ls : List Nat}
    (h : d.lanesFree ls) : (d.begun q c f env).lanesFree ls := by
  intro L hL
  obtain ⟨hgroup, hretired, hgate⟩ := h L hL
  refine ⟨(Dev.groupOf_queueStep (Dev.begun_queueStep ht) L).trans hgroup, ?_, ?_⟩
  · rw [Dev.on, Dev.rd_begun ht (.inr (by simp only [Field.key, LANE_STAT_RETIRED]; omega)), ← hretired, Dev.on]
  · rw [Dev.gateLane, Dev.bit, Dev.rd_begun ht (by decide), ← hgate, Dev.gateLane, Dev.bit]

/-! LBIND (R101, R361, R368). -/

theorem Dev.workLbind_forms {d : Dev} {q n kern slot first w rate : Nat} {k : Kernel} (hk : d.kernel kern = some k) (hrel : k.released = false)
    (hslot : d.laneSlot k slot = true) (hheld : ∀ x ∈ d.groups, ¬ (x.2.kern = kern ∧ x.2.slot = slot)) (hfit : first + 2 ^ w ≤ 128)
    (hfree : d.lanesFree (groupLanes first w)) :
    d.workLbind q n [] kern slot false first w rate =
      ((d.formGroup first w { kern := kern, slot := slot, maxRate := rate, cmd := some (q, n) }).note q n [1]).waiting := by
  have hnone : (d.groups.find? fun (_, x) => x.kern == kern && x.slot == slot) = none :=
    List.find?_eq_none.mpr fun x hx => by simpa using hheld x hx
  simp [Dev.workLbind, hk, hrel, hslot, hnone, Nat.not_lt.mpr hfit, Dev.noneHeld_free hfree, Dev.quadsOpen_free hfree]

theorem Dev.submit_lbind {d : Dev} {q : QId} {f : CmdFlags} {kern : BitVec 16} {slot : BitVec 4} {first : BitVec 7} {w rate : BitVec 3}
    {k : Kernel} (h : d.ready q.val 2) (hin : (Cmd.lbind kern slot false first w rate).inRange = true) (hk : d.kernel kern.toNat = some k)
    (hr : k.ready = true) (hrel : k.released = false) (hslot : d.laneSlot k slot.toNat = true)
    (hheld : ∀ x ∈ d.groups, ¬ (x.2.kern = kern.toNat ∧ x.2.slot = slot.toNat)) (hfit : first.toNat + 2 ^ w.toNat ≤ 128)
    (hfree : d.lanesFree (groupLanes first.toNat w.toNat)) :
    d.submit q.val (.lbind kern slot false first w rate) f .none =
      ((d.begun q.val (.lbind kern slot false first w rate) f .none).formGroup first.toNat w.toNat
        { kern := kern.toNat, slot := slot.toNat, maxRate := rate.toNat, cmd := some (q.val, d.nextSeq q.val) }).note q.val
        (d.nextSeq q.val) [1] := by
  have htakes : d.takesNow q.val (.lbind kern slot false first w rate) f := Dev.takesNow_of_ready h rfl hin rfl rfl
  have hstep := Dev.begun_queueStep htakes (env := .none)
  have hworking := Dev.begun_working htakes (env := .none)
  refine Dev.submit_left htakes (Dev.handlesReady_kernel hk hr rfl rfl rfl) rfl rfl ?_ (Dev.working_note hworking [1])
    (Dev.note_queues_congr (Dev.formGroup_queues _ _ _ _) _ _ _)
  rw [Dev.work, hworking.seq, Dev.aux_begunEntry]
  exact Dev.workLbind_forms ((Dev.kernel_queueStep hstep _).trans hk) hrel ((Dev.laneSlot_queueStep hstep _ _).trans hslot)
    (fun x hx => hheld x (Dev.groups_queueStep hstep ▸ hx)) hfit (Dev.lanesFree_begun htakes hfree)

/-! LCTL (R102, R364, R380). -/

/-- An action that needs no training, on lanes that no group holds. -/
theorem Dev.workLctl_eq {d : Dev} {q n first w act arg : Nat} (hact : act ≠ 3 ∧ act ≠ 4) (hfit : first + 2 ^ w ≤ 128)
    (hfree : d.lanesFree (groupLanes first w)) :
    d.workLctl q n [] first w act arg = d.laneAction act arg first (groupLanes first w) := by
  simp [Dev.workLctl, Nat.not_lt.mpr hfit, Dev.noneRetired_free hfree, Dev.noGroups_free hfree, Dev.quadsOpen_free hfree, hact]

section
variable {d : Dev} {q : QId} {f : CmdFlags} {first : BitVec 7} {w arg : BitVec 3} {act : BitVec 4}

theorem Dev.submit_lctl (h : d.ready q.val 1) (hact : act ≠ 3) (hact' : act ≠ 4) (hin : (Cmd.lctl first w act arg).inRange = true)
    (hfit : first.toNat + 2 ^ w.toNat ≤ 128) (hfree : d.lanesFree (groupLanes first.toNat w.toNat)) :
    d.submit q.val (.lctl first w act arg) f .none =
      ((d.begun q.val (.lctl first w act arg) f .none).laneAction act.toNat arg.toNat first.toNat
        (groupLanes first.toNat w.toNat)).2.settle q.val (d.nextSeq q.val)
        ((d.begun q.val (.lctl first w act arg) f .none).laneAction act.toNat arg.toNat first.toNat (groupLanes first.toNat w.toNat)).1 := by
  have htakes : d.takesNow q.val (.lctl first w act arg) f := Dev.takesNow_of_ready h rfl hin rfl rfl
  have hne : act.toNat ≠ 3 ∧ act.toNat ≠ 4 := ⟨fun h3 => hact (BitVec.eq_of_toNat_eq h3), fun h4 => hact' (BitVec.eq_of_toNat_eq h4)⟩
  rw [Dev.submit_working htakes rfl (Dev.handlesReady_nil _ rfl rfl rfl) rfl, Dev.work, Dev.aux_begunEntry,
    Dev.workLctl_eq hne hfit (Dev.lanesFree_begun htakes hfree)]

end

/-! The lanes that LCTL puts to sleep, and the PRBS that it ends. -/

section
variable (L : Nat)

theorem key_LANE_STAT_PSTATE : (LANE_STAT_PSTATE L).key = 32768 * L + 8388672 := by simp only [Field.key, LANE_STAT_PSTATE]; omega

theorem key_LANE_STAT_SYNC : (LANE_STAT_SYNC L).key = 32768 * L + 8388677 := by simp only [Field.key, LANE_STAT_SYNC]; omega

theorem key_LANE_STAT_RETIRED : (LANE_STAT_RETIRED L).key = 32768 * L + 8388694 := by simp only [Field.key, LANE_STAT_RETIRED]; omega

theorem key_LANE_PRBS_RUN : (LANE_PRBS_RUN L).key = 32768 * L + 8388834 := by simp only [Field.key, LANE_PRBS_RUN]; omega

theorem key_LANE_PRBS_LOCK : (LANE_PRBS_LOCK L).key = 32768 * L + 8388835 := by simp only [Field.key, LANE_PRBS_LOCK]; omega

end

/-- The fields of lanes that an action on sleeping lanes may change. -/
def laneFields (ls : List Nat) : List Field :=
  ls.map LANE_STAT_PSTATE ++ ls.map LANE_STAT_SYNC ++ ls.map LANE_PRBS_RUN ++ ls.map LANE_PRBS_LOCK

theorem laneFields_low {ls : List Nat} (hls : ∀ L ∈ ls, L < 128) : ∀ f ∈ laneFields ls, f.key < 2 ^ 25 := by
  intro f hf
  simp only [laneFields, List.mem_append, List.mem_map] at hf
  rcases hf with ((⟨L, hL, rfl⟩ | ⟨L, hL, rfl⟩) | ⟨L, hL, rfl⟩) | ⟨L, hL, rfl⟩
  · have := hls L hL; rw [key_LANE_STAT_PSTATE]; omega
  · have := hls L hL; rw [key_LANE_STAT_SYNC]; omega
  · have := hls L hL; rw [key_LANE_PRBS_RUN]; omega
  · have := hls L hL; rw [key_LANE_PRBS_LOCK]; omega

theorem mem_laneFields {ls : List Nat} {L : Nat} (hL : L ∈ ls) : LANE_STAT_PSTATE L ∈ laneFields ls ∧ LANE_STAT_SYNC L ∈ laneFields ls ∧
    LANE_PRBS_RUN L ∈ laneFields ls ∧ LANE_PRBS_LOCK L ∈ laneFields ls := by
  simp only [laneFields, List.mem_append, List.mem_map]
  exact ⟨.inl (.inl (.inl ⟨L, hL, rfl⟩)), .inl (.inl (.inr ⟨L, hL, rfl⟩)), .inl (.inr ⟨L, hL, rfl⟩), .inr ⟨L, hL, rfl⟩⟩

/-- Steps that change one queue's fields alone, one after another. -/
theorem Dev.queueStep_foldl {α : Type} {F : Dev → α → Dev} {q : Nat} {fs : List Field} {l : List α}
    (hF : ∀ x ∈ l, ∀ d : Dev, d.queueStep (F d x) q fs) (d : Dev) : d.queueStep (l.foldl F d) q fs := by
  induction l generalizing d with
  | nil => exact Dev.queueStep_refl d q fs
  | cons x l ih =>
    obtain ⟨hx, hl⟩ := List.forall_mem_cons.mp hF
    exact Dev.queueStep_trans (hx d) (ih hl _)

/-- Steps that keep a property of the device and each set one lane's field set it for all their lanes. -/
theorem rd_foldl_lanes {F : Dev → Nat → Dev} {P : Dev → Prop} {g : Nat → Field} {v : Nat} (ls : List Nat) (hP : ∀ d M, P d → P (F d M))
    (hF : ∀ d M, M ∈ ls → P d → ∀ L, (F d M).rd (g L) = if L = M then v else d.rd (g L)) (d : Dev) (hd : P d) (L : Nat) :
    (ls.foldl F d).rd (g L) = if L ∈ ls then v else d.rd (g L) := by
  induction ls generalizing d with
  | nil => rfl
  | cons M ls ih =>
    rw [List.foldl_cons, ih (fun d M hM => hF d M (List.mem_cons_of_mem _ hM)) _ (hP d M hd), hF d M List.mem_cons_self hd]
    by_cases hin : L ∈ ls
    · rw [if_pos hin, if_pos (List.mem_cons_of_mem _ hin)]
    · rw [if_neg hin]
      exact if_congr ⟨fun h => List.mem_cons.mpr (.inl h), fun h => (List.mem_cons.mp h).resolve_right hin⟩ rfl rfl

section
variable (d : Dev) (M st : Nat)

theorem Dev.retired_laneSleep (L : Nat) : (d.laneSleep M st).on (LANE_STAT_RETIRED L) = d.on (LANE_STAT_RETIRED L) := by
  rw [Dev.laneSleep, Dev.laneTo, Dev.clr_eq, Dev.on_wr_ne _ _ (by rw [key_LANE_STAT_SYNC, key_LANE_STAT_RETIRED]; omega),
    Dev.on_wr_ne _ _ (by rw [key_LANE_STAT_PSTATE, key_LANE_STAT_RETIRED]; omega)]

theorem Dev.pstate_laneSleep (h : d.on (LANE_STAT_RETIRED M) = false) (hst : st < 4) (L : Nat) :
    (d.laneSleep M st).rd (LANE_STAT_PSTATE L) = if L = M then st else d.rd (LANE_STAT_PSTATE L) := by
  rw [Dev.laneSleep, Dev.laneTo, Dev.clr_eq, Dev.rd_wr_ne _ _ (by rw [key_LANE_STAT_SYNC, key_LANE_STAT_PSTATE]; omega), h,
    if_neg Bool.false_ne_true]
  split
  · next hL => exact hL ▸ (Dev.rd_wr_same _ _ _).trans (Nat.mod_eq_of_lt hst)
  · exact Dev.rd_wr_ne _ _ (by simp only [key_LANE_STAT_PSTATE]; omega)

theorem Dev.sync_laneSleep (L : Nat) : (d.laneSleep M st).rd (LANE_STAT_SYNC L) = if L = M then 0 else d.rd (LANE_STAT_SYNC L) := by
  rw [Dev.laneSleep, Dev.laneTo, Dev.clr_eq]
  by_cases hL : L = M
  · rw [if_pos hL, hL]
    exact Dev.rd_wr_same _ _ _
  · rw [if_neg hL, Dev.rd_wr_ne _ _ (by simp only [key_LANE_STAT_SYNC]; omega)]
    exact Dev.rd_wr_ne _ _ (by rw [key_LANE_STAT_SYNC, key_LANE_STAT_PSTATE]; omega)

end

/-- LCTL's action 7 on a lane: its PRBS ends. -/
def Dev.prbsEnd (d : Dev) (L : Nat) : Dev := (d.clr (LANE_PRBS_RUN L)).clr (LANE_PRBS_LOCK L)

theorem Dev.run_prbsEnd (d : Dev) (M L : Nat) : (d.prbsEnd M).rd (LANE_PRBS_RUN L) = if L = M then 0 else d.rd (LANE_PRBS_RUN L) := by
  rw [Dev.prbsEnd, Dev.clr_eq, Dev.clr_eq, Dev.rd_wr_ne _ _ (by rw [key_LANE_PRBS_LOCK, key_LANE_PRBS_RUN]; omega)]
  split
  · next hL => exact hL ▸ Dev.rd_wr_same _ _ _
  · exact Dev.rd_wr_ne _ _ (by simp only [key_LANE_PRBS_RUN]; omega)

theorem Dev.lock_prbsEnd (d : Dev) (M L : Nat) : (d.prbsEnd M).rd (LANE_PRBS_LOCK L) = if L = M then 0 else d.rd (LANE_PRBS_LOCK L) := by
  rw [Dev.prbsEnd, Dev.clr_eq, Dev.clr_eq]
  split
  · next hL => exact hL ▸ Dev.rd_wr_same _ _ _
  · rw [Dev.rd_wr_ne _ _ (by simp only [key_LANE_PRBS_LOCK]; omega)]
    exact Dev.rd_wr_ne _ _ (by rw [key_LANE_PRBS_LOCK, key_LANE_PRBS_RUN]; omega)

/-- What actions 1, 2 and 7 do to lanes. -/
def Dev.lanesDone (d : Dev) (act : Nat) (ls : List Nat) : Dev :=
  if act = 7 then ls.foldl Dev.prbsEnd d else ls.foldl (fun d L => Dev.laneSleep d L (if act = 1 then 1 else 0)) d

theorem Dev.laneAction_done (d : Dev) {act : Nat} (hact : act = 1 ∨ act = 2 ∨ act = 7) (arg first : Nat) (ls : List Nat) :
    d.laneAction act arg first ls = (d.lanesDone act ls).over .ok := by
  rcases hact with rfl | rfl | rfl <;> rfl

theorem Dev.lanesDone_queueStep (d : Dev) (act q : Nat) (ls : List Nat) : d.queueStep (d.lanesDone act ls) q (laneFields ls) := by
  unfold Dev.lanesDone
  split
  · refine Dev.queueStep_foldl (fun L hL d => ?_) d
    obtain ⟨-, -, hrun, hlock⟩ := mem_laneFields hL
    exact Dev.queueStep_wr (Dev.queueStep_wr (Dev.queueStep_refl d q _) hrun 0) hlock 0
  · refine Dev.queueStep_foldl (fun L hL d => ?_) d
    obtain ⟨hpstate, hsync, -, -⟩ := mem_laneFields hL
    exact Dev.queueStep_wr (Dev.queueStep_wr (Dev.queueStep_refl d q _) hpstate _) hsync 0

theorem Dev.journal_lanesDone (d : Dev) (act : Nat) (ls : List Nat) (q : Nat) : (d.lanesDone act ls).journal q = d.journal q := by
  unfold Dev.lanesDone
  split
  · exact foldl_keeps (Dev.journal · q) (F := Dev.prbsEnd) (fun _ _ => rfl) ls d
  · exact foldl_keeps (Dev.journal · q) (F := fun d L => Dev.laneSleep d L (if act = 1 then 1 else 0)) (fun _ _ => rfl) ls d

/-- The lanes of a sleeping action: their power state, and no sync. -/
theorem Dev.rd_lanesDone_sleep {d : Dev} {act : Nat} {ls : List Nat} (hact : act ≠ 7) (hfree : ∀ L ∈ ls, d.on (LANE_STAT_RETIRED L) = false) :
    ∀ L ∈ ls, (d.lanesDone act ls).rd (LANE_STAT_PSTATE L) = (if act = 1 then 1 else 0) ∧ (d.lanesDone act ls).rd (LANE_STAT_SYNC L) = 0 := by
  intro L hL
  have hst : (if act = 1 then 1 else 0) < 4 := by split <;> omega
  rw [Dev.lanesDone, if_neg hact]
  constructor
  · refine (rd_foldl_lanes (P := fun d => ∀ L ∈ ls, d.on (LANE_STAT_RETIRED L) = false) ls (fun d M hd N hN => ?_) (fun d M hM hd N => ?_) d
      hfree L).trans (if_pos hL)
    · exact (Dev.retired_laneSleep d M _ N).trans (hd N hN)
    · exact Dev.pstate_laneSleep d M _ (hd M hM) hst N
  · exact (rd_foldl_lanes (P := fun _ => True) ls (fun _ _ _ => trivial) (fun d M _ _ N => Dev.sync_laneSleep d M _ N) d trivial L).trans
      (if_pos hL)

/-- The lanes of an action that ends PRBS. -/
theorem Dev.rd_lanesDone_prbs (d : Dev) (ls : List Nat) :
    ∀ L ∈ ls, (d.lanesDone 7 ls).rd (LANE_PRBS_RUN L) = 0 ∧ (d.lanesDone 7 ls).rd (LANE_PRBS_LOCK L) = 0 := by
  intro L hL
  rw [Dev.lanesDone, if_pos rfl]
  exact ⟨(rd_foldl_lanes (P := fun _ => True) ls (fun _ _ _ => trivial) (fun d M _ _ N => Dev.run_prbsEnd d M N) d trivial L).trans (if_pos hL),
    (rd_foldl_lanes (P := fun _ => True) ls (fun _ _ _ => trivial) (fun d M _ _ N => Dev.lock_prbsEnd d M N) d trivial L).trans (if_pos hL)⟩

theorem groupLanes_lt {first w : Nat} (hfit : first + 2 ^ w ≤ 128) : ∀ L ∈ groupLanes first w, L < 128 := by
  intro L hL
  obtain ⟨i, hi, rfl⟩ := List.mem_map.mp hL
  have := List.mem_range.mp hi
  omega

theorem Dev.submit_lctl_done {d : Dev} {q : QId} {f : CmdFlags} {first : BitVec 7} {w : BitVec 3} {act : BitVec 4} (h : d.ready q.val 1)
    (hact : act = 1 ∨ act = 2 ∨ act = 7) (hin : (Cmd.lctl first w act 0).inRange = true) (hfit : first.toNat + 2 ^ w.toNat ≤ 128)
    (hfree : d.lanesFree (groupLanes first.toNat w.toNat)) :
    (d.submit q.val (.lctl first w act 0) f .none).ended q.val (d.nextSeq q.val) .ok 0 ∧
      (∀ L ∈ groupLanes first.toNat w.toNat,
        (act = 1 → (d.submit q.val (.lctl first w act 0) f .none).rd (LANE_STAT_PSTATE L) = 1 ∧
          (d.submit q.val (.lctl first w act 0) f .none).rd (LANE_STAT_SYNC L) = 0) ∧
        (act = 2 → (d.submit q.val (.lctl first w act 0) f .none).rd (LANE_STAT_PSTATE L) = 0 ∧
          (d.submit q.val (.lctl first w act 0) f .none).rd (LANE_STAT_SYNC L) = 0) ∧
        (act = 7 → (d.submit q.val (.lctl first w act 0) f .none).rd (LANE_PRBS_RUN L) = 0 ∧
          (d.submit q.val (.lctl first w act 0) f .none).rd (LANE_PRBS_LOCK L) = 0)) ∧
      d.queueOnly (d.submit q.val (.lctl first w act 0) f .none) q.val (laneFields (groupLanes first.toNat w.toNat)) := by
  have htakes : d.takesNow q.val (.lctl first w act 0) f := Dev.takesNow_of_ready h rfl hin rfl rfl
  have hworking := Dev.begun_working htakes (env := .none)
  have hfree' := Dev.lanesFree_begun htakes hfree (env := .none)
  have hnat : act.toNat = 1 ∨ act.toNat = 2 ∨ act.toNat = 7 := by rcases hact with rfl | rfl | rfl <;> decide
  have hdone := Dev.lanesDone_queueStep (d.begun q.val (.lctl first w act 0) f .none) act.toNat q.val (groupLanes first.toNat w.toNat)
  have hwork : (d.begun q.val (.lctl first w act 0) f .none).work q.val (d.begunEntry q.val (.lctl first w act 0) f .none) (.lctl first w act 0) =
      ((d.begun q.val (.lctl first w act 0) f .none).lanesDone act.toNat (groupLanes first.toNat w.toNat)).over .ok 0 := by
    rw [Dev.work, Dev.aux_begunEntry, Dev.workLctl_eq (by omega) hfit hfree', Dev.laneAction_done _ hnat]
  obtain ⟨hended, hlast, hall⟩ := Dev.submit_over htakes rfl (Dev.handlesReady_nil _ rfl rfl rfl) rfl hwork
    (Dev.working_of_queueStep hworking hdone (laneFields_low (groupLanes_lt hfit))
      ((Dev.journal_lanesDone _ _ _ _).trans hworking.journal)) hdone fun _ => rfl
  have hrd (g : Field) : (d.submit q.val (.lctl first w act 0) f .none).rd g =
      ((d.begun q.val (.lctl first w act 0) f .none).lanesDone act.toNat (groupLanes first.toNat w.toNat)).rd g :=
    hlast.fields g fun x hx => absurd hx List.not_mem_nil
  refine ⟨hended, fun L hL => ?_, Dev.queueOnly_of_taken hall (by simp)⟩
  simp only [hrd]
  refine ⟨fun h1 => ?_, fun h2 => ?_, fun h7 => ?_⟩
  · subst h1
    exact Dev.rd_lanesDone_sleep (by decide) (fun M hM => (hfree' M hM).2.1) L hL
  · subst h2
    exact Dev.rd_lanesDone_sleep (by decide) (fun M hM => (hfree' M hM).2.1) L hL
  · subst h7
    exact Dev.rd_lanesDone_prbs _ _ L hL

/-! DMAGO (R103, R405, R407). -/

/-- Fields take values, one after another. -/
def Dev.wrAll (d : Dev) (l : List (Field × Nat)) : Dev := l.foldl (fun d x => Dev.wr d x.1 x.2) d

theorem Dev.rd_wrAll_ne (d : Dev) {l : List (Field × Nat)} {g : Field} (h : ∀ x ∈ l, x.1.key ≠ g.key) : (d.wrAll l).rd g = d.rd g := by
  induction l generalizing d with
  | nil => rfl
  | cons x l ih =>
    obtain ⟨hx, hl⟩ := List.forall_mem_cons.mp h
    exact (ih (d.wr x.1 x.2) hl).trans (Dev.rd_wr_ne _ _ hx)

/-- Fields that lie apart each keep their own. -/
theorem Dev.rd_wrAll (d : Dev) {l : List (Field × Nat)} (h : l.Pairwise fun x y => x.1.key ≠ y.1.key) :
    ∀ x ∈ l, (d.wrAll l).rd x.1 = x.2 % 2 ^ x.1.width := by
  induction l generalizing d with
  | nil => exact fun x hx => absurd hx List.not_mem_nil
  | cons y l ih =>
    obtain ⟨hy, hl⟩ := List.pairwise_cons.mp h
    refine List.forall_mem_cons.mpr ⟨?_, ih (d.wr y.1 y.2) hl⟩
    exact (Dev.rd_wrAll_ne (d.wr y.1 y.2) fun x hx => (hy x hx).symm).trans (Dev.rd_wr_same _ _ _)

theorem Dev.keepsWork_wrAll (d : Dev) {l : List (Field × Nat)} (h : ∀ x ∈ l, x.1.key < 2 ^ 25) : d.keepsWork (d.wrAll l) := by
  induction l generalizing d with
  | nil => exact Dev.keepsWork_refl d
  | cons x l ih =>
    obtain ⟨hx, hl⟩ := List.forall_mem_cons.mp h
    exact Dev.keepsWork_trans (Dev.keepsWork_wr d (twinState_apart hx) x.2) (ih _ hl)

theorem Dev.xfers_wrAll (d : Dev) (l : List (Field × Nat)) : (d.wrAll l).xfers = d.xfers := by
  refine foldl_keeps (fun d => d.xfers) (F := fun d x => Dev.wr d x.1 x.2) ?_ l d
  exact fun _ _ => rfl

/-- The active set of a channel as a DMAGO loads it. -/
def dmaSet (ch : Nat) (key : BitVec 6) (src dst : BitVec 48) (cnt : BitVec 32) (ev : BitVec 8) (evEn sw : Bool) (sk : BitVec 5) (dw : Bool)
    (dk : BitVec 5) : List (Field × Nat) :=
  [(DMA_CH_SRC_ADDR ch, src.toNat), (DMA_CH_DST_ADDR ch, dst.toNat), (DMA_CH_CNT_CNT ch, cnt.toNat), (DMA_CH_CTL_EVENT ch, b2n evEn),
    (DMA_CH_CTL_EV ch, ev.toNat), (DMA_CH_CTL_SRC_WRAP ch, b2n sw), (DMA_CH_CTL_SRC_K ch, sk.toNat), (DMA_CH_CTL_DST_WRAP ch, b2n dw),
    (DMA_CH_CTL_DST_K ch, dk.toNat), (DMA_CH_CTL_KEY ch, key.toNat)]

section
variable {ch : Nat} {key : BitVec 6} {src dst : BitVec 48} {cnt : BitVec 32} {ev : BitVec 8} {evEn sw dw : Bool} {sk dk : BitVec 5}

theorem dmaSet_apart : (dmaSet ch key src dst cnt ev evEn sw sk dw dk).Pairwise fun x y => x.1.key ≠ y.1.key := by
  simp only [dmaSet, List.pairwise_cons, List.forall_mem_cons, List.not_mem_nil, false_implies, implies_true, List.Pairwise.nil, and_true, Field.key,
    DMA_CH_SRC_ADDR, DMA_CH_DST_ADDR, DMA_CH_CNT_CNT, DMA_CH_CTL_EVENT, DMA_CH_CTL_EV, DMA_CH_CTL_SRC_WRAP, DMA_CH_CTL_SRC_K, DMA_CH_CTL_DST_WRAP,
    DMA_CH_CTL_DST_K, DMA_CH_CTL_KEY]
  omega

theorem dmaSet_key (hch : ch < 64) : ∀ x ∈ dmaSet ch key src dst cnt ev evEn sw sk dw dk, x.1.key ≠ (DMA_CH_CTL_GO ch).key ∧ x.1.key < 2 ^ 25 := by
  simp only [dmaSet, List.forall_mem_cons, List.not_mem_nil, false_implies, implies_true, and_true, Field.key, DMA_CH_SRC_ADDR, DMA_CH_DST_ADDR,
    DMA_CH_CNT_CNT, DMA_CH_CTL_EVENT, DMA_CH_CTL_EV, DMA_CH_CTL_SRC_WRAP, DMA_CH_CTL_SRC_K, DMA_CH_CTL_DST_WRAP, DMA_CH_CTL_DST_K, DMA_CH_CTL_KEY,
    DMA_CH_CTL_GO]
  omega

/-- The device with other transfers and another record of loads. -/
def Dev.withDma (d : Dev) (m : KMap Xfer) (l : List DmaRec) : Dev := { d with xfers := m, dmaLog := l }

theorem Dev.keepsWork_withDma (d : Dev) (m : KMap Xfer) (l : List DmaRec) : d.keepsWork (d.withDma m l) := ⟨rfl, rfl, rfl, rfl, rfl, rfl⟩

/-- A channel whose active set is loaded, and whose transfer starts. -/
def Dev.dmaGone (d : Dev) (ch : Nat) (l : List (Field × Nat)) (p : Port) (epoch : Nat) (cmd : Option (Nat × Nat)) (log : List DmaRec) : Dev :=
  ((d.wrAll l).wr (DMA_CH_CTL_GO ch) 1).withDma
    (KMap.put d.xfers ch ⟨p, epoch, (d.wrAll l).rd (DMA_CH_SRC_ADDR ch), (d.wrAll l).rd (DMA_CH_DST_ADDR ch), (d.wrAll l).rd (DMA_CH_CNT_CNT ch),
      0, [], [], [], [], cmd⟩) log

theorem Dev.workDma_goes {d : Dev} {q : Nat} {e : Entry} (hkey : d.keyOk key.toNat = true) (hgate : d.gate 6 = true)
    (hidle : d.on (DMA_CH_CTL_GO ch) = false) {c : BitVec 6} :
    d.workDma q e (.dmago c false key src dst cnt ev evEn sw sk dw dk) ch false key.toNat =
      (d.dmaGone ch (dmaSet ch key src dst cnt ev evEn sw sk dw dk) e.ident e.epoch (some (q, e.seq))
        (d.dmaLog ++ [⟨ch, q, e.seq, e.epoch, e.ident, .dmago c false key src dst cnt ev evEn sw sk dw dk⟩])).over .ok := by
  have hbusy : d.dmaBusy ch = false := hidle
  rw [Dev.workDma, hkey, hgate, hbusy]
  rfl

/-- The active set shows what was loaded. -/
theorem Dev.rd_dmaSet (d : Dev) :
    let t := d.wrAll (dmaSet ch key src dst cnt ev evEn sw sk dw dk)
    t.rd (DMA_CH_SRC_ADDR ch) = src.toNat ∧ t.rd (DMA_CH_DST_ADDR ch) = dst.toNat ∧ t.rd (DMA_CH_CNT_CNT ch) = cnt.toNat ∧
      t.rd (DMA_CH_CTL_KEY ch) = key.toNat := by
  have hset : ∀ x ∈ dmaSet ch key src dst cnt ev evEn sw sk dw dk,
      (d.wrAll (dmaSet ch key src dst cnt ev evEn sw sk dw dk)).rd x.1 = x.2 % 2 ^ x.1.width := Dev.rd_wrAll d dmaSet_apart
  exact ⟨(hset (DMA_CH_SRC_ADDR ch, src.toNat) (by simp [dmaSet])).trans (Nat.mod_eq_of_lt src.isLt),
    (hset (DMA_CH_DST_ADDR ch, dst.toNat) (by simp [dmaSet])).trans (Nat.mod_eq_of_lt dst.isLt),
    (hset (DMA_CH_CNT_CNT ch, cnt.toNat) (by simp [dmaSet])).trans (Nat.mod_eq_of_lt cnt.isLt),
    (hset (DMA_CH_CTL_KEY ch, key.toNat) (by simp [dmaSet])).trans (Nat.mod_eq_of_lt key.isLt)⟩

/-- What the start of a transfer leaves. -/
theorem Dev.dmaGone_shows (d : Dev) (hch : ch < 64) (p : Port) (epoch : Nat) (cmd : Option (Nat × Nat)) (log : List DmaRec) :
    let t := d.dmaGone ch (dmaSet ch key src dst cnt ev evEn sw sk dw dk) p epoch cmd log
    d.keepsWork t ∧ t.rd (DMA_CH_SRC_ADDR ch) = src.toNat ∧ t.rd (DMA_CH_DST_ADDR ch) = dst.toNat ∧ t.rd (DMA_CH_CNT_CNT ch) = cnt.toNat ∧
      t.rd (DMA_CH_CTL_GO ch) = 1 ∧ t.rd (DMA_CH_CTL_KEY ch) = key.toNat ∧
      t.xfer ch = some ⟨p, epoch, src.toNat, dst.toNat, cnt.toNat, 0, [], [], [], [], cmd⟩ ∧ ∀ c, c ≠ ch → t.xfer c = d.xfer c := by
  intro t
  have hkeys := dmaSet_key (key := key) (src := src) (dst := dst) (cnt := cnt) (ev := ev) (evEn := evEn) (sw := sw) (sk := sk) (dw := dw)
    (dk := dk) hch
  obtain ⟨hsrc, hdst, hcnt, hkey⟩ := Dev.rd_dmaSet (ch := ch) (key := key) (src := src) (dst := dst) (cnt := cnt) (ev := ev) (evEn := evEn)
    (sw := sw) (dw := dw) (sk := sk) (dk := dk) d
  have hkeep : ∀ x ∈ dmaSet ch key src dst cnt ev evEn sw sk dw dk,
      t.rd x.1 = (d.wrAll (dmaSet ch key src dst cnt ev evEn sw sk dw dk)).rd x.1 := fun x hx => Dev.rd_wr_ne _ _ (hkeys x hx).1.symm
  have hxfers : t.xfers = KMap.put d.xfers ch _ := rfl
  have hwork : d.keepsWork t := by
    have hgo : (DMA_CH_CTL_GO ch).key < 2 ^ 25 := by simp only [Field.key, DMA_CH_CTL_GO]; omega
    exact Dev.keepsWork_trans (Dev.keepsWork_trans (Dev.keepsWork_wrAll d fun x hx => (hkeys x hx).2) (Dev.keepsWork_wr _ (twinState_apart hgo) 1))
      (Dev.keepsWork_withDma _ _ _)
  refine ⟨hwork, (hkeep (DMA_CH_SRC_ADDR ch, src.toNat) (by simp [dmaSet])).trans hsrc,
    (hkeep (DMA_CH_DST_ADDR ch, dst.toNat) (by simp [dmaSet])).trans hdst, (hkeep (DMA_CH_CNT_CNT ch, cnt.toNat) (by simp [dmaSet])).trans hcnt,
    Dev.rd_wr_same _ _ _, (hkeep (DMA_CH_CTL_KEY ch, key.toNat) (by simp [dmaSet])).trans hkey, ?_, fun c hc => ?_⟩
  · rw [Dev.xfer, hxfers, KMap.find_put, if_pos rfl, hsrc, hdst, hcnt]
  · rw [Dev.xfer, hxfers, KMap.find_put, if_neg (Ne.symm hc), Dev.xfer]

end

theorem Dev.ident_begunEntry (d : Dev) (q : Nat) (c : Cmd) (f : CmdFlags) (env : CmdEnv) : (d.begunEntry q c f env).ident = d.queuePort q :=
  Dev.queuePort_goesOn d q

theorem Dev.epoch_begunEntry (d : Dev) (q : Nat) (c : Cmd) (f : CmdFlags) (env : CmdEnv) :
    (d.begunEntry q c f env).epoch = d.rd (QU_EPOCH_EPOCH q) := rfl

theorem Dev.submit_dmago {d : Dev} {q : QId} {f : CmdFlags} {ch key : BitVec 6} {src dst : BitVec 48} {cnt : BitVec 32} {ev : BitVec 8}
    {evEn sw dw : Bool} {sk dk : BitVec 5} (h : d.ready q.val 4) (hin : (Cmd.dmago ch false key src dst cnt ev evEn sw sk dw dk).inRange = true)
    (hkey : (d.begun q.val (.dmago ch false key src dst cnt ev evEn sw sk dw dk) f .none).keyOk key.toNat = true) (hgate : d.gate 6 = true)
    (hidle : d.on (DMA_CH_CTL_GO ch.toNat) = false) :
    let t := d.submit q.val (.dmago ch false key src dst cnt ev evEn sw sk dw dk) f .none
    t.ended q.val (d.nextSeq q.val) .ok 0 ∧
      t.rd (DMA_CH_SRC_ADDR ch.toNat) = src.toNat ∧ t.rd (DMA_CH_DST_ADDR ch.toNat) = dst.toNat ∧
      t.rd (DMA_CH_CNT_CNT ch.toNat) = cnt.toNat ∧ t.rd (DMA_CH_CTL_GO ch.toNat) = 1 ∧ t.rd (DMA_CH_CTL_KEY ch.toNat) = key.toNat ∧
      t.xfer ch.toNat = some ⟨d.queuePort q.val, d.rd (QU_EPOCH_EPOCH q.val), src.toNat, dst.toNat, cnt.toNat, 0, [], [], [], [],
        some (q.val, d.nextSeq q.val)⟩ ∧
      (∀ c, c ≠ ch.toNat → t.xfer c = d.xfer c) ∧ t.mem = d.mem := by
  have htakes : d.takesNow q.val (.dmago ch false key src dst cnt ev evEn sw sk dw dk) f := Dev.takesNow_of_ready h rfl hin rfl rfl
  have hstep := Dev.begun_queueStep htakes (env := .none)
  have hworking := Dev.begun_working htakes (env := .none)
  have hch : ch.toNat < 64 := ch.isLt
  have hidle' : (d.begun q.val (.dmago ch false key src dst cnt ev evEn sw sk dw dk) f .none).on (DMA_CH_CTL_GO ch.toNat) = false := by
    rw [Dev.on, Dev.rd_begun htakes (.inr (by simp only [Field.key, DMA_CH_CTL_GO]; omega)), ← hidle, Dev.on]
  have hwork := Dev.workDma_goes (q := q.val) (e := d.begunEntry q.val (.dmago ch false key src dst cnt ev evEn sw sk dw dk) f .none) (src := src)
    (dst := dst) (cnt := cnt) (ev := ev) (evEn := evEn) (sw := sw) (dw := dw) (sk := sk) (dk := dk) (c := ch) hkey
    ((Dev.gate_begun htakes 6).trans hgate) hidle'
  rw [Dev.ident_begunEntry, Dev.epoch_begunEntry, hworking.seq] at hwork
  obtain ⟨hkeeps, hsrc, hdst, hcnt, hgo, hkeyrd, hone, hothers⟩ :=
    Dev.dmaGone_shows (key := key) (src := src) (dst := dst) (cnt := cnt) (ev := ev) (evEn := evEn) (sw := sw) (dw := dw) (sk := sk) (dk := dk)
      (d.begun q.val (.dmago ch false key src dst cnt ev evEn sw sk dw dk) f .none) hch (d.queuePort q.val) (d.rd (QU_EPOCH_EPOCH q.val))
      (some (q.val, d.nextSeq q.val)) ((d.begun q.val (.dmago ch false key src dst cnt ev evEn sw sk dw dk) f .none).dmaLog ++
        [⟨ch.toNat, q.val, d.nextSeq q.val, d.rd (QU_EPOCH_EPOCH q.val), d.queuePort q.val, .dmago ch false key src dst cnt ev evEn sw sk dw dk⟩])
  obtain ⟨hended, hlast⟩ := Dev.settle_worked (r := 0) hworking hkeeps fun _ => rfl
  have hrd (g : Field) := hlast.fields g fun x hx => absurd hx List.not_mem_nil
  intro t
  have ht : t = _ := Dev.submit_settles htakes (Dev.handlesReady_nil _ rfl rfl rfl) rfl rfl hwork
  clear_value t
  subst ht
  refine ⟨hended, (hrd _).trans hsrc, (hrd _).trans hdst, (hrd _).trans hcnt, (hrd _).trans hgo, (hrd _).trans hkeyrd,
    (Dev.xfer_queueStep hlast _).trans hone, fun c hc => ?_, ?_⟩
  · exact (Dev.xfer_queueStep hlast c).trans ((hothers c hc).trans (Dev.xfer_queueStep hstep c))
  · exact (Dev.mem_queueStep hlast).trans (hkeeps.mem.trans (Dev.mem_queueStep hstep))

/-! TSETUP (R104, R289). -/

section
variable {d : Dev} {q : Nat} {c : Cmd} {f : CmdFlags} {env : CmdEnv} (h : d.takesNow q c f)
include h

theorem Dev.storeOpen_begun : (d.begun q c f env).storeOpen = d.storeOpen := by
  rw [Dev.storeOpen, Dev.on, Dev.rd_begun h (by decide), Dev.storeOpen, Dev.on]

theorem Dev.tallyFree_begun : (d.begun q c f env).tallyFree = d.tallyFree := by
  have hsize (t : Nat) : (d.begun q c f env).rd (TALLY_TBL_CFG_E t) = d.rd (TALLY_TBL_CFG_E t) :=
    Dev.rd_begun h (.inr (by simp only [Field.key, TALLY_TBL_CFG_E]; omega))
  have htables : (d.begun q c f env).tables = d.tables := by rw [Dev.queueStep_eq (Dev.begun_queueStep h)]
  simp only [Dev.tallyFree, Dev.tblE, hsize, htables]

theorem Dev.rootLost_begun : (d.begun q c f env).rootLost = d.rootLost := by
  rw [Dev.queueStep_eq (Dev.begun_queueStep h)]

end

/-- A table that may be set up in given columns is placed there, outside Replay mode. -/
theorem Dev.workTsetup_places {d : Dev} {t kb E cols : Nat} {co mi : Bool} {rows : List (Nat × List Nat)} (hgate : d.gate 10 = true)
    (hopen : d.storeOpen = true) (hroot : d.rootLost = false) (hfree : 2 ^ E ≤ d.tallyFree) (hmode : d.rd PLACE_CTL_MODE = 0) (hcols : cols ≠ 0)
    (hrows : d.tableRowsFor E (maskList cols) = some rows) :
    d.workTsetup t kb co mi E cols =
      ((d.decided 3 0 t (maskOf (rows.map (·.1))) (rowsWord (rows.map (·.2)).flatten) 0 0).tableSetup t kb E co mi rows).over .ok
        (maskOf (rows.map (·.1))) := by
  have hask : d.replayAsk 3 0 t = .free := by simp [Dev.replayAsk, hmode]
  have hnone : (cols == 0) = false := by simpa using hcols
  simp only [Dev.workTsetup, hgate, hopen, hroot, Nat.not_lt.mpr hfree, hask, hnone, Option.bind_some, hrows, decide_false, Bool.not_true,
    Bool.or_self, Bool.false_eq_true, if_false]

theorem Dev.submit_tsetup {d : Dev} {q : QId} {f : CmdFlags} {t : BitVec 3} {kb : BitVec 6} {co mi : Bool} {E : BitVec 5} {cols : Word}
    {rows : List (Nat × List Nat)} (h : d.ready q.val 2) (ho : d.openCmds = []) (hin : (Cmd.tsetup t kb co mi E cols).inRange = true)
    (hnew : d.table t.toNat = none) (hgate : d.gate 10 = true) (hopen : d.storeOpen = true) (hroot : d.rootLost = false)
    (hfree : 2 ^ E.toNat ≤ d.tallyFree) (hmode : (d.begun q.val (.tsetup t kb co mi E cols) f .none).rd PLACE_CTL_MODE = 0) (hcols : cols ≠ 0)
    (hrows : (d.begun q.val (.tsetup t kb co mi E cols) f .none).tableRowsFor E.toNat (maskList cols.toNat) = some rows) :
    d.submit q.val (.tsetup t kb co mi E cols) f .none =
      (((d.begun q.val (.tsetup t kb co mi E cols) f .none).decided 3 0 t.toNat (maskOf (rows.map (·.1)))
        (rowsWord (rows.map (·.2)).flatten) 0 0).tableSetup t.toNat kb.toNat E.toNat co mi rows).settle q.val (d.nextSeq q.val)
        (some (.ok, .ofNat 64 (maskOf (rows.map (·.1))))) := by
  have htakes : d.takesNow q.val (.tsetup t kb co mi E cols) f := Dev.takesNow_of_ready h rfl hin rfl rfl
  have hok : ((d.goesOn q.val).takeWords q.val (encodeCmd (.tsetup t kb co mi E cols) f)).handles q.val (d.nextSeq q.val)
      (.tsetup t kb co mi E cols) = .ok := by
    have htable := (Dev.table_queueStep (Dev.takeWords_queueStep htakes) t.toNat).trans hnew
    simp only [Dev.handles, Dev.tableState, htable, Dev.others_takeWords htakes ho, Option.isSome_none, List.any_nil, Bool.false_eq_true,
      if_false, if_true]
  have hwork := Dev.workTsetup_places (t := t.toNat) (kb := kb.toNat) (co := co) (mi := mi) ((Dev.gate_begun htakes 10).trans hgate)
    ((Dev.storeOpen_begun htakes).trans hopen) ((Dev.rootLost_begun htakes).trans hroot) ((Dev.tallyFree_begun htakes).symm ▸ hfree) hmode
    (fun h0 => hcols (BitVec.eq_of_toNat_eq h0)) hrows
  rw [Dev.submit_allocating htakes rfl rfl hok, Dev.work, hwork]
  rfl

/-! TCLEAR (R294). -/

/-- The handles of a command that names one table, which is set up. -/
theorem Dev.handlesReady_table {d : Dev} {c : Cmd} {t : Nat} (ht : (d.table t).isSome = true) (hc : c.tables = [t]) (hk : c.kernels = [])
    (hb : c.buffers = []) : d.handlesReady c := by
  refine ⟨by simp [hk], by simp [hb], fun x hx => ?_⟩
  rw [hc, List.mem_singleton] at hx
  exact hx ▸ ht

theorem Dev.workTclear_clears {d : Dev} {t : Nat} (hgate : d.gate 10 = true) (hopen : d.storeOpen = true) :
    d.workTclear t = (d.tableClear t).over .ok ((d.tableUsed t).1 + (d.tableUsed t).2.1) := by
  simp only [Dev.workTclear, hgate, hopen, Bool.not_true, Bool.or_self, Bool.false_eq_true, if_false]

theorem Dev.submit_tclear {d : Dev} {q : QId} {f : CmdFlags} {t : BitVec 3} (h : d.ready q.val 1) (ht : (d.table t.toNat).isSome = true)
    (hgate : d.gate 10 = true) (hopen : d.storeOpen = true) :
    d.submit q.val (.tclear t) f .none = ((d.begun q.val (.tclear t) f .none).tableClear t.toNat).settle q.val (d.nextSeq q.val)
      (some (.ok, .ofNat 64 (((d.begun q.val (.tclear t) f .none).tableUsed t.toNat).1 +
        ((d.begun q.val (.tclear t) f .none).tableUsed t.toNat).2.1))) := by
  have htakes : d.takesNow q.val (.tclear t) f := Dev.takesNow_of_ready h rfl rfl rfl rfl
  refine Dev.submit_settles htakes (Dev.handlesReady_table ht rfl rfl rfl) rfl rfl ?_
  rw [Dev.work]
  exact Dev.workTclear_clears ((Dev.gate_begun htakes 10).trans hgate) ((Dev.storeOpen_begun htakes).trans hopen)

/-! TDRAIN (R105, R295). -/

/-- The entries of a table in use. -/
def Dev.drained (d : Dev) (t : Nat) : Nat := (d.tableUsed t).1 + (d.tableUsed t).2.1

theorem Dev.drained_note (d : Dev) (q n : Nat) (aux : List Nat) (t : Nat) : (d.note q n aux).drained t = d.drained t := rfl

theorem Dev.keyOk_note (d : Dev) (q n : Nat) (aux : List Nat) (k : Nat) : (d.note q n aux).keyOk k = d.keyOk k := rfl

theorem Dev.andThen_waiting (d : Dev) (f : Dev → Work) : d.waiting.andThen f = f d := rfl

/-- The drain of a table that is to clear it, noted for its command's completion. -/
def Dev.notedDrain (d : Dev) (clear : Bool) (q n t : Nat) : Dev := if clear then { d with drains := d.drains ++ [⟨q, n, t, []⟩] } else d

theorem Dev.beginDrain_notes {d : Dev} {q n t buf ofs : Nat} {x : TableSt} {b : Buffer} (hx : d.table t = some x) (hb : d.buffer buf = some b)
    (hroom : ofs + 16 * d.drained t ≤ b.size)
    (hrows : b.commit = true → d.drained t ≤ 131072) (hkey : d.keyOk b.key = true) :
    d.beginDrain q n t buf ofs = (d.note q n [1]).waiting := by
  have hover : (b.commit && decide (131072 < d.drained t)) = false := by
    cases hc : b.commit
    · rfl
    · simpa using hrows hc
  rw [Dev.drained] at hroom hover
  simp only [Dev.beginDrain, hx, hb, Nat.not_lt.mpr hroom, hover, hkey, Bool.not_true, Bool.false_eq_true, if_false]

theorem Dev.finishDrain_drains {d d2 d3 : Dev} {q n t buf ofs : Nat} {cl : Bool} {x : TableSt} {b : Buffer} {bs : List Byte} {res : Word}
    (hx : d.table t = some x) (hb : d.buffer buf = some b) (hgate : d.gate 10 = true) (hon : d.bufferOn b = true)
    (hreach : d.reachesBuf q b ofs (16 * d.drained t) = true)
    (hlinks : (x.cols.all fun c => d.linked (engineCol q) c.1) = true) (hdrain : d.drainAll t x = (.ok, bs, d2)) (hsome : bs ≠ [])
    (hfits : bs.length / 16 ≤ (b.size - ofs) / 16) (hwrite : d2.cmdWrite q n buf ofs b bs (bs.length / 16) = (some (.ok, res), d3)) :
    d.finishDrain q n t cl buf ofs = (some (.ok, res), d3.notedDrain cl q n t) := by
  have hne : bs.isEmpty = false := by simpa using hsome
  rw [Dev.drained] at hreach
  simp only [Dev.finishDrain, hx, hb, hgate, hon, hreach, hlinks, hdrain, hfits, hne, hwrite, Bool.not_true, Bool.or_self, Bool.false_eq_true,
    if_false, if_true, ne_eq, not_true_eq_false]
  rfl

section
variable {d d2 d3 : Dev} {q : QId} {f : CmdFlags} {t : BitVec 3} {cl : Bool} {buf : BitVec 24} {ofs : BitVec 32} {x : TableSt} {b : Buffer}
  {bs : List Byte} {res : Word}

/-- A TDRAIN that has begun, with its note. -/
def Dev.begunDrain (d : Dev) (q : QId) (f : CmdFlags) (t : BitVec 3) (cl : Bool) (buf : BitVec 24) (ofs : BitVec 32) : Dev :=
  (d.begun q.val (.tdrain t cl buf ofs) f .none).note q.val (d.nextSeq q.val) [1]

variable (h : d.ready q.val 2) (hin : (Cmd.tdrain t cl buf ofs).inRange = true) (hx : d.table t.toNat = some x)
  (hb : d.buffer buf.toNat = some b) (hr : b.ready = true)
include h hin hx hb hr

theorem Dev.submit_tdrain (hroom : ofs.toNat + 16 * (d.begunDrain q f t cl buf ofs).drained t.toNat ≤ b.size)
    (hrows : b.commit = true → (d.begunDrain q f t cl buf ofs).drained t.toNat ≤ 131072)
    (hkey : (d.begunDrain q f t cl buf ofs).keyOk b.key = true) (hgate : (d.begunDrain q f t cl buf ofs).gate 10 = true)
    (hon : (d.begunDrain q f t cl buf ofs).bufferOn b = true)
    (hreach : (d.begunDrain q f t cl buf ofs).reachesBuf q.val b ofs.toNat (16 * (d.begunDrain q f t cl buf ofs).drained t.toNat) = true)
    (hlinks : (x.cols.all fun c => (d.begunDrain q f t cl buf ofs).linked (engineCol q.val) c.1) = true)
    (hdrain : (d.begunDrain q f t cl buf ofs).drainAll t.toNat x = (.ok, bs, d2)) (hsome : bs ≠ [])
    (hfits : bs.length / 16 ≤ (b.size - ofs.toNat) / 16)
    (hwrite : d2.cmdWrite q.val (d.nextSeq q.val) buf.toNat ofs.toNat b bs (bs.length / 16) = (some (.ok, res), d3)) :
    d.submit q.val (.tdrain t cl buf ofs) f .none =
      (d3.notedDrain cl q.val (d.nextSeq q.val) t.toNat).settle q.val (d.nextSeq q.val) (some (.ok, res)) := by
  have htakes : d.takesNow q.val (.tdrain t cl buf ofs) f := Dev.takesNow_of_ready h rfl hin rfl rfl
  have hstep := Dev.begun_queueStep htakes (env := .none)
  have hnote := Dev.note_queueStep (d.begun q.val (.tdrain t cl buf ofs) f .none) q.val (d.nextSeq q.val) [1]
  have hhandles : d.handlesReady (.tdrain t cl buf ofs) := by
    refine ⟨fun y hy => absurd hy List.not_mem_nil, fun y hy => ?_, fun y hy => ?_⟩
    · rw [List.mem_singleton.mp hy]
      exact ⟨b, hb, hr⟩
    · rw [List.mem_singleton.mp hy, hx]
      rfl
  have hx' := (Dev.table_queueStep hstep t.toNat).trans hx
  have hb' := (Dev.buffer_queueStep hstep buf.toNat).trans hb
  have hbegin : (d.begun q.val (.tdrain t cl buf ofs) f .none).beginDrain q.val (d.nextSeq q.val) t.toNat buf.toNat ofs.toNat =
      (d.begunDrain q f t cl buf ofs).waiting := by
    rw [Dev.begunDrain, Dev.drained_note] at hroom hrows
    rw [Dev.begunDrain, Dev.keyOk_note] at hkey
    exact Dev.beginDrain_notes hx' hb' hroom hrows hkey
  have hfinish := Dev.finishDrain_drains (cl := cl) ((Dev.table_queueStep hnote t.toNat).trans hx') ((Dev.buffer_queueStep hnote buf.toNat).trans hb')
    hgate hon hreach hlinks hdrain hsome hfits hwrite
  have hwork : (d.begun q.val (.tdrain t cl buf ofs) f .none).workTdrain q.val (d.nextSeq q.val) [] t.toNat cl buf.toNat ofs.toNat =
      (some (.ok, res), d3.notedDrain cl q.val (d.nextSeq q.val) t.toNat) := by
    have haux : (([] : List Nat) == [1]) = false := rfl
    rw [Dev.workTdrain, haux, if_neg Bool.false_ne_true, hbegin, Dev.andThen_waiting]
    exact hfinish
  rw [Dev.submit_working htakes rfl hhandles rfl, Dev.work, (Dev.begun_working htakes (env := .none)).seq, Dev.aux_begunEntry, hwork]

end

/-- Settles O10, command by command: each finds what it names as the device held it, and does to it what its equation above says. -/
theorem engineCommands : Obligations.EngineCommands := by
  intro s q f ho d n
  refine ⟨?lbind, ?sleep, ?lctl, ?dmago, ?tsetup, ?tclear, ?tdrain⟩
  case lbind =>
    exact fun kern slot first w rate k hready hin hk hr hrel hslot hheld hfit hfree =>
      congrArg s.next (Dev.submit_lbind hready hin hk hr hrel hslot hheld hfit hfree)
  case sleep =>
    exact fun first w act hready hact hin hfit hfree => ⟨_, rfl, Dev.submit_lctl_done hready hact hin hfit hfree⟩
  case lctl =>
    exact fun first w act arg hready h3 h4 hin hfit hfree => congrArg s.next (Dev.submit_lctl hready h3 h4 hin hfit hfree)
  case dmago =>
    exact fun ch key src dst cnt ev evEn sw dw sk dk hready hin hkey hgate hidle =>
      ⟨_, rfl, Dev.submit_dmago hready hin hkey hgate hidle⟩
  case tsetup =>
    exact fun t kb co mi E cols rows hready hin hnew hgate hopen hroot hfree hmode hcols hrows =>
      congrArg s.next (Dev.submit_tsetup hready ho hin hnew hgate hopen hroot hfree hmode hcols hrows)
  case tclear =>
    exact fun t hready ht hgate hopen => congrArg s.next (Dev.submit_tclear hready ht hgate hopen)
  case tdrain =>
    exact fun t cl buf ofs x b bs res d2 d3 hready hin hx hb hr hroom hrows hkey hgate hon hreach hlinks hdrain hsome hfits hwrite =>
      congrArg s.next (Dev.submit_tdrain hready hin hx hb hr hroom hrows hkey hgate hon hreach hlinks hdrain hsome hfits hwrite)

end Sys2Proof.Machine
end

section
/-!
KADMIT and KROTATE (R93, R100, R192, R347): the admission of a kernel image, and the rotations that begin and end.
-/
namespace Sys2Proof.Machine

/-! KADMIT (R93, R347). -/

/-- The image that an admission reads at an address, and the device then: from the store, or from a host's memory as the command gives it. -/
def Dev.givesImage (d : Dev) (image bytes : Nat) (i0 i : Image) (d2 : Dev) : Prop :=
  (∃ a, addrSpace image = .store a ∧ d.storeReady .device 0 a bytes = true ∧ d.imageAt image (some bytes) i0 = (i, d2) ∧ d2.load = none) ∨
    ∃ x a, addrSpace image = .host x a ∧ d.portUp x = true ∧ i = i0 ∧ d2 = d

/-- What an admission asks of Luthier and the loader. -/
def admissionOf (dies : Nat) (so nm an : Bool) (tile image bytes keyslot word0 : Nat) : Admission :=
  ⟨dies, so, nm, if an then some tile else none, ⟨true, image, bytes, keyslot⟩, word0⟩

section
variable {d d2 d3 : Dev} {i0 i : Image} {p : List ColTemp}

theorem Dev.load_givesImage {image bytes : Nat} (hload : d.load = none) (h : d.givesImage image bytes i0 i d2) : d2.load = none := by
  rcases h with ⟨-, -, -, -, hnone⟩ | ⟨-, -, -, -, -, rfl⟩
  · exact hnone
  · exact hload

theorem Dev.workAdmit_admits {q n kern dies tile image bytes word0 : Nat} {so nm an : Bool} (hload : d.load = none)
    (h : d.givesImage image bytes i0 i d2) :
    d.workAdmit q n kern dies so nm an tile image bytes word0 (.image i0 p) =
      (d2.admitImage (.kadmit q n) kern (admissionOf dies so nm an tile image bytes i.keyslot.toNat word0) i false p).waiting := by
  rcases h with ⟨a, hspace, hready, hread, -⟩ | ⟨x, a, hspace, hup, rfl, rfl⟩
  · simp only [Dev.workAdmit, hload, hspace, hready, hread, Option.isSome_none, Bool.not_true, Bool.or_self, Bool.false_eq_true, if_false]
    rfl
  · simp only [Dev.workAdmit, hload, hspace, hup, Bool.false_eq_true, if_false, if_true]
    rfl

theorem Dev.admitImage_refuses {who : Loader} {h code : Nat} {a : Admission} (hload : d.load = none) (hcode : d.headerCode i (· == 2) = code)
    (hbad : code ≠ 0) : d.admitImage who h a i false p = d.refuseLoad who 2 i.keyslot.toNat i.read code 0xFFFF := by
  simp only [Dev.admitImage, hload, Option.isSome_none, Bool.false_eq_true, if_false, hcode, hbad, ne_eq, not_false_eq_true, if_true]

theorem Dev.admitImage_places {who : Loader} {h x fr : Nat} {a : Admission} {k : Kernel} {ens : Option Nat} (hload : d.load = none)
    (hcode : d.headerCode i (· == 2) = 0) (hk : a.kernel i.desc = some k)
    (hplace : d.placeKernel h k i.desc i.headerCrc.toNat a.hint false p = (.at_ ens x fr, d3)) :
    d.admitImage who h a i false p = d3.startLoad who i h a.word0 (some k) ens x fr := by
  simp only [Dev.admitImage, hload, Option.isSome_none, Bool.false_eq_true, if_false, hcode, ne_eq, not_true_eq_false, hk, hplace]

end

/-- A source that was not read is why a header is refused with code 12. -/
theorem Dev.headerCode_unread {d : Dev} {i : Image} {admits : Nat → Bool} (h : d.headerCode i admits = 12) : i.read ≠ .ok := by
  intro hok
  revert h
  simp only [Dev.headerCode, hok, ne_eq, not_true_eq_false, if_false]
  split_ifs <;> decide

/-- No refusal ends a KADMIT as OK. -/
theorem Dev.admitStatus_headerCode {d : Dev} {i : Image} {admits : Nat → Bool} {code : Nat} (h : d.headerCode i admits = code) :
    admitStatus code i.read ≠ .ok := by
  unfold admitStatus
  split
  · decide
  · split
    · next h12 =>
      have hread := Dev.headerCode_unread (h.trans (beq_iff_eq.mp h12))
      cases hr : i.read with
      | ok => exact absurd hr hread
      | busError => decide
      | uncorrectable => decide
    · decide

/-! The event of a refused signature keeps a command at work. -/

theorem Dev.leavesWork_refl (d : Dev) : d.leavesWork d := ⟨rfl, rfl, rfl, rfl, rfl⟩

theorem Dev.leavesWork_wr {d t : Dev} (h : d.leavesWork t) {f : Field} (hf : f.key < 2 ^ 25) (v : Nat) : d.leavesWork (t.wr f v) := by
  obtain ⟨hstate, hrole⟩ := twinState_apart hf
  exact Dev.leavesWork_trans h ⟨rfl, rfl, rfl, rfl, Dev.telling_congr (Dev.rd_wr_ne t v hstate) (Dev.rd_wr_ne t v hrole)⟩

theorem Dev.leavesWork_ite {d t u : Dev} {c : Prop} [Decidable c] (ht : c → d.leavesWork t) (hu : ¬ c → d.leavesWork u) :
    d.leavesWork (if c then t else u) := by
  split
  · exact ht ‹c›
  · exact hu ‹¬ c›

theorem key_dropField (c : EvClass) : (dropField c).key < 2 ^ 25 := by cases c <;> decide

theorem Dev.leavesWork_report {d t : Dev} (h : d.leavesWork t) (e : Ev) : d.leavesWork (t.report e) := by
  have halarm : (ERR_ALARM_CCOUNT).key < 2 ^ 25 ∧ (ERR_ALARM_PEND).key < 2 ^ 25 ∧ (ERR_STAT_DROPPED).key < 2 ^ 25 := by decide
  obtain ⟨hcount, hpend, hdropped⟩ := halarm
  unfold Dev.report
  extract_lets x u v
  have hx : d.leavesWork x := Dev.leavesWork_wr h hcount _
  have hu : d.leavesWork u := Dev.leavesWork_ite (fun _ => Dev.leavesWork_ite (fun _ => hx) fun _ => Dev.leavesWork_wr hx hpend 1) fun _ => h
  have hv : d.leavesWork v := Dev.leavesWork_ite (fun _ => Dev.leavesWork_trans hu ⟨rfl, rfl, rfl, rfl, rfl⟩)
    fun _ => Dev.leavesWork_wr (Dev.leavesWork_wr hu (key_dropField e.cls) _) hdropped 1
  exact Dev.leavesWork_ite (fun _ => Dev.leavesWork_trans hv ⟨rfl, rfl, rfl, rfl, rfl⟩) fun _ => hv

theorem Dev.leavesWork_imageAuth {d t : Dev} (h : d.leavesWork t) (code keyslot : Nat) : d.leavesWork (t.imageAuth code keyslot) := by
  have hsec : (SEC_STAT_COUNT).key < 2 ^ 25 ∧ (SEC_STAT_IMGAUTH).key < 2 ^ 25 := by decide
  obtain ⟨hcount, hauth⟩ := hsec
  exact Dev.leavesWork_ite (fun _ => Dev.leavesWork_report (Dev.leavesWork_wr (Dev.leavesWork_wr h hcount _) hauth _) _) fun _ => h

/-- The device with no load. -/
def Dev.withoutLoad (d : Dev) : Dev := { d with load := none }

theorem Dev.leavesWork_withoutLoad (d : Dev) : d.leavesWork d.withoutLoad := ⟨rfl, rfl, rfl, rfl, rfl⟩

/-- A KADMIT that the loader refuses ends with the status and the code of its refusal. -/
theorem Dev.complete_refused {d : Dev} {q n code : Nat} {c : Cmd} {e : Entry} {i : Image} {admits : Nat → Bool} (h : d.working q n c e)
    (hcode : d.headerCode i admits = code) :
    ((d.refuseLoad (.kadmit q n) 2 i.keyslot.toNat i.read code 0xFFFF).complete q n).ended q n (admitStatus code i.read)
      (code + 2 ^ 16 * 0xFFFF) := by
  have hleaves := Dev.leavesWork_imageAuth (Dev.leavesWork_withoutLoad d) code i.keyslot.toNat
  exact (Dev.settle_ended (Dev.working_of_leavesWork hleaves h) (admitStatus code i.read) (code + 2 ^ 16 * 0xFFFF)
    fun hok => absurd hok (Dev.admitStatus_headerCode hcode)).1

theorem Dev.settle_waiting (d : Dev) (q n : Nat) : d.waiting.2.settle q n d.waiting.1 = d.complete q n := rfl

theorem Dev.words_begunEntry (d : Dev) (q : Nat) (c : Cmd) (f : CmdFlags) (env : CmdEnv) : (d.begunEntry q c f env).words = encodeCmd c f := rfl

theorem Dev.env_begunEntry (d : Dev) (q : Nat) (c : Cmd) (f : CmdFlags) (env : CmdEnv) : (d.begunEntry q c f env).env = env := rfl

theorem Dev.load_queueStep {d t : Dev} {q : Nat} {fs : List Field} (h : d.queueStep t q fs) : t.load = d.load := by
  rw [Dev.queueStep_eq h]

theorem Dev.portUp_begun {d : Dev} {q : Nat} {c : Cmd} {f : CmdFlags} {env : CmdEnv} (h : d.takesNow q c f) (x : Port) :
    (d.begun q c f env).portUp x = d.portUp x := by
  have hkeys : ((PORT_STAT_LINKUP x.num).key < 2621440 ∨ 2752512 ≤ (PORT_STAT_LINKUP x.num).key) ∧
      ((PORT_STAT_BME x.num).key < 2621440 ∨ 2752512 ≤ (PORT_STAT_BME x.num).key) ∧
      ((PORT_STAT_INRESET x.num).key < 2621440 ∨ 2752512 ≤ (PORT_STAT_INRESET x.num).key) := by
    cases x <;> decide
  obtain ⟨hlink, hbme, hreset⟩ := hkeys
  simp only [Dev.portUp, Dev.on, Dev.rd_begun h hlink, Dev.rd_begun h hbme, Dev.rd_begun h hreset]

section
variable {d d2 d3 : Dev} {q : QId} {f : CmdFlags} {kern : BitVec 16} {dies : BitVec 2} {so nm an : Bool} {tile : BitVec 8} {image : BitVec 48}
  {bytes : BitVec 32} {i0 i : Image} {p : List ColTemp}

/-- A begun KADMIT. -/
def Dev.begunAdmit (d : Dev) (q : QId) (f : CmdFlags) (kern : BitVec 16) (dies : BitVec 2) (so nm an : Bool) (tile : BitVec 8) (image : BitVec 48)
    (bytes : BitVec 32) (i0 : Image) (p : List ColTemp) : Dev :=
  d.begun q.val (.kadmit kern dies so nm an tile image bytes) f (.image i0 p)

/-- The low word of a KADMIT (R93). -/
def admitWord0 (f : CmdFlags) (kern : BitVec 16) (dies : BitVec 2) (so nm an : Bool) (tile : BitVec 8) (image : BitVec 48)
    (bytes : BitVec 32) : Nat :=
  bitsOf ((encodeCmd (.kadmit kern dies so nm an tile image bytes) f).getD 0 0).toNat 0 32

/-- KADMIT of a handle that is not allocated. -/
theorem Dev.handles_kadmit_free {t : Dev} {q n : Nat} (hfree : t.kernel kern.toNat = none) (ho : t.others q n = []) :
    t.handles q n (.kadmit kern dies so nm an tile image bytes) = .ok := by
  simp only [Dev.handles, Dev.kernelState, hfree, ho, List.any_nil, Bool.false_eq_true, if_false, if_true]

variable (h : d.ready q.val 3) (ho : d.openCmds = []) (hin : (Cmd.kadmit kern dies so nm an tile image bytes).inRange = true)
  (hnew : d.kernel kern.toNat = none) (hload : d.load = none)
  (hgives : (d.begunAdmit q f kern dies so nm an tile image bytes i0 p).givesImage image.toNat bytes.toNat i0 i d2)
include h ho hin hnew hload hgives

/-- A KADMIT begins its admission, and completes once the loader has fixed its outcome. -/
theorem Dev.submit_kadmit : d.submit q.val (.kadmit kern dies so nm an tile image bytes) f (.image i0 p) =
    (d2.admitImage (.kadmit q.val (d.nextSeq q.val)) kern.toNat
      (admissionOf dies.toNat so nm an tile.toNat image.toNat bytes.toNat i.keyslot.toNat (admitWord0 f kern dies so nm an tile image bytes))
      i false p).complete q.val (d.nextSeq q.val) := by
  have htakes : d.takesNow q.val (.kadmit kern dies so nm an tile image bytes) f := Dev.takesNow_of_ready h rfl hin rfl rfl
  have hok : ((d.goesOn q.val).takeWords q.val (encodeCmd (.kadmit kern dies so nm an tile image bytes) f)).handles q.val (d.nextSeq q.val)
      (.kadmit kern dies so nm an tile image bytes) = .ok :=
    Dev.handles_kadmit_free ((Dev.kernel_queueStep (Dev.takeWords_queueStep htakes) kern.toNat).trans hnew) (Dev.others_takeWords htakes ho)
  have hwork := Dev.workAdmit_admits (q := q.val) (n := d.nextSeq q.val) (kern := kern.toNat) (dies := dies.toNat) (so := so) (nm := nm) (an := an)
    (tile := tile.toNat) (p := p) (word0 := admitWord0 f kern dies so nm an tile image bytes)
    ((Dev.load_queueStep (Dev.begun_queueStep htakes (env := .image i0 p))).trans hload) hgives
  rw [Dev.submit_allocating htakes rfl rfl hok, Dev.work, Dev.words_begunEntry, Dev.env_begunEntry, (Dev.begun_working htakes).seq, ← admitWord0,
    hwork, Dev.settle_waiting]

theorem Dev.submit_kadmit_refused {code : Nat} (hcode : d2.headerCode i (· == 2) = code) (hbad : code ≠ 0) :
    d.submit q.val (.kadmit kern dies so nm an tile image bytes) f (.image i0 p) =
      (d2.refuseLoad (.kadmit q.val (d.nextSeq q.val)) 2 i.keyslot.toNat i.read code 0xFFFF).complete q.val (d.nextSeq q.val) := by
  have htakes : d.takesNow q.val (.kadmit kern dies so nm an tile image bytes) f := Dev.takesNow_of_ready h rfl hin rfl rfl
  have hnone := Dev.load_givesImage ((Dev.load_queueStep (Dev.begun_queueStep htakes (env := .image i0 p))).trans hload) hgives
  rw [Dev.submit_kadmit h ho hin hnew hload hgives, Dev.admitImage_refuses hnone hcode hbad]

theorem Dev.submit_kadmit_placed {k : Kernel} {ens : Option Nat} {x fr : Nat} (hcode : d2.headerCode i (· == 2) = 0)
    (hk : (admissionOf dies.toNat so nm an tile.toNat image.toNat bytes.toNat i.keyslot.toNat
      (admitWord0 f kern dies so nm an tile image bytes)).kernel i.desc = some k)
    (hplace : d2.placeKernel kern.toNat k i.desc i.headerCrc.toNat (if an then some tile.toNat else none) false p = (.at_ ens x fr, d3)) :
    d.submit q.val (.kadmit kern dies so nm an tile image bytes) f (.image i0 p) =
      (d3.startLoad (.kadmit q.val (d.nextSeq q.val)) i kern.toNat (admitWord0 f kern dies so nm an tile image bytes) (some k) ens x fr).complete
        q.val (d.nextSeq q.val) := by
  have htakes : d.takesNow q.val (.kadmit kern dies so nm an tile image bytes) f := Dev.takesNow_of_ready h rfl hin rfl rfl
  have hnone := Dev.load_givesImage ((Dev.load_queueStep (Dev.begun_queueStep htakes (env := .image i0 p))).trans hload) hgives
  rw [Dev.submit_kadmit h ho hin hnew hload hgives, Dev.admitImage_places hnone hcode hk hplace]
  rfl

end

/-! KROTATE (R100, R192). -/

/-- A command's words are as many as its layout says. -/
theorem Spelt.length {c : Cmd} {n : Nat} {l : List (Nat × Nat)} (h : Spelt c n l) (f : CmdFlags) : (encodeCmd c f).length = n := by
  simp only [encodeCmd, h.layout, length_splitWords]

theorem length_krotate {es : List RotEntry} (h : (Cmd.krotate false es).inRange = true) (f : CmdFlags) :
    (encodeCmd (.krotate false es) f).length = 1 + (es.length + 1) / 2 := by
  simp only [Cmd.inRange, Bool.false_or, Bool.and_eq_true, decide_eq_true_eq] at h
  obtain ⟨⟨hlo, hhi⟩, -⟩ := h
  rw [(spelt_krotate_entries (k := es.length - 1) (by omega) (by omega)).length f]
  omega

theorem length_krotate_stop {r : RotEntry} (h : r.dwell = 0) (f : CmdFlags) : (encodeCmd (.krotate true [r]) f).length = 2 :=
  (spelt_krotate_stop r h).length f

/-! An ensemble that changes. -/

/-- The device with other ensembles. -/
def Dev.withEnsembles (d : Dev) (m : KMap Ensemble) : Dev := { d with ensembles := m }

theorem Dev.withEnsembles_self {d : Dev} {m : KMap Ensemble} (h : d.ensembles = m) : d.withEnsembles m = d := by
  subst h
  rfl

theorem Dev.queueStep_withEnsembles {d t : Dev} {q : Nat} {fs : List Field} (h : d.queueStep t q fs) (m : KMap Ensemble) :
    (d.withEnsembles m).queueStep (t.withEnsembles m) q fs :=
  ⟨congrArg (Dev.withEnsembles · m) h.rest, h.queues, h.fields⟩

theorem Dev.updEns_eq {d : Dev} {a : Nat} {e : Ensemble} (h : KMap.find d.ensembles a = some e) (g : Ensemble → Ensemble) :
    d.updEns a g = d.withEnsembles (KMap.put d.ensembles a (g e)) := by
  simp only [Dev.updEns, h]
  rfl

/-- Only ensembles and the listed fields differ. -/
def Dev.ensStep (d t : Dev) (fs : List Field) : Prop := d.regsOnly (t.withEnsembles d.ensembles) fs

section
variable {d t u : Dev} {fs : List Field}

theorem Dev.ensStep_refl (d : Dev) (fs : List Field) : d.ensStep d fs := ⟨rfl, fun _ _ => rfl⟩

theorem Dev.ensStep_wr (h : d.ensStep t fs) {f : Field} (hf : f ∈ fs) (v : Nat) : d.ensStep (t.wr f v) fs := Dev.regsOnly_wr h hf v

theorem Dev.ensStep_withEnsembles (h : d.ensStep t fs) (m : KMap Ensemble) : d.ensStep (t.withEnsembles m) fs := h

theorem Dev.ensStep_updEns (h : d.ensStep t fs) (a : Nat) (g : Ensemble → Ensemble) : d.ensStep (t.updEns a g) fs := by
  unfold Dev.updEns
  split
  · exact Dev.ensStep_withEnsembles h _
  · exact h

theorem Dev.ensStep_eq (h : d.ensStep t fs) : t = { d with regs := t.regs, ensembles := t.ensembles } :=
  congrArg (Dev.withEnsembles · t.ensembles) (Dev.regsOnly_eq h)

theorem Dev.ensStep_queueStep (h : d.ensStep t fs) (q : Nat) : d.queueStep (t.withEnsembles d.ensembles) q fs := by
  have hqueues := Dev.queues_of_regsOnly h
  refine ⟨?_, .inl hqueues, h.2⟩
  rw [← hqueues]
  exact h.1

theorem Dev.keepsWork_ensStep (h : d.ensStep t fs) (hs : ∀ f ∈ fs, f.ofFret) : d.keepsWork t := by
  have htwin : ∀ f ∈ fs, f.key ≠ (TWIN_STAT_STATE).key ∧ f.key ≠ (TWIN_STAT_ROLE).key := by
    intro f hf
    obtain ⟨-, hone, htwo⟩ := hs f hf
    have hstate : (TWIN_STAT_STATE).key % 64 = 2 := rfl
    have hrole : (TWIN_STAT_ROLE).key % 64 = 1 := rfl
    omega
  have heq := Dev.ensStep_eq h
  exact ⟨by rw [heq], by rw [heq], by rw [heq], by rw [heq], by rw [heq],
    Dev.telling_congr (h.2 _ fun f hf => (htwin f hf).1) (h.2 _ fun f hf => (htwin f hf).2)⟩

end

/-! A rotation that begins (R100, R205). -/

/-- The fields of the next plane of an ensemble's tiles. -/
def nextFields (a : Nat) (e : Ensemble) : List Field := (e.where a).map FRET_STAT_NEXT ++ (e.where a).map FRET_STAT_NEXTV

theorem nextFields_ofFret (a : Nat) (e : Ensemble) : ∀ f ∈ nextFields a e, f.ofFret := by
  intro f hf
  simp only [nextFields, List.mem_append, List.mem_map] at hf
  rcases hf with ⟨t, -, rfl⟩ | ⟨t, -, rfl⟩
  · simp only [Field.ofFret, Field.key, FRET_STAT_NEXT]
    omega
  · simp only [Field.ofFret, Field.key, FRET_STAT_NEXTV]
    omega

/-- An ensemble's rotation is a list of entries, and the rest of it that a switch needs stands. -/
structure Ensemble.rotates (x e : Ensemble) (es : List RotEntry) (a : Nat) : Prop where
  rot : x.rot = es
  rotating : x.rotating = true
  phase : x.phase = e.phase
  cur : x.cur = e.cur
  tiles : x.where a = e.where a

/-- An ensemble rotates; nothing else differs but what its tiles' next planes hold. -/
structure Dev.rotatesFrom (d t : Dev) (a : Nat) (e : Ensemble) (es : List RotEntry) : Prop where
  step : d.ensStep t (nextFields a e)
  ens : ∃ x, KMap.find t.ensembles a = some x ∧ x.rotates e es a

section
variable {d t : Dev} {a : Nat} {e : Ensemble} {es : List RotEntry} (h : d.rotatesFrom t a e es)
include h

theorem Dev.rotatesFrom_updEns {g : Ensemble → Ensemble} (hg : ∀ x : Ensemble, x.rotates e es a → (g x).rotates e es a) :
    d.rotatesFrom (t.updEns a g) a e es := by
  obtain ⟨x, hx, hrot⟩ := h.ens
  refine ⟨Dev.ensStep_updEns h.step a g, g x, ?_, hg x hrot⟩
  rw [Dev.updEns_eq hx]
  exact (KMap.find_put _ _ _ _).trans (if_pos rfl)

theorem Dev.rotatesFrom_trigger (tr : Trigger) : d.rotatesFrom (t.trigger a tr) a e es :=
  Dev.rotatesFrom_updEns h fun _ hx => ⟨hx.rot, hx.rotating, hx.phase, hx.cur, hx.tiles⟩

theorem Dev.rotatesFrom_wr {f : Field} (hf : f ∈ nextFields a e) (v : Nat) : d.rotatesFrom (t.wr f v) a e es :=
  ⟨Dev.ensStep_wr h.step hf v, h.ens⟩

theorem Dev.rotatesFrom_preload (f : Nat) : d.rotatesFrom (t.preload a f) a e es := by
  obtain ⟨x, hx, hrot⟩ := h.ens
  have hupd : d.rotatesFrom (t.updEns a fun e => { e with preload := some f }) a e es :=
    Dev.rotatesFrom_updEns h fun _ hx => ⟨hx.rot, hx.rotating, hx.phase, hx.cur, hx.tiles⟩
  simp only [Dev.preload, hx]
  split
  · exact h
  · refine List.foldlRecOn (motive := fun u : Dev => d.rotatesFrom u a e es) _ _ hupd fun u hu y hy => ?_
    rw [hrot.tiles] at hy
    have hnext : FRET_STAT_NEXT y ∈ nextFields a e := List.mem_append_left _ (List.mem_map_of_mem hy)
    have hvalid : FRET_STAT_NEXTV y ∈ nextFields a e := List.mem_append_right _ (List.mem_map_of_mem hy)
    exact Dev.rotatesFrom_wr (Dev.rotatesFrom_wr hu hnext f) hvalid 0

theorem Dev.rotatesFrom_preloadNext : d.rotatesFrom (t.preloadNext a) a e es := by
  unfold Dev.preloadNext
  split
  · split
    · split
      · exact Dev.rotatesFrom_preload h _
      · exact h
    · exact h
  · exact h

end

theorem Dev.beginRotation_rotates {d : Dev} {a : Nat} {e : Ensemble} (he : KMap.find d.ensembles a = some e) (es : List RotEntry) :
    d.rotatesFrom (d.beginRotation a es) a e es := by
  unfold Dev.beginRotation
  extract_lets first t
  have ht : d.rotatesFrom t a e es := by
    refine ⟨Dev.ensStep_updEns (Dev.ensStep_refl d _) a _, { e with rot := es, rotPos := first.getD 0, rotating := true }, ?_,
      ⟨rfl, rfl, rfl, rfl, rfl⟩⟩
    have hupd : t = _ := Dev.updEns_eq he _
    rw [hupd]
    exact (KMap.find_put _ _ _ _).trans (if_pos rfl)
  clear_value first t
  split
  · split
    · split
      · exact Dev.rotatesFrom_preloadNext ht
      · exact Dev.rotatesFrom_trigger ht _
    · exact ht
  · exact ht

/-- A kernel of an ensemble that its KROTATE need not wait for, and that is never held alone (R100, R192). -/
structure Dev.rotatable (d : Dev) (a : Nat) (k : Kernel) : Prop where
  sole : k.sole = false
  fixed : k.fixed = false
  home : d.homeOf k = a
  still : d.onTheMove k = false
  dies : d.diesOpen k.where = true

theorem Dev.rotatable_queueStep {d t : Dev} {q a : Nat} {k : Kernel} {fs : List Field} (hstep : d.queueStep t q fs)
    (hdies : ∀ ts, t.diesOpen ts = d.diesOpen ts) (h : d.rotatable a k) : t.rotatable a k :=
  ⟨h.sole, h.fixed, (Dev.homeOf_queueStep hstep k).trans h.home, (Dev.onTheMove_queueStep hstep k).trans h.still, (hdies _).trans h.dies⟩

/-- The entries of a rotation name such kernels, none of them released. -/
def Dev.rotatables (d : Dev) (a : Nat) (es : List RotEntry) : Prop :=
  ∀ r ∈ es, ∃ k, d.kernel r.kern.toNat = some k ∧ k.released = false ∧ d.rotatable a k

theorem Dev.rotatables_queueStep {d t : Dev} {q a : Nat} {es : List RotEntry} {fs : List Field} (hstep : d.queueStep t q fs)
    (hdies : ∀ ts, t.diesOpen ts = d.diesOpen ts) (h : d.rotatables a es) : t.rotatables a es := by
  intro r hr
  obtain ⟨k, hk, hrel, hrot⟩ := h r hr
  exact ⟨k, (Dev.kernel_queueStep hstep _).trans hk, hrel, Dev.rotatable_queueStep hstep hdies hrot⟩

section
variable {d : Dev} {a : Nat}

theorem Dev.rotKernels_cons {r : RotEntry} {k : Kernel} (hk : d.kernel r.kern.toNat = some k) (es : List RotEntry) :
    d.rotKernels (r :: es) = k :: d.rotKernels es := by
  simp only [Dev.rotKernels, List.filterMap_cons, hk]

theorem Dev.rotatable_of_mem {es : List RotEntry} (h : d.rotatables a es) {k : Kernel} (hk : k ∈ d.rotKernels es) :
    k.released = false ∧ d.rotatable a k := by
  obtain ⟨r, hr, hrk⟩ := List.mem_filterMap.mp hk
  obtain ⟨k', hk', hall⟩ := h r hr
  rw [hk', Option.some.injEq] at hrk
  exact hrk ▸ hall

/-- Kernels of one ensemble bring no other ensemble's in. -/
theorem Dev.outsiders_nil {es : List RotEntry} (h : d.rotatables a es) : d.outsiders es = [] := by
  cases es with
  | nil => rfl
  | cons r es =>
    obtain ⟨k0, hk0, -, hrot0⟩ := h r List.mem_cons_self
    have hfirst : (List.head? (r :: es)).bind (fun r => d.kernel r.kern.toNat) = some k0 := hk0
    simp only [Dev.outsiders, hfirst]
    refine List.filterMap_eq_nil_iff.mpr fun x hx => ?_
    obtain ⟨y, hy, rfl⟩ := List.mem_map.mp (List.mem_eraseDups.mp hx)
    obtain ⟨k, hk, -, hrot⟩ := h y hy
    simp only [hk, Option.bind_some, hrot.home, hrot0.home, beq_self_eq_true, if_true]

theorem Dev.rotHomes_nil {es : List RotEntry} (h : d.rotatables a es) : d.rotHomes es = [] := by
  unfold Dev.rotHomes
  split
  · rfl
  · rw [Dev.outsiders_nil h]
    rfl

/-- No kernel that may rotate holds its KROTATE back. -/
theorem Dev.rotatable_judged {ks : List Kernel} (h : ∀ k ∈ ks, d.rotatable a k) :
    (ks.any fun k => k.sole || k.fixed) = false ∧ (ks.any d.onTheMove || !(ks.all fun k => d.diesOpen k.where)) = false := by
  refine ⟨List.any_eq_false.mpr fun k hk => ?_, ?_⟩
  · simp [(h k hk).sole, (h k hk).fixed]
  · have hmove : ks.any d.onTheMove = false := List.any_eq_false.mpr fun k hk => by simp [(h k hk).still]
    have hdies : (ks.all fun k => d.diesOpen k.where) = true := List.all_eq_true.mpr fun k hk => (h k hk).dies
    rw [hmove, hdies]
    rfl

theorem Dev.beginRotate_start {es : List RotEntry} (h : d.rotatables a es) (q n : Nat) :
    d.beginRotate q n false es = (d.note q n [1]).waiting := by
  obtain ⟨hjudged, hready⟩ := Dev.rotatable_judged fun k hk => (Dev.rotatable_of_mem h hk).2
  have hrel : ((d.rotKernels es).any fun k => k.released) = false :=
    List.any_eq_false.mpr fun k hk => by simp [(Dev.rotatable_of_mem h hk).1]
  simp only [Dev.beginRotate, hjudged, hready, hrel, Dev.rotHomes_nil h, Bool.false_eq_true, if_false, List.foldl_nil]

theorem Dev.rotKernels_one {r : RotEntry} {k : Kernel} (hk : d.kernel r.kern.toNat = some k) : d.rotKernels [r] = [k] :=
  Dev.rotKernels_cons hk []

theorem Dev.beginRotate_stop {es : List RotEntry} {r : RotEntry} {k : Kernel} (hes : es = [r])
    (hk : d.kernel r.kern.toNat = some k) (h : d.rotatable a k) (q n : Nat) :
    d.beginRotate q n true es = (d.note q n [1]).waiting := by
  subst hes
  obtain ⟨hjudged, hready⟩ := Dev.rotatable_judged (ks := [k]) fun x hx => List.mem_singleton.mp hx ▸ h
  simp only [Dev.beginRotate, Dev.rotKernels_one hk, hjudged, hready, Bool.false_eq_true, if_false, if_true]

theorem Dev.finishRotate_start {es : List RotEntry} (h : d.rotatables a es) (hne : es ≠ []) (env : CmdEnv) :
    d.finishRotate false es [] env = d.over .ok (d.logical a) := by
  have hrel : ((d.rotKernels es).any fun k => k.released) = false :=
    List.any_eq_false.mpr fun k hk => by simp [(Dev.rotatable_of_mem h hk).1]
  have hout := Dev.outsiders_nil h
  cases es with
  | nil => exact absurd rfl hne
  | cons r es =>
    obtain ⟨k, hk, -, hrot⟩ := h r List.mem_cons_self
    have hfirst : (d.rotKernels (r :: es)).head? = some k := by rw [Dev.rotKernels_cons hk, List.head?_cons]
    unfold Dev.finishRotate
    rw [hfirst, hrel, hout, List.head?_cons, ← hrot.home]
    simp only [hk, Dev.joinAll]
    rfl

theorem Dev.finishRotate_stop {es : List RotEntry} {r : RotEntry} {k : Kernel} (hes : es = [r])
    (hk : d.kernel r.kern.toNat = some k) (h : d.rotatable a k) (env : CmdEnv) :
    d.finishRotate true es [] env = d.over .ok (d.logical a) := by
  subst hes
  unfold Dev.finishRotate
  rw [Dev.rotKernels_one hk, ← h.home]
  rfl

theorem Dev.commitRotate_start {es : List RotEntry} (h : d.rotatables a es) (hne : es ≠ []) : d.commitRotate false es = d.beginRotation a es := by
  cases es with
  | nil => exact absurd rfl hne
  | cons r es =>
    obtain ⟨k, hk, -, hrot⟩ := h r List.mem_cons_self
    have hfirst : (d.rotKernels (r :: es)).head? = some k := by rw [Dev.rotKernels_cons hk, List.head?_cons]
    simp only [Dev.commitRotate, List.head?_cons, hfirst, hrot.home, Bool.not_false, if_true]

end

/-- An ensemble once a STOP of a kernel has ended the rotation that holds it, where one does. -/
def Ensemble.stopped (e : Ensemble) (r : RotEntry) : Ensemble :=
  if e.rot.any fun x => x.kern == r.kern then { e with rot := [], rotating := false, rotPos := 0 } else e

theorem Dev.commitRotate_stop {d : Dev} {a : Nat} {e : Ensemble} {es : List RotEntry} {r : RotEntry} {k : Kernel} (hes : es = [r])
    (hk : d.kernel r.kern.toNat = some k) (hhome : d.homeOf k = a) (he : KMap.find d.ensembles a = some e) :
    d.ensStep (d.commitRotate true es) [] ∧ KMap.find (d.commitRotate true es).ensembles a = some (e.stopped r) := by
  subst hes
  simp only [Dev.commitRotate, List.head?_cons, Dev.rotKernels_one hk, hhome, he, Bool.not_true, Bool.false_eq_true, if_false]
  unfold Ensemble.stopped
  split
  · refine ⟨Dev.ensStep_updEns (Dev.ensStep_refl d _) a _, ?_⟩
    rw [Dev.updEns_eq he]
    exact (KMap.find_put _ _ _ _).trans (if_pos rfl)
  · exact ⟨Dev.ensStep_refl d _, he⟩

theorem Cmd.krotate_ne_nil {es : List RotEntry} (h : (Cmd.krotate false es).inRange = true) : es ≠ [] := by
  rintro rfl
  cases h

theorem Dev.logical_queueStep {d t : Dev} {q : Nat} {fs : List Field} (h : d.queueStep t q fs) (a : Nat) : t.logical a = d.logical a := by
  rw [Dev.queueStep_eq h]
  rfl

theorem Dev.logical_note (d : Dev) (q n : Nat) (aux : List Nat) (a : Nat) : (d.note q n aux).logical a = d.logical a := rfl

/-- The handles of a KROTATE are those of its entries. -/
theorem Dev.handlesReady_krotate {d : Dev} {stop : Bool} {es : List RotEntry}
    (h : ∀ r ∈ es, ∃ k, d.kernel r.kern.toNat = some k ∧ k.ready = true) : d.handlesReady (.krotate stop es) := by
  refine ⟨fun x hx => ?_, fun x hx => absurd hx List.not_mem_nil, fun x hx => absurd hx List.not_mem_nil⟩
  obtain ⟨r, hr, rfl⟩ := List.mem_map.mp hx
  exact h r hr

/-- A KROTATE that has judged its kernels and brings none in goes on to its end. -/
theorem Dev.workRotate_noted {d : Dev} {q n : Nat} {c : Cmd} {e : Entry} {stop : Bool} {es : List RotEntry} {env : CmdEnv} (h : d.working q n c e)
    (hbegin : d.beginRotate q n stop es = (d.note q n [1]).waiting) :
    d.workRotate q n [] stop es env = (d.note q n [1]).finishRotate stop es [] env := by
  have hnoted := Dev.noted_of_working (Dev.working_note h [1])
  rw [Dev.workRotate, List.isEmpty_nil, if_pos rfl, hbegin, Dev.andThen_waiting, hnoted]
  rfl

/-- A device whose KROTATE has noted its kernels and fixed its outcome. -/
def Dev.rotationFixed (d : Dev) (q n r : Nat) : Dev := (d.note q n [1]).fix q n .ok (.ofNat 64 r)

theorem Dev.rotationFixed_queueStep {d : Dev} {q n : Nat} {c : Cmd} {e : Entry} (h : d.working q n c e) (r : Nat) :
    d.queueStep (d.rotationFixed q n r) q [] :=
  Dev.queueStep_trans (Dev.note_queueStep d q n [1]) (Dev.fix_working (Dev.working_note h [1]) .ok (.ofNat 64 r)).1

theorem Dev.kernel_note (d : Dev) (q n : Nat) (aux : List Nat) (h : Nat) : (d.note q n aux).kernel h = d.kernel h := rfl

theorem Dev.rotatable_note {d : Dev} {a : Nat} {k : Kernel} (h : d.rotatable a k) (q n : Nat) (aux : List Nat) : (d.note q n aux).rotatable a k :=
  Dev.rotatable_queueStep (Dev.note_queueStep d q n aux) (fun _ => rfl) h

theorem Dev.rotatables_note {d : Dev} {a : Nat} {es : List RotEntry} (h : d.rotatables a es) (q n : Nat) (aux : List Nat) :
    (d.note q n aux).rotatables a es :=
  Dev.rotatables_queueStep (Dev.note_queueStep d q n aux) (fun _ => rfl) h

theorem Dev.rotatables_fixed {d : Dev} {q n a : Nat} {c : Cmd} {e : Entry} {es : List RotEntry} (hw : d.working q n c e)
    (h : d.rotatables a es) (r : Nat) : (d.rotationFixed q n r).rotatables a es :=
  Dev.rotatables_queueStep (Dev.rotationFixed_queueStep hw r) (fun _ => rfl) h

theorem Dev.findEnsemble_queueStep {d t : Dev} {q : Nat} {fs : List Field} (h : d.queueStep t q fs) (a : Nat) :
    KMap.find t.ensembles a = KMap.find d.ensembles a := congrArg (KMap.find · a) (Dev.ensembles_queueStep h)

/-- A KROTATE completes with the anchor of its kernels' ensemble, and leaves the schedule that its commit leaves. -/
theorem Dev.submit_krotate {d v : Dev} {q a : Nat} {f : CmdFlags} {stop : Bool} {es : List RotEntry} {env : CmdEnv} {fs : List Field}
    (htakes : d.takesNow q (.krotate stop es) f) (hready : ∀ r ∈ es, ∃ k, d.kernel r.kern.toNat = some k ∧ k.ready = true)
    (hbegin : (d.begun q (.krotate stop es) f env).beginRotate q (d.nextSeq q) stop es =
      ((d.begun q (.krotate stop es) f env).note q (d.nextSeq q) [1]).waiting)
    (hfinish : ((d.begun q (.krotate stop es) f env).note q (d.nextSeq q) [1]).finishRotate stop es [] env =
      ((d.begun q (.krotate stop es) f env).note q (d.nextSeq q) [1]).over .ok (d.logical a))
    (hv : ((d.begun q (.krotate stop es) f env).rotationFixed q (d.nextSeq q) (d.logical a)).commitRotate stop es = v)
    (hstep : ((d.begun q (.krotate stop es) f env).rotationFixed q (d.nextSeq q) (d.logical a)).ensStep v fs) (hfret : ∀ g ∈ fs, g.ofFret) :
    (d.submit q (.krotate stop es) f env).ended q (d.nextSeq q) .ok (d.logical a) ∧
      (d.submit q (.krotate stop es) f env).ensembles = v.ensembles ∧
      d.queueOnly ((d.submit q (.krotate stop es) f env).withEnsembles d.ensembles) q fs := by
  have hworking := Dev.begun_working htakes (env := env)
  have hnoted := Dev.working_note hworking [1]
  have hbegun := Dev.begun_queueStep htakes (env := env)
  have hfixed := Dev.rotationFixed_queueStep hworking (d.logical a)
  have hsubmit : d.submit q (.krotate stop es) f env =
      ((d.begun q (.krotate stop es) f env).note q (d.nextSeq q) [1]).settle q (d.nextSeq q) (some (.ok, .ofNat 64 (d.logical a))) := by
    refine Dev.submit_settles htakes (Dev.handlesReady_krotate hready) rfl rfl ?_
    rw [Dev.work, hworking.seq, Dev.aux_begunEntry, Dev.env_begunEntry, Dev.workRotate_noted hworking hbegin, hfinish]
  obtain ⟨hended, hlast⟩ := Dev.settle_committed (r := d.logical a) hnoted hv (Dev.keepsWork_ensStep hstep hfret)
  rw [hsubmit]
  have hmid := Dev.ensStep_queueStep hstep q
  rw [Dev.ensembles_queueStep hfixed, Dev.ensembles_queueStep hbegun] at hmid
  have hend := Dev.queueStep_mono (gs := fs) (Dev.queueStep_withEnsembles hlast d.ensembles) fun g hg => absurd hg List.not_mem_nil
  have hall := Dev.queueStep_trans (Dev.queueStep_mono hfixed fun g hg => absurd hg List.not_mem_nil) (Dev.queueStep_trans hmid hend)
  refine ⟨hended, Dev.ensembles_queueStep hlast, Dev.queueOnly_of_taken (c := .krotate stop es) ?_ (by simp)⟩
  exact Dev.queueStep_trans (Dev.queueStep_mono hbegun fun g hg => List.mem_append_left _ hg)
    (Dev.queueStep_mono hall fun g hg => List.mem_append_right _ hg)

section
variable {d : Dev} {q : QId} {f : CmdFlags} {env : CmdEnv} {a : Nat} {e : Ensemble}

/-- Kernels of one ensemble begin to rotate there. -/
theorem Dev.submit_krotate_start {es : List RotEntry} (h : d.ready q.val (1 + (es.length + 1) / 2))
    (hin : (Cmd.krotate false es).inRange = true) (he : KMap.find d.ensembles a = some e)
    (hready : ∀ r ∈ es, ∃ k, d.kernel r.kern.toNat = some k ∧ k.ready = true) (hrot : d.rotatables a es) :
    ∃ x, (d.submit q.val (.krotate false es) f env).ended q.val (d.nextSeq q.val) .ok (d.logical a) ∧
      KMap.find (d.submit q.val (.krotate false es) f env).ensembles a = some x ∧ x.rotates e es a ∧
      d.queueOnly ((d.submit q.val (.krotate false es) f env).withEnsembles d.ensembles) q.val (nextFields a e) := by
  have htakes : d.takesNow q.val (.krotate false es) f := Dev.takesNow_of_ready h (length_krotate hin f) hin rfl rfl
  have hbegun := Dev.begun_queueStep htakes (env := env)
  have hfixed := Dev.rotationFixed_queueStep (Dev.begun_working htakes (env := env)) (d.logical a)
  have he3 := ((Dev.findEnsemble_queueStep hfixed a).trans (Dev.findEnsemble_queueStep hbegun a)).trans he
  have hrot1 := Dev.rotatables_queueStep hbegun (Dev.diesOpen_begun htakes) hrot
  have hrot2 := Dev.rotatables_note hrot1 q.val (d.nextSeq q.val) [1]
  have hrot3 := Dev.rotatables_fixed (Dev.begun_working htakes (env := env)) hrot1 (d.logical a)
  have hne := Cmd.krotate_ne_nil hin
  have hgo := Dev.beginRotation_rotates he3 es
  obtain ⟨hended, hens, honly⟩ := Dev.submit_krotate htakes hready (Dev.beginRotate_start hrot1 _ _)
    ((Dev.finishRotate_start hrot2 hne env).trans (by rw [Dev.logical_note, Dev.logical_queueStep hbegun]))
    (Dev.commitRotate_start hrot3 hne) hgo.step (nextFields_ofFret a e)
  obtain ⟨x, hx, hall⟩ := hgo.ens
  exact ⟨x, hended, (congrArg (KMap.find · a) hens).trans hx, hall, honly⟩

/-- STOP ends the rotation that holds its kernel. -/
theorem Dev.submit_krotate_stop {es : List RotEntry} {r : RotEntry} {k : Kernel} (hes : es = [r]) (h : d.ready q.val 2)
    (hdwell : r.dwell = 0) (hk : d.kernel r.kern.toNat = some k) (hr : k.ready = true) (hrot : d.rotatable a k)
    (he : KMap.find d.ensembles a = some e) :
    (d.submit q.val (.krotate true es) f env).ended q.val (d.nextSeq q.val) .ok (d.logical a) ∧
      KMap.find (d.submit q.val (.krotate true es) f env).ensembles a = some (e.stopped r) ∧
      d.queueOnly ((d.submit q.val (.krotate true es) f env).withEnsembles d.ensembles) q.val [] := by
  have htakes : d.takesNow q.val (.krotate true es) f :=
    Dev.takesNow_of_ready h (by rw [hes, length_krotate_stop hdwell f]) rfl (by simp [Cmd.stopPlain, hes, hdwell]) rfl
  have hbegun := Dev.begun_queueStep htakes (env := env)
  have hfixed := Dev.rotationFixed_queueStep (Dev.begun_working htakes (env := env)) (d.logical a)
  have he3 := ((Dev.findEnsemble_queueStep hfixed a).trans (Dev.findEnsemble_queueStep hbegun a)).trans he
  have hk1 := (Dev.kernel_queueStep hbegun _).trans hk
  have hrot1 := Dev.rotatable_queueStep hbegun (Dev.diesOpen_begun htakes) hrot
  have hk2 := (Dev.kernel_note _ q.val (d.nextSeq q.val) [1] _).trans hk1
  have hrot2 := Dev.rotatable_note hrot1 q.val (d.nextSeq q.val) [1]
  have hhome := (Dev.homeOf_queueStep hfixed k).trans hrot1.home
  obtain ⟨hstep, hfound⟩ := Dev.commitRotate_stop hes ((Dev.kernel_queueStep hfixed _).trans hk1) hhome he3
  obtain ⟨hended, hens, honly⟩ := Dev.submit_krotate htakes (fun x hx => ⟨k, List.mem_singleton.mp (hes ▸ hx) ▸ ⟨hk, hr⟩⟩)
    (Dev.beginRotate_stop hes hk1 hrot1 _ _)
    ((Dev.finishRotate_stop hes hk2 hrot2 env).trans (by rw [Dev.logical_note, Dev.logical_queueStep hbegun]))
    rfl hstep fun g hg => absurd hg List.not_mem_nil
  exact ⟨hended, (congrArg (KMap.find · a) hens).trans hfound, honly⟩

end

/-- Settles O9: the image that a KADMIT gives is refused or placed as Luthier and the loader do, and a KROTATE of one ensemble's kernels
brings none in, so that its commit alone changes the schedule. -/
theorem admissionCommands : Obligations.AdmissionCommands := by
  intro s q f ho d n
  refine ⟨?load, ?start, ?stop⟩
  case load =>
    intro kern dies so nm an tile image bytes i0 i p d2 hready c d1 adm fromStore fromHost hin hnew hload hsource
    have htakes : d.takesNow q.val c f := Dev.takesNow_of_ready hready rfl hin rfl rfl
    have hgives : (d.begunAdmit q f kern dies so nm an tile image bytes i0 p).givesImage image.toNat bytes.toNat i0 i d2 := by
      rcases hsource with ⟨a, hspace, hstore, hread, hfree⟩ | ⟨x, a, hspace, hup, hi, hd2⟩
      · exact .inl ⟨a, hspace, hstore, hread, hfree⟩
      · exact .inr ⟨x, a, hspace, (Dev.portUp_begun htakes x).trans hup, hi, hd2⟩
    refine ⟨fun code hcode hbad => ⟨?_, ?_⟩, fun k ens x fr d3 hcode hk hplace => ?_⟩
    · exact congrArg s.next (Dev.submit_kadmit_refused hready ho hin hnew hload hgives hcode hbad)
    · rintro ⟨x, a, -, -, rfl, rfl⟩
      exact Dev.complete_refused (Dev.begun_working htakes) hcode
    · exact congrArg s.next (Dev.submit_kadmit_placed hready ho hin hnew hload hgives hcode hk hplace)
  case start =>
    intro es env a e hready hin he hstill hall
    have hrot : d.rotatables a es := by
      intro r hr
      obtain ⟨k, hk, -, hrel, hsole, hfixed, hhome, hdies⟩ := hall r hr
      have hmove : d.onTheMove k = false := by rw [Dev.onTheMove, hstill]; rfl
      exact ⟨k, hk, hrel, hsole, hfixed, hhome, hmove, hdies⟩
    have hnamed : ∀ r ∈ es, ∃ k, d.kernel r.kern.toNat = some k ∧ k.ready = true := by
      intro r hr
      obtain ⟨k, hk, hr, -⟩ := hall r hr
      exact ⟨k, hk, hr⟩
    obtain ⟨x, hended, hx, hrotates, honly⟩ := Dev.submit_krotate_start (env := env) hready hin he hnamed hrot
    exact ⟨_, x, rfl, hended, hx, hrotates.rot, hrotates.rotating, hrotates.phase, hrotates.cur, honly⟩
  case stop =>
    intro r env a e k hready hdwell hk hr hsole hfixed hhome he hmove hdies
    obtain ⟨hended, hens, honly⟩ := Dev.submit_krotate_stop (env := env) rfl hready hdwell hk hr ⟨hsole, hfixed, hhome, hmove, hdies⟩ he
    exact ⟨_, rfl, hended, hens, honly⟩

end Sys2Proof.Machine
end

section
/-!
PLACE_CTL and the entries of a Replay list (R122, R125, R573).
-/
namespace Sys2Proof.Machine

/-! Fields that take one write, in turn. -/

/-- The fields of a list take a write. -/
def Dev.takes (d : Dev) (w : RegWr) (fs : List Field) : Dev := fs.foldl (fun d f => d.take w f) d

theorem Dev.takes_regsOnly (d : Dev) (w : RegWr) (fs : List Field) : d.regsOnly (d.takes w fs) fs := by
  induction fs generalizing d with
  | nil => exact Dev.regsOnly_refl d _
  | cons f fs ih =>
    have hone : d.regsOnly (d.take w f) (f :: fs) := Dev.regsOnly_wr (Dev.regsOnly_refl d _) List.mem_cons_self _
    exact Dev.regsOnly_trans hone (Dev.regsOnly_mono (ih (d.take w f)) fun g hg => List.mem_cons_of_mem f hg)

/-- Fields that lie apart each take what the write gives them. -/
theorem Dev.rd_takes (d : Dev) (w : RegWr) {fs : List Field} (h : fs.Pairwise fun f g => f.key ≠ g.key) :
    ∀ f ∈ fs, (d.takes w fs).rd f = d.wval w f % 2 ^ f.width := by
  induction fs generalizing d with
  | nil => exact fun f hf => absurd hf List.not_mem_nil
  | cons f fs ih =>
    obtain ⟨hf, hfs⟩ := List.pairwise_cons.mp h
    refine List.forall_mem_cons.mpr ⟨?_, fun g hg => ?_⟩
    · exact ((Dev.takes_regsOnly (d.take w f) w fs).2 f fun g hg => (hf g hg).symm).trans (Dev.rd_wr_same d f _)
    · exact (ih (d.take w f) hfs g hg).trans (by rw [Dev.take, Dev.wval_wr_ne d _ w (hf g hg)])

/-! PLACE_CTL (R122). -/

/-- The fields of PLACE_CTL. -/
def placeFields : List Field :=
  [PLACE_CTL_MODE, PLACE_CTL_AUTOMIG, PLACE_CTL_TIMESHARE, PLACE_CTL_HYST, PLACE_CTL_TEMP_LIM, PLACE_CTL_MIGBW, PLACE_CTL_TMO]

theorem placeFields_apart : placeFields.Pairwise fun f g => f.key ≠ g.key := by decide

theorem recPtr_ne_placeFields : ∀ f ∈ placeFields, (PLACE_REC_PTR_PTR).key ≠ f.key := by decide

/-- A write of PLACE_CTL asks for Recorded or Replay mode. -/
def Dev.enters (d : Dev) (w : RegWr) : Prop :=
  d.wval w PLACE_CTL_MODE ≠ d.rd PLACE_CTL_MODE ∧ (d.wval w PLACE_CTL_MODE = 1 ∨ d.wval w PLACE_CTL_MODE = 2)

/-- The device with the identity map and its record at the beginning. -/
def Dev.atRecordStart (d : Dev) : Dev :=
  { d.wr PLACE_REC_PTR_PTR 0 with remap := [], occ := [], replayEntry := none, replayEnd := false, recStop := false }

theorem Dev.wval_atRecordStart (d : Dev) (w : RegWr) {f : Field} (hf : f ∈ placeFields) : d.atRecordStart.wval w f = d.wval w f :=
  Dev.wval_wr_ne d 0 w (recPtr_ne_placeFields f hf)

section
variable {d : Dev} {w : RegWr}

theorem Dev.placeCtlWrite_refused (h : d.enters w) (hempty : d.empty = false) : d.placeCtlWrite w = d.wr PLACE_STAT_CFGERR 1 := by
  obtain ⟨hnew, hmode⟩ := h
  simp [Dev.placeCtlWrite, hnew, hmode, hempty]

theorem Dev.placeCtlWrite_enters (h : d.enters w) (hempty : d.empty = true) :
    d.placeCtlWrite w = (d.atRecordStart.takes w placeFields).tellReg 0xA0000 w := by
  obtain ⟨hnew, hmode⟩ := h
  simp [Dev.placeCtlWrite, hnew, hmode, hempty, Dev.takes, placeFields, Dev.atRecordStart]

theorem Dev.placeCtlWrite_stays (h : ¬ d.enters w) : d.placeCtlWrite w = (d.takes w placeFields).tellReg 0xA0000 w := by
  have hstays : (d.wval w PLACE_CTL_MODE != d.rd PLACE_CTL_MODE && (d.wval w PLACE_CTL_MODE == 1 || d.wval w PLACE_CTL_MODE == 2)) = false := by
    simpa [Dev.enters] using h
  simp [Dev.placeCtlWrite, hstays, Dev.takes, placeFields]

/-- Entering a mode leaves the identity map and a record to be told from its beginning; kernels and store stay. -/
theorem Dev.takes_atRecordStart :
    let t := d.atRecordStart.takes w placeFields
    t.remap = [] ∧ t.occ = [] ∧ t.rd PLACE_REC_PTR_PTR = 0 ∧ t.kernels = d.kernels ∧ t.mem = d.mem := by
  intro t
  have honly : d.atRecordStart.regsOnly t placeFields := Dev.takes_regsOnly d.atRecordStart w placeFields
  have hptr := honly.2 PLACE_REC_PTR_PTR fun f hf => (recPtr_ne_placeFields f hf).symm
  refine ⟨?_, ?_, hptr.trans (Dev.rd_wr_same d _ 0), ?_, ?_⟩ <;> rw [Dev.regsOnly_eq honly] <;> rfl

end

/-! The entries of a Replay list (R125, R573). -/

/-- An entry in host memory that records the answer to a request, and no move of Luthier's own, is kept until a request takes it. -/
theorem Dev.readEntry_kept {d : Dev} {words : List Word} {p : Port} {a : Nat} (hmode : d.rd PLACE_CTL_MODE = 2) (hend : d.replayEnd = false)
    (hnone : d.replayEntry = none) (hleft : d.rd PLACE_REC_PTR_PTR < d.rd PLACE_REC_SIZE_SIZE)
    (haddr : addrSpace (64 * d.rd PLACE_REC_BASE_BASE + 32 * d.rd PLACE_REC_PTR_PTR) = .host p a) (hup : d.portUp p = true)
    (hfirst : d.rd PLACE_REC_PTR_PTR ≠ 0) (hkind : bitsOf (words.getD 0 0).toNat 0 8 ≠ 0)
    (hreason : ¬ (1 ≤ bitsOf (words.getD 0 0).toNat 8 8 ∧ bitsOf (words.getD 0 0).toNat 8 8 ≤ 5)) :
    d.readEntry words .ok = { d with replayEntry := some words } := by
  simp only [Dev.readEntry, hmode, hend, hnone, Nat.not_le.mpr hleft, haddr, hup, hreason, ne_eq, not_true_eq_false, decide_false,
    Option.isSome_none, Bool.or_self, Bool.false_eq_true, beq_eq_false_iff_ne.mpr hfirst, beq_eq_false_iff_ne.mpr hkind, if_false, if_true]

theorem Dev.entryTimeout_skips {d : Dev} (hmode : d.rd PLACE_CTL_MODE = 2) (hentry : d.replayEntry.isSome = true)
    (htmo : d.rd PLACE_CTL_TMO ≠ 0) : d.entryTimeout = d.diverge.skipEntry := by
  simp only [Dev.entryTimeout, hmode, hentry, htmo, ne_eq, not_false_eq_true, decide_true, beq_self_eq_true, Bool.and_self, if_true]

/-- Settles O17, by whether the write of PLACE_CTL enters Recorded or Replay mode, and on an empty device. -/
theorem placementRegisters : Obligations.PlacementRegisters := by
  intro s w words d mode fs
  refine ⟨fun hreach => ?ctl, ?entry, ?timeout⟩
  case ctl =>
    have hexec : exec (.placeModeWrite w) s = s.next (d.placeCtlWrite w) :=
      congrArg s.next (Dev.onWrite_ok hreach (.placeModeWrite w) _)
    refine ⟨fun henters hempty => hexec.trans (congrArg s.next (Dev.placeCtlWrite_refused henters hempty)), fun h => ?_⟩
    by_cases henters : d.enters w
    · have hempty : d.empty = true := h.resolve_left (not_not_intro henters)
      refine ⟨_, hexec.trans (congrArg s.next (Dev.placeCtlWrite_enters henters hempty)), fun f hf => ?_, fun hstays => absurd henters hstays,
        fun _ => Dev.takes_atRecordStart⟩
      rw [Dev.rd_takes _ w placeFields_apart f hf, Dev.wval_atRecordStart d w hf]
    · exact ⟨_, hexec.trans (congrArg s.next (Dev.placeCtlWrite_stays henters)), Dev.rd_takes d w placeFields_apart,
        fun _ => Dev.takes_regsOnly d w placeFields, fun he => absurd he henters⟩
  case entry =>
    exact fun p a hmode hend hnone hleft haddr hup hfirst hkind hreason =>
      congrArg s.next (Dev.readEntry_kept hmode hend hnone hleft haddr hup hfirst hkind hreason)
  case timeout =>
    exact fun hmode hentry htmo => congrArg s.next (Dev.entryTimeout_skips hmode hentry htmo)

end Sys2Proof.Machine
end

section
/-!
Tile speeds (R119, R133, R240), tile resets (R147, R553), and the counts that a write clears (R199, R253).
-/
namespace Sys2Proof.Machine

/-! Tile speeds. -/

/-- A measurement of a tile shows its share of the median of the tile's own die. -/
theorem Dev.tileSpeed_eq (d : Dev) (dieB : Bool) (place : BitVec 7) (rate : Nat) :
    let t := 128 * b2n dieB + place.toNat
    let d1 := d.wr (FABRIC_TILE_SPEED_RATE t) rate
    d.tileSpeed t rate = d1.wr (FABRIC_TILE_SPEED_PCT t) (min 4095 (2000 * rate / max 1 (d1.medianRate (b2n dieB)))) := by
  intro t d1
  have hdie : t / 128 = b2n dieB := by
    have hplace := place.isLt
    omega
  rw [Dev.tileSpeed, hdie]

theorem Dev.slowFlag_below {d : Dev} {t : Nat} (hslow : d.slow t = false) (hpct : d.rd (FABRIC_TILE_SPEED_PCT t) < 850) :
    d.slowFlag t = (d.wr (FABRIC_TILE_SPEED_SLOW t) 1).raise
      { cls := .slate, flag := PLACE_SLOW_SLOW (t / 64), bit := t % 64, ukind := 1, uid := t } := by
  simp only [Dev.slowFlag, hslow, Nat.not_le.mpr hpct, decide_false, Bool.or_self, Bool.false_eq_true, if_false, Dev.set_eq]

theorem Dev.slowClear_above {d : Dev} {t : Nat} (hslow : d.slow t = true) (hpct : 900 ≤ d.rd (FABRIC_TILE_SPEED_PCT t)) :
    d.slowClear t = (d.wr (FABRIC_TILE_SPEED_SLOW t) 0).wrBit (PLACE_SLOW_SLOW (t / 64)) (t % 64) false := by
  simp only [Dev.slowClear, hslow, hpct, decide_true, Bool.and_self, if_true, Dev.clr_eq]

/-- Clearing a bit that is set takes its weight away. -/
theorem setBit_false_of_testBit {n i : Nat} (h : n.testBit i = true) : setBit n i false = n - 2 ^ i := by
  simp only [setBit, h, if_true, Bool.false_eq_true, if_false]

/-- The flags of slow tiles lie at no tile's own flag. -/
theorem slowFlags_ne_speed (n t : Nat) : (PLACE_SLOW_SLOW n).key ≠ (FABRIC_TILE_SPEED_SLOW t).key := by
  simp only [Field.key, PLACE_SLOW_SLOW, FABRIC_TILE_SPEED_SLOW]
  omega

/-- A tile's clearing takes its flag and its bit away, and leaves the rest. -/
theorem Dev.slowClear_clears {d : Dev} {t : Nat} (hslow : d.slow t = true) (hpct : 900 ≤ d.rd (FABRIC_TILE_SPEED_PCT t)) :
    (d.slowClear t).rd (FABRIC_TILE_SPEED_SLOW t) = 0 ∧
      (d.slowClear t).rd (PLACE_SLOW_SLOW (t / 64)) = (d.rd (PLACE_SLOW_SLOW (t / 64)) - 2 ^ (t % 64)) % 2 ^ 64 ∧
      d.regsOnly (d.slowClear t) [FABRIC_TILE_SPEED_SLOW t, PLACE_SLOW_SLOW (t / 64)] := by
  have hne : (PLACE_SLOW_SLOW (t / 64)).key ≠ (FABRIC_TILE_SPEED_SLOW t).key := slowFlags_ne_speed _ t
  have hflags : (d.wr (FABRIC_TILE_SPEED_SLOW t) 0).rd (PLACE_SLOW_SLOW (t / 64)) = d.rd (PLACE_SLOW_SLOW (t / 64)) :=
    Dev.rd_wr_ne d 0 hne.symm
  rw [Dev.slowClear_above hslow hpct, Dev.wrBit_eq, hflags, setBit_false_of_testBit hslow]
  refine ⟨?_, Dev.rd_wr_same _ _ _, ?_⟩
  · exact (Dev.rd_wr_ne _ _ hne).trans (Dev.rd_wr_same d _ 0)
  · exact Dev.regsOnly_wr (Dev.regsOnly_wr (Dev.regsOnly_refl d _) List.mem_cons_self 0) (List.mem_cons_of_mem _ List.mem_cons_self) _

/-! Tile resets. -/

section
variable {d : Dev} {w : RegWr} {a : Nat} {e : Ensemble} (hgo : w.one RESET_TILE_GO = true)
  (hens : d.ensembleOf (d.phys (w.ones RESET_TILE_TILE)) = some (a, e))
include hgo hens

theorem Dev.resetTile_running (hphase : e.phase = 1 ∨ e.phase = 2) : d.resetTile w = d.tileReset (d.phys (w.ones RESET_TILE_TILE)) := by
  simp only [Dev.resetTile, hgo, hens, Bool.not_true, Bool.false_eq_true, if_false, Bool.or_eq_true, beq_iff_eq, hphase, if_true]

theorem Dev.resetTile_waits (hphase : ¬ (e.phase = 1 ∨ e.phase = 2)) :
    d.resetTile w = { d with tileResets := d.tileResets ++ [w.ones RESET_TILE_TILE] } := by
  simp only [Dev.resetTile, hgo, hens, Bool.not_true, Bool.false_eq_true, if_false, Bool.or_eq_true, beq_iff_eq, hphase]

end

/-! Counts that a write clears. -/

theorem Dev.meterStatWrite_clearsA {d : Dev} {w : RegWr} (ha : w.one CFG_METER_STAT_CLRA = true) (hb : w.one CFG_METER_STAT_CLRB = false) :
    d.meterStatWrite w false false = d.wr CFG_METER_STAT_LATE_A 0 := by
  simp only [Dev.meterStatWrite, ha, hb, Bool.false_and, Bool.false_eq_true, if_false, if_true, Dev.clr_eq]

theorem Dev.qtimeWrite_clears {d : Dev} {t : Nat} {w : RegWr} (h : w.one (FRET_QTIME_CLR t) = true) :
    d.qtimeWrite t w = d.wr (FRET_QTIME_MAX t) 0 := by
  simp only [Dev.qtimeWrite, h, if_true, Dev.clr_eq]

/-- Settles O19, by what the tile's register shows and by what the ensemble of a tile does. -/
theorem tileSpeedsAndResets : Obligations.TileSpeedsAndResets := by
  refine ⟨fun s dieB place rate => congrArg s.next (Dev.tileSpeed_eq s.dev dieB place rate.toNat), fun s tile => ⟨?flag, ?clear⟩,
    fun s tile w => ⟨?reset, ?late, ?quiesce⟩⟩
  case flag =>
    exact fun hslow hpct => congrArg s.next (Dev.slowFlag_below hslow hpct)
  case clear =>
    exact fun hslow hpct => ⟨_, rfl, Dev.slowClear_clears hslow hpct⟩
  case reset =>
    intro a e hreach hgo hens
    have hexec : exec (.tileReset w) s = s.next (s.dev.resetTile w) := congrArg s.next (Dev.onWrite_ok hreach (.tileReset w) _)
    exact ⟨fun hphase => hexec.trans (congrArg s.next (Dev.resetTile_running hgo hens hphase)),
      fun h1 h2 => hexec.trans (congrArg s.next (Dev.resetTile_waits hgo hens (not_or_intro h1 h2)))⟩
  case late =>
    exact fun hreach ha hb =>
      congrArg s.next ((Dev.onWrite_ok hreach (.cfgMeterStatClr w false false) _).trans (Dev.meterStatWrite_clearsA ha hb))
  case quiesce =>
    exact fun hreach hclr => congrArg s.next ((Dev.onWrite_ok hreach (.fretQtimeClr tile w) _).trans (Dev.qtimeWrite_clears hclr))

end Sys2Proof.Machine
end

section
/-!
Migrations (R119, R127 to R132): when a move is decided, what its steps copy, and what the remap update leaves alone and moves.
-/
namespace Sys2Proof.Machine

/-! The decision (R119, R127). -/

/-- A reason for which an ensemble may move to a place: a unit it needs is lost, or a cause stands and the cost falls far enough. -/
def Dev.mayMove (d : Dev) (temps : List ColTemp) (a : Nat) (e : Ensemble) (dst : Nat) (reason : BitVec 3) : Prop :=
  d.mayMigrate reason.toNat (d.crippled a e) = true ∧ (reason ≠ 2 → d.hasCause temps a e dst reason.toNat = true ∧
    d.ensCost temps a e dst + d.rd PLACE_CTL_HYST ≤ d.ensCost temps a e a)

section
variable {d : Dev} {kern : BitVec 16} {dst : TileId} {temps : List ColTemp} {reason : BitVec 3} {k : Kernel} {a : Nat} {e : Ensemble}
  (hk : d.kernel kern.toNat = some k) (hlive : k.released = false) (hhome : d.homeOf k = a) (he : KMap.find d.ensembles a = some e)
  (hbest : d.bestMove temps a e = some dst.toNat)
include hk hlive hhome he hbest

/-- An ensemble that does not move yet begins to: its trigger is raised and the decision recorded. -/
theorem Dev.migrationDecide_begins (hstill : KMap.find d.migrations a = none) (hmay : d.mayMove temps a e dst.toNat reason)
    (hmode : d.rd PLACE_CTL_MODE ≠ 2) :
    d.migrationDecide (.kernel kern dst temps) reason.toNat = (({ d with
      migrations := KMap.put d.migrations a ⟨kern.toNat, a, dst.toNat, reason.toNat, 0, [], []⟩ }).trigger a .migrate).decided 5
        reason.toNat kern.toNat (placeWord dst.toNat (e.w - 1) (e.h - 1) (if e.both then 3 else if dst.toNat < 128 then 1 else 2) k.fret)
          0 dst.toNat k.fret := by
  obtain ⟨hmay, hworth⟩ := hmay
  have hheld : (reason.toNat != 2 && !(d.hasCause temps a e dst.toNat reason.toNat &&
      d.worthIt (d.ensCost temps a e a) (d.ensCost temps a e dst.toNat))) = false := by
    by_cases hr : reason = 2
    · simp [hr]
    · obtain ⟨hcause, hcost⟩ := hworth hr
      simp [hcause, Dev.worthIt, hcost]
  simp only [Dev.migrationDecide, hk, hlive, hhome, he, hbest, hstill, hmay, hheld, bne_self_eq_false, Bool.or_self, Bool.not_true,
    Bool.false_eq_true, beq_eq_false_iff_ne.mpr hmode, if_false]

/-- A migration whose target was lost takes the cheapest place as its new one (R131). -/
theorem Dev.migrationDecide_retargets {m : Migration} (hm : KMap.find d.migrations a = some m) (hlost : m.dst = 256) (r : Nat) :
    d.migrationDecide (.kernel kern dst temps) r = { d with migrations := KMap.put d.migrations a { m with dst := dst.toNat } } := by
  simp only [Dev.migrationDecide, hk, hlive, hhome, he, hbest, hm, hlost, bne_self_eq_false, Bool.or_self, Bool.false_eq_true,
    beq_self_eq_true, if_false, if_true]

end

/-- A buffer begins to move once its plan changes its rows and its cost falls far enough: the banks of its new rows wake. -/
theorem Dev.migrationDecide_buffer {d : Dev} {buf : BitVec 24} {mask : Word} {reason : BitVec 3} {b : Buffer} {rows : List (Option Nat)}
    (hb : d.buffer buf.toNat = some b) (hpin : b.pin = false) (hstill : KMap.find d.bufMoves buf.toNat = none)
    (hmay : d.mayMigrate reason.toNat false = true) (hreason : reason ≠ 1) (hplan : d.planMove b mask.toNat = some rows)
    (hrows : rows ≠ b.rows) (hcost : d.bufferCost buf.toNat rows + d.rd PLACE_CTL_HYST ≤ d.bufferCost buf.toNat b.rows) :
    d.migrationDecide (.buffer buf mask) reason.toNat = (({ d with
      bufMoves := KMap.put d.bufMoves buf.toNat ⟨mask.toNat, reason.toNat, rows⟩ }).wakeRows (rows.filterMap id)).bufDecided
        reason.toNat buf.toNat mask.toNat rows := by
  have hslow : (reason.toNat == 1) = false := beq_eq_false_iff_ne.mpr fun h => hreason (BitVec.eq_of_toNat_eq h)
  simp only [Dev.migrationDecide, hb, hpin, hstill, hmay, hslow, hplan, beq_eq_false_iff_ne.mpr hrows, Dev.worthIt, hcost, decide_true,
    Option.isSome_none, Bool.not_true, Bool.or_self, Bool.false_eq_true, if_false]

/-! The copies and the resumption (R127, R128). -/

section
variable {d : Dev} {a t : Nat} {m : Migration} {e : Ensemble}

theorem Dev.migration_of_find (hroot : d.rootLost = false) (hm : KMap.find d.migrations a = some m) (he : KMap.find d.ensembles a = some e) :
    d.migration a = some (m, e) := by
  simp only [Dev.migration, hroot, hm, he, Bool.false_eq_true, if_false, Option.bind_some, Option.map_some]

variable (hmig : d.migration a = some (m, e))
include hmig

theorem Dev.planeCopyDone_eq (hdst : m.dst < 256) (hstage : m.stage = 1) (ht : t ∈ e.where a) (hnew : t ∉ m.planes) :
    d.planeCopyDone a t = { d.copyPlanes t (t + m.dst - a) with
      migrations := KMap.put d.migrations a { m with planes := m.planes ++ [t] } } := by
  simp [Dev.planeCopyDone, hmig, hdst, hstage, ht, hnew]

theorem Dev.bmemCopyDone_eq (hdst : m.dst < 256) (hstage : m.stage = 1) (ht : t ∈ e.where a) (hplanes : t ∈ m.planes) (hnew : t ∉ m.mems) :
    d.bmemCopyDone a t = { d.copyMems t (t + m.dst - a) with
      migrations := KMap.put d.migrations a { m with mems := m.mems ++ [t] } } := by
  simp [Dev.bmemCopyDone, hmig, hdst, hstage, ht, hplanes, hnew]

theorem Dev.migrationResume_eq (hstage : m.stage = 3) : d.migrationResume a = ({ d with migrations := KMap.del d.migrations a }).resume a := by
  simp [Dev.migrationResume, hmig, hstage]

end

/-! The remap update (R129, R130, R184). -/

/-- What the update of each tile keeps: the kernels, the ensembles, the migrations and the store. -/
def Dev.placement (d : Dev) : KMap Kernel × KMap Ensemble × KMap Migration × List Host.Cell :=
  (d.kernels, d.ensembles, d.migrations, d.mem)

theorem Dev.placement_wr (d : Dev) (f : Field) (v : Nat) : (d.wr f v).placement = d.placement := rfl

theorem Dev.placement_swapRemap (d : Dev) (p q : Nat) : (d.swapRemap p q).placement = d.placement := by
  unfold Dev.swapRemap
  exact (apply_ite Dev.placement _ _ _).trans (ite_self _)

theorem Dev.placement_handTile (d : Dev) (t u : Nat) : (d.handTile t u).placement = d.placement :=
  foldl_keeps Dev.placement (F := fun d f => d.wr (fretKern u f) (d.rd (fretKern t f))) (fun d _ => d.placement_wr _ _) (List.range 8)
    (d.showFret u (d.shown t))

theorem Dev.placement_clearFret (d : Dev) (t f : Nat) : (d.clearFret t f).placement = d.placement := by
  unfold Dev.clearFret
  split <;> rfl

theorem Dev.placement_wipeTile (d : Dev) (t : Nat) : (d.wipeTile t).placement = d.placement := by
  have hcleared : Dev.placement ((List.range 8).foldl (fun d f => (d.clearFret t f).clr (fretKern t f)) d) = d.placement :=
    foldl_keeps Dev.placement (fun d f => ((d.clearFret t f).placement_wr _ 0).trans (d.placement_clearFret t f)) (List.range 8) d
  unfold Dev.wipeTile
  generalize (List.range 8).foldl (fun d f => (d.clearFret t f).clr (fretKern t f)) d = u at hcleared ⊢
  exact hcleared

/-- A kernel of an ensemble that moves from anchor a to anchor dst, or any other kernel. -/
def Kernel.movedFrom (k : Kernel) (a : Nat) (e : Ensemble) (dst : Nat) : Kernel :=
  if !k.released && (e.where a).contains k.anchor then { k with anchor := k.anchor + dst - a } else k

/-- The device whose placement map has an ensemble and its kernels at a new anchor. -/
def Dev.rehomed (d : Dev) (a : Nat) (m : Migration) (e : Ensemble) : Dev :=
  { d with
    kernels := d.kernels.map fun x => (x.1, x.2.movedFrom a e m.dst)
    ensembles := KMap.put (KMap.del d.ensembles a) m.dst e
    migrations := KMap.put (KMap.del d.migrations a) m.dst { m with stage := 3 } }

/-- Each tile of an ensemble that moves hands over to the tile at the same offset. -/
def Dev.handedOver (d : Dev) (a dst : Nat) (ts : List Nat) : Dev :=
  ts.foldl (fun d t => (d.swapRemap t (t + dst - a)).handTile t (t + dst - a)) d

theorem Dev.placement_handedOver (d : Dev) (a dst : Nat) (ts : List Nat) : (d.handedOver a dst ts).placement = d.placement :=
  foldl_keeps Dev.placement (fun d t => ((d.swapRemap t _).placement_handTile t _).trans (d.placement_swapRemap t _)) ts d

theorem Dev.remapUpdate_eq {d : Dev} {a : Nat} {m : Migration} {e : Ensemble} (hmig : d.migration a = some (m, e)) (hdst : m.dst < 256)
    (hstage : m.stage = 1) (hall : ∀ t ∈ e.where a, t ∈ m.mems) :
    d.remapUpdate a = (e.where a).foldl Dev.wipeTile ((d.handedOver a m.dst (e.where a)).rehomed a m e) := by
  have hcopied : ((e.where a).all m.mems.contains) = true := List.all_eq_true.mpr fun t ht => List.contains_iff_mem.mpr (hall t ht)
  have hmove : ∀ l : KMap Kernel, (l.map fun x : Nat × Kernel =>
      if !x.2.released && (e.where a).contains x.2.anchor then (x.1, { x.2 with anchor := x.2.anchor + m.dst - a }) else x) =
        l.map fun x => (x.1, x.2.movedFrom a e m.dst) := by
    refine fun l => List.map_congr_left fun x _ => ?_
    unfold Kernel.movedFrom
    split <;> rfl
  simp only [Dev.remapUpdate, hmig, hstage, hdst, hcopied, hmove, beq_self_eq_true, decide_true, Bool.and_self, if_true]
  rfl

theorem KMap.find_map_value {V : Type} (m : KMap V) (f : V → V) (j : Nat) :
    KMap.find (m.map fun x => (x.1, f x.2)) j = (KMap.find m j).map f := by
  induction m with
  | nil => rfl
  | cons x t ih =>
    obtain ⟨a, v⟩ := x
    simp only [List.map_cons, KMap.find, ih]
    split <;> rfl

/-- What the remap update leaves of the placement map. -/
theorem Dev.placement_remapUpdate {d : Dev} {a : Nat} {m : Migration} {e : Ensemble} (hmig : d.migration a = some (m, e)) (hdst : m.dst < 256)
    (hstage : m.stage = 1) (hall : ∀ t ∈ e.where a, t ∈ m.mems) : (d.remapUpdate a).placement = (d.rehomed a m e).placement := by
  have hwiped : (d.remapUpdate a).placement = ((d.handedOver a m.dst (e.where a)).rehomed a m e).placement := by
    rw [Dev.remapUpdate_eq hmig hdst hstage hall]
    exact foldl_keeps Dev.placement Dev.placement_wipeTile (e.where a) _
  have hhanded := d.placement_handedOver a m.dst (e.where a)
  simp only [Dev.placement, Dev.rehomed, Prod.mk.injEq] at hwiped hhanded ⊢
  obtain ⟨hk, he, hm, hs⟩ := hhanded
  simpa only [hk, he, hm, hs] using hwiped

/-- The remap update: the ensemble stands at its new anchor, its kernels at the same offsets from it, and every other kernel where it was. -/
theorem Dev.remapUpdate_moves {d : Dev} {a : Nat} {m : Migration} {e : Ensemble} (hmig : d.migration a = some (m, e)) (hdst : m.dst < 256)
    (hstage : m.stage = 1) (hall : ∀ t ∈ e.where a, t ∈ m.mems) :
    KMap.find (d.remapUpdate a).ensembles m.dst = some e ∧ KMap.find (d.remapUpdate a).migrations m.dst = some { m with stage := 3 } ∧
      (d.remapUpdate a).mem = d.mem ∧ ∀ h, (d.remapUpdate a).kernel h = (d.kernel h).map fun k => k.movedFrom a e m.dst := by
  have hplace := Dev.placement_remapUpdate hmig hdst hstage hall
  simp only [Dev.placement, Dev.rehomed, Prod.mk.injEq] at hplace
  obtain ⟨hkernels, hensembles, hmigrations, hmem⟩ := hplace
  refine ⟨?_, ?_, hmem, fun h => ?_⟩
  · rw [hensembles, KMap.find_put, if_pos rfl]
  · rw [hmigrations, KMap.find_put, if_pos rfl]
  · rw [Dev.kernel, hkernels]
    exact KMap.find_map_value d.kernels (fun k => k.movedFrom a e m.dst) h

theorem Kernel.movedFrom_member {k : Kernel} {a dst : Nat} {e : Ensemble} (hlive : k.released = false) (hin : k.anchor ∈ e.where a) :
    k.movedFrom a e dst = { k with anchor := k.anchor + dst - a } := by
  simp [Kernel.movedFrom, hlive, hin]

theorem Kernel.movedFrom_other {k : Kernel} {a dst : Nat} {e : Ensemble} (h : k.released = true ∨ k.anchor ∉ e.where a) :
    k.movedFrom a e dst = k := by
  rcases h with h | h <;> simp [Kernel.movedFrom, h]

/-! Rows of buffers (R132). -/

/-- The device once a buffer's row i is copied from r to x and mapped there, and r is free. -/
def Dev.rowMoved (d : Dev) (buf i r x : Nat) : Dev :=
  ((d.copyRow r x).updBuffer buf fun b => { b with rows := b.rows.set i (some x) }).freeRowList [r]

section
variable {d : Dev} {buf i r x : Nat} {b : Buffer} {m : BufMove} (hroot : d.rootLost = false) (hb : d.buffer buf = some b)
  (hr : b.rows.getD i none = some r) (hm : KMap.find d.bufMoves buf = some m) (hx : m.target.getD i none = some x) (hne : x ≠ r)
  (hmanaged : d.managed (x / 512) = true)
include hroot hb hr hm hx hne hmanaged

/-- A row of a buffer in migration is taken to the place that its migration wants. -/
theorem Dev.bufferRowMigrate_eq : d.bufferRowMigrate buf i = (d.carryRow buf i x).endMove buf := by
  simp only [Dev.bufferRowMigrate, hroot, hb, hr, hm, hx, Option.filter_some, bne_iff_ne.mpr hne, hmanaged, Bool.and_self, Bool.false_eq_true,
    if_false, if_true]

theorem Dev.bufferRowMigrate_on (hon : d.bankOn (x / 512) = true) : d.bufferRowMigrate buf i = (d.rowMoved buf i r x).endMove buf := by
  rw [Dev.bufferRowMigrate_eq hroot hb hr hm hx hne hmanaged]
  simp only [Dev.carryRow, hon, Dev.moveRow, hb, hr, beq_eq_false_iff_ne.mpr hne.symm, Bool.false_eq_true, if_false, if_true, Dev.rowMoved]

/-- A bank that is Off wakes first, and the migration goes on. -/
theorem Dev.bufferRowMigrate_off (hoff : d.rd (BANK_OWN_PSTATE (x / 512)) = 0) (hleft : m.target ≠ b.rows) :
    d.bufferRowMigrate buf i = d.wr (BANK_OWN_PSTATE (x / 512)) 3 := by
  have hwake : d.carryRow buf i x = d.wr (BANK_OWN_PSTATE (x / 512)) 3 := by
    simp [Dev.carryRow, Dev.bankOn, Dev.wakeBank, hoff]
  have hmoves : KMap.find (d.wr (BANK_OWN_PSTATE (x / 512)) 3).bufMoves buf = some m := hm
  have hbuffer : (d.wr (BANK_OWN_PSTATE (x / 512)) 3).buffer buf = some b := hb
  rw [Dev.bufferRowMigrate_eq hroot hb hr hm hx hne hmanaged, hwake]
  simp only [Dev.endMove, hmoves, hbuffer, beq_eq_false_iff_ne.mpr hleft, Bool.false_eq_true, if_false]

end

/-- Settles O18, step by step: each finds the migration or the buffer's move that its equation above needs. -/
theorem migrations : Obligations.Migrations := by
  intro s anchor tile e d a
  refine ⟨?decide, ?buffer, ?steps, ?row⟩
  case decide =>
    intro kern dst temps reason k hk hlive hhome he hbest
    refine ⟨fun hstill hmay hmode hworth => ?_, fun m hm hlost => ?_⟩
    · exact congrArg s.next (Dev.migrationDecide_begins hk hlive hhome he hbest hstill ⟨hmay, hworth⟩ hmode)
    · exact congrArg s.next (Dev.migrationDecide_retargets hk hlive hhome he hbest hm hlost reason.toNat)
  case buffer =>
    exact fun buf mask reason b rows hb hpin hstill hmay hreason hplan hrows hcost =>
      congrArg s.next (Dev.migrationDecide_buffer hb hpin hstill hmay hreason hplan hrows hcost)
  case steps =>
    intro m hroot hm he hdst
    have hmig : d.migration a = some (m, e) := Dev.migration_of_find hroot hm he
    refine ⟨fun hstage ht => ⟨fun hnew => ?_, fun hplanes hnew => ?_⟩, fun hstage hall => ?_, fun hstage => ?_⟩
    · exact congrArg s.next (Dev.planeCopyDone_eq hmig hdst hstage ht hnew)
    · exact congrArg s.next (Dev.bmemCopyDone_eq hmig hdst hstage ht hplanes hnew)
    · obtain ⟨hens, hmoved, hmem, hkernels⟩ := Dev.remapUpdate_moves hmig hdst hstage hall
      refine ⟨_, rfl, hens, hmoved, hmem, fun h k hk => ⟨fun ⟨hlive, hin⟩ => ?_, fun hother => ?_⟩⟩
      · rw [hkernels, hk, Option.map_some, Kernel.movedFrom_member hlive hin]
      · rw [hkernels, hk, Option.map_some, Kernel.movedFrom_other hother]
    · exact congrArg (fun t => s.next t.pumpDebug) (Dev.migrationResume_eq hmig hstage)
  case row =>
    intro buf row b r x m hroot hb hr hm hx hne hmanaged
    refine ⟨fun hon => congrArg s.next (Dev.bufferRowMigrate_on hroot hb hr hm hx hne hmanaged hon), fun hoff _ hleft => ?_⟩
    exact congrArg s.next (Dev.bufferRowMigrate_off hroot hb hr hm hx hne hmanaged hoff hleft)

end Sys2Proof.Machine
end

section
/-!
Cell operations and the tokens that a release, a capture, a spine and a metering edge move (R136 to R154, R169, R176, R177, R252, R253).
-/
namespace Sys2Proof.Machine

/-! Token records and hold elements. -/

@[simp] theorem Dev.tok_setTok (d : Dev) (k : Nat) (x : Tok) (j : Nat) : (d.setTok k x).tok j = if k = j then some x else d.tok j :=
  KMap.find_put _ _ _ _

@[simp] theorem Dev.tok_delTok (d : Dev) (k j : Nat) : (d.delTok k).tok j = if k = j then none else d.tok j := KMap.find_del _ _ _

@[simp] theorem Dev.tok_setHold (d : Dev) (f t i : Nat) (h : Hold) (k : Nat) : (d.setHold f t i h).tok k = d.tok k := rfl

@[simp] theorem Dev.hold_delTok (d : Dev) (k f t i : Nat) : (d.delTok k).hold f t i = d.hold f t i := rfl

@[simp] theorem Dev.hold_setHold (d : Dev) (f t i : Nat) (h : Hold) : (d.setHold f t i h).hold f t i = h := by
  simp only [Dev.hold, Dev.setHold, KMap.get_put, if_true]

@[simp] theorem Dev.metered_setTok (d : Dev) (k : Nat) (x : Tok) (t : Nat) : (d.setTok k x).metered t = d.metered t := rfl

/-- A cell's Q has another record than its Y. -/
theorem tokKey_q_ne_y (t i : Nat) : tokKey 1 t i ≠ tokKey 0 t i := by
  unfold tokKey
  omega

/-! The capture of a Y that waits (R144). -/

section
variable {d : Dev} {f t i : Nat}

/-- With no Y, nothing is captured. -/
theorem Dev.captureY_absent (hy : d.tok (tokKey 0 t i) = none) : d.captureY f t i = d := by
  simp only [Dev.captureY, hy, Option.bind_none]

/-- A Y that finds its hold element full waits. -/
theorem Dev.captureY_full (hfull : (d.hold f t i).full = true) : d.captureY f t i = d := by
  unfold Dev.captureY
  split
  · simp only [hfull, Bool.not_true, Bool.and_false, Bool.false_eq_true, if_false]
  · rfl

/-- An empty hold element takes the Y, and the cell's inputs are acknowledged. -/
theorem Dev.captureY_empty {y : Bool} {vs : List Bool} {l : List Nat} (hy : d.tok (tokKey 0 t i) = some ⟨y :: vs, l⟩)
    (hq : oselQ (d.cellWord f t i) = true) (hempty : (d.hold f t i).full = false) :
    d.captureY f t i = ((d.setHold f t i ⟨true, y⟩).delTok (tokKey 0 t i)).consume f t i := by
  simp only [Dev.captureY, hy, Option.bind_some, List.head?_cons, hq, hempty, Bool.not_false, Bool.and_self, if_true]

/-! Where a Y goes (R144, R145, R252). -/

theorem Dev.placeY_captured (hq : oselQ (d.cellWord f t i) = true) (hfree : d.metered t = false) (hempty : (d.hold f t i).full = false)
    (y : Bool) : d.placeY f t i y false =
      (((d.setTok (tokKey 0 t i) ⟨[y], []⟩).setHold f t i ⟨true, y⟩).delTok (tokKey 0 t i)).consume f t i := by
  have htok : (d.setTok (tokKey 0 t i) ⟨[y], []⟩).tok (tokKey 0 t i) = some ⟨[y], []⟩ := by simp
  simp only [Dev.placeY, hq, Dev.metered_setTok, hfree, Bool.false_eq_true, if_false, if_true]
  exact Dev.captureY_empty htok hq hempty

theorem Dev.placeY_waits (hq : oselQ (d.cellWord f t i) = true) (hwait : (d.hold f t i).full = true ∨ d.metered t = true) (y : Bool) :
    d.placeY f t i y false = d.setTok (tokKey 0 t i) ⟨[y], []⟩ := by
  simp only [Dev.placeY, hq, Dev.metered_setTok, Bool.false_eq_true, if_false, if_true]
  rcases hwait with hfull | hmeter
  · rw [Dev.captureY_full (d := d.setTok _ _) hfull, ite_self]
  · rw [if_pos hmeter]

theorem Dev.placeY_offered (hy : oselQ (d.cellWord f t i) = false) (hloads : d.outLoads f t i ≠ []) (y : Bool) :
    d.placeY f t i y false = d.setTok (tokKey 0 t i) ⟨[y], []⟩ := by
  simp only [Dev.placeY, hy, List.isEmpty_eq_false_iff.mpr hloads, Bool.false_eq_true, if_false]

theorem Dev.placeY_unloaded (hy : oselQ (d.cellWord f t i) = false) (hloads : d.outLoads f t i = []) (y : Bool) :
    d.placeY f t i y false = d.consume f t i := by
  simp only [Dev.placeY, hy, hloads, List.isEmpty_nil, Bool.false_eq_true, if_false, if_true]

end

/-! One operation of a cell outside a chain (R136 to R139, R150). -/

/-- The values that a cell finds on its inputs; false on one that offers nothing. -/
def Dev.pinValues (d : Dev) (f t i : Nat) (p : Nat) : Bool := (d.offeredTo f (d.pinSource f t i p) (loadCode 0 t i p)).getD false

/-- The CI of a cell that no cell below is linked to (R138, R151): a constant, or its routed S1. -/
def unlinkedCi (w : Nat) (inp : Nat → Bool) : Bool :=
  match cellCin w with
  | 1 => true
  | 3 => w.testBit 9 && inp 5
  | _ => false

/-- The Y that a cell word computes from the inputs. -/
def unlinkedY (w : Nat) (inp : Nat → Bool) : Bool :=
  let (m0, m1, x) := cellTree w inp
  (cellOut (cellMode w) m0 m1 x (unlinkedCi w inp)).1

/-- A cell outside a chain can operate: it runs, each of its triggers is offered, no Y or CO of an earlier operation stands, and its values
are defined. -/
structure Dev.cellReady (d : Dev) (f t i : Nat) : Prop where
  live : d.live t = true
  own : (d.iface f t i).1 = .none
  triggers : d.triggersOf f t i ≠ []
  offered : ∀ p ∈ d.triggersOf f t i, d.offeredTo f (d.pinSource f t i p) (loadCode 0 t i p) ≠ none
  below : d.chainIn f t i = none
  above : d.chainOut f t i = false
  noY : d.tok (tokKey 0 t i) = none
  noCo : d.tok (tokKey 6 t i) = none
  defined : d.undefined t = false

theorem Dev.not_idleCell {d : Dev} {f t i : Nat} (h : d.triggersOf f t i ≠ []) : d.idleCell f t i = false := by
  rw [Dev.idleCell, List.isEmpty_eq_false_iff.mpr h, Bool.false_and]

/-- Input 5 of a cell is routed when its word says so (R138). -/
theorem Dev.routed_s1 {d : Dev} {f t i : Nat} (hown : (d.iface f t i).1 = .none) : d.routed f t i 5 = (d.cellWord f t i).testBit 9 := by
  obtain ⟨n, hn⟩ : ∃ n, d.iface f t i = (.none, n) := ⟨_, Prod.ext hown rfl⟩
  simp only [Dev.routed, hn, bitsOf, Nat.testBit_eq_decide_div_mod_eq, Nat.reduceLT, if_false, Nat.reduceAdd, Nat.pow_one, beq_eq_decide]

section
variable {d : Dev} {f t i : Nat} (h : d.cellReady f t i)
include h

/-- With no fault, each input is found as it is offered. -/
theorem Dev.cellInputs_ready : d.cellInputs f t i 0 = (some (d.pinValues f t i), d) := by
  have hseen : ((d.triggersOf f t i).filter fun p => !(s1Chain (d.cellWord f t i) && p == 5)).any
      (fun p => (d.offeredTo f (d.pinSource f t i p) (loadCode 0 t i p)).isNone) = false := by
    simp only [List.any_eq_false, Option.isNone_iff_eq_none]
    exact fun p hp => h.offered p (List.mem_of_mem_filter hp)
  simp only [Dev.cellInputs, hseen, h.noCo, Nat.zero_testBit, List.filter_false, List.isEmpty_nil, List.foldl_nil, List.contains_nil,
    Bool.false_eq_true, if_false, if_true]
  rfl

/-- The CI is there at once: a constant, or S1, which is a trigger. -/
theorem Dev.cellCi_ready : d.cellCi f t i (d.pinValues f t i) = some (unlinkedCi (d.cellWord f t i) (d.pinValues f t i)) := by
  have hs1 : (if (d.cellWord f t i).testBit 9 then
      if (d.offeredTo f (d.pinSource f t i 5) (loadCode 0 t i 5)).isSome then some (d.pinValues f t i 5) else none else some false) =
      some ((d.cellWord f t i).testBit 9 && d.pinValues f t i 5) := by
    cases hbit : (d.cellWord f t i).testBit 9 with
    | false => rfl
    | true =>
      have hrouted : 5 ∈ d.triggersOf f t i := List.mem_filter.mpr ⟨by decide, (Dev.routed_s1 h.own).trans hbit⟩
      simp only [Option.isSome_iff_ne_none.mpr (h.offered 5 hrouted), if_true, Bool.true_and]
  simp only [Dev.cellCi, unlinkedCi, h.below, hs1]
  generalize cellCin (d.cellWord f t i) = c
  match c with
  | 0 | 1 | 2 | 3 | _ + 4 => rfl

/-- A ready cell computes Y, which goes where its word sends it. -/
theorem Dev.cellOperation_ready (hf : f = d.shown t) :
    d.cellOperation t i 0 false = d.placeY f t i (unlinkedY (d.cellWord f t i) (d.pinValues f t i)) false := by
  subst hf
  simp only [Dev.cellOperation, h.live, h.own, Dev.not_idleCell h.triggers, h.noY, Dev.cellInputs_ready h, Dev.cellCi_ready h, h.above, h.noCo,
    h.defined, unlinkedY, Option.isSome_none, Bool.not_true, Bool.not_false, ne_eq, not_true_eq_false, decide_false, Bool.or_self,
    Bool.true_or, Bool.and_false, Bool.false_eq_true, if_false]

end

/-- Settles O20: a ready cell's Y is captured, waits, is offered or is dropped for want of a load. -/
theorem cellOperations : Obligations.CellOperations := by
  intro s tile cell d t i f w seen inp tree ci y d1 hlive hown htrig hoffered hbelow habove hnoY hnoCo hdefined
  have hready : d.cellReady f t i := ⟨hlive, hown, htrig, hoffered, hbelow, habove, hnoY, hnoCo, hdefined⟩
  have hexec : ∀ x, d.placeY f t i y false = x → exec (.cellOperation tile cell 0 false) s = s.next x.pumpIo := fun x hx =>
    congrArg (fun x : Dev => s.next x.pumpIo) ((Dev.cellOperation_ready hready rfl).trans hx)
  exact ⟨fun hq hfree hempty => hexec _ (Dev.placeY_captured hq hfree hempty y), fun hq hwait => hexec _ (Dev.placeY_waits hq hwait y),
    fun hy hloads => hexec _ (Dev.placeY_offered hy hloads y), fun hy hloads => hexec _ (Dev.placeY_unloaded hy hloads y)⟩

/-! The release of a hold element (R144). -/

/-- The device in which a hold element has let go of its Q token. -/
def Dev.emptied (d : Dev) (f t i : Nat) : Dev := (d.setHold f t i ⟨false, (d.hold f t i).val⟩).delTok (tokKey 1 t i)

theorem Dev.tok_y_emptied (d : Dev) (f t i : Nat) : (d.emptied f t i).tok (tokKey 0 t i) = d.tok (tokKey 0 t i) := by
  rw [Dev.emptied, Dev.tok_delTok, if_neg (tokKey_q_ne_y t i), Dev.tok_setHold]

theorem Dev.hold_emptied (d : Dev) (f t i : Nat) : ((d.emptied f t i).hold f t i).full = false := by
  rw [Dev.emptied, Dev.hold_delTok, Dev.hold_setHold]

section
variable {d : Dev} {f t i : Nat} (hf : f = d.shown t) (hlive : d.live t = true) (hown : (d.iface f t i).1 = .none)
  (hbusy : d.idleCell f t i = false) (hq : oselQ (d.cellWord f t i) = true) (hfull : (d.hold f t i).full = true)
  (hacked : ∀ l ∈ d.outLoads f t i, l ∈ d.ackedBy f (.out t i))

include hf hlive hown hbusy hq hfull hacked

/-- A full hold element whose Q token every load has acknowledged empties; off a metered die it looks for a Y that waits. -/
theorem Dev.holdRelease_acked :
    d.holdRelease t i = if d.metered t then d.emptied f t i else (d.emptied f t i).captureY f t i := by
  subst hf
  have hall : (d.outLoads (d.shown t) t i).all (d.ackedBy (d.shown t) (.out t i)).contains = true := by
    simpa only [List.all_eq_true, List.contains_iff_mem] using hacked
  simp only [Dev.holdRelease, hlive, hown, hbusy, hq, hfull, hall, decide_true, Bool.not_false, Bool.and_self, if_true]
  rfl

theorem Dev.holdRelease_empties (hwait : d.tok (tokKey 0 t i) = none ∨ d.metered t = true) : d.holdRelease t i = d.emptied f t i := by
  rw [Dev.holdRelease_acked hf hlive hown hbusy hq hfull hacked]
  rcases hwait with hnone | hmeter
  · rw [Dev.captureY_absent ((d.tok_y_emptied f t i).trans hnone), ite_self]
  · rw [if_pos hmeter]

theorem Dev.holdRelease_refills {y : Bool} {vs : List Bool} {l : List Nat} (hy : d.tok (tokKey 0 t i) = some ⟨y :: vs, l⟩)
    (hfree : d.metered t = false) :
    d.holdRelease t i = (((d.emptied f t i).setHold f t i ⟨true, y⟩).delTok (tokKey 0 t i)).consume f t i := by
  rw [Dev.holdRelease_acked hf hlive hown hbusy hq hfull hacked, hfree, if_neg Bool.false_ne_true]
  exact Dev.captureY_empty ((d.tok_y_emptied f t i).trans hy) hq (d.hold_emptied f t i)

end

/-! Token registers and spines (R169, R176, R177). -/

theorem Dev.captureReg_takes {d : Dev} {f t cl h : Nat} {v : Bool} (hcode : 8 < d.headCode f t cl h)
    (hnone : d.tok (tokKey 3 t (12 * cl + h)) = none) (hloads : d.wireLoads f t cl h ≠ [])
    (hv : d.offeredTo f (d.regSource f t cl h) (loadCode 1 t (12 * cl + h) 0) = some v) :
    d.captureReg f t cl h false = Dev.ack f routeFuel (d.setTok (tokKey 3 t (12 * cl + h)) ⟨[v], []⟩) (d.regSource f t cl h)
      (loadCode 1 t (12 * cl + h) 0) := by
  simp only [Dev.captureReg, hcode, hnone, hv, List.isEmpty_eq_false_iff.mpr hloads, decide_true, Option.isNone_none, Bool.and_self,
    Bool.false_eq_true, if_false, if_true]

theorem Dev.tokenRegisterCapture_free {d : Dev} {t : Nat} (hlive : d.live t = true) (hfree : d.metered t = false) (cl h : Nat) (fault : Bool) :
    d.tokenRegisterCapture t cl h fault = d.captureReg (d.shown t) t cl h fault := by
  simp only [Dev.tokenRegisterCapture, hlive, hfree, Bool.not_false, Bool.and_self, if_true]

/-- A driver of a spine that carries tokens to cells places its cell's token on it. -/
theorem Dev.spineToken_places {d : Dev} {t j a sp c : Nat} {e : Ensemble} {v : Bool} (hlive : d.live t = true)
    (hdriver : d.spineDriver (d.shown t) t j = (true, sp, c)) (hsp : sp ∉ [0, 16, 32, 48]) (he : d.ensembleOf t = some (a, e))
    (hv : d.offeredTo (d.shown t) (.out t c) (loadCode 2 t j 0) = some v) (hnone : d.tok (tokKey 4 a sp) = none)
    (hloads : d.spineLoads (d.shown t) a sp ≠ []) :
    d.spineToken t j false = d.setTok (tokKey 4 a sp) ⟨[v], []⟩ := by
  simp only [List.mem_cons, List.not_mem_nil, or_false, not_or, ← beq_eq_false_iff_ne] at hsp
  obtain ⟨h0, h16, h32, h48⟩ := hsp
  simp only [Dev.spineToken, hdriver, hlive, h0, h16, h32, h48, he, hv, hnone, List.isEmpty_eq_false_iff.mpr hloads, Bool.not_true,
    Bool.or_self, Option.isSome_none, Bool.false_eq_true, if_false]

/-! A late capture (R253) counts, and leaves the fabric alone. -/

section
variable {α : Type} {P : Dev → α} (hwr : ∀ d f v, 0x380000 * 8 ≤ f.key → P (d.wr f v) = P d)
  (herrq : ∀ (d : Dev) l, P { d with errq := l } = P d)
include hwr herrq

/-- A Slate event that has a flag keeps what neither the registers above the frets' nor the error records hold. -/
theorem Dev.report_slate_keeps (d : Dev) {e : Ev} (hcls : e.cls = .slate) (hbare : e.bare = false) : P (d.report e) = P d := by
  have hcount : P (d.dropRecord .slate) = P d := (hwr _ _ _ (by decide)).trans (hwr _ _ _ (by decide))
  simp only [Dev.report, hcls, hbare, reduceCtorEq, Bool.false_eq_true, if_false, apply_ite P, herrq, hcount, ite_self]

theorem Dev.lateCapture_keeps (d : Dev) (t : Nat) : P (d.lateCapture t) = P d := by
  have hfield : 0x380000 * 8 ≤ (if t < 128 then CFG_METER_STAT_LATE_A else CFG_METER_STAT_LATE_B).key := by split <;> decide
  have hcount : ∀ n, P (d.wr (if t < 128 then CFG_METER_STAT_LATE_A else CFG_METER_STAT_LATE_B) n) = P d := fun n => hwr d _ n hfield
  simp only [Dev.lateCapture, Dev.incSat_eq, apply_ite P, Dev.report_slate_keeps hwr herrq, hcount, ite_self]

end

theorem Dev.tok_lateCapture (d : Dev) (t k : Nat) : (d.lateCapture t).tok k = d.tok k :=
  Dev.lateCapture_keeps (P := (Dev.tok · k)) (fun _ _ _ _ => rfl) (fun _ _ => rfl) d t

theorem Dev.hold_lateCapture (d : Dev) (t f u i : Nat) : (d.lateCapture t).hold f u i = d.hold f u i :=
  Dev.lateCapture_keeps (P := (Dev.hold · f u i)) (fun _ _ _ _ => rfl) (fun _ _ => rfl) d t

theorem Dev.cellWord_lateCapture (d : Dev) (t f u i : Nat) : (d.lateCapture t).cellWord f u i = d.cellWord f u i :=
  Dev.lateCapture_keeps (P := (Dev.cellWord · f u i)) (fun _ _ _ _ => rfl) (fun _ _ => rfl) d t

theorem Dev.shown_lateCapture (d : Dev) (t : Nat) {u : Nat} (hu : u < 256) : (d.lateCapture t).shown u = d.shown u := by
  refine Dev.lateCapture_keeps (P := (Dev.shown · u)) (fun d f v hf => Dev.rd_wr_ne d v ?_) (fun _ _ => rfl) d t
  have hkey : (FRET_STAT_SHOWN u).key < 0x380000 * 8 := by
    simp only [Field.key, FRET_STAT_SHOWN]
    omega
  omega

/-! An edge of a metering clock (R252, R253). -/

/-- A Y that waits for an edge stands at an empty hold element. -/
theorem Dev.empty_of_mem_waitingYs {d : Dev} {here : Nat → Bool} {t i : Nat} (h : (t, i) ∈ d.waitingYs here) :
    oselQ (d.cellWord (d.shown t) t i) = true ∧ (d.hold (d.shown t) t i).full = false := by
  obtain ⟨⟨k, x⟩, -, hk⟩ := List.mem_filterMap.mp h
  obtain ⟨hwait, hti⟩ := Option.ite_none_right_eq_some.mp hk
  obtain ⟨rfl, rfl⟩ := Prod.mk.inj (Option.some.inj hti)
  simp only [Bool.and_eq_true, Bool.not_eq_true'] at hwait
  obtain ⟨⟨-, hq⟩, hempty⟩ := hwait
  exact ⟨hq, hempty⟩

/-- The device after a Y that an edge captures is counted, if the Y's marks l say that it completed after an earlier edge. -/
def Dev.countedLate (d : Dev) (t : Nat) (l : List Nat) : Dev := if l = [] then d else d.lateCapture t

/-- What a late count keeps, it keeps whether or not the Y was late. -/
theorem Dev.countedLate_keeps {α : Type} {P : Dev → α} {d : Dev} {t : Nat} (h : P (d.lateCapture t) = P d) (l : List Nat) :
    P (d.countedLate t l) = P d := by
  simp only [Dev.countedLate, apply_ite P, h, ite_self]

/-- The hold element of a Y that waits takes it at the edge. -/
theorem Dev.captureY_countedLate {d : Dev} {here : Nat → Bool} {t i : Nat} {y : Bool} {vs : List Bool} {l : List Nat} (ht : t < 256)
    (hwait : (t, i) ∈ d.waitingYs here) (hy : d.tok (tokKey 0 t i) = some ⟨y :: vs, l⟩) :
    (d.countedLate t l).captureY ((d.countedLate t l).shown t) t i =
      (((d.countedLate t l).setHold (d.shown t) t i ⟨true, y⟩).delTok (tokKey 0 t i)).consume (d.shown t) t i := by
  obtain ⟨hq, hempty⟩ := Dev.empty_of_mem_waitingYs hwait
  have hshown : (d.countedLate t l).shown t = d.shown t := Dev.countedLate_keeps (P := (Dev.shown · t)) (d.shown_lateCapture t ht) l
  have htok := Dev.countedLate_keeps (P := (Dev.tok · (tokKey 0 t i))) (d.tok_lateCapture t _) l
  have hhold := Dev.countedLate_keeps (P := (Dev.hold · (d.shown t) t i)) (d.hold_lateCapture t _ _ _) l
  have hword := Dev.countedLate_keeps (P := (Dev.cellWord · (d.shown t) t i)) (d.cellWord_lateCapture t _ _ _) l
  rw [hshown]
  exact Dev.captureY_empty (htok.trans hy) ((congrArg oselQ hword).trans hq) ((congrArg Hold.full hhold).trans hempty)

/-- An edge with one Y and no token register waiting captures that Y. -/
theorem Dev.edgeCaptures_one {d : Dev} {die t i : Nat} {y : Bool} {vs : List Bool} {l : List Nat} (ht : t < 256)
    (hys : (d.waitingYs fun u => u / 128 == die && d.live u && d.metered u) = [(t, i)]) (hregs : d.waitingRegs die = [])
    (hy : d.tok (tokKey 0 t i) = some ⟨y :: vs, l⟩) :
    d.edgeCaptures die [] [] =
      (((d.countedLate t l).setHold (d.shown t) t i ⟨true, y⟩).delTok (tokKey 0 t i)).consume (d.shown t) t i := by
  simp only [Dev.edgeCaptures, hys, hregs, List.foldl_cons, List.foldl_nil, hy, List.isEmpty_iff]
  exact Dev.captureY_countedLate ht (hys ▸ List.mem_singleton_self _) hy

/-- An edge at which no block memory waits captures, and grants nothing. -/
theorem Dev.meteringEdge_noMems {d : Dev} {die : Nat} (hmeter : d.meter.testBit die = true) (hmems : d.waitingMems die = [])
    (late faults : List RegAt) : d.meteringEdge die late faults = d.edgeCaptures die late faults := by
  simp only [Dev.meteringEdge, hmeter, hmems, Bool.not_true, Bool.false_eq_true, if_false, List.foldl_nil]

theorem Dev.meteringEdge_free {d : Dev} {die : Nat} (hfree : d.meter.testBit die = false) (late faults : List RegAt) :
    d.meteringEdge die late faults = d := by
  simp only [Dev.meteringEdge, hfree, Bool.not_false, if_true]

/-- Settles O21, move by move. -/
theorem tokenMoves : Obligations.TokenMoves := by
  intro s tile d t f
  refine ⟨?release, ?register, ?spine, ?edge⟩
  case release =>
    intro cell i d1 hlive hown hbusy hq hfull hacked
    exact ⟨fun hwait => congrArg (fun x : Dev => s.next x.pumpIo) (Dev.holdRelease_empties rfl hlive hown hbusy hq hfull hacked hwait),
      fun y vs l hy hfree => congrArg (fun x : Dev => s.next x.pumpIo) (Dev.holdRelease_refills rfl hlive hown hbusy hq hfull hacked hy hfree)⟩
  case register =>
    intro cluster head v hlive hfree cl k hcode hnone hloads hv
    exact congrArg (fun x : Dev => s.next x.pumpIo)
      ((Dev.tokenRegisterCapture_free hlive hfree _ _ false).trans (Dev.captureReg_takes hcode hnone hloads hv))
  case spine =>
    exact fun j a sp c e v hlive hdriver hsp he hv hnone hloads =>
      congrArg (fun x : Dev => s.next x.pumpIo) (Dev.spineToken_places hlive hdriver hsp he hv hnone hloads)
  case edge =>
    intro dieB hmems
    refine ⟨fun hfree late faults => congrArg s.next (Dev.meteringEdge_free hfree late faults), ?_⟩
    intro hmeter hregs i y vs l hys hy d1
    exact congrArg s.next ((Dev.meteringEdge_noMems hmeter hmems [] []).trans (Dev.edgeCaptures_one tile.isLt hys hregs hy))

end Sys2Proof.Machine
end

section
/-!
Packets of a portal (R200, R201, R221 to R223, R226): the flit a portal takes, the packet that leaves whole, and the order in which inbound
packets reach the fabric.
-/
namespace Sys2Proof.Machine

/-! Outbound (R221 to R223). -/

section
variable {d : Dev} {f t h : Nat} {k : Kernel}

/-- A posted descriptor to a tile, when it is not refused, begins a packet with the epoch of the kernel's KRUN (R223). -/
theorem Dev.takeDescriptor_posts {q w : Nat} {e : Entry} (hrun : d.runOf h = some (q, e)) (hkind : (portalDesc w).kind = 0)
    (hvc : (portalDesc w).vc = 3) (hgood : d.descBad k (portalDesc w) 0 = false) :
    d.takeDescriptor f t h k w 0 = d.setPortal t { d.portal t with
      outq := (d.portal t).outq ++ [⟨d.portalHeader t k w 0 e.epoch, h, none, (portalDesc w).len⟩] } := by
  simp only [Dev.takeDescriptor, hrun, hkind, hvc, hgood, Nat.reduceBEq, Bool.false_and, Bool.or_self, Bool.false_eq_true, if_false]

/-- A descriptor of no read is taken once it fits. -/
theorem Dev.startPacket_fits {d1 : Dev} {v : Nat} (hcmd : (portalDesc (v % 2 ^ 64)).cmd ≠ 1) (hfits : d1.descFits f t k (v % 2 ^ 64) 0 = true) :
    Dev.startPacket d d1 f t h k v = (d1.pinsTake f t .portal (d.doutPins f t)).takeDescriptor f t h k (v % 2 ^ 64) 0 := by
  simp only [Dev.startPacket, beq_eq_false_iff_ne.mpr hcmd, hfits, Bool.false_eq_true, if_false, if_true]

/-- A queue of whole packets is empty or ends in a whole one. -/
theorem reverse_outq_whole {l : List OutPkt} (h : ∀ o ∈ l, o.left = 0) : l.reverse = [] ∨ ∃ o rest, l.reverse = o :: rest ∧ o.left = 0 := by
  cases hl : l.reverse with
  | nil => exact .inl rfl
  | cons o rest => exact .inr ⟨o, rest, rfl, h o (List.mem_reverse.mp (hl ▸ List.mem_cons_self))⟩

/-- The word on the pins of DOUT. -/
def Dev.doutWord (d : Dev) (t : Nat) : Nat := d.pinsValue (d.shown t) t .portal 0 0 288

/-- The device after a portal has taken the flit on DOUT. -/
def Dev.doutTaken (d : Dev) (t : Nat) : Dev := d.pinsTake (d.shown t) t .portal (d.doutPins (d.shown t) t)

variable (hlive : d.live t = true) (hon : d.portalOn t = true)
  (hpins : d.pinsReady (d.shown t) t .portal (d.doutPins (d.shown t) t) = true) (hkernel : d.shownKernel t = some (h, k))
include hlive hon hpins hkernel

/-- A flit of a packet that is discarded (R225). -/
theorem Dev.takeFlit_skips (hskip : (d.portal t).skip ≠ 0) :
    d.takeFlit t ⟨[], false⟩ = (d.doutTaken t).setPortal t { d.portal t with skip := (d.portal t).skip - 1 } := by
  simp only [Dev.takeFlit, hlive, hon, hpins, hkernel, hskip, Bool.not_true, Bool.or_self, Bool.false_eq_true, if_false, ne_eq,
    not_false_eq_true, if_true]
  rfl

/-- A data flit joins the packet begun (R221). -/
theorem Dev.takeFlit_joins {o : OutPkt} {rest : List OutPkt} (hskip : (d.portal t).skip = 0) (hlast : (d.portal t).outq.reverse = o :: rest)
    (hleft : o.left ≠ 0) :
    d.takeFlit t ⟨[], false⟩ = (d.doutTaken t).setPortal t { d.portal t with
      outq := ({ o with
        pkt := { o.pkt with
          data := o.pkt.data ++ bytesLE 32 (d.doutWord t)
          enables := o.pkt.enables ++ (List.range 32).map fun j => (d.doutWord t).testBit (256 + j) }
        left := o.left - 1 } :: rest).reverse } := by
  simp only [Dev.takeFlit, hlive, hon, hpins, hkernel, hskip, hlast, hleft, Dev.senseWord_sound, Dev.synced_resolved, Bool.not_true,
    Bool.or_self, Bool.false_eq_true, if_false, ne_eq, not_true_eq_false, not_false_eq_true, if_true]
  rfl

/-- With every packet whole, the flit is a descriptor. -/
theorem Dev.takeFlit_begins (hskip : (d.portal t).skip = 0) (hwhole : ∀ o ∈ (d.portal t).outq, o.left = 0) :
    d.takeFlit t ⟨[], false⟩ = Dev.startPacket d d (d.shown t) t h k (d.doutWord t) := by
  simp only [Dev.takeFlit, hlive, hon, hpins, hkernel, hskip, Dev.senseWord_sound, Dev.synced_resolved, Bool.not_true, Bool.or_self,
    Bool.false_eq_true, if_false, ne_eq, not_true_eq_false]
  rcases reverse_outq_whole hwhole with hnil | ⟨o, rest, hcons, hleft⟩
  · simp only [hnil]
    rfl
  · simp only [hcons, hleft, not_true_eq_false, if_false]
    rfl

end

/-- The oldest packet of a channel leaves whole (R222), for an endpoint that accesses nothing for the kernel. -/
theorem Dev.sendOut_whole {d : Dev} {t vc : Nat} {o : OutPkt} (hrun : d.running = true)
    (hfind : ((d.portal t).outq.find? fun o => o.pkt.vc.toNat == vc) = some o) (hleft : o.left = 0) (hdep : o.pkt.dep.toNat ∉ [4, 5, 8, 9]) :
    d.sendOut t vc = (d.setPortal t { d.portal t with outq := (d.portal t).outq.erase o }).emit (.packet o.pkt) := by
  have hplain : [4, 5, 8, 9].contains o.pkt.dep.toNat = false := by simpa using hdep
  simp only [Dev.sendOut, hfind, hrun, hleft, hplain, Bool.not_true, ne_eq, not_true_eq_false, decide_false, Bool.or_self, Bool.false_eq_true,
    if_false]

/-! Inbound (R200, R201, R222, R226). -/

/-- No packet of a channel is among these. -/
theorem any_vc_eq_false {l : List Packet} {c : BitVec 2} (h : ∀ p ∈ l, p.vc ≠ c) : (l.any fun p => p.vc.toNat == c.toNat) = false :=
  List.any_eq_false.mpr fun p hp heq => h p hp (BitVec.eq_of_toNat_eq (beq_iff_eq.mp heq))

section
variable {d d1 : Dev} {t : Nat} (htakes : d.portalTakes t = true) (hfill : d.fillPortal t = d1) (hfree : d1.outsFree t .portal 0 289 = true)
include htakes hfill hfree

/-- Parked responses of the shown fret come first (R201). -/
theorem Dev.portalInbound_parked {p : Packet} {rest : List Packet} (hpark : d1.park t (d1.shown t) = p :: rest) :
    d.portalInbound t 1 none =
      ((d1.setPark t (d1.shown t) rest).setPortal t { d1.portal t with cur := none }).deliverResponse (d1.shown t) t p none := by
  simp only [Dev.portalInbound, htakes, hfill, hfree, hpark, Bool.not_true, Bool.false_eq_true, if_false, beq_self_eq_true, if_true]

/-- A posted packet waits while the queue holds a response (R222). -/
theorem Dev.portalInbound_waits {p : Packet} (hp : p ∈ (d1.portal t).inq) (hvc : p.vc = 1) : d.portalInbound t 3 none = d1 := by
  have hhas : ((d1.portal t).inq.any fun p => p.vc.toNat == 1) = true := List.any_eq_true.mpr ⟨p, hp, by rw [hvc]; rfl⟩
  simp only [Dev.portalInbound, htakes, hfill, hfree, hhas, Bool.not_true, Bool.false_eq_true, if_false, Nat.reduceBEq, Bool.or_true,
    Bool.true_or, if_true]

/-- With no response and no request before it, a posted packet goes to the fabric (R222, R226). -/
theorem Dev.portalInbound_posted {p : Packet} {rest : List Packet} (hpark : d1.park t (d1.shown t) = [])
    (hfirst : ∀ p ∈ (d1.portal t).inq, p.vc ≠ 1 ∧ p.vc ≠ 0) (htake : takeFirst 3 (d1.portal t).inq = some (p, rest))
    (hplain : debugBound p = false) (hon : d1.portalOn t = true) :
    d.portalInbound t 3 none = (d1.setPortal t { d1.portal t with inq := rest, cur := some 3 }).deliverFlits (d1.shown t) t p none := by
  have hresp : ((d1.portal t).inq.any fun p => p.vc.toNat == 1) = false := any_vc_eq_false fun p hp => (hfirst p hp).1
  have hreq : ((d1.portal t).inq.any fun p => p.vc.toNat == 0) = false := any_vc_eq_false fun p hp => (hfirst p hp).2
  have hon1 : (d1.setPortal t { d1.portal t with inq := rest, cur := some 3 }).portalOn t = true := hon
  simp only [Dev.portalInbound, htakes, hfill, hfree, hpark, hresp, hreq, htake, Dev.windowWaits, hplain, hon1, List.isEmpty_nil, Nat.reduceBEq,
    Bool.not_true, Bool.false_and, Bool.and_false, Bool.or_self, Bool.false_eq_true, if_false, if_true]

end

/-- Settles O23, for the flit that the portal takes, the packet that leaves, and the packets that come in. -/
theorem portalPackets : Obligations.PortalPackets := by
  intro s tile d t f x pins v
  refine ⟨?take, ?send, ?inbound⟩
  case take =>
    intro h k hlive hon hpins hkernel d1 w y
    refine ⟨fun hskip => congrArg s.next (Dev.takeFlit_skips hlive hon hpins hkernel hskip),
      fun o rest hskip hlast hleft => congrArg s.next (Dev.takeFlit_joins hlive hon hpins hkernel hskip hlast hleft), ?_⟩
    intro q e hskip hwhole hkind hvc hcmd hfits hrun hgood
    have hbegin := Dev.takeFlit_begins hlive hon hpins hkernel hskip hwhole
    exact congrArg s.next (hbegin.trans ((Dev.startPacket_fits hcmd hfits).trans (Dev.takeDescriptor_posts hrun hkind hvc hgood)))
  case send =>
    exact fun vc o hrun hfind hleft hdep sense => congrArg s.next (Dev.sendOut_whole hrun hfind hleft hdep)
  case inbound =>
    intro htakes d1 g z hfree
    exact ⟨fun p rest hpark => congrArg s.next (Dev.portalInbound_parked htakes rfl hfree hpark),
      fun p hp hvc => congrArg s.next (Dev.portalInbound_waits htakes rfl hfree hp hvc),
      fun p rest hpark hfirst htake hplain hon => congrArg s.next (Dev.portalInbound_posted htakes rfl hfree hpark hfirst htake hplain hon)⟩

end Sys2Proof.Machine
end

section
/-!
Fret switching (R185, R194, R196, R197, R199, R203 to R205): the quiesce that a trigger begins, the switch and its limit, what the tiles of an
ensemble show after a switch and after a preload, and the triggers that requests and dwells raise.
-/
namespace Sys2Proof.Machine

/-! The tiles of a rectangle (R111). -/

theorem tileAt_inj {a b x u y v : Nat} (hx : x < 16) (hu : u < 16) (hy : y < 8) (hv : v < 8) (h : tileAt a x y = tileAt b u v) :
    a = b ∧ x = u ∧ y = v := by
  unfold tileAt at h
  omega

/-- The tiles of a rectangle on one die. -/
def rectOn (die x0 y0 w h : Nat) : List Nat := (List.range h).flatMap fun j => (List.range w).map fun i => tileAt die (x0 + i) (y0 + j)

theorem rectTiles_eq (anchor w h : Nat) (both : Bool) : rectTiles anchor w h both =
    if both then rectOn 0 (tileX anchor) (tileY anchor) w h ++ rectOn 1 (tileX anchor) (tileY anchor) w h
    else rectOn (anchor / 128) (tileX anchor) (tileY anchor) w h := rfl

section
variable {x0 y0 w h : Nat} (hw : x0 + w ≤ 16) (hh : y0 + h ≤ 8)
include hw hh

theorem nodup_rectOn (die : Nat) : (rectOn die x0 y0 w h).Nodup := by
  refine List.nodup_flatMap.mpr ⟨fun j hj => ?row, ?rows⟩
  case row =>
    refine List.Nodup.map_on (fun i hi k hk heq => ?_) List.nodup_range
    rw [List.mem_range] at hi hj hk
    have hsame := tileAt_inj (by omega) (by omega) (by omega) (by omega) heq
    omega
  case rows =>
    refine List.nodup_range.imp_of_mem fun {j k} hj hk hne t hjt hkt => ?_
    obtain ⟨i, hi, rfl⟩ := List.mem_map.mp hjt
    obtain ⟨l, hl, heq⟩ := List.mem_map.mp hkt
    rw [List.mem_range] at hi hl hj hk
    have hsame := tileAt_inj (by omega) (by omega) (by omega) (by omega) heq
    omega

theorem die_of_mem_rectOn {die t : Nat} (ht : t ∈ rectOn die x0 y0 w h) : t / 128 = die := by
  obtain ⟨j, hj, hrow⟩ := List.mem_flatMap.mp ht
  obtain ⟨i, hi, rfl⟩ := List.mem_map.mp hrow
  rw [List.mem_range] at hi hj
  unfold tileAt
  omega

end

/-- A rectangle on the die grid has each of its tiles once. -/
theorem nodup_rectTiles {anchor w h : Nat} {both : Bool} (hfits : rectFits anchor w h both = true) : (rectTiles anchor w h both).Nodup := by
  obtain ⟨hw, hh, -, -⟩ := of_decide_eq_true hfits
  rw [rectTiles_eq]
  split
  · refine List.nodup_append.mpr ⟨nodup_rectOn hw hh 0, nodup_rectOn hw hh 1, fun t ht u hu heq => ?_⟩
    have hzero := die_of_mem_rectOn hw hh ht
    have hone := die_of_mem_rectOn hw hh hu
    omega
  · exact nodup_rectOn hw hh _

/-! Changes of one tile after another. -/

section
variable {α γ : Type} (P : Dev → γ) {F : Dev → α → Dev} {x : α}

theorem foldl_keeps_of_not_mem (hother : ∀ d y, y ≠ x → P (F d y) = P d) {l : List α} (hx : x ∉ l) (d : Dev) : P (l.foldl F d) = P d :=
  List.foldlRecOn (motive := fun u : Dev => P u = P d) l F rfl fun u hu y hy =>
    (hother u y fun h => hx (h ▸ hy)).trans hu

/-- What only the change of one element touches, that change decides. -/
theorem foldl_once (hother : ∀ d y, y ≠ x → P (F d y) = P d) {d : Dev} {v : γ} (hself : ∀ u, P u = P d → P (F u x) = v) {l : List α}
    (hnodup : l.Nodup) (hx : x ∈ l) : P (l.foldl F d) = v := by
  obtain ⟨l₁, l₂, rfl⟩ := List.append_of_mem hx
  have hrest := (List.nodup_cons.mp (List.nodup_middle.mp hnodup)).1
  rw [List.mem_append, not_or] at hrest
  obtain ⟨h₁, h₂⟩ := hrest
  rw [List.foldl_append, List.foldl_cons, foldl_keeps_of_not_mem P hother h₂]
  exact hself _ (foldl_keeps_of_not_mem P hother h₁ d)

end

/-! The fields of a tile's fret controller. -/

theorem key_FRET_STAT_SHOWN (t : Nat) : (FRET_STAT_SHOWN t).key = 8192 * t + 25165824 := by simp only [FRET_STAT_SHOWN, Field.key]; omega
theorem key_FRET_STAT_NEXT (t : Nat) : (FRET_STAT_NEXT t).key = 8192 * t + 25165827 := by simp only [FRET_STAT_NEXT, Field.key]; omega
theorem key_FRET_STAT_NEXTV (t : Nat) : (FRET_STAT_NEXTV t).key = 8192 * t + 25165830 := by simp only [FRET_STAT_NEXTV, Field.key]; omega
theorem key_FRET_COUNT_SWITCHES (t : Nat) : (FRET_COUNT_SWITCHES t).key = 8192 * t + 25166016 := by
  simp only [FRET_COUNT_SWITCHES, Field.key]; omega
theorem key_FRET_COUNT_PREFETCHES (t : Nat) : (FRET_COUNT_PREFETCHES t).key = 8192 * t + 25166048 := by
  simp only [FRET_COUNT_PREFETCHES, Field.key]; omega

/-- A field lies among the registers of a tile. -/
def Field.ofTile (g : Field) (t : Nat) : Prop := g.key / 8192 = t + 3072

theorem fretFields_ofTile (t : Nat) : (FRET_STAT_SHOWN t).ofTile t ∧ (FRET_STAT_NEXT t).ofTile t ∧ (FRET_STAT_NEXTV t).ofTile t ∧
    (FRET_COUNT_SWITCHES t).ofTile t ∧ (FRET_COUNT_PREFETCHES t).ofTile t := by
  simp only [Field.ofTile, key_FRET_STAT_SHOWN, key_FRET_STAT_NEXT, key_FRET_STAT_NEXTV, key_FRET_COUNT_SWITCHES, key_FRET_COUNT_PREFETCHES]
  omega

theorem Dev.rd_wr_otherTile {d : Dev} {f g : Field} {x y : Nat} (hf : f.ofTile y) (hg : g.ofTile x) (hne : y ≠ x) (v : Nat) :
    (d.wr f v).rd g = d.rd g := by
  refine Dev.rd_wr_ne d v fun heq => hne ?_
  unfold Field.ofTile at hf hg
  omega

/-- The next plane of a tile holds a fret whole (R185). -/
def Dev.holdNext (f : Nat) (d : Dev) (t : Nat) : Dev := (d.wr (FRET_STAT_NEXT t) f).set (FRET_STAT_NEXTV t)

section
variable {d : Dev} {f s t : Nat} {pre : Bool}

theorem Dev.rd_holdNext_other {g : Field} {x : Nat} (hg : g.ofTile x) (hne : t ≠ x) : (Dev.holdNext f d t).rd g = d.rd g := by
  obtain ⟨-, hnext, hvalid, -, -⟩ := fretFields_ofTile t
  exact (Dev.rd_wr_otherTile hvalid hg hne 1).trans (Dev.rd_wr_otherTile hnext hg hne f)

theorem Dev.rd_holdNext_ne {g : Field} (hnext : (FRET_STAT_NEXT t).key ≠ g.key) (hvalid : (FRET_STAT_NEXTV t).key ≠ g.key) :
    (Dev.holdNext f d t).rd g = d.rd g :=
  (Dev.rd_wr_ne _ 1 hvalid).trans (Dev.rd_wr_ne d f hnext)

theorem Dev.rd_holdNext_next (hf : f < 8) : (Dev.holdNext f d t).rd (FRET_STAT_NEXT t) = f := by
  have hkeys : (FRET_STAT_NEXTV t).key ≠ (FRET_STAT_NEXT t).key := by
    rw [key_FRET_STAT_NEXTV, key_FRET_STAT_NEXT]
    omega
  exact (Dev.rd_wr_ne _ 1 hkeys).trans ((Dev.rd_wr_same d _ f).trans (Nat.mod_eq_of_lt hf))

theorem Dev.rd_holdNext_nextv : (Dev.holdNext f d t).rd (FRET_STAT_NEXTV t) = 1 := Dev.rd_wr_same _ _ 1

/-- A tile counts a switch, and a prefetch when its next plane did not hold the fret. -/
def Dev.countSwitch (pre : Bool) (d : Dev) (t : Nat) : Dev :=
  if pre then (d.inc (FRET_COUNT_SWITCHES t)).inc (FRET_COUNT_PREFETCHES t) else d.inc (FRET_COUNT_SWITCHES t)

theorem Dev.rd_countSwitch_other {g : Field} {x : Nat} (hg : g.ofTile x) (hne : t ≠ x) : (Dev.countSwitch pre d t).rd g = d.rd g := by
  obtain ⟨-, -, -, hswitches, hprefetches⟩ := fretFields_ofTile t
  unfold Dev.countSwitch
  split
  · exact (Dev.rd_wr_otherTile hprefetches hg hne _).trans (Dev.rd_wr_otherTile hswitches hg hne _)
  · exact Dev.rd_wr_otherTile hswitches hg hne _

theorem Dev.rd_countSwitch_switches :
    (Dev.countSwitch pre d t).rd (FRET_COUNT_SWITCHES t) = (d.rd (FRET_COUNT_SWITCHES t) + 1) % 2 ^ 32 := by
  have hkeys : (FRET_COUNT_PREFETCHES t).key ≠ (FRET_COUNT_SWITCHES t).key := by
    rw [key_FRET_COUNT_PREFETCHES, key_FRET_COUNT_SWITCHES]
    omega
  unfold Dev.countSwitch
  split
  · exact (Dev.rd_wr_ne _ _ hkeys).trans (Dev.rd_wr_same _ _ _)
  · exact Dev.rd_wr_same _ _ _

/-- A tile shows a fret, with the one it showed in its next plane (R197). -/
def Dev.switchTile (f s : Nat) (pre : Bool) (d : Dev) (t : Nat) : Dev := Dev.holdNext s ((Dev.countSwitch pre d t).showFret t f) t

theorem Dev.rd_switchTile_other {g : Field} {x : Nat} (hg : g.ofTile x) (hne : t ≠ x) : (Dev.switchTile f s pre d t).rd g = d.rd g := by
  obtain ⟨hshown, -, -, -, -⟩ := fretFields_ofTile t
  exact (Dev.rd_holdNext_other hg hne).trans ((Dev.rd_wr_otherTile hshown hg hne f).trans (Dev.rd_countSwitch_other hg hne))

theorem Dev.shown_switchTile (hf : f < 8) : (Dev.switchTile f s pre d t).rd (FRET_STAT_SHOWN t) = f := by
  have hkeys : (FRET_STAT_NEXT t).key ≠ (FRET_STAT_SHOWN t).key ∧ (FRET_STAT_NEXTV t).key ≠ (FRET_STAT_SHOWN t).key := by
    rw [key_FRET_STAT_NEXT, key_FRET_STAT_NEXTV, key_FRET_STAT_SHOWN]
    omega
  obtain ⟨hnext, hvalid⟩ := hkeys
  exact (Dev.rd_holdNext_ne hnext hvalid).trans ((Dev.rd_wr_same _ _ f).trans (Nat.mod_eq_of_lt hf))

theorem Dev.rd_switchTile_switches :
    (Dev.switchTile f s pre d t).rd (FRET_COUNT_SWITCHES t) = (d.rd (FRET_COUNT_SWITCHES t) + 1) % 2 ^ 32 := by
  have hkeys : (FRET_STAT_NEXT t).key ≠ (FRET_COUNT_SWITCHES t).key ∧ (FRET_STAT_NEXTV t).key ≠ (FRET_COUNT_SWITCHES t).key ∧
      (FRET_STAT_SHOWN t).key ≠ (FRET_COUNT_SWITCHES t).key := by
    rw [key_FRET_STAT_NEXT, key_FRET_STAT_NEXTV, key_FRET_STAT_SHOWN, key_FRET_COUNT_SWITCHES]
    omega
  obtain ⟨hnext, hvalid, hshown⟩ := hkeys
  exact (Dev.rd_holdNext_ne hnext hvalid).trans ((Dev.rd_wr_ne _ f hshown).trans Dev.rd_countSwitch_switches)

end

/-! Ensembles that change. -/

theorem Dev.rd_updEns (d : Dev) (a : Nat) (g : Ensemble → Ensemble) (x : Field) : (d.updEns a g).rd x = d.rd x := by
  unfold Dev.updEns
  split <;> rfl

theorem Dev.queues_updEns (d : Dev) (a : Nat) (g : Ensemble → Ensemble) : (d.updEns a g).queues = d.queues := by
  unfold Dev.updEns
  split <;> rfl

/-- A device with no running command has no KSWITCH that only preloads. -/
theorem Dev.preloaders_idle {d t : Dev} (hidle : d.runningCmds = []) (hqueues : t.queues = d.queues) (a : Nat) (f : Option Nat) :
    t.preloaders a f = [] := by
  have hrun : t.runningCmds = [] := by rw [Dev.runningCmds_eq, hqueues, ← Dev.runningCmds_eq, hidle]
  rw [Dev.preloaders, hrun, List.filterMap_nil]

/-! A preload that is whole (R185). -/

section
variable {d : Dev} {a f : Nat} {e : Ensemble}

theorem Dev.preloadComplete_eq (he : KMap.find d.ensembles a = some e) (hpreload : e.preload = some f) (hidle : d.runningCmds = []) :
    d.preloadComplete a = (e.where a).foldl (Dev.holdNext f) (d.withEnsembles (KMap.put d.ensembles a { e with preload := none })) := by
  have hqueues : ((e.where a).foldl (Dev.holdNext f) (d.updEns a fun e => { e with preload := none })).queues = d.queues :=
    (foldl_queues (F := Dev.holdNext f) (fun _ _ => rfl) _ _).trans (Dev.queues_updEns d a _)
  have heq : d.preloadComplete a = (e.where a).foldl (Dev.holdNext f) (d.updEns a fun e => { e with preload := none }) := by
    unfold Dev.preloadComplete
    rw [he]
    dsimp only
    rw [hpreload]
    exact congrArg (List.foldl _ _) (Dev.preloaders_idle hidle hqueues a none)
  rw [heq, Dev.updEns_eq he]

/-- Only the ensemble and the next planes of its tiles change. -/
theorem Dev.foldl_holdNext_ensStep {t : Dev} (h : d.ensStep t (nextFields a e)) :
    d.ensStep ((e.where a).foldl (Dev.holdNext f) t) (nextFields a e) := by
  refine List.foldlRecOn (motive := fun u : Dev => d.ensStep u (nextFields a e)) _ _ h fun u hu y hy => ?_
  have hnext : FRET_STAT_NEXT y ∈ nextFields a e := List.mem_append_left _ (List.mem_map_of_mem hy)
  have hvalid : FRET_STAT_NEXTV y ∈ nextFields a e := List.mem_append_right _ (List.mem_map_of_mem hy)
  exact Dev.ensStep_wr (Dev.ensStep_wr hu hnext f) hvalid 1

/-- Every tile shows the fret as valid in its next plane. -/
theorem Dev.foldl_holdNext_shows {l : List Nat} (hl : l.Nodup) (hf : f < 8) {x : Nat} (hx : x ∈ l) :
    (l.foldl (Dev.holdNext f) d).rd (FRET_STAT_NEXT x) = f ∧ (l.foldl (Dev.holdNext f) d).rd (FRET_STAT_NEXTV x) = 1 := by
  obtain ⟨-, hnext, hvalid, -, -⟩ := fretFields_ofTile x
  exact ⟨foldl_once (fun d => d.rd (FRET_STAT_NEXT x)) (fun _ _ hne => Dev.rd_holdNext_other hnext hne) (fun _ _ => Dev.rd_holdNext_next hf) hl hx,
    foldl_once (fun d => d.rd (FRET_STAT_NEXTV x)) (fun _ _ hne => Dev.rd_holdNext_other hvalid hne) (fun _ _ => Dev.rd_holdNext_nextv) hl hx⟩

/-- A finished preload, with its frame. -/
theorem Dev.preloadComplete_shows (he : KMap.find d.ensembles a = some e) (hpreload : e.preload = some f) (hf : f < 8)
    (hidle : d.runningCmds = []) (hfits : rectFits a e.w e.h e.both = true) :
    KMap.find (d.preloadComplete a).ensembles a = some { e with preload := none } ∧
      (∀ x ∈ e.where a, (d.preloadComplete a).rd (FRET_STAT_NEXT x) = f ∧ (d.preloadComplete a).rd (FRET_STAT_NEXTV x) = 1) ∧
      d.ensStep (d.preloadComplete a) (nextFields a e) := by
  rw [Dev.preloadComplete_eq he hpreload hidle]
  refine ⟨?_, fun x hx => Dev.foldl_holdNext_shows (nodup_rectTiles hfits) hf hx,
    Dev.foldl_holdNext_ensStep (Dev.ensStep_withEnsembles (Dev.ensStep_refl d _) _)⟩
  rw [foldl_keeps (fun d : Dev => d.ensembles) (F := Dev.holdNext f) fun _ _ => rfl]
  exact (KMap.find_put _ _ _ _).trans (if_pos rfl)

/-! The switch (R197, R205). -/

/-- No register but those of the tiles changes as an ensemble shows a fret. -/
theorem Dev.rd_showAll (hidle : d.runningCmds = []) (g : Field) :
    (d.showAll a e f).rd g = ((e.where a).foldl (Dev.switchTile f (d.shown a) (!d.planeReady a f)) d).rd g := by
  have hqueues : ((e.where a).foldl (Dev.switchTile f (d.shown a) (!d.planeReady a f)) d).queues = d.queues := by
    refine foldl_queues (fun u x => ?_) _ d
    unfold Dev.switchTile Dev.countSwitch
    split <;> rfl
  unfold Dev.showAll
  extract_lets s pre shows pos moved
  have hnone : moved.preloaders a none = [] := Dev.preloaders_idle hidle ((Dev.queues_updEns shows a _).trans hqueues) a none
  rw [hnone]
  exact Dev.rd_updEns shows a _ g

/-- After a switch every tile shows the new fret, holds the old one in its next plane, and has counted. -/
theorem Dev.showAll_shows (hf : f < 8) (hfits : rectFits a e.w e.h e.both = true) (hshown : d.shown a < 8) (hidle : d.runningCmds = [])
    {x : Nat} (hx : x ∈ e.where a) :
    (d.showAll a e f).shown x = f ∧ (d.showAll a e f).rd (FRET_STAT_NEXT x) = d.shown a ∧ (d.showAll a e f).rd (FRET_STAT_NEXTV x) = 1 ∧
      (d.showAll a e f).rd (FRET_COUNT_SWITCHES x) = (d.rd (FRET_COUNT_SWITCHES x) + 1) % 2 ^ 32 := by
  obtain ⟨hsh, hnext, hvalid, hswitches, -⟩ := fretFields_ofTile x
  have hvalue : ∀ {g : Field} {v : Nat}, g.ofTile x →
      (∀ u : Dev, u.rd g = d.rd g → (Dev.switchTile f (d.shown a) (!d.planeReady a f) u x).rd g = v) → (d.showAll a e f).rd g = v := by
    intro g v hg hself
    exact (Dev.rd_showAll hidle g).trans
      (foldl_once (fun d => d.rd g) (fun _ _ hne => Dev.rd_switchTile_other hg hne) hself (nodup_rectTiles hfits) hx)
  exact ⟨hvalue hsh fun _ _ => Dev.shown_switchTile hf, hvalue hnext fun _ _ => Dev.rd_holdNext_next hshown,
    hvalue hvalid fun _ _ => Dev.rd_holdNext_nextv,
    hvalue hswitches fun u hu => Dev.rd_switchTile_switches.trans (congrArg (fun n => (n + 1) % 2 ^ 32) hu)⟩

/-- A quiesce that is over ends in the switch that its trigger names. -/
theorem Dev.fretSwitch_shows {tr : Trigger} (he : KMap.find d.ensembles a = some e) (hcur : e.cur = some tr) (hfret : tr.fret? = some f)
    (hover : e.phase = 3 ∨ e.phase = 2 ∧ d.atRest a = true) (hpreload : e.preload ≠ some f) (qtime : Nat) :
    d.fretSwitch a qtime [] =
      (((e.where a).foldl Dev.parkTile (d.quiesceTime a qtime)).dropTokens (e.where a)).switchTo a e f [] tr := by
  have hready : (e.phase == 3 || (e.phase == 2 && d.atRest a)) = true := by
    rcases hover with h3 | ⟨h2, hrest⟩
    · rw [h3]; rfl
    · rw [h2, hrest]; rfl
  have hloading : (some f == e.preload) = false := beq_eq_false_iff_ne.mpr hpreload.symm
  have hpark : (tr == .park) = false := beq_eq_false_iff_ne.mpr fun h => by rw [h] at hfret; cases hfret
  simp only [Dev.fretSwitch, he, hcur, hready, hfret, hloading, hpark, Option.isSome_some, Bool.not_true, Bool.and_false, Bool.false_and,
    Bool.or_self, Bool.false_eq_true, if_false]
  cases tr with
  | toFret g cmd =>
    obtain rfl : g = f := Option.some.inj hfret
    rfl
  | run g =>
    obtain rfl : g = f := Option.some.inj hfret
    rfl
  | _ => cases hfret

end

/-! The quiesce (R194, R196, R204). -/

section
variable {d : Dev} {a : Nat} {e : Ensemble} (he : KMap.find d.ensembles a = some e)
include he

/-- A running ensemble on one die takes its next trigger: done at once when it names the fret shown, else SP16 rises. -/
theorem Dev.quiesce_takes {tr : Trigger} {rest : List Trigger} (hphase : e.phase = 1) (hone : e.both = false) (hsettling : d.settling = true)
    (hgate : d.gateServes (if a < 128 then 11 else 12) = true) (hreset : 2 ∉ d.dieResets) (hnext : d.nextTrigger a e = some (tr, rest)) :
    let d1 := d.updEns a fun e => { e with waiting := rest }
    d.quiesce a = if tr.fret? = some (d.shown a) then (d1.triggerDone tr).resume a else d1.raiseSp16 a e tr := by
  intro d1
  have hopen : d.dieResets.contains 2 = false := by simpa using hreset
  have hshown : d1.shown a = d.shown a := Dev.rd_updEns d a _ _
  simp only [Dev.quiesce, he, hphase, hone, hsettling, hgate, hopen, hnext, ne_eq, not_true_eq_false, decide_false, Bool.not_true, Bool.or_self,
    Bool.false_eq_true, if_false, beq_iff_eq]
  rw [← hshown]

/-- With no Y that waits and no request offered, a quiesce begins and changes nothing else. -/
theorem Dev.raiseSp16_quiet {x : Ensemble} {tr : Trigger} (htok : d.tok (tokKey 4 a 32) = none) (hys : d.waitingYs (x.where a).contains = []) :
    d.raiseSp16 a x tr = d.withEnsembles (KMap.put d.ensembles a { e with phase := 2, cur := some tr }) := by
  rw [Dev.raiseSp16, Dev.updEns_eq he]
  set u := d.withEnsembles (KMap.put d.ensembles a { e with phase := 2, cur := some tr })
  have hfree : u.runFree (x.where a) = u := congrArg (List.foldl _ u) hys
  have hnone : u.tok (tokKey 4 a 32) = none := htok
  simp only [hfree, hnone, Option.isSome_none, Bool.false_eq_true, if_false]

/-- A trigger that names another fret, or none, takes the ensemble to a quiesce. -/
theorem Dev.raiseSp16_taken {tr : Trigger} {rest : List Trigger} (htok : d.tok (tokKey 4 a 32) = none)
    (hys : d.waitingYs (e.where a).contains = []) :
    (d.updEns a fun e => { e with waiting := rest }).raiseSp16 a e tr =
      d.withEnsembles (KMap.put d.ensembles a { e with waiting := rest, phase := 2, cur := some tr }) := by
  rw [Dev.updEns_eq he]
  exact (Dev.raiseSp16_quiet (d := d.withEnsembles _) ((KMap.find_put _ _ _ _).trans (if_pos rfl)) htok hys).trans
    (congrArg d.withEnsembles (KMap.put_put _ _ _ _))

/-- The limit discards the tokens in flight and reports the kernel that was cut off (R196). -/
theorem Dev.quiesceLimit_strands {h : Nat} {k : Kernel} (hphase : e.phase = 2) (hrest : d.atRest a = false) (hmems : d.memHolds = [])
    (hkernel : d.ensKernel a = some (h, k)) (hh : h ≠ 0) :
    let d1 := (d.dropTokens (e.where a)).updEns a fun e => { e with phase := 3 }
    d.quiesceLimit a = ((({ d1 with undef := KMap.put d.undef h 2 } : Dev).incSat (FRET_COUNT_STRANDS a)).wr (FRET_ERR_EFRET a) (d.shown a)).raise
      { cls := .ochre, flag := FRET_ERR_STRAND a, ukind := 1, uid := a, detail := fretDetail a (d.shown a) h } := by
  intro d1
  have hends : d.endAccesses (e.where a) = d := by simp only [Dev.endAccesses, hmems, List.filter_nil, List.foldl_nil]
  have hundef : d1.undef = d.undef := by
    simp only [d1, Dev.updEns]
    split <;> rfl
  simp only [Dev.quiesceLimit, he, hphase, hrest, hkernel, hends, beq_eq_false_iff_ne.mpr hh, ne_eq, not_true_eq_false, decide_false, Bool.or_self,
    Bool.false_eq_true, if_false]
  rw [← hundef]

/-! Requests and dwells (R203, R205). -/

theorem Dev.fretRequest_triggers {f : Nat} {l : List Nat} (hphase : e.phase = 1) (hrot : e.rotating = false)
    (htok : d.tok (tokKey 4 a 32) = some ⟨[true], l⟩) (hfret : (d.takeRequest a).waitingFret a = some f) :
    d.fretRequest a = (d.takeRequest a).trigger a (.toFret f none) := by
  simp only [Dev.fretRequest, he, htok, hphase, hrot, hfret, List.head?_cons, Nat.reduceBEq, ne_eq, not_true_eq_false, Bool.false_eq_true, if_false]

theorem Dev.dwellEnd_triggers {i f : Nat} (hphase : e.phase = 1) (hrot : e.rotating = true) (hstill : KMap.find d.migrations a = none)
    (hnext : d.nextEntry e = some (i, f)) (hnew : Trigger.toFret f none ∉ e.waiting) :
    d.dwellEnd a = d.withEnsembles (KMap.put d.ensembles a { e with waiting := e.waiting ++ [.toFret f none] }) := by
  have hfresh : e.waiting.contains (.toFret f none) = false := by simpa using hnew
  have htrigger : d.trigger a (.toFret f none) = d.withEnsembles _ := Dev.updEns_eq he _
  rw [← htrigger]
  simp only [Dev.dwellEnd, he, hphase, hrot, hstill, hnext, hfresh, Option.isNone_none, beq_self_eq_true, Bool.and_self, Bool.false_eq_true,
    if_true, if_false]

end

/-- Settles O26, from the quiesce to the triggers. -/
theorem fretSwitching : Obligations.FretSwitching := by
  intro s anchor e d a he
  refine ⟨?quiesce, ?switch, ?shows, ?limit, ?preload, ?request, ?dwell⟩
  case quiesce =>
    intro tr rest hphase hone hsettling hgate hreset hnext d1
    have htakes := Dev.quiesce_takes he hphase hone hsettling hgate hreset hnext
    exact ⟨fun hsame => congrArg s.next (htakes.trans (if_pos hsame)),
      fun hother htok hys => congrArg s.next ((htakes.trans (if_neg hother)).trans (Dev.raiseSp16_taken he htok hys))⟩
  case switch =>
    exact fun f tr qtime hcur hfret hover hpreload => congrArg s.next (Dev.fretSwitch_shows he hcur hfret hover hpreload _)
  case shows =>
    exact fun f hf hfits hshown hidle x hx => Dev.showAll_shows hf hfits hshown hidle hx
  case limit =>
    exact fun hphase hrest hmems h k hkernel hh => congrArg s.next (Dev.quiesceLimit_strands he hphase hrest hmems hkernel hh)
  case preload =>
    exact fun f hpreload hf hidle hfits => ⟨_, rfl, Dev.preloadComplete_shows he hpreload hf hidle hfits⟩
  case request =>
    exact fun f l hphase hrot htok hfret => congrArg s.next (Dev.fretRequest_triggers he hphase hrot htok hfret)
  case dwell =>
    exact fun i f hphase hrot hstill hnext hnew => congrArg s.next (Dev.dwellEnd_triggers he hphase hrot hstill hnext hnew)

end Sys2Proof.Machine
end

section
/-!
Block memories (R210 to R213, R215, R219, R252): what a port asks for and what its access leaves, the write-back of a corrected word, and debug
accesses, served or waiting.
-/
namespace Sys2Proof.Machine

/-! A port's access, alone in its memory (R211 to R213). -/

section
variable (d : Dev) (f t m : Nat) (b : Bool)

/-- What a port asks for when no pin is at fault: every field comes from the port's own pins. -/
theorem Dev.memRead_sound : d.memRead f t m b [] =
    let s := d.memShape f t m
    let use := d.memUse f t m b
    ({ addr := d.pinsValue f t (.mem m b) 0 0 (shapeOf s).2
       write := (if use == 3 then d.pinsValue f t (.mem m b) 3 0 1 else b2n (use == 2)) == 1
       value := d.pinsValue f t (.mem m b) 1 0 (if s == 12 then 48 else (shapeOf s).1)
        + 2 ^ 48 * if s == 12 then d.pinsValue f t (.mem m b) 2 0 48 else 0 }, d) := by
  simp only [Dev.memRead, Dev.senseWord_sound]
  by_cases hwide : d.memShape f t m == 12 <;> by_cases hboth : d.memUse f t m b == 3 <;>
    simp only [hwide, hboth, Bool.false_eq_true, if_true, if_false]

/-- Reading the pins changes nothing. -/
theorem Dev.memRead_keeps : d.memRead f t m b [] = ((d.memRead f t m b []).1, d) := by
  rw [Dev.memRead_sound]

theorem Dev.memRead_addr : (d.memRead f t m b []).1.addr = d.pinsValue f t (.mem m b) 0 0 (shapeOf (d.memShape f t m)).2 := by
  rw [Dev.memRead_sound]

end

/-- No access has overlapped the one that a port asks for. -/
theorem Dev.memRead_fresh {d : Dev} {f t m : Nat} {b : Bool} {h : MemHold} (hasks : d.memRead f t m b [] = (h, d)) :
    h.undef = false ∧ h.busy = false ∧ h.lost = false := by
  rw [Dev.memRead_sound] at hasks
  obtain ⟨rfl, -⟩ := Prod.mk.inj hasks
  exact ⟨rfl, rfl, rfl⟩

section
variable (d : Dev) (t m : Nat) (b : Bool) (h : MemHold)

@[simp] theorem Dev.memHeld_setMemHold : (d.setMemHold t m b h).memHeld t m b = some h :=
  (KMap.find_put d.memHolds (memKey t m b) h (memKey t m b)).trans (if_pos rfl)

@[simp] theorem Dev.shown_setMemHold : (d.setMemHold t m b h).shown t = d.shown t := rfl

@[simp] theorem Dev.memShape_setMemHold (f : Nat) : (d.setMemHold t m b h).memShape f t m = d.memShape f t m := rfl

/-- A port's access is over: its tokens are taken and its physical word is free again. -/
def Dev.memTaken (f : Nat) : Dev :=
  { d.pinsTake f t (.mem m b) (d.usedPins f t (.mem m b) 64) with memHolds := KMap.del d.memHolds (memKey t m b) }

end

section
variable {d : Dev} {t m : Nat} {b : Bool} {h : MemHold}

theorem Dev.memGrant_alone (hready : d.memReady (d.shown t) t m b = true) (hother : d.memHeld t m (!b) = none)
    (hasks : d.memRead (d.shown t) t m b [] = (h, d)) : d.memGrant t m b [] = d.setMemHold t m b h := by
  simp only [Dev.memGrant, hready, hasks, hother, Bool.not_true, Bool.false_eq_true, if_false]

theorem Dev.memFinish_write (hheld : d.memHeld t m b = some h) (hwrite : h.write = true) (hlost : h.lost = false) :
    d.memFinish t m b =
      ((d.memTaken t m b (d.shown t)).bmemSet t m (d.memShape (d.shown t) t m) h.addr h.value).memAnswer (d.shown t) t m b h.value h.busy := by
  simp only [Dev.memFinish, hheld, hwrite, hlost, Bool.false_eq_true, if_false, if_true, Dev.memTaken]

theorem Dev.memFinish_read (hheld : d.memHeld t m b = some h) (hread : h.write = false) (hundef : h.undef = false) :
    d.memFinish t m b =
      let out := (d.memTaken t m b (d.shown t)).bmemGet t m (d.memShape (d.shown t) t m) h.addr
      out.2.memAnswer (d.shown t) t m b out.1 h.busy := by
  simp only [Dev.memFinish, hheld, hread, hundef, Bool.false_eq_true, if_false, Dev.memTaken]

section
variable (hlive : d.live t = true) (hself : d.metered t = false) (hready : d.memReady (d.shown t) t m b = true)
  (hother : d.memHeld t m (!b) = none) (hasks : d.memRead (d.shown t) t m b [] = (h, d))
include hlive hself hready hother hasks

/-- A port whose access nothing overlaps finishes it as soon as it is granted. -/
theorem Dev.bmemAccess_alone : d.bmemAccess t m b ⟨false, []⟩ = ((d.setMemHold t m b h).memFinish t m b).pumpDebug := by
  simp only [Dev.bmemAccess, hlive, hself, Dev.memGrant_alone hready hother hasks, Bool.not_true, Bool.false_and, Bool.false_eq_true, if_false]

theorem Dev.bmemAccess_write (hwrite : h.write = true) :
    d.bmemAccess t m b ⟨false, []⟩ =
      ((((d.setMemHold t m b h).memTaken t m b (d.shown t)).bmemSet t m (d.memShape (d.shown t) t m) h.addr h.value).memAnswer
        (d.shown t) t m b h.value false).pumpDebug := by
  obtain ⟨-, hbusy, hlost⟩ := Dev.memRead_fresh hasks
  rw [Dev.bmemAccess_alone hlive hself hready hother hasks, Dev.memFinish_write (Dev.memHeld_setMemHold ..) hwrite hlost, hbusy,
    Dev.shown_setMemHold, Dev.memShape_setMemHold]

theorem Dev.bmemAccess_read (hread : h.write = false) :
    d.bmemAccess t m b ⟨false, []⟩ =
      let out := ((d.setMemHold t m b h).memTaken t m b (d.shown t)).bmemGet t m (d.memShape (d.shown t) t m) h.addr
      (out.2.memAnswer (d.shown t) t m b out.1 false).pumpDebug := by
  obtain ⟨hundef, hbusy, -⟩ := Dev.memRead_fresh hasks
  rw [Dev.bmemAccess_alone hlive hself hready hother hasks, Dev.memFinish_read (Dev.memHeld_setMemHold ..) hread hundef, hbusy,
    Dev.shown_setMemHold, Dev.memShape_setMemHold]

end

/-! The write-back of a corrected word (R215). -/

theorem Dev.bmemWriteback_corrects {p sym v : Nat} (hwaits : 1024 * (16 * t + m) + p ∈ d.bmemBack)
    (hfind : eccFind (d.bmemWord t m p) = .one sym v) :
    d.bmemWriteback t m p = d.setBmem t m p (eccWord (eccFix (d.bmemWord t m p) sym v)) := by
  simp only [Dev.bmemWriteback, List.contains_iff_mem.mpr hwaits, hfind, if_true]

/-! Debug accesses (R219). -/

/-- Another list of debug accesses waits. -/
def Dev.withDebugWait (d : Dev) (l : List DebugReq) : Dev := { d with debugWait := l }

theorem Dev.withDebugWait_self {l : List DebugReq} (h : d.debugWait = l) : d.withDebugWait l = d := h ▸ rfl

/-- The only debug access that waits stays while its memory is busy, and is served otherwise. -/
theorem Dev.pumpDebug_sole (x : DebugReq) :
    (d.withDebugWait [x]).pumpDebug = if d.debugWaits x.ltile x.mem then d.withDebugWait [x] else (d.withDebugWait []).debugServe x := by
  have hwaits : (d.withDebugWait [x]).debugWaits x.ltile x.mem = d.debugWaits x.ltile x.mem := rfl
  have herase : (d.withDebugWait [x]).withDebugWait ([x].erase x) = d.withDebugWait [] := by rw [List.erase_cons_head]; rfl
  rw [← hwaits, ← herase]
  rfl

/-- A debug access that a DMA channel asks for, when no other waits. -/
theorem Dev.bmemDebug_sole {p : Port} {ofs size data : Nat} {write : Bool} (hnone : d.debugWait = []) :
    d.bmemDebug (.dma p) t m ofs size write data =
      if d.debugWaits t m then d.withDebugWait [⟨.dma p, t, m, ofs, size, write, data⟩]
      else d.debugServe ⟨.dma p, t, m, ofs, size, write, data⟩ := by
  have hpump := Dev.pumpDebug_sole (d := d) ⟨.dma p, t, m, ofs, size, write, data⟩
  rw [Dev.withDebugWait_self hnone] at hpump
  simp only [Dev.bmemDebug, hnone]
  exact hpump

theorem Dev.bmemDebug_served {p : Port} {ofs size data : Nat} {write : Bool} (hnone : d.debugWait = []) (hfree : d.debugWaits t m = false) :
    d.bmemDebug (.dma p) t m ofs size write data = d.debugServe ⟨.dma p, t, m, ofs, size, write, data⟩ :=
  (Dev.bmemDebug_sole hnone).trans (if_neg (Bool.eq_false_iff.mp hfree))

section
variable {ofs : Nat} (hopen : d.debugOpen = true) (haligned : ofs % 8 = 0)
include hopen haligned

theorem Dev.debugRead_raw (hraw : d.on (FABRIC_BMEM_CTL_DBG_RAW t) = true) : d.debugRead t m ofs 8 = (d.bmemWord t m (ofs / 8), .ok, d) := by
  simp [Dev.debugRead, hopen, haligned, hraw]

theorem Dev.debugWrite_raw (hraw : d.on (FABRIC_BMEM_CTL_DBG_RAW t) = true) (data : Nat) :
    d.debugWrite t m ofs 8 data = (.ok, d.setBmem t m (ofs / 8) (data % 2 ^ 48)) := by
  simp [Dev.debugWrite, hopen, haligned, hraw]

variable (hraw : d.on (FABRIC_BMEM_CTL_DBG_RAW (d.phys t)) = true)
include hraw

theorem Dev.debugServe_read (src : Src) (data : Nat) :
    d.debugServe ⟨src, t, m, ofs, 8, false, data⟩ = d.emit (.regData src (d.bmemWord (d.phys t) m (ofs / 8))) := by
  simp only [Dev.debugServe, Dev.debugRead_raw hopen haligned hraw, Bool.false_eq_true, if_false, if_true]

theorem Dev.debugServe_write (src : Src) (data : Nat) :
    d.debugServe ⟨src, t, m, ofs, 8, true, data⟩ = d.setBmem (d.phys t) m (ofs / 8) (data % 2 ^ 48) := by
  simp only [Dev.debugServe, Dev.debugWrite_raw hopen haligned hraw, if_true]

end

end

/-- Settles O22, access by access: the port's, the write-back's and the debug window's. -/
theorem blockMemories : Obligations.BlockMemories := by
  intro s tile mem d t m f
  refine ⟨?access, ?writeback, ?debug⟩
  case access =>
    intro b hlive hself hready hother h d1 d2 sh
    have hasks : d.memRead f t m b [] = (h, d) := Dev.memRead_keeps d f t m b
    exact ⟨Dev.memRead_addr d f t m b, fun hwrite => congrArg s.next (Dev.bmemAccess_write hlive hself hready hother hasks hwrite),
      fun hread => congrArg s.next (Dev.bmemAccess_read hlive hself hready hother hasks hread)⟩
  case writeback =>
    exact fun word sym v hwaits hfind => congrArg s.next (Dev.bmemWriteback_corrects hwaits hfind)
  case debug =>
    intro p ofs data hnone hopen haligned hraw
    refine ⟨fun hfree => ⟨?_, ?_⟩, fun hbusy write => ?_⟩
    · exact congrArg s.next ((Dev.bmemDebug_served hnone hfree).trans (Dev.debugServe_read hopen haligned hraw (.dma p) data.toNat))
    · exact congrArg s.next ((Dev.bmemDebug_served hnone hfree).trans (Dev.debugServe_write hopen haligned hraw (.dma p) data.toNat))
    · exact congrArg s.next ((Dev.bmemDebug_sole hnone).trans (if_pos hbusy))

end Sys2Proof.Machine
end

section
/-!
The control port (R233 to R235): parameter handshakes, the DONE operations of kernels and the pulses of their event slots.
-/
namespace Sys2Proof.Machine

section
variable {d : Dev} {t : Nat} (hlive : d.live t = true)
include hlive

/-- A parameter handshake answers the register that its index names (R234). -/
theorem Dev.paramHandshake_eq (hphase : d.phaseOf t = 1) (hon : d.portBits (d.shown t) t 1536 1 = 1)
    (hpins : d.pinsReady (d.shown t) t .control ((List.range 4).map fun n => (n, 0)) = true)
    (houts : d.outsFree t .control 0 64 = true) :
    d.paramHandshake t ⟨[], false⟩ = (d.pinsTake (d.shown t) t .control ((List.range 4).map fun n => (n, 0))).outWord (d.shown t) t .control 0 64
      (d.param t (d.shown t) (d.pinsValue (d.shown t) t .control 0 0 4)).toNat := by
  simp only [Dev.paramHandshake, hlive, hphase, hon, hpins, houts, Dev.senseWord_sound, Dev.synced_resolved, beq_self_eq_true, Bool.and_self, if_true]

section
variable {h : Nat} {k : Kernel} (hkernel : d.controlKernel t = some (h, k))
include hkernel

section
variable (hpins : d.pinsReady (d.shown t) t .control ((List.range 64).map fun n => (n, 1)) = true)
include hpins

/-- The first DONE of a run gives it its result (R235). -/
theorem Dev.kernelDone_result {r : Run} (hrun : k.run = some r) (hbegun : r.begun = true) (hfirst : r.done = none) :
    d.kernelDone t ⟨[], false⟩ = ((d.pinsTake (d.shown t) t .control ((List.range 64).map fun n => (n, 1))).updKernel h fun k =>
      { k with run := some { r with done := some (.ofNat 64 (d.pinsValue (d.shown t) t .control 1 0 64)) } }).finishRun h := by
  have hfilter : k.run.filter (·.begun) = some r := by rw [hrun, Option.filter_some_pos hbegun]
  simp only [Dev.kernelDone, hlive, hkernel, hpins, hfilter, hfirst, Dev.senseWord_sound, Dev.synced_resolved, Option.isNone_none, Bool.and_self,
    if_true]

/-- A DONE with no run that has begun is discarded and raises its event (R235). -/
theorem Dev.kernelDone_stray (hidle : ∀ r, k.run = some r → r.begun = false) :
    d.kernelDone t ⟨[], false⟩ = (d.pinsTake (d.shown t) t .control ((List.range 64).map fun n => (n, 1))).raise
      { cls := .slate, flag := ERR_STAT_STRAYDONE, ukind := 1, uid := t } := by
  have hfilter : k.run.filter (·.begun) = none := Option.filter_eq_none_iff.mpr fun r hr => Bool.eq_false_iff.mp (hidle r hr)
  simp only [Dev.kernelDone, hlive, hkernel, hpins, hfilter, Dev.senseWord_sound, Dev.synced_resolved, Bool.and_self, if_true]

end

/-- A token on a slot bound to an event pulses it when its value is 1, and is discarded otherwise (R235). -/
theorem Dev.kernelPulse_bound {slot ev : Nat} (hpin : d.pinsReady (d.shown t) t .control [(slot, 2)] = true)
    (hbind : KMap.find k.binds slot = some ⟨2, ev⟩) :
    d.kernelPulse t slot ⟨[], false⟩ = if d.pinsValue (d.shown t) t .control 2 slot 1 = 1
      then (d.pinsTake (d.shown t) t .control [(slot, 2)]).pulse ev else d.pinsTake (d.shown t) t .control [(slot, 2)] := by
  simp only [Dev.kernelPulse, hlive, hkernel, hpin, hbind, Dev.senseWord_sound, Dev.synced_resolved, beq_self_eq_true, Bool.and_self,
    Bool.and_true, beq_iff_eq, if_true]

end

end

/-- Settles O25: each of the port's operations finds what its equation needs. -/
theorem controlPort : Obligations.ControlPort := by
  intro s tile d t f pins done hlive
  refine ⟨?param, ?done, ?pulse⟩
  case param =>
    exact fun hphase hon hpins houts => congrArg s.next (Dev.paramHandshake_eq hlive hphase hon hpins houts)
  case done =>
    exact fun h k hkernel hpins =>
      ⟨fun r hrun hbegun hfirst => congrArg s.next (Dev.kernelDone_result hlive hkernel hpins hrun hbegun hfirst),
        fun hidle => congrArg s.next (Dev.kernelDone_stray hlive hkernel hpins hidle)⟩
  case pulse =>
    exact fun h k slot ev hkernel hpin hbind => congrArg s.next (Dev.kernelPulse_bound hlive hkernel hpin hbind)

end Sys2Proof.Machine
end
